-- ==== Sys2Proof/Word.lean ====
section
/-! DEFINITION. The words of the part: 32-bit registers, bytes, 64-bit sequence words, and the
signed reading of a two's-complement field. -/

namespace Sys2Proof

/-- A register word (00_scope.md, Notation: registers are 32 bits wide). -/
abbrev Word := BitVec 32

/-- A byte of DRAM, MRAM or a stream record. -/
abbrev Byte := BitVec 8

/-- A 64-bit word: sequence words (R112), AE instructions (R255), device time. -/
abbrev Word64 := BitVec 64

/-- A pack, 0 to 15 (R10). -/
abbrev Pack := Fin 16

/-- A device channel, 0 to 511. -/
abbrev Chan := Fin 512

/-- A device PSM, 0 to 95. -/
abbrev PsmId := Fin 96

/-- A device TMU, 0 to 63. -/
abbrev TmuId := Fin 64

/-- An AE core, 0 to 7. -/
abbrev CoreId := Fin 8

/-- A finite table: entries sorted by key, none equal to the default its reader names
(Machine/Tab.lean gives the operations, Laws/Tab.lean the form). -/
abbrev Tab (α : Type) := List (Nat × α)

end Sys2Proof
end

