-- ==== Sys2Proof/Syntax.lean ====
section
/-! DEFINITION. The commands of the block: one constructor per row of spec/opcode_table.json, with
the operands the row's rule gives it. A row that is a write of a register carries the writer and the
value; a command row carries the command's header fields and payload words; an event row carries
what the outside world (a pad, a converter, a diode, a partner port) shows at that moment. -/

namespace Sys2Proof

/-- Who makes a register access: a host session over the link (R304), an MSP WRITE frame to the
always-alive window (R472), or Shepherd on behalf of a run of a session (R334, R344). An indirect
MSP access acts as session 0 over the link (R473) and so is `link 0`. -/
inductive Origin where
  | link (session : BitVec 2)
  | msp
  | shepherd (session : BitVec 2)
deriving DecidableEq, Repr

/-- The header fields of a command that its execution uses (R293): session, tag, arrival port
(false A, true B), ORDERED and URGENT, and whether it came to DEVICE 31. -/
structure CmdHdr where
  session : BitVec 2
  tag : BitVec 14
  port : Bool := false
  ordered : Bool := false
  urgent : Bool := false
deriving DecidableEq, Repr

/-- The pad voltages in µV that a channel's comparators see: at its own pad, or for an enabled lane at the P
side (the even channel's ball) and the N side, after equalisation (R73). -/
structure PadVolt where
  p : Int
  n : Int := 0
deriving DecidableEq, Repr

/-- What a pad shows when an edge of its channel acts: the voltages at that moment, those at its turning points
since the channel's edge before, oldest first (R62, R506), and the two comparator results as received, H and L,
where the check of the transfer that returns them fails (R7). -/
structure PadObs where
  now : PadVolt
  before : List PadVolt := []
  got : Option (Bool × Bool) := none
deriving DecidableEq, Repr

/-- A transfer toward the PFE whose check fails, as received (R7): the timing-set number, and for each channel
that differs its data byte and its format code. -/
structure FeRecv where
  tset : Option (BitVec 5) := none
  chans : List (Fin 32 × BitVec 8 × BitVec 8) := []
deriving DecidableEq, Repr

/-- A trigger that reaches a pack's capture engine (R172). -/
inductive Trigger where
  | whistle (line : Fin 7)
  | seq
  | matchEnd (timedOut : Bool)
  | psm (n : Fin 6)
  | host (index : BitVec 8)
deriving DecidableEq, Repr

/-- One timed edge at a TMU (R199, R202, R206): the code of its source, rising or falling, the coarse
count K of the clock edge that ended its charge, the converter code of the charge, and the
device-time tick it fell in. -/
structure TmuEdgeObs where
  src : BitVec 8
  falling : Bool
  k : Nat
  code : BitVec 12
  tick : Word64
deriving DecidableEq, Repr

/-- One reading of a converter: its code, and whether it was at full scale. -/
structure Conv where
  code : Int
  full : Bool := false
deriving DecidableEq, Repr

/-- A received packet as its words stand between START and END (R285, R286). `broken` is an
unlisted control code inside it. -/
structure Packet where
  seq : BitVec 12
  poolRsp : Bool
  header : Word64
  payload : List Word
  trailer : Word
  broken : Bool := false
deriving DecidableEq, Repr

/-- What the partner's TRAIN blocks and the lanes show during a training (R283, R285): the lanes
usable on both sides, the partner's MAX_RATE, its NODE and its FRESH bit, its initial credits, whether
the training succeeds, and for the twin link the TWINSEL that the twin sends (R460). -/
structure TrainInfo where
  lanes : BitVec 4
  maxRate : BitVec 2
  node : BitVec 6
  fresh : Bool
  cmdCredit : Nat
  rspCredit : Nat
  ok : Bool := true
  twinsel : Bool := false
  stepping : BitVec 4 := 0
deriving DecidableEq, Repr

/-- A unit of the muzzle scheme (R413). -/
inductive MUnit where
  | channel (n : Nat)
  | lane (n : Nat)
  | psm (n : Nat)
  | tmu (n : Nat)
  | pack (n : Nat)
  | ae (n : Nat)
  | pc (n : Nat)
  | linkLane (n : Nat)
  | pfe (n : Nat)
deriving DecidableEq, Repr

/-- One request to a pseudo-channel arbiter in a cycle (R360): the requester, the first address, how
many bursts of one granule it asks for, and a mask of those it reads that prove uncorrectable (R373). -/
structure MpaReq where
  requester : Fin 44
  addr : Nat
  bursts : Nat
  ue : Nat := 0
deriving DecidableEq, Repr

/-- What one cycle of a pseudo-channel arbiter brings (R360): the bursts its holder has sent since the last one, and the
requests. -/
structure MpaObs where
  sent : Nat
  reqs : List MpaReq
deriving DecidableEq, Repr

/-- A lane that goes down (R284): which, and whether it has kept its block lock and only the deskew fails. -/
structure LaneObs where
  lane : Fin 4
  deskew : Bool
deriving DecidableEq, Repr

/-- One result of a calibration task on a unit (R436): the unit, the parameter number within the
unit, and the value measured. -/
structure CalResult where
  unit : Nat
  param : Nat
  value : Int
deriving DecidableEq, Repr

/-- What a start finds (R448 to R451): the straps, the units its self-test or its DRAM retraining fails,
the step at which a cold start is fatal (2 to 4), the steps (2 to 4) at which successive attempts of a warm
start fail, the results of its calibration tasks, the uncorrectable MRAM words that its scan finds (in 64-byte units), and
whether a rail is out of range at its first step. -/
structure StartObs where
  devId : BitVec 5
  twinsel : Bool
  failed : List MUnit := []
  fatalStep : Option Nat := none
  warmFails : List Nat := []
  cal : List (Nat × List CalResult) := []
  mramUe : List (BitVec 20) := []
  railsOut : Bool := false
deriving DecidableEq, Repr

/-- What a received KEEPALIVE block carries (R285). -/
structure KeepInfo where
  coreUp : Bool
  safe : Bool
  rest : Bool
  devId : BitVec 5
deriving DecidableEq, Repr

/-- How an EMERGENCY_SAFE packet arrives (R286, R287): the SEQ of its START block, and whether its CRC is valid. -/
structure SafeObs where
  seq : BitVec 12
  crcOk : Bool
deriving DecidableEq, Repr

/-- What a device sends its twin once the twin link is UP (R460). -/
structure TwinInfo where
  devId : BitVec 5
  twinsel : Bool
  stepping : BitVec 4
deriving DecidableEq, Repr

/-- A frame of the management port (R467, R471): the last 80 bits clocked, right-aligned, how many bits were clocked, and
whether the next assertion of MSP_SEL_N overtook it before its delivery (R390). -/
structure MspFrame where
  word : BitVec 80
  length : Nat := 80
  overtaken : Bool := false
deriving DecidableEq, Repr

/-- The 16 words a library call leaves in AE_RESULT0–15 come from the library code of the core;
these are the ones its rules leave to the run (R273 to R275): the status it ends with and, for a
function that streams its input, its QUALITY bits 2:0, and the sticky bits [3:1] of ST. -/
structure CallObs where
  status : BitVec 8
  quality : BitVec 3
  sticky : BitVec 3
deriving DecidableEq, Repr

/-- What the check bits show on what a beat reads (R7, R135, R136): nothing wrong, a corrected error of the
sequence store or segment table, an uncorrectable sequence word or segment entry, a check error in
the format-store entry or the loop-cache record with what was read, a mismatch on the front-end interface with what
was received. -/
inductive SeqChk where
  | good | corrected | word | segment
  | format (got : FeRecv)
  | cache (got : FeRecv)
  | frontEnd (got : FeRecv)
deriving DecidableEq, Repr

/-- What the check bits show on what an AE instruction reads (R278): nothing wrong, a corrected error, an
uncorrectable error in the instruction word, an uncorrectable error in a data word it loads. -/
inductive AeChk where
  | good | corrected | fetch | load
deriving DecidableEq, Repr

/-- A command of the block, one constructor per row of spec/opcode_table.json. -/
inductive Instr where
  | plainRegisterWrite (o : Origin) (addr : Word) (value : Word)
  | seqNop (p : Pack) (k : SeqChk)
  | rpt (p : Pack) (beats : Nat) (k : SeqChk)
  | lpb (p : Pack) (k : SeqChk)
  | lpe (p : Pack) (k : SeqChk)
  | seqCall (p : Pack) (k : SeqChk)
  | seqRet (p : Pack) (k : SeqChk)
  | jmp (p : Pack) (k : SeqChk)
  | matchWord (p : Pack) (k : SeqChk)
  | seqHalt (p : Pack) (k : SeqChk)
  | wemit (p : Pack) (k : SeqChk)
  | wwait (p : Pack) (k : SeqChk)
  | cue (p : Pack) (k : SeqChk)
  | apx (p : Pack) (k : SeqChk)
  | waitBeat (p : Pack) (k : SeqChk)
  | holdBeat (p : Pack) (k : SeqChk)
  | groupStop (p : Pack)
  | edgeAct (p : Pack) (c : Fin 32) (beat : Nat) (edge : Fin 8) (pad : PadObs)
  | trimStep (p : Pack)
  | captureResult (p : Pack) (beat : Nat)
  | captureBurstWrite (p : Pack)
  | triggerArrival (p : Pack) (t : Trigger)
  | deadIntervalEnd (p : Pack)
  | capTrig (o : Origin) (p : Pack) (value : Word)
  | keepaliveMark (p : Pack)
  | ringEn (o : Origin) (p : Pack) (value : Word)
  | capRdHi (o : Origin) (p : Pack) (value : Word)
  | bitmapLineWrite (p : Pack) (uncorrectable : Bool)
  | apgImemHiWrite (o : Origin) (p : Pack) (value : Word)
  | apgImemHiRead (o : Origin) (p : Pack)
  | raReq (o : Origin) (p : Pack) (value : Word)
  | raRequestStart (p : Pack) (badLines : List Nat)
  | repairRequestDone (p : Pack)
  | chApply (o : Origin) (p : Pack) (value : Word)
  | laneEnable (o : Origin) (p : Pack) (l : Fin 16) (value : Word)
  | chPmuGo (o : Origin) (ch : Chan) (value : Word)
  | pmuMeasSettled (ch : Chan)
  | pmuMeasDone (ch : Chan) (convs : List Conv)
  | drvOvercurrent (ch : Chan)
  | pinClamp (ch : Chan)
  | pmuClamp (ch : Chan)
  | loadCompliance (ch : Chan)
  | levelMonitorRead (ch : Chan) (which : Fin 6) (code : BitVec 16)
  | drvOvercurrentClear (o : Origin) (ch : Chan) (value : Word)
  | align (h : CmdHdr) (pl : List Word)
  | tdrLevelsSettled (p : Pack)
  | tdrShotTimeout (p : Pack) (c : Fin 32)
  | tdrPassEnd (p : Pack)
  | patLoad (h : CmdHdr) (pl : List Word)
  | patStart (h : CmdHdr) (pl : List Word)
  | patternBegin (p : Pack)
  | patStop (h : CmdHdr) (pl : List Word)
  | patJump (h : CmdHdr) (pl : List Word)
  | patPause (h : CmdHdr) (pl : List Word)
  | patResume (h : CmdHdr) (pl : List Word)
  | tsetSwap (h : CmdHdr) (pl : List Word)
  | tsetSwapWrap (p : Pack)
  | tmuGo (o : Origin) (t : TmuId) (value : Word)
  | tmuCalibration (t : TmuId) (c1 c2 : BitVec 12)
  | tmuArm (t : TmuId)
  | tmuEdge (t : TmuId) (e : TmuEdgeObs)
  | tmuTimeout (t : TmuId)
  | freqGateClose (t : TmuId)
  | tmuMeasEnd (t : TmuId)
  | tmuAbortBit (o : Origin) (t : TmuId) (value : Word)
  | tmuMeasure (h : CmdHdr) (pl : List Word)
  | tmuAbort (h : CmdHdr) (pl : List Word)
  | pmuMeasure (h : CmdHdr) (pl : List Word)
  | psmCtlWrite (o : Origin) (n : PsmId) (value : Word)
  | psmLevelWrite (o : Origin) (n : PsmId) (value : Word)
  | psmSlewStep (n : PsmId)
  | safeRampEnd (n : PsmId)
  | psmSampleTick (n : PsmId)
  | wavePrefilled (n : PsmId)
  | psmCue (n : PsmId) (cue : Fin 32)
  | psmAdcReading (n : PsmId) (measured : Bool) (code : BitVec 18) (clamps : Bool)
  | snapRearm (n : PsmId)
  | clamp (n : PsmId)
  | short (n : PsmId)
  | senseOpen (n : PsmId)
  | boostRange (n : PsmId)
  | psmStatusClear (o : Origin) (n : PsmId) (value : Word)
  | measGo (o : Origin) (n : PsmId)
  | psmMeasSettled (n : PsmId)
  | snapTrig (o : Origin) (n : PsmId)
  | snapAbort (o : Origin) (n : PsmId)
  | psmSineFtwHi (o : Origin) (n : PsmId) (value : Word)
  | psmSetLevel (h : CmdHdr) (pl : List Word)
  | psmSetLevelTimeout (n : PsmId)
  | psmWaveArm (h : CmdHdr) (pl : List Word)
  | psmWaveStart (h : CmdHdr) (pl : List Word)
  | psmWaveStop (h : CmdHdr) (pl : List Word)
  | psmWaveJump (h : CmdHdr) (pl : List Word)
  | psmSineStart (h : CmdHdr) (pl : List Word)
  | psmSineStop (h : CmdHdr) (pl : List Word)
  | psmMeasure (h : CmdHdr) (pl : List Word)
  | psmSnapArm (h : CmdHdr) (pl : List Word)
  | psmSnapTrig (h : CmdHdr) (pl : List Word)
  | scalarAdd (c : CoreId) (k : AeChk)
  | scalarSub (c : CoreId) (k : AeChk)
  | scalarAnd (c : CoreId) (k : AeChk)
  | scalarOr (c : CoreId) (k : AeChk)
  | scalarXor (c : CoreId) (k : AeChk)
  | scalarShl (c : CoreId) (k : AeChk)
  | scalarShr (c : CoreId) (k : AeChk)
  | scalarSar (c : CoreId) (k : AeChk)
  | scalarMul (c : CoreId) (k : AeChk)
  | scalarSeq (c : CoreId) (k : AeChk)
  | scalarSlt (c : CoreId) (k : AeChk)
  | scalarSltu (c : CoreId) (k : AeChk)
  | scalarLi (c : CoreId) (k : AeChk)
  | scalarNop (c : CoreId) (k : AeChk)
  | valuAdd (c : CoreId) (k : AeChk)
  | valuSub (c : CoreId) (k : AeChk)
  | valuNeg (c : CoreId) (k : AeChk)
  | valuAbs (c : CoreId) (k : AeChk)
  | valuMin (c : CoreId) (k : AeChk)
  | valuMax (c : CoreId) (k : AeChk)
  | valuAnd (c : CoreId) (k : AeChk)
  | valuOr (c : CoreId) (k : AeChk)
  | valuXor (c : CoreId) (k : AeChk)
  | valuNot (c : CoreId) (k : AeChk)
  | valuSar (c : CoreId) (k : AeChk)
  | valuShl (c : CoreId) (k : AeChk)
  | valuCmpeq (c : CoreId) (k : AeChk)
  | valuCmplt (c : CoreId) (k : AeChk)
  | valuSel (c : CoreId) (k : AeChk)
  | vmacMul (c : CoreId) (k : AeChk)
  | mac (c : CoreId) (k : AeChk)
  | msu (c : CoreId) (k : AeChk)
  | vld (c : CoreId) (k : AeChk)
  | vst (c : CoreId) (k : AeChk)
  | wld (c : CoreId) (k : AeChk)
  | wst (c : CoreId) (k : AeChk)
  | sld (c : CoreId) (k : AeChk)
  | sst (c : CoreId) (k : AeChk)
  | sta (c : CoreId) (k : AeChk)
  | mov (c : CoreId) (k : AeChk)
  | lanex (c : CoreId) (k : AeChk)
  | bcast (c : CoreId) (k : AeChk)
  | br (c : CoreId) (k : AeChk)
  | brc (c : CoreId) (k : AeChk)
  | call (c : CoreId) (k : AeChk)
  | ret (c : CoreId) (k : AeChk)
  | rti (c : CoreId) (k : AeChk)
  | djnz (c : CoreId) (k : AeChk)
  | swi (c : CoreId) (k : AeChk)
  | waitdma (c : CoreId) (k : AeChk)
  | halt (c : CoreId) (k : AeChk)
  | rep (c : CoreId) (k : AeChk)
  | dmaStart (c : CoreId) (k : AeChk)
  | aeDmaEnd (c : CoreId) (ch : Bool)
  | aeInterrupt (c : CoreId)
  | aeDoorbell (o : Origin) (c : CoreId) (value : Word)
  | aeRun (o : Origin) (c : CoreId) (value : Word)
  | haltReq (o : Origin) (c : CoreId)
  | aeReset (o : Origin) (c : CoreId)
  | aeCall (h : CmdHdr) (pl : List Word)
  | aeCallDispatch
  | aeCallEnd (c : CoreId) (r : CallObs)
  | callTimeout (c : CoreId)
  | linkTrainStart (port : Fin 3)
  | linkTrained (port : Fin 3) (t : TrainInfo)
  | linkTrainRetry (port : Fin 3)
  | laneDown (port : Fin 3) (lane : LaneObs)
  | linkDown (port : Fin 3)
  | retrain (o : Origin) (port : Fin 2)
  | packetReceive (port : Fin 3) (pkt : Packet)
  | ack (port : Fin 3) (seq : BitVec 12)
  | nak (port : Fin 3) (seq : BitVec 12)
  | credit (port : Fin 3) (cmd rsp : Nat)
  | ackSendTimer (port : Fin 3)
  | replayTimeout (port : Fin 3)
  | egressSend (port : Fin 3)
  | commandStart (session : BitVec 2) (tag : BitVec 14)
  | regRead (h : CmdHdr) (pl : List Word)
  | regWrite (h : CmdHdr) (pl : List Word)
  | regModify (h : CmdHdr) (pl : List Word)
  | regPoll (h : CmdHdr) (pl : List Word)
  | regPollRead (session : BitVec 2) (tag : BitVec 14)
  | memRead (h : CmdHdr) (pl : List Word)
  | memWrite (h : CmdHdr) (pl : List Word)
  | memFill (h : CmdHdr) (pl : List Word)
  | dmaRead (h : CmdHdr) (pl : List Word)
  | sessionReset (h : CmdHdr) (pl : List Word)
  | emergencySafe (port : Fin 2) (h : CmdHdr) (device : BitVec 5) (crcOk : SafeObs)
  | nop (h : CmdHdr) (pl : List Word)
  | barrier (h : CmdHdr) (pl : List Word)
  | echo (h : CmdHdr) (pl : List Word)
  | microNano (ue : Bool)
  | microBranch (ue : Bool)
  | microCommit (ue : Bool)
  | microEnd (ue : Bool)
  | routineRestart
  | routineOverrun
  | flowLoad (h : CmdHdr) (pl : List Word)
  | flowUnload (h : CmdHdr) (pl : List Word)
  | flowStart (h : CmdHdr) (pl : List Word)
  | flowAbort (h : CmdHdr) (pl : List Word)
  | siteRead (h : CmdHdr) (pl : List Word)
  | siteClear (h : CmdHdr) (pl : List Word)
  | siteMuzzle (h : CmdHdr) (pl : List Word)
  | endStep (run : Fin 16)
  | patternStep (run : Fin 16)
  | pmuStep (run : Fin 16)
  | psmForceStep (run : Fin 16)
  | tmuStep (run : Fin 16)
  | aeStep (run : Fin 16)
  | limitStep (run : Fin 16)
  | contactStep (run : Fin 16)
  | muxStep (run : Fin 16)
  | waitStep (run : Fin 16)
  | repairStep (run : Fin 16)
  | flowStepEnd (run : Fin 16)
  | lockAcquire (h : CmdHdr) (pl : List Word)
  | lockRenew (h : CmdHdr) (pl : List Word)
  | lockRelease (h : CmdHdr) (pl : List Word)
  | lockStatus (h : CmdHdr) (pl : List Word)
  | leashTick
  | leashExpiry (r : Fin 64)
  | mpaArbitration (q : Fin 32) (reqs : MpaObs)
  | grantHeld (q : Fin 32)
  | mpaFreeze (o : Origin) (value : Word)
  | mpaClassSwap (o : Origin)
  | egressSlotSwap (o : Origin) (port : Fin 2)
  | mramCopyGo (o : Origin) (value : Word)
  | mramCopyDone (bad : List Nat)
  | patrolScrub (mram : Bool) (addr : Nat) (uncorrectable : Bool)
  | refLost
  | rootUnlock
  | drmUnlock (s : Fin 2)
  | hkoRange (khz : Nat)
  | groupFreeze (o : Origin) (value : BitVec 6)
  | groupMuzzle (o : Origin) (value : BitVec 6)
  | groupReset (o : Origin) (value : BitVec 6)
  | groupResetEnd (g : Fin 6)
  | faultRecord
  | safeCoreStop
  | historyLost
  | fltPendingAck (o : Origin) (value : Word)
  | clearStop (o : Origin)
  | clearSafe (obs : StartObs)
  | clearFirst (o : Origin)
  | fltUnmuzzle (o : Origin) (value : Word)
  | fltMuzzle (o : Origin) (value : Word)
  | diodeReading (i : Fin 5) (t : BitVec 16)
  | hkRoundReading (v : BitVec 16)
  | dramTempReading (s : Fin 2) (t : BitVec 8)
  | pfeInterfaceStop (k : Fin 4)
  | pfeLost (k : Fin 4)
  | railUv (rail : Fin 9)
  | calGap (h : CmdHdr) (pl : List Word)
  | calEnd (h : CmdHdr) (pl : List Word)
  | calRun (h : CmdHdr) (pl : List Word)
  | calStore (h : CmdHdr) (pl : List Word)
  | calStoreDone (ok : Bool)
  | calForget (h : CmdHdr) (pl : List Word)
  | calAbort (h : CmdHdr) (pl : List Word)
  | calTaskEnd (task : Fin 9) (results : List CalResult)
  | trimMove (task : Fin 9) (unit : Nat) (param : Nat)
  | vauxRise
  | vauxFall
  | coldStart (obs : StartObs)
  | pwrgoodFall
  | resetN (obs : StartObs)
  | start (h : CmdHdr) (pl : List Word)
  | startBegin (obs : StartObs)
  | checkpointTimer (ok : Bool)
  | ckptWrite (h : CmdHdr) (pl : List Word) (ok : Bool)
  | dlogRdHi (o : Origin) (value : Word)
  | restEnter (h : CmdHdr) (pl : List Word)
  | restEntered
  | restExit (h : CmdHdr) (pl : List Word)
  | wake (o : Origin)
  | restAwake (failed : List (Fin 32))
  | mirrorRead (h : CmdHdr) (pl : List Word)
  | twinResync (h : CmdHdr) (pl : List Word)
  | twinKeepaliveSend
  | heartbeat
  | keepalive (k : KeepInfo)
  | twinSilenceTimeout
  | mspRead (frame : MspFrame)
  | mspWrite (frame : MspFrame)
  | mspSafe (frame : MspFrame)
  | indAddr (frame : MspFrame)
  | indRead (frame : MspFrame)
  | indWrite (frame : MspFrame)
  | mspIndDone
  | isoGo (o : Origin) (value : Word)
  | isoShiftDone
  | tapUpdateIr (ir : BitVec 8)
  | whistleFrameStart (timeSlotSeen : Bool)
  | echoLaunch (rt : Option Nat)
  | echoAnswer
  | framePulseReceive (phaseErr : Int) (timeBit : Bool)
  | syncLost
  | whsLost
  | whClkReturn
  | whMasterWrite (o : Origin) (value : Word)
  | whTimeSetHi (o : Origin) (value : Word)
  | whSwapHi (o : Origin) (value : Word)
  | whEmit (o : Origin) (value : Word)
  | whistleEventSend (line : Fin 7)
  | whistleEventAct (line : Fin 7)
  | whAllstop (o : Origin) (value : Word)
  | allstop
  | allstopRelease
  | allstopRearm
  | refclkReturn
  | drmPllRelock (s : Fin 2)
  | psmTimedStart (n : PsmId)
  | trstN
deriving DecidableEq, Repr

end Sys2Proof
end

