-- ==== Sys2Proof/Machine/Tab.lean ====
section
/-! DEFINITION. The two sparse stores of the model, plain lists in one canonical form: a table of
values keyed by a number, with a default, and a byte memory whose unlisted bytes read 0. -/

namespace Sys2Proof.Machine

/-- The value a table gives a key: the entry listed, else the default `d`. -/
def Tab.get {α : Type} (d : α) : Tab α → Nat → α
  | [], _ => d
  | (k, v) :: t, a => if a = k then v else Tab.get d t a

/-- List `v` at key `a`, in the order of the keys. -/
def Tab.insert {α : Type} : Tab α → Nat → α → Tab α
  | [], a, v => [(a, v)]
  | (k, w) :: t, a, v =>
    if a < k then (a, v) :: (k, w) :: t
    else if a = k then (k, v) :: t
    else (k, w) :: Tab.insert t a v

/-- Put `v` at key `a`: the list stays sorted, and an entry equal to the default is dropped. -/
def Tab.put {α : Type} [DecidableEq α] (d : α) (t : Tab α) (a : Nat) (v : α) : Tab α :=
  if v = d then t.filter (fun e => e.1 != a) else Tab.insert t a v

/-- The canonical form of a table whose key `a` reads `d a` when unlisted: keys strictly rising,
no entry equal to what the key reads when unlisted. -/
def Tab.wf {α : Type} [DecidableEq α] (d : Nat → α) : Tab α → Bool
  | [] => true
  | [(k, v)] => decide (v ≠ d k)
  | (k, v) :: (k', v') :: t =>
    decide (v ≠ d k) && decide (k < k') && Tab.wf d ((k', v') :: t)

/-- A byte memory: DRAM or MRAM. -/
abbrev Memory := List Host.Cell

/-- Memory.get m a: the byte at address a. A byte nothing has written reads 0 (R353 for DRAM;
DESIGN CHOICE for MRAM, assumption 3). -/
def Memory.get (m : Memory) (a : Nat) : Byte := Tab.get 0#8 m a

/-- Write one byte. -/
def Memory.put (m : Memory) (a : Nat) (b : Byte) : Memory := Tab.put 0#8 m a b

/-- Write bytes at consecutive addresses. -/
def Memory.putBytes (m : Memory) (a : Nat) : List Byte → Memory
  | [] => m
  | b :: bs => Memory.putBytes (Memory.put m a b) (a + 1) bs

/-- Read `n` bytes at consecutive addresses. -/
def Memory.getBytes (m : Memory) (a : Nat) : Nat → List Byte
  | 0 => []
  | n + 1 => Memory.get m a :: Memory.getBytes m (a + 1) n

/-- A list of bytes read as one number, least significant byte first (little-endian, R353). -/
def Memory.ofBytes : List Byte → Nat
  | [] => 0
  | b :: bs => b.toNat + 256 * Memory.ofBytes bs

/-- The `n` bytes of a number, least significant first. -/
def Memory.toBytes : Nat → Nat → List Byte
  | 0, _ => []
  | n + 1, v => BitVec.ofNat 8 v :: Memory.toBytes n (v / 256)

/-- Read `n` bytes as a number. -/
def Memory.getNat (m : Memory) (a n : Nat) : Nat := Memory.ofBytes (Memory.getBytes m a n)

/-- Write the low `n` bytes of a number. -/
def Memory.putNat (m : Memory) (a n v : Nat) : Memory := Memory.putBytes m a (Memory.toBytes n v)

/-- Memory.wf: the canonical form (keys strictly rising, no byte equal to 0). -/
def Memory.wf (m : Memory) : Bool := Tab.wf (fun _ => (0#8 : Byte)) m

end Sys2Proof.Machine
end

