-- ==== Sys2Proof/Machine/State.lean ====
section
/-! DEFINITION. The state of the block, as plain data: the register map (with the SRAM windows), the
two memories, the queue of waiting commands, and the hidden state of every unit. -/

namespace Sys2Proof.Machine

/-- The status codes of completions and register writes (R296). -/
inductive Status where
  | ok | badOpcode | badLength | badAddress | partialDone | busy | locked | muzzled | crcError
  | restarted | timeout | badState | leaseLost | underrun | calRejected | thermal | lateJump
  | internal
deriving DecidableEq, Repr

/-- A fault message (R395): source, class and kind, address, and device time bits [14:0]. -/
structure FaultMsg where
  src : Nat
  cls : Nat
  kind : Nat
  addr : Nat
  time : Nat
deriving DecidableEq, Repr

/-- A muzzle in force: the unit, whether the start-up self-test made it, whether repeated
calibration rejection did (R437), and the messages that caused it (R413). -/
structure Muzzle where
  unit : MUnit
  selfTest : Bool
  causes : List FaultMsg
deriving DecidableEq, Repr

/-- How far an admitted command has come: waiting for its holds, released by them, or running. -/
inductive Phase where
  | admitted | released | running
deriving DecidableEq, Repr

/-- An in-flight command (R298). `domains` is a bit mask of the 18 ordering domains (R22). -/
structure InFlight where
  hdr : CmdHdr
  opcode : Nat
  payload : List Word
  domains : Nat
  phase : Phase
  suppressed : Bool
  /-- The range of a memory command was open as it started (R308). -/
  opened : Bool := false
deriving DecidableEq, Repr

/-- A completion waiting to be sent (R296, R299); `ae` when its command belongs to domain AE (R311), and
`admitted` when the command was in flight, which it stays until its completion is sent (R298). -/
structure Reply where
  opcode : Nat
  session : Nat
  tag : Nat
  port : Bool
  ae : Bool
  admitted : Bool
  status : Status
  detail : Nat
  payload : List Word
deriving DecidableEq, Repr

/-- Who waits for started work: a link command, or a run's flow step (the run's own identity and the unit
the work is for). -/
inductive Owner where
  | cmd (h : CmdHdr)
  | run (id key : Nat)
deriving DecidableEq, Repr

/-- What a channel's driver does: high impedance, drives VIH, drives VIL, terminates to VTT. -/
inductive Drive where
  | z | one | zero | term
deriving DecidableEq, Repr

/-- The hidden state of a channel: the active levels and load currents (R54, R82), the codes between which each level
lies while it moves after an apply (R58), the driver state its last acted edge left, whether that edge drove the bit
that was driven before it (R73), the LOAD_ON of that edge's beat (R64), the internal times in 0.5 ps units at which
that edge was launched and at which the comparators were last sampled (R88), the present
results H and L of its comparators, none until they start anew (R506), whether an apply has taken effect
since the start (R82), the first beat whose edges act after a protection or an unmuzzle (R78, R81),
when an apply and when a trim step last changed each level (R79), and the measurement in progress (R70). -/
structure ChanState where
  levels : List Nat := [15000, 15000, 15000, 15000, 15000, 15000]
  spans : List (Nat × Nat) := List.replicate 6 (15000, 15000)
  iol : Nat := 0
  ioh : Nat := 0
  drive : Drive := .z
  repeats : Bool := false
  loadOn : Bool := false
  launchedAt : Int := 0
  sampledAt : Nat := 0
  cmp : Option (Bool × Bool) := none
  applied : Bool := false
  actsFrom : Nat := 0
  changedAt : List (Option Nat) := List.replicate 6 none
  trimmedAt : List (Option Nat) := List.replicate 6 none
  pmuConverting : Bool := false
  pmuOwner : Option Owner := none
deriving DecidableEq, Repr

/-- A repair-allocator request (R153). -/
structure RaReq where
  site : Nat
  set : Nat
  analyse : Bool
  clear : Bool
  order : Bool
  run : Option Nat := none
  dropped : Bool := false
deriving DecidableEq, Repr

/-- What the allocator found for one region (R154, R157): result code, rows and columns in
allocation order, search nodes. -/
structure RaRegion where
  result : Nat
  rows : List Nat
  cols : List Nat
  nodes : Nat
deriving DecidableEq, Repr

/-- A running allocator request: the request, whether its result is INCOMPLETE, and the regions. -/
structure RaJob where
  req : RaReq
  incomplete : Bool
  regions : List RaRegion
deriving DecidableEq, Repr

/-- A line of the coalescing buffer (R151): site, set, line address in 64-byte units, and the bits to
set as offsets within the line. -/
structure BmLine where
  site : Nat
  set : Nat
  line : Nat
  bits : List Nat
deriving DecidableEq, Repr

/-- The hidden state of a pack's APG and repair allocator: instruction memory, the instruction
executed last, the staged low word and the latched high word of the memory port (R146), the
coalescing buffer, the request queue and the running request. -/
structure ApgState where
  imem : Tab Word64 := []
  last : Word64 := 0#64
  staged : Nat := 0
  latch : Nat := 0
  buf : List BmLine := []
  queue : List RaReq := []
  job : Option RaJob := none
deriving DecidableEq, Repr

/-- A site's change as a running pack received it (R37): the beat in which it left ACTIVE, if it was, whether the
fails up to that beat belong to the context (the site stood at the PATTERN step that runs the pack, R35, R337), and
the beat in which it became MUZZLED, if it did (R51). -/
structure SiteStop where
  site : Nat
  pack : Nat
  beat : Option Nat := none
  keeps : Bool := false
  fence : Option Nat := none
deriving DecidableEq, Repr

/-- A mark of R49: the site, the cause, the muzzled unit, and whether the host has since mapped the site's channels
away from it (R50). -/
structure SiteMark where
  site : Nat
  cause : Nat
  unit : MUnit
  moved : Bool := false
deriving DecidableEq, Repr

/-- The outcome of a flow step at a site (R335). -/
inductive Verdict where
  | pass | fail | marginal | noData
deriving DecidableEq, Repr

/-- A run of a flow (R336): its identity, the flow, its byte offset in the store, the FLOW_START command, the
range, the ACTIVE sites with the step each stands at, the step being carried out with the sites it is
carried out for and those still to be served, the work in progress (site, unit), the sites' verdicts,
what the units answered, the sites for which an AE call stored a result; while a MUX step runs its number and the positions switched, the site
connected whose following step is to be carried out, the sites not connected yet, and the words to
restore (R339). -/
structure Run where
  id : Nat
  flow : Nat
  image : Nat
  hdr : CmdHdr
  first : Nat
  count : Nat
  members : List (Nat × Nat)
  anyActive : Bool
  step : Option Nat := none
  standing : List Nat := []
  todo : List Nat := []
  busy : List (Nat × Nat) := []
  verdicts : List (Nat × Verdict) := []
  results : List (Nat × Status × List Word) := []
  stored : List Nat := []
  mux : Option (Nat × Nat) := none
  muxSite : Option Nat := none
  muxTodo : List Nat := []
  saved : List (Nat × Nat) := []
deriving DecidableEq, Repr

/-- A completion that a unit's end event brings, which waits for the END of the routine that runs (R326). -/
structure UnitEnd where
  hdr : CmdHdr
  status : Status
  detail : Nat
  payload : List Word
deriving DecidableEq, Repr

/-- One routine of a REG_WRITE's chain (R328): the words the chain has written, and whether the next routine has begun. -/
structure ChainRun where
  hdr : CmdHdr
  words : Nat
  begun : Bool := false
deriving DecidableEq, Repr

/-- A running microroutine (R320 to R329): the command it serves, its first microword, the next one,
whether it has committed, how often it has been abandoned in a row, and whether it is protected. -/
structure Routine where
  hdr : CmdHdr
  entry : Nat
  pc : Nat
  committed : Bool := false
  abandoned : Nat := 0
  shielded : Bool := false
deriving DecidableEq, Repr

/-- An item waiting to be mirrored to the twin (R462): ITEM, site, the bytes of it already sent, and
whether its last packet has been sent. -/
structure MirrorItem where
  item : Nat
  site : Nat
  off : Nat
  sent : Bool
  bad : Bool := false
deriving DecidableEq, Repr

/-- A staged record of the capture engine (R168): the pattern it belongs to, its beat and its place in
the order of R170, its eight words, and for a SITE record that reports a first FAIL its slot. -/
structure CapRec where
  epoch : Nat
  beat : Nat
  cls : Nat
  words : List Nat
  slot : Option Nat := none
deriving DecidableEq, Repr

/-- A trigger that has reached the pack and is not yet marked or merged (R172, R173): its tick, and its
beat when it is tied to one. -/
structure TrigIn where
  trig : Trigger
  tick : Nat
  beat : Option Nat
deriving DecidableEq, Repr

/-- The latest dead interval (R174): start, end once set, triggers merged, and whether a mark has
reported it. -/
structure DeadIv where
  start : Nat
  stop : Option Nat
  merged : Nat
  reported : Bool
deriving DecidableEq, Repr

/-- The hidden state of a pack's capture engine: staged records in ring order, patterns started, the
staged low word of RD_IDX, records lost since the last mark, whether LOSS_END is owed, the tick at
which the last mark entry was taken, the dead interval, triggers waiting, previous channel states and
values, slots with a pass result in the pattern, first FAIL records already reported, and fails of a
MATCH timeout (site, the beat that carries the result, the pattern beat). -/
structure CapState where
  staging : List CapRec := []
  epoch : Nat := 0
  rdStage : Nat := 0
  lostNext : Nat := 0
  losing : Bool := false
  fullSince : Option Nat := none
  iv : Option DeadIv := none
  trigIn : List TrigIn := []
  /-- Marks of a tick whose beat is not known yet, as kind and tick (R173). -/
  lateMarks : List (Nat × Nat) := []
  prevFail : Nat := 0
  prevVal : Tab (Option Nat) := []
  sawPass : Nat := 0
  firstFail : Nat := 0
  extraFail : List (Nat × Nat × Nat) := []
deriving DecidableEq, Repr

/-- A segment-table entry (R133). -/
structure SegEnt where
  start : Nat
  beats : Nat
  data : Nat
  records : Nat
  next : Option Nat
  pin : Bool
deriving DecidableEq, Repr

/-- The result of a unit-interval slot (R62): none yet, a compare, a captured value (H, L), or a match
compare. -/
inductive Obs where
  | unset
  | cmp (fail : Bool)
  | val (h l : Bool)
  | mtc (fail : Bool)
deriving DecidableEq, Repr

/-- One channel's part of a beat: its format code, its data byte after the XOR tables, N, the eight edge
times in 0.5 ps units, the acting edges (R96) and those that have acted or been skipped, whether its
compares are masked (R60, R44), the corrections its edges are scheduled with, TD (of the P and the N side on a
lane) and TC (R88, R94, R95), its four results, and a mask of the windows in which the expected result has been 0
(R62). -/
structure ChanBeat where
  fmt : Nat := 0
  data : Nat := 0
  n : Nat := 1
  times : List Nat := []
  acting : Nat := 0
  acted : Nat := 0
  masked : Bool := false
  td : Nat × Nat := (0, 0)
  tc : Nat := 0
  results : List Obs := [.unset, .unset, .unset, .unset]
  departed : Nat := 0
deriving DecidableEq, Repr

/-- What a beat is: a pattern beat, a wait beat or a hold beat (R115). -/
inductive BeatKind where
  | pattern | wait | hold
deriving DecidableEq, Repr

/-- An executed beat whose edges or results are still to come: number, internal boundary and period
in SEQp cycles, kind, X and Y of a logging APX beat, the internal time in 0.5 ps units at which its
latest MATCH strobe leaves its outcome known (R118), its 32 channels, and whether capture has it. -/
structure BeatRec where
  num : Nat
  start : Nat
  period : Nat
  kind : BeatKind
  log : Option (Nat × Nat)
  known : Nat
  chans : List ChanBeat
  captured : Bool := false
deriving DecidableEq, Repr

/-- A host jump request (R123): the command, the segment, late or not. -/
structure HostJump where
  hdr : CmdHdr
  seg : Nat
  late : Bool
deriving DecidableEq, Repr

/-- A MATCH or WWAIT in progress (R118, R119): the word, its pattern beat, wait beats inserted, its
data, the beats whose outcomes are open with the internal time at which each is known, the sites that
take part and those that have latched. -/
structure WaitState where
  word : Nat
  b0 : Nat
  inserted : Nat
  data : Nat
  openBeats : List (Nat × Nat)
  parts : List Nat
  latched : List Nat
deriving DecidableEq, Repr

/-- The hidden state of a pack's sequencer and streamer. The image: sequence words, segment table, DRAM
address of the data section. The run: word address, loop counters, LPB addresses, cache positions and
later-pass marks by level, the call stack, the outermost caching level, the loop cache and the
position in it, the records of the pinned head still to come, the pinned heads, RPT beats done and its shared record,
whether control came back from an LPE, the pass number, its segment and pattern beat, the segment
chosen at the decision point, the latched internal jump, the host requests pending and taken, a MATCH or WWAIT in
progress, the next beat's number and boundary, the boundary of the last beat, the boundary at which the pass began (R369), the SEQp cycle at which the channels
go idle after a pattern (R98), the last beat stepped by a trim, hold state, Whistle
events not yet delivered at a boundary (line, act tick; R195), what a failed transfer toward the PFE delivers for the next beat (R7), the beats in flight, the prefetch buffer (pass, record), and
the streamer's cursor (pass, segment, record). -/
structure SeqState where
  words : Tab Word64 := []
  segs : List SegEnt := []
  dataBase : Nat := 0
  pc : Nat := 0
  ctrs : List Nat := [0, 0, 0, 0]
  lpbAt : List Nat := [0, 0, 0, 0]
  posAt : List Nat := [0, 0, 0, 0]
  later : List Bool := [false, false, false, false]
  stack : List Nat := []
  cacheLevel : Option Nat := none
  cache : List Nat := []
  cpos : Nat := 0
  head : List Nat := []
  heads : List (Nat × List Nat) := []
  rptDone : Nat := 0
  rptRec : Nat := 0
  back : Bool := false
  pass : Nat := 0
  seg : Nat := 0
  segBeat : Nat := 0
  chosen : Option (Option Nat) := none
  jumped : Bool := false
  latch : Option Nat := none
  host : Option HostJump := none
  taken : Option HostJump := none
  wait : Option WaitState := none
  nextBeat : Nat := 0
  boundary : Nat := 0
  lastStart : Nat := 0
  passAt : Nat := 0
  idleAt : Nat := 0
  trimAt : Nat := 0
  holding : Bool := false
  events : List (Nat × Nat) := []
  recv : Option FeRecv := none
  beats : List BeatRec := []
  prefetch : List (Nat × Nat) := []
  cursor : Option (Nat × Nat × Nat) := none
deriving DecidableEq, Repr

/-- A start group (R131): who waits, its packs, segment, START_TIME, whether a thermal deferral has held
it, whether beats have begun, the packs still running, and how it ended when not normally. -/
structure StartGroup where
  owner : Owner
  packs : List Nat
  seg : Nat
  startTime : Nat
  deferred : Bool := false
  running : Bool := false
  left : List Nat
  ended : Option (Status × Nat) := none
deriving DecidableEq, Repr

/-- A PAT_PAUSE or PAT_RESUME waiting for packs (R130). -/
structure PauseWait where
  hdr : CmdHdr
  resume : Bool
  left : List Nat
deriving DecidableEq, Repr

/-- A PAT_JUMP waiting for packs: those left, whether any took it late, and the failures by pack. -/
structure JumpCmd where
  hdr : CmdHdr
  left : List Nat
  late : Bool
  failed : List (Nat × Status)
deriving DecidableEq, Repr

/-- A timing-set swap pending in a pack (R369): AT_PASS, and the boundary from which it may take
effect. -/
structure TsetSwap where
  atPass : Bool
  ready : Nat
deriving DecidableEq, Repr

/-- A timed edge (R202, R206): coarse count, converter code, device-time tick, and tip correction in
femtoseconds. -/
structure Edge where
  k : Nat
  code : Nat
  tick : Nat
  tip : Nat
deriving DecidableEq, Repr

/-- How far a measurement has come (R204): none runs, calibrating, waiting for its arm condition, armed
and taking edges, or converting with the END code it will show. -/
inductive TmuPhase where
  | idle | calibrating | waiting | armed
  | converting (code : Nat)
deriving DecidableEq, Repr

/-- The hidden state of a TMU: phase, whether the arm condition has occurred, who waits, qualifying
edges of each source passed over, the start, the stops in order, FREQ edges counted and the last of
them, HISTOGRAM measurements done and those with a missing stop, the HISTOGRAM entries of the burst that is not full yet
and the bursts written (R209), and the sources of the block's own edges since the arm that are still to be timed
(R199). -/
structure TmuState where
  phase : TmuPhase := .idle
  armSeen : Bool := false
  owner : Option Owner := none
  startSkipped : Nat := 0
  stopSkipped : Nat := 0
  start : Option Edge := none
  stops : List Edge := []
  count : Nat := 0
  last : Option Edge := none
  done : Nat := 0
  missing : Nat := 0
  entries : List Nat := []
  bursts : Nat := 0
  due : List Nat := []
deriving DecidableEq, Repr

/-- Shots of one channel of a pass (R100): how many, their sum in femtoseconds, and whether one recorded
no reflection. -/
structure Shots where
  n : Nat := 0
  sum : Int := 0
  noRef : Bool := false
deriving DecidableEq, Repr

/-- Who waits for a self-alignment pass: the ALIGN command, or the open gap (R99). -/
inductive PassOwner where
  | cmd (h : CmdHdr)
  | gap
deriving DecidableEq, Repr

/-- A running self-alignment pass of a pack (R100): its kind, owner, included pack channels, whether the
levels have settled, the channels each TMU of the pack still has to measure, the calibration codes
and start edge of each TMU's present shot, the shots so far, and the die temperature at its start. -/
structure AlignPass where
  contact : Bool
  owner : PassOwner
  chans : List Nat
  settled : Bool := false
  todo : List (List Nat)
  cals : Tab (Option (Nat × Nat)) := []
  starts : Tab (Option (Nat × Nat)) := []
  shots : Tab Shots := []
  temp : Nat
deriving DecidableEq, Repr

/-- The path values of a channel (R101): drive and compare delay, and whether they are marked FIRST. -/
structure PathVal where
  td : Nat := 0
  tc : Nat := 0
  first : Bool := true
deriving DecidableEq, Repr

/-- An ALIGN command waiting for its packs, with the statuses other than OK. -/
structure AlignCmd where
  hdr : CmdHdr
  left : List Nat
  failed : List (Nat × Status)
deriving DecidableEq, Repr

/-- A calibrated parameter (R436, R438): target, applied value, previous accepted value, FIRST. -/
structure CalParam where
  target : Int := 0
  applied : Int := 0
  prev : Int := 0
  first : Bool := true
deriving DecidableEq, Repr

/-- A calibrated unit of a task: its parameters, the device time and die temperature of its last
accepted result since the cold start (R430), and its consecutive rejections (REJECT_RUN, R436). -/
structure CalUnit where
  params : Tab CalParam := []
  stamp : Option (Nat × Nat) := none
  rejects : Nat := 0
deriving DecidableEq, Repr

/-- A running calibration task (R428): its number, the units it still runs on, the CAL_RUN that started it, if any, whether
it runs in calibration-allowed beats (R434), the tick at which it began, and whether a muzzle has taken a unit from it. -/
structure CalTask where
  task : Nat
  units : List Nat
  owner : Option CmdHdr
  beats : Bool := false
  since : Nat := 0
  cut : Bool := false
deriving DecidableEq, Repr

/-- An open gap (R431): the command (none at Rest entry), kind, NO_ISOLATE, length and elapsed time in
tenths of a microsecond, packs whose passes still run, tasks to try in order, the counts, whether a result was accepted,
whether FACT_BAD has refused a task or pass (R441), and the due units that tasks have skipped (R428). -/
structure CalGap where
  hdr : Option CmdHdr
  kind : Nat
  noIso : Bool
  length : Nat
  elapsed : Nat := 0
  passes : List Nat
  todo : List Nat
  completed : Nat := 0
  rejected : Nat := 0
  deferred : Nat := 0
  accepted : Bool := false
  refused : Bool := false
  skipped : Nat := 0
deriving DecidableEq, Repr

/-- A copied waveform segment (R228): byte address, stored samples, default following segment. -/
structure WaveSeg where
  addr : Nat
  samples : Nat
  next : Option Nat
deriving DecidableEq, Repr

/-- A jump request (R232): who waits (none for a cue), the segment, registered or not, late. -/
structure WaveJump where
  owner : Option CmdHdr
  seg : Nat
  registered : Bool
  late : Bool
deriving DecidableEq, Repr

/-- A queue entry (R230): its pass, the stored sample it belongs to, whether it is the pass's last, its
code. -/
structure WaveEnt where
  pass : Nat
  samp : Nat
  last : Bool
  code : Int
deriving DecidableEq, Repr

/-- An armed or running waveform: the copied table, the PSM_WAVE_ARM still to be answered, started or
not, the PSM_WAVE_START to be answered, the running pass and its segment, the choice made at its
decision point, the reader's cursor (pass, segment, stored sample), the queue, the jump request that is
pending and the one taken at the decision point, the stops that wait and whether one ends it at the next tick or at the end of the pass. -/
structure Wave where
  segs : List WaveSeg
  arm : Option CmdHdr
  started : Bool := false
  owner : Option CmdHdr := none
  pass : Nat := 0
  seg : Nat
  chosen : Option (Option Nat) := none
  cursor : Option (Nat × Nat × Nat)
  queue : List WaveEnt := []
  jump : Option WaveJump := none
  taken : Option WaveJump := none
  stops : List CmdHdr := []
  stopNow : Bool := false
  stopEnd : Bool := false
deriving DecidableEq, Repr

/-- The ramp of a PSM output: none, slew to LEVEL, return to OFF, safe ramp, SHORT_PROTECT (R220 to R225). -/
inductive Ramp where
  | none | slew | off | safe | short
deriving DecidableEq, Repr

/-- A PSM measurement (R242): who waits, whether SETTLE_US has passed, readings, a clamp acted. -/
structure PsmMeas where
  owner : Option Owner
  settled : Bool := false
  readings : List Int := []
  clamped : Bool
deriving DecidableEq, Repr

/-- Armed snapshots (R243, R244): the command, slot number, readings of the quantity passed since the last
kept one, readings kept since arm or re-arm, the latest of them, the accepted trigger with its PRE_VALID,
the readings kept after it, whether the slot is written and re-arm runs, and the MISSED and DEAD_TIME
of the present slot and MISSED of the next. -/
structure Snap where
  hdr : CmdHdr
  slot : Nat := 0
  skip : Nat := 0
  kept : Nat := 0
  pre : List Int := []
  trig : Option (Nat × Nat) := none
  data : List Int := []
  rearm : Bool := false
  missed : Nat := 0
  dead : Nat := 0
  missedNext : Nat := 0
deriving DecidableEq, Repr

/-- A start that waits for its START_TIME (R248): sine or waveform, the command, the time. -/
structure PsmTimed where
  sine : Bool
  hdr : CmdHdr
  start : Nat
deriving DecidableEq, Repr

/-- The hidden state of a PSM. The output: position in units of 1/131,072 µV, DAC code, the code the deglitcher
holds and until which tick, ramp, the mode whose switches are closed, the tick until which readings
are exempt, the last four forced readings, misses, commanded codes by tick, the threshold's last
reading and whether it may cross again. Then the waveform, the sine (committed FTW, phase of the next
sample, whether a stop waits and for whom), the timed starts, the measurement, the snapshots, the
PSM_SET_LEVEL commands and the flow step that wait for SETTLED, whether the converter takes the measured quantity
next under MON_SEL 2 (R239), and the bits of PSM_GO written under a muzzle (R251). -/
structure PsmState where
  pos : Int := 0
  dac : Int := 0
  held : Option (Int × Nat) := none
  ramp : Ramp := .none
  stage : Nat := 0
  exemptTo : Nat := 0
  last4 : List Int := []
  miss : Nat := 0
  hist : List (Nat × Int) := []
  thrPrev : Option Int := none
  thrReady : Bool := true
  wave : Option Wave := none
  ftw : Nat := 0
  phase : Nat := 0
  sineStop : Bool := false
  sineWait : List CmdHdr := []
  timed : List PsmTimed := []
  meas : Option PsmMeas := none
  snap : Option Snap := none
  waiters : List Owner := []
  monNext : Bool := false
  goHeld : Nat := 0
deriving DecidableEq, Repr

/-- A write an AE instruction has issued (R263): a V register, a lane of one, an accumulator, S, P, bits
[lo + w − 1 : lo] of M, a special register, sticky ST bits, or words of data memory. -/
inductive AeWrite where
  | v (i : Nat) (l : List Int)
  | lane (i j : Nat) (x : Int)
  | a (i : Nat) (l : List Int) (seen : Bool)
  | s (i x : Nat)
  | p (i x : Nat)
  | m (i lo w x : Nat)
  | x (i v : Nat)
  | flags (mask : Nat)
  | mem (addr : Nat) (ws : List Nat)
deriving DecidableEq, Repr

/-- A library call (R273, R276): who waits, its 16 words, the core it names. -/
structure AeCall where
  owner : Owner
  words : List Nat
  core : Option Nat
deriving DecidableEq, Repr

/-- A running DMA channel (R270): DRAM byte address, data-memory address, length in 64-byte units,
direction (true local to DRAM). -/
structure AeDma where
  dram : Nat
  loc : Nat
  len : Nat
  out : Bool
deriving DecidableEq, Repr

/-- The hidden state of an AE core: the registers of R253 (accumulators also as the next VMAC sees them;
special registers LC0, LC1, RC, ST, IPC, IST at keys 0 to 5), the cycle of the next issue, the writes
not yet visible with the cycle from which they are, in the order in which they take effect, a branch
whose slots run (slots left, target; none: RTI), REP iterations left, a HALT_REQ that waits, the DMA
channels, and the library call that runs. -/
structure AeCore where
  v : Tab (List Int) := []
  a : Tab (List Int) := []
  aNext : Tab (List Int) := []
  s : Tab Nat := []
  p : Tab Nat := []
  m : Tab Nat := []
  x : Tab Nat := []
  clock : Nat := 0
  writes : List (Nat × AeWrite) := []
  branch : Option (Nat × Option Nat) := none
  rep : Option Nat := none
  haltReq : Bool := false
  dma0 : Option AeDma := none
  dma1 : Option AeDma := none
  call : Option AeCall := none
deriving DecidableEq, Repr

/-- The synchronisation of a node (R190, R191): the last accepted round trips in ps, echoes accepted since
ACQUIRE was entered, consecutive misses, the bits of the TIME word being collected and how many frames
have given one, the last complete word, whether ACQUIRE has set the time, whether the node has been
LOCKED since WH_CLK returned, the TTB phase in steps of 39.0625 ps (later positive), and what the node drives in
the FRAME, the TIME and the ECHO slots of the present frame (R187, R189, R190). -/
structure SyncState where
  rts : List Nat := []
  accepted : Nat := 0
  misses : Nat := 0
  word : Nat := 0
  got : Nat := 0
  full : Option Nat := none
  timeSet : Bool := false
  wasLocked : Bool := false
  phase : Int := 0
  frameOut : Bool := false
  timeOut : Bool := false
  echoOut : Bool := false
deriving DecidableEq, Repr

/-- What follows when a sent packet is acknowledged: nothing; RD_IDX of pack p advances to an index (R177); a
mirror item is no longer pending (R462); a DMA_READ completes (R309). -/
inductive SentKind where
  | plain
  | stream (p idx : Nat)
  | mirror
  | dma (h : CmdHdr)
deriving DecidableEq, Repr

/-- A packet in the replay buffer: its SEQ, its pool (true RSP), its words with the trailer. -/
structure Sent where
  seq : Nat
  rsp : Bool
  words : List Nat
  kind : SentKind
deriving DecidableEq, Repr

/-- The hidden state of a port (0 A, 1 B, 2 the twin link): FRESH to be sent in the next training, the
next SEQ to send, the replay buffer, resends since an ACK advanced, the SEQ expected, whether a NAK has
been sent for the present gap, packets received since the last ACK sent, the units the partner grants
(CMD, RSP), the units to return, packets to forward (pool, words), an EMERGENCY_SAFE to forward, the
accumulator of FWD_SHARE, the next entry of the slot table, the width before the present training, and
whether DUP_ID has been raised since the last training. -/
structure PortState where
  fresh : Bool := true
  txSeq : Nat := 0
  replay : List Sent := []
  resends : Nat := 0
  rxSeq : Nat := 0
  gap : Bool := false
  owed : Nat := 0
  cmdUnits : Nat := 0
  rspUnits : Nat := 0
  cmdBack : Nat := 0
  rspBack : Nat := 0
  fwd : List (Bool × List Nat) := []
  emergency : Option (List Nat) := none
  share : Nat := 0
  slot : Nat := 0
  width : Nat := 0
  dup : Bool := false
  /-- The lanes that have run since the last reset of the port's group (R388). -/
  ran : Nat := 0
deriving DecidableEq, Repr

/-- A DMA_READ that sends its range (R309): the command, byte address, units of 64 bytes, the next unit to
send. -/
structure DmaJob where
  hdr : CmdHdr
  addr : Nat
  units : Nat
  next : Nat := 0
deriving DecidableEq, Repr

/-- A transaction in its data phase (R360): the request, and the bursts moved. -/
structure MpaHold where
  req : MpaReq
  moved : Nat := 0
deriving DecidableEq, Repr

/-- The state of the block. -/
structure State where
  /-- Commands waiting, first in first out. -/
  pending : List Instr
  /-- The register map and SRAM windows: a word not listed reads its cold-reset value (coldWord). -/
  regs : Tab Word
  /-- DRAM, keyed by physical place (stack, pseudo-channel, offset), so that a map change moves no byte (R352). -/
  dram : Memory
  /-- MRAM (R356). -/
  mram : Memory
  /-- Device time, 2.5 ns ticks, 64 bits. -/
  time : Nat
  /-- The model's own counter of free values consumed. -/
  free : Nat
  /-- The status of the last direct register access (R3, R24). -/
  resp : Status
  /-- The word the last direct register read returned. -/
  respData : Nat
  /-- Each session's latch: the address of the latched high word and its value (R306). -/
  latches : Tab (Option (Nat × Nat))
  /-- The muzzles in force. -/
  muzzles : List Muzzle
  /-- Messages that have reached the fault collector and are not yet recorded. -/
  faultIn : List FaultMsg
  /-- Pending count of each class (R402). -/
  fltPend : Tab Nat
  /-- The messages that caused the present STOPPED or SAFE state (R409). -/
  condCauses : List FaultMsg
  /-- The in-flight command table, in admission order (R298). -/
  inflight : List InFlight
  /-- Completions waiting to be sent. -/
  replies : List Reply
  /-- The event queue, oldest first: six words each (R313, R314). -/
  events : List (List Word)
  /-- Event packets sent so far. -/
  evtSeq : Nat
  /-- Events lost since the previous EVENT packet (R313). -/
  evtLost : Nat
  /-- The core domains run (CORE_UP; R408, R458). -/
  coreUp : Bool
  /-- The channels' hidden state, by device channel. -/
  chans : Tab ChanState
  /-- Lanes whose ENABLE was written 0 while they were muzzled: they stay lanes until the unmuzzle (R86). -/
  laneKept : Tab Bool
  /-- The APGs and repair allocators, by pack. -/
  apgs : Tab ApgState
  /-- Uncorrectable bursts of each pseudo-channel since the cold start or its last unmuzzle (R374). -/
  ueCount : Tab Nat
  /-- The model's own count of runs begun, which names each. -/
  runSerial : Nat
  /-- The microroutine that runs (R320). -/
  routine : Option Routine
  /-- Leashes wait for the first port UP after a warm start (R348). -/
  leashFrozen : Bool
  /-- The outputs of the isolation chain, as last latched (R475). -/
  isoOut : Nat
  /-- Shepherd has set an image bit during a shift, so the chain is shifted once more (R475). -/
  isoAgain : Bool
  /-- The runs, 0 to 15 (R336). -/
  runs : Tab (Option Run)
  /-- The run for which Shepherd holds each lock (BY_RUN, R344). -/
  lockRun : Tab (Option Nat)
  /-- Leash length of each lock in ms (R345); bit 16 marks a leash that a tick has found run out (R346). -/
  leashLen : Tab Nat
  /-- The flow last run on each site and its image offset, none after a clear or an unload (R340). -/
  lastFlow : Tab (Option (Nat × Nat))
  /-- Measurement slots: key 8 × site + slot, the value's 32 bits (R342). -/
  slots : Tab (Option Nat)
  /-- Marks of R49. -/
  marks : List SiteMark
  /-- The changes of sites that running packs have received (R37, R51). -/
  siteStops : List SiteStop
  /-- A run has ended, so a checkpoint is to be written (R454). -/
  ckptDue : Bool
  /-- A site context changed since the last checkpoint (R454). -/
  ctxChanged : Bool
  /-- Mirror items pending, oldest first (R462). -/
  mirrorQ : List MirrorItem
  /-- The capture engines, by pack. -/
  caps : Tab CapState
  /-- The sequencers and streamers, by pack. -/
  seqs : Tab SeqState
  /-- The start groups waiting or running (R131). -/
  groups : List StartGroup
  /-- PAT_PAUSE and PAT_RESUME commands waiting (R130). -/
  pauses : List PauseWait
  /-- PAT_JUMP commands waiting (R130). -/
  jumpCmds : List JumpCmd
  /-- Timing-set swaps pending, by pack (R369). -/
  tsetSwaps : Tab (Option TsetSwap)
  /-- TSET_SWAP commands waiting for their packs. -/
  swapCmds : List PauseWait
  /-- Cues on their way: device PSM and cue (R115). -/
  cues : List (Nat × Nat)
  /-- The boundary after which crossing 4 of each PSM accepts again (R384, R387). -/
  cueAt : Tab Nat
  /-- Whistle lines with a registered emission request, as a mask (R194). -/
  whReq : Nat
  /-- The device drives WH7 (R196). -/
  wh7 : Bool
  /-- Requesters fenced by the grant watchdog, as a mask (R365, R366). -/
  fences : Nat
  /-- The TMUs, by device number. -/
  tmus : Tab TmuState
  /-- The self-alignment passes running, by pack (R99). -/
  passes : Tab (Option AlignPass)
  /-- ALIGN commands waiting (R310). -/
  alignCmds : List AlignCmd
  /-- The channels' path values (R101). -/
  paths : Tab PathVal
  /-- Packs whose latest pass was a CONTACT pass (R103). -/
  contactRan : Tab Bool
  /-- Calibrated units: key 1024 × task + unit (R436). -/
  calUnits : Tab CalUnit
  /-- Calibration tasks running. -/
  calTasks : List CalTask
  /-- The open gap (R431). -/
  calGap : Option CalGap
  /-- CAL_END commands waiting (R443). -/
  calEnds : List CmdHdr
  /-- Tasks deferred in the last gap, tried first in the next (R431). -/
  calLate : List Nat
  /-- A calibration store that runs, and the command that waits for it (R442). -/
  calStore : Option (Option CmdHdr)
  /-- Device time of the last calibration store (R442). -/
  lastStore : Option Nat
  /-- The PSMs, by device number. -/
  psms : Tab PsmState
  /-- The AE cores, 0 to 7. -/
  aes : Tab AeCore
  /-- Library calls waiting for a core, in arrival order (R276). -/
  aeQueue : List AeCall
  /-- Fault-history entries written in the present HKO second (R415). -/
  histCount : Nat
  /-- Messages not written in the present HKO second (R415). -/
  histDrops : Nat
  /-- Entry number and SEQ of the next fault-history entry (R415). -/
  histNext : Nat × Nat
  /-- Thresholds taken and not re-armed, as a mask: dies at keys 0 to 4 (R423), stacks at 8 and 9 (R422). -/
  hkFired : Tab Nat
  /-- Consecutive readings of a diode whose residual exceeded 15 °C (R420). -/
  hkMiss : Tab Nat
  /-- The last 64 offsets of each diode from the mean of its neighbours, the latest first, in twelfths of
  1/16 °C (R428, GRAD). -/
  gradHist : Tab (List Int)
  /-- Time and temperature of the last accepted result of each pack and task that a live slot held, by 9 × pack + task
  (R440, R441). -/
  calAges : Tab (Nat × Nat)
  /-- The channel the housekeeping round reads next (R419). -/
  hkRound : Nat
  /-- WH7 is asserted on the card (R196). -/
  wh7In : Bool
  /-- Detection of WH7 is armed (R196). -/
  wh7Armed : Bool
  /-- The compatibility round is in effect (R419). -/
  hkCompat : Bool
  /-- The tick at which each line's request was registered (R194). -/
  whReqAt : Tab Nat
  /-- Events the device has sent and that are still to act: line and act tick (R194). -/
  whSent : List (Nat × Nat)
  /-- A device time committed for the next superframe start (R189). -/
  whSet : Option Nat
  /-- SWAP_TIME of the pending Whistle slot-table swap (R193). -/
  whSwap : Option Nat
  /-- The tick of the next frame start (R187). -/
  whNext : Nat
  /-- The node's synchronisation (R190, R191). -/
  sync : SyncState
  /-- Back-off exponents k[r,q], key 32 × requester + pseudo-channel (R362). -/
  mpaK : Tab Nat
  /-- One above the requester last granted in a class on a pseudo-channel, 0 for none; key 4 × q + class (R361). -/
  mpaLast : Tab Nat
  /-- The transaction in its data phase on each pseudo-channel (R360). -/
  mpaHold : Tab (Option MpaHold)
  /-- The granted transaction that waits for its data phase on each pseudo-channel (R360). -/
  mpaWait : Tab (Option MpaReq)
  /-- The tick at which a swap of the class table was requested, while it is pending (R368). -/
  classSwap : Option Nat
  /-- Memory commands that have read an uncorrectable burst (R373). -/
  ueHit : List CmdHdr
  /-- The instruction of the TAP: none is IDCODE as Test-Logic-Reset loads it (R476). -/
  tapIr : Option Nat
  /-- PWRGOOD is high (R446). -/
  pwrgood : Bool
  /-- VAUX is applied (R446). -/
  vaux : Bool
  /-- The ports: 0 A, 1 B, 2 the twin link. -/
  ports : Tab PortState
  /-- DMA_READ commands that send, oldest first (R309). -/
  dmaJobs : List DmaJob
  /-- Stream packets sent by each pack, modulo 16,384 (R294). -/
  strSeq : Tab Nat
  /-- Mirror packets sent, modulo 16,384 (R462). -/
  mirSeq : Nat
  /-- TWIN_RESYNC commands waiting, with the mirror items still to be acknowledged (R465). -/
  resyncs : List (CmdHdr × Nat)
  /-- The staged low word of DLOG_RD (R455). -/
  dlogStage : Nat
  /-- A wake request waits for Rest entry to end (R459). -/
  restWake : Bool
  /-- A start requested by the START command: warm or cold (true) (R466). -/
  startDue : Option Bool
  /-- A cold start, by its REASON, that waits in step 1 for its rails (R448). -/
  startHeld : Option Nat
  /-- The 80 bits of the MSP reply that the next frame shifts out (R470). -/
  mspReply : Nat
  /-- The MSP frame counter (R470). -/
  mspCount : Nat
  /-- The indirect MSP access that runs: a write or not, its address, its data (R473). -/
  mspInd : Option (Bool × Nat × Nat)
  /-- REG_POLL commands that poll, with the reads made (R304). -/
  polls : List (CmdHdr × Nat)
  /-- Routines abandoned for an URGENT command, the latest first; each restarts when the work that preempted it has ended
  (R326, R327). -/
  parked : List Routine
  /-- Context changes of reactions that wait for a routine that may not be abandoned (R326, R330): the sites of each, with
  their causes. -/
  siteWork : List (List (List Nat × Nat))
  /-- REG_WRITE commands between two routines of their chain (R328). -/
  chains : List ChainRun
  /-- Completions of ended work that wait for a routine's END (R326). -/
  ends : List UnitEnd
  /-- The last KEEPALIVE block sent on each lane of the twin link (R285, R461). -/
  keepOut : Option KeepInfo
  /-- The last KEEPALIVE sent on lane 0 of ports A and B (R382, R408). -/
  keepPorts : Tab (Option KeepInfo)
  /-- DEV_ID, TWINSEL and STEPPING as sent to the twin since the start (R460). -/
  twinOut : Option TwinInfo
  /-- DEV_ID, TWINSEL and STEPPING as received from the twin since the start (R460). -/
  twinPeer : Option TwinInfo
  /-- The ticks of the last act strobes that crossing 6 accepted towards PSC (0) and MCK (1) (R384, R387). -/
  strobeAt : Tab (Option Nat)
  /-- What MSP_SDO shifted out during the last frame: the number of bits of the reply, and those bits (R470, R471). -/
  mspSdo : Nat × Nat
deriving DecidableEq, Repr

/-- Faults of the model: none is raised; every command of the spec has an effect. -/
inductive Fault where
deriving DecidableEq, Repr

/-- Refusals. -/
inductive Refusal where
  /-- Raised by an arm of exec whose command has no meaning yet; no arm raises it when the row is
  complete. Safe: the machine stops. -/
  | notModelled (mnemonic : String)
deriving DecidableEq, Repr

/-- The state right after a cold start that loaded a valid image and found every unit good, with
straps DEVID 0 and TWINSEL 0 (assumption 1). -/
def State.reset : State :=
  { pending := []
    regs := []
    dram := []
    mram := []
    time := 0
    free := 0
    resp := .ok
    respData := 0
    latches := []
    muzzles := []
    faultIn := []
    fltPend := []
    condCauses := []
    inflight := []
    replies := []
    events := []
    evtSeq := 0
    evtLost := 0
    coreUp := true
    chans := []
    laneKept := []
    apgs := []
    ueCount := []
    runSerial := 0
    routine := none
    leashFrozen := false
    isoOut := 0
    isoAgain := false
    runs := []
    lockRun := []
    leashLen := []
    lastFlow := []
    slots := []
    marks := []
    siteStops := []
    ckptDue := false
    ctxChanged := false
    mirrorQ := []
    caps := []
    seqs := []
    groups := []
    pauses := []
    jumpCmds := []
    tsetSwaps := []
    swapCmds := []
    cues := []
    cueAt := []
    whReq := 0
    wh7 := false
    fences := 0
    tmus := []
    passes := []
    alignCmds := []
    paths := []
    contactRan := []
    calUnits := []
    calTasks := []
    calGap := none
    calEnds := []
    calLate := []
    calStore := none
    lastStore := none
    psms := []
    aes := []
    aeQueue := []
    histCount := 0
    histDrops := 0
    histNext := (0, 1)
    hkFired := []
    hkMiss := []
    gradHist := []
    calAges := []
    hkRound := 0
    wh7In := false
    wh7Armed := true
    hkCompat := false
    whReqAt := []
    whSent := []
    whSet := none
    whSwap := none
    whNext := 0
    sync := {}
    mpaK := []
    mpaLast := []
    mpaHold := []
    mpaWait := []
    classSwap := none
    ueHit := []
    tapIr := none
    pwrgood := true
    vaux := true
    ports := []
    dmaJobs := []
    strSeq := []
    mirSeq := 0
    resyncs := []
    dlogStage := 0
    restWake := false
    startDue := none
    startHeld := none
    mspReply := 0
    mspCount := 0
    mspInd := none
    polls := []
    parked := []
    siteWork := []
    chains := []
    ends := []
    keepOut := none
    keepPorts := []
    twinOut := none
    twinPeer := none
    strobeAt := []
    mspSdo := (0, 0) }

end Sys2Proof.Machine
end

