-- ==== Sys2Proof/Machine/Form.lean ====
section
/-! DEFINITION. The forms of the link commands: for each opcode, the checks of its payload's length and
fields that come before everything else it does (R295, R297). -/

namespace Sys2Proof.Machine

/-- Word i of a payload as a number; a missing word reads 0 (its length check has failed first). -/
def word (pl : List Word) (i : Nat) : Nat := (pl.getD i 0#32).toNat

/-- The check of a command with a fixed payload length and reserved bits: BAD_LENGTH for another
length, BAD_OPCODE where word i has a bit outside `masks[i]` set. -/
def fixedForm (masks : List Nat) (pl : List Word) : Option Status :=
  if pl.length ≠ masks.length then some .badLength
  else if (pl.zip masks).all (fun x => x.1.toNat &&& x.2 == x.1.toNat) then none
  else some .badOpcode

/-- A further check of a form that has passed. -/
def alsoForm (f : Option Status) (bad : Bool) (st : Status) : Option Status :=
  match f with
  | some x => some x
  | none => if bad then some st else none

/-- The form of a command whose words `k` and `k + 1` are FIRST and COUNT of a range of sites (R342). -/
def formRange (masks : List Nat) (k : Nat) (pl : List Word) : Option Status :=
  alsoForm (fixedForm masks pl) (decide (1024 < word pl k + word pl (k + 1))) .badAddress

/-- The DRAM byte address in words 0 and 1 of a memory command (R308). -/
def memAddr (pl : List Word) : Nat := word pl 0 + 2 ^ 32 * (word pl 1 % 8)

/-- The form of a memory command that has passed its length and field check: alignment, then range. -/
def formMem (f : Option Status) (align n : Nat) (pl : List Word) : Option Status :=
  alsoForm (alsoForm f (decide (memAddr pl % align ≠ 0)) .badAddress) (decide (2 ^ 35 < memAddr pl + n)) .badLength

/-- All 32 bits of a word. -/
def all32 : Nat := 0xFFFFFFFF

/-- The payload masks of AE_CALL (R273, R277). -/
def aeCallMasks : List Nat := [0x3FFFFFF, 0x1FFFFFFF, all32, 0x1FFFFFFF] ++ List.replicate 12 all32 ++ [0xF]

/-- Does word 0 of a call copy a result without naming one: KEY is 1 to 15 (R273); SITE_REDUCE ignores it (R274)? -/
def noKey (w : Nat) : Bool := w / 256 % 2 == 1 && w % 256 != 5 && w / 2 ^ 12 % 16 == 0

/-- A PSM command: word 0 is the device PSM (R248). -/
def formPsm (masks : List Nat) (pl : List Word) : Option Status :=
  alsoForm (fixedForm (0x7F :: masks) pl) (decide (96 ≤ word pl 0)) .badAddress

/-- A lock command: word 0 is RESOURCE, word 1 where present the leash length (R345). -/
def formLock (masks : List Nat) (pl : List Word) : Option Status :=
  alsoForm (alsoForm (fixedForm (0xFF :: masks) pl) (decide (64 ≤ word pl 0)) .badAddress)
    (decide (60000 < word pl 1)) .badOpcode

/-- The form check of an opcode: none where the payload passes. An opcode the table of R297 or its home
chapter does not assign is BAD_OPCODE. -/
def formOf (op : Nat) (pl : List Word) : Option Status :=
  match op with
  | 0x00 => fixedForm [all32, 0xFFF] pl
  | 0x01 => if pl.length = 0 then some .badLength else none
  | 0x02 => fixedForm [all32, all32, all32] pl
  | 0x03 => fixedForm [all32, all32, all32, all32] pl
  | 0x10 => formMem (fixedForm [all32, 7, 0xFFF] pl) 4 (4 * word pl 2) pl
  | 0x11 =>
    if pl.length < 2 then some .badLength
    else formMem (if 8 ≤ word pl 1 then some .badOpcode else none) 4 (4 * (pl.length - 2)) pl
  | 0x12 => formMem (fixedForm [all32, 7, all32, all32] pl) 64 (64 * word pl 2) pl
  | 0x13 => formMem (fixedForm [all32, 7, all32] pl) 64 (64 * word pl 2) pl
  | 0x20 => fixedForm [0xF, 0x1FFF] pl
  | 0x21 => fixedForm [0xF] pl
  | 0x22 => formRange [0xF, 0x3FF, 0x7FF] 1 pl
  | 0x23 => formRange [0x3FF, 0x7FF] 0 pl
  | 0x24 =>
    alsoForm (alsoForm (fixedForm [0x3FF, all32] pl) (decide (255 < word pl 1)) .badLength)
      (decide (1024 < word pl 0 + word pl 1)) .badAddress
  | 0x25 => formRange [0x3FF, 0x7FF] 0 pl
  | 0x26 => fixedForm [0x3FF] pl
  | 0x30 => fixedForm [0xFFFF, all32, 7, 0] pl
  | 0x31 => fixedForm [0xFFFF, 0x3FF, all32, all32] pl
  | 0x32 => fixedForm [0xFFFF] pl
  | 0x33 => fixedForm [0xFFFF, 0x3FF] pl
  | 0x34 => fixedForm [0xFFFF] pl
  | 0x35 => fixedForm [0xFFFF] pl
  | 0x36 => fixedForm [0xFFFF, 1] pl
  | 0x40 => formPsm [0x3FFFF] pl
  | 0x41 => formPsm [0x3F] pl
  | 0x42 => formPsm [all32, all32] pl
  | 0x43 => formPsm [1] pl
  | 0x44 => formPsm [0x3F] pl
  | 0x45 => formPsm [all32, all32] pl
  | 0x46 => formPsm [] pl
  | 0x47 => formPsm [] pl
  | 0x48 => formPsm [] pl
  | 0x49 => formPsm [] pl
  | 0x50 => fixedForm [0x1FF, all32, all32, all32, all32] pl
  | 0x51 => fixedForm (0x3F :: List.replicate 10 all32) pl
  | 0x52 => fixedForm [0x3F] pl
  | 0x5C =>
    alsoForm (fixedForm aeCallMasks pl) ((decide (8 ≤ word pl 16) && decide (word pl 16 < 15)) || noKey (word pl 0)) .badOpcode
  | 0x60 => fixedForm [0xFFFF, 1] pl
  | 0x61 => alsoForm (fixedForm [7, all32] pl) (word pl 0 % 4 == 3) .badOpcode
  | 0x62 => fixedForm [] pl
  | 0x63 => alsoForm (fixedForm [0xF, 0xFFFF] pl) (word pl 0 == 0 || decide (8 < word pl 0)) .badOpcode
  | 0x64 => fixedForm [] pl
  | 0x65 => fixedForm [0x1FF, 0xFFFF] pl
  | 0x66 => fixedForm [] pl
  | 0x70 => formLock [0xFFFF] pl
  | 0x71 => formLock [] pl
  | 0x72 => formLock [] pl
  | 0x73 => formLock [] pl
  | 0x80 => fixedForm [3] pl
  | 0x81 => fixedForm [1] pl
  | 0x82 => fixedForm [] pl
  | 0x83 => fixedForm [] pl
  | 0x84 => fixedForm [] pl
  | 0x85 =>
    alsoForm (alsoForm (fixedForm [0x3FF, 0x1FF] pl) (decide (255 < word pl 1)) .badLength)
      (decide (1024 < word pl 0 + word pl 1)) .badAddress
  | 0x86 => fixedForm [] pl
  | 0x8F => fixedForm [] pl
  | 0xF0 => fixedForm [] pl
  | 0xF1 => fixedForm [] pl
  | 0xF2 => none
  | _ => some .badOpcode

end Sys2Proof.Machine
end

