-- ==== Sys2Proof/Config.lean ====
section
/-! DEFINITION. The free values: constants without a body, for results that the spec says exist
without saying what they are. Each is applied to the counter of State that the step advances (or to
the operands it depends on), so no proof can see a value of one. -/

namespace Sys2Proof

/-- A word the spec leaves open (assumption 5). -/
opaque Config.freeWord : Nat → Word

/-- A truth value the spec leaves open: a microcode condition
(assumption 5). -/
opaque Config.freeBool : Nat → Bool

/-- Is a register of the always-alive window, by its address, held in CORE (R472 names no such register;
assumption 5)? -/
opaque Config.coreHeld : Nat → Bool

/-- The TAP instructions that R476 names; any other code is `other`. -/
inductive TapInstr
  | bypass | idcode | sample | extest | extestPulse | extestTrain | clamp | highz | other
deriving DecidableEq, Repr, Inhabited

/-- The TAP instruction of a code that is not all ones (R476 gives no codes; assumption 5). -/
opaque Config.tapInstr : Nat → TapInstr

/-- What an interval computes to when the two calibration codes have one corrected code, by its numerator: the
spec states no result there (R206; assumption 105). -/
opaque Config.overZero : Int → Int

/-- The power of full scale that SPECTRUM (by its window) and ADC_DYNAMIC (by FULL_SCALE) refer to, over N samples, in the
units of their powers (R274; assumption 154). -/
opaque Config.fullScale : Nat → Nat → Nat → Nat

/-- How far a lane receiver's equalisation of RX_EQ dB at 6.4 GHz takes its output, in µV, from the last of a course of
inputs (R73 gives the peaking and no course of the response; assumption 171). -/
opaque Config.peaking : Nat → List Int → Int

/-- KEY_HASH, the number that the fuses hold (R324; the spec gives no value). -/
opaque Config.keyHash : Nat

end Sys2Proof
end

