-- ==== Sys2Proof/Machine/Regs.lean ====
section
/-! DEFINITION. The register map: every register of the field maps of spec/ with its place, fields,
access codes and reset values (R24 to R26, and the rule named beside each address), the address of
each register, a reference to each field, and the value of a word nothing has written since the
cold start. -/

namespace Sys2Proof.Machine

/-- The access codes (R3): RO, RW, RWS, WO, W1C. -/
inductive Acc where
  | ro | rw | rws | wo | w1c
deriving DecidableEq, Repr

/-- A field of a register: place, access code, cold-reset value, and the value a warm reset gives
(`none`: kept, or set by the warm start's own rules). -/
structure Fld where
  name : String
  lo : Nat
  w : Nat
  acc : Acc
  cold : Nat
  warm : Option Nat
deriving DecidableEq, Repr

/-- A register, or an array of them: the offset of the first from the base of its block, the
array's dimensions as (count, stride) from the outermost, and the fields. -/
structure RegRow where
  name : String
  off : Nat
  dims : List (Nat × Nat)
  flds : List Fld
deriving DecidableEq, Repr

/-- A field at an address. -/
structure Ref where
  addr : Nat
  lo : Nat
  w : Nat
deriving DecidableEq, Repr

/-- Registers of the global block (0x0000_0000). -/
def rows_glb : List RegRow :=
  [
  ⟨"GLB_ID", 0x0, [], [⟨"PART_NUMBER", 16, 16, .ro, 0x5120, (some 0x5120)⟩,
     ⟨"STEPPING", 12, 4, .ro, 1, (some 1)⟩,
     ⟨"TWIN_MEMBER", 7, 1, .ro, 0, none⟩,
     ⟨"DEV_ID", 0, 5, .ro, 0, none⟩]⟩,
  ⟨"GLB_AVAIL", 0x4, [], [⟨"PACK_AVAIL", 0, 16, .ro, 0xffff, none⟩,
     ⟨"AE_AVAIL", 16, 8, .ro, 0xff, none⟩,
     ⟨"PFE_AVAIL", 24, 4, .ro, 0xf, none⟩,
     ⟨"DRAM_AVAIL", 28, 2, .ro, 3, none⟩]⟩,
  ⟨"GLB_START", 0x10, [], [⟨"START_OK", 0, 1, .ro, 1, none⟩,
     ⟨"WARM_FAILS", 1, 2, .ro, 0, none⟩,
     ⟨"LAST_KIND", 3, 1, .ro, 1, (some 0)⟩,
     ⟨"REASON", 4, 3, .ro, 0, (some 1)⟩,
     ⟨"START_FAIL", 7, 1, .ro, 0, (some 0)⟩,
     ⟨"STEP", 8, 4, .ro, 0xd, none⟩,
     ⟨"CKPT_NONE", 12, 1, .ro, 0, none⟩]⟩,
  ⟨"GLB_REST", 0x14, [], [⟨"STATE", 0, 2, .ro, 0, (some 0)⟩,
     ⟨"WAKE", 2, 1, .wo, 0, (some 0)⟩]⟩,
  ⟨"GLB_CKPT", 0x18, [], [⟨"CKPT_MS", 0, 16, .rws, 0x3e8, none⟩]⟩,
  ⟨"DLOG_BASE", 0x40, [], [⟨"BASE", 0, 29, .rws, 0, none⟩]⟩,
  ⟨"DLOG_SIZE", 0x44, [], [⟨"SIZE", 0, 16, .rws, 0, none⟩]⟩,
  ⟨"DLOG_WR_LO", 0x48, [], [⟨"WR", 0, 32, .ro, 0, none⟩]⟩,
  ⟨"DLOG_WR_HI", 0x4C, [], [⟨"WR", 0, 32, .ro, 0, none⟩]⟩,
  ⟨"DLOG_RD_LO", 0x50, [], [⟨"RD", 0, 32, .rw, 0, none⟩]⟩,
  ⟨"DLOG_RD_HI", 0x54, [], [⟨"RD", 0, 32, .rw, 0, none⟩]⟩,
  ⟨"DLOG_LOST", 0x58, [], [⟨"COUNT", 0, 32, .ro, 0, none⟩]⟩]

/-- Registers of the fault collector (0x0001_0000). -/
def rows_flt : List RegRow :=
  [
  ⟨"FLT_STATUS", 0x0, [], [⟨"STATE", 0, 2, .ro, 0, (some 0)⟩,
     ⟨"FIRST_VALID", 2, 1, .ro, 0, none⟩,
     ⟨"HIST_DROP", 3, 1, .w1c, 0, none⟩]⟩,
  ⟨"FLT_PENDING", 0x4, [], [⟨"PENDING", 0, 8, .w1c, 0, none⟩]⟩,
  ⟨"FLT_CLEAR", 0x8, [], [⟨"CLEAR_STOP", 0, 1, .wo, 0, (some 0)⟩,
     ⟨"CLEAR_SAFE", 1, 1, .wo, 0, (some 0)⟩,
     ⟨"CLEAR_FIRST", 2, 1, .wo, 0, (some 0)⟩]⟩,
  ⟨"FLT_ALERT_MASK", 0xC, [], [⟨"MASK", 0, 8, .rws, 0xff, none⟩]⟩,
  ⟨"FLT_FIRST_LO", 0x10, [], [⟨"MESSAGE", 0, 32, .ro, 0, none⟩]⟩,
  ⟨"FLT_FIRST_HI", 0x14, [], [⟨"MESSAGE", 0, 32, .ro, 0, none⟩]⟩,
  ⟨"FLT_FIRST_INFO", 0x18, [], [⟨"SEV_TAKEN", 0, 3, .ro, 0, none⟩,
     ⟨"SEV_PROG", 3, 3, .ro, 0, none⟩,
     ⟨"ESCALATED", 6, 1, .ro, 0, none⟩]⟩,
  ⟨"FLT_FIRST_TIME_LO", 0x1C, [], [⟨"TIME", 0, 32, .ro, 0, none⟩]⟩,
  ⟨"FLT_FIRST_TIME_HI", 0x20, [], [⟨"TIME", 0, 32, .ro, 0, none⟩]⟩,
  ⟨"FLT_MSG_CNT", 0x24, [], [⟨"COUNT", 0, 32, .ro, 0, none⟩]⟩,
  ⟨"FLT_LOG_IDX", 0x28, [], [⟨"NEXT", 0, 6, .ro, 0, none⟩]⟩,
  ⟨"FLT_HIST_DROP", 0x2C, [], [⟨"COUNT", 0, 32, .ro, 0, none⟩]⟩] ++ [
  ⟨"FLT_UNMUZZLE", 0x30, [], [⟨"UNIT_TYPE", 0, 4, .wo, 0, (some 0)⟩,
     ⟨"INDEX", 8, 12, .wo, 0, (some 0)⟩]⟩,
  ⟨"FLT_MUZZLE", 0x34, [], [⟨"UNIT_TYPE", 0, 4, .wo, 0, (some 0)⟩,
     ⟨"INDEX", 8, 12, .wo, 0, (some 0)⟩]⟩,
  ⟨"FLT_SEV", 0x100, [(52, 0x4)], [⟨"SEV0", 0, 3, .rws, 0, none⟩,
     ⟨"SEV1", 4, 3, .rws, 0, none⟩,
     ⟨"SEV2", 8, 3, .rws, 0, none⟩,
     ⟨"SEV3", 12, 3, .rws, 0, none⟩,
     ⟨"SEV4", 16, 3, .rws, 0, none⟩,
     ⟨"SEV5", 20, 3, .rws, 0, none⟩,
     ⟨"SEV6", 24, 3, .rws, 0, none⟩,
     ⟨"SEV7", 28, 3, .rws, 0, none⟩]⟩]

/-- Registers of the housekeeping (0x0002_0000). -/
def rows_hk : List RegRow :=
  [
  ⟨"HK_CTL", 0x0, [], [⟨"COMPAT", 0, 1, .rws, 0, none⟩,
     ⟨"XCHECK_EN", 1, 1, .rws, 1, none⟩]⟩,
  ⟨"HK_STATUS", 0x4, [], [⟨"BROKEN", 0, 5, .ro, 0, none⟩,
     ⟨"DEFER", 5, 1, .ro, 0, none⟩,
     ⟨"WARN_ACTIVE", 6, 1, .ro, 0, none⟩,
     ⟨"STOP_ACTIVE", 7, 1, .ro, 0, none⟩,
     ⟨"TRIP", 8, 1, .ro, 0, none⟩,
     ⟨"NO_DIODE", 9, 1, .ro, 0, none⟩,
     ⟨"DRAM_WARN", 10, 2, .ro, 0, none⟩,
     ⟨"DRAM_STOP", 12, 2, .ro, 0, none⟩]⟩,
  ⟨"HK_TEMP", 0x10, [(5, 0x4)], [⟨"READING", 0, 16, .ro, 0, none⟩,
     ⟨"EFFECTIVE", 16, 16, .ro, 0, none⟩]⟩,
  ⟨"HK_GRAD", 0x30, [(5, 0x4)], [⟨"GRAD", 0, 16, .rws, 0, none⟩]⟩,
  ⟨"HK_TMAX", 0x44, [], [⟨"TMAX", 0, 16, .ro, 0, none⟩,
     ⟨"PEAK", 16, 16, .ro, 0, none⟩]⟩]

/-- Registers of the clock generation (0x0003_0000). -/
def rows_clk : List RegRow :=
  [
  ⟨"CLK_STATUS", 0x0, [], [⟨"REF_OK", 0, 1, .ro, 1, (some 1)⟩,
     ⟨"ROOT_LOCK", 1, 1, .ro, 1, (some 1)⟩,
     ⟨"DRM_LOCK", 2, 2, .ro, 3, (some 3)⟩,
     ⟨"HKO_OK", 4, 1, .ro, 1, (some 1)⟩,
     ⟨"WHS_OK", 5, 1, .ro, 0, none⟩,
     ⟨"TTB_FROM_ROOT", 6, 1, .ro, 1, none⟩,
     ⟨"REF_LOST_SEEN", 8, 1, .w1c, 0, none⟩,
     ⟨"UNLOCK_SEEN", 9, 1, .w1c, 0, none⟩,
     ⟨"HKO_RANGE", 10, 1, .w1c, 0, none⟩]⟩,
  ⟨"CLK_SEQ_ON", 0x4, [], [⟨"SEQ_ON", 0, 16, .ro, 0xffff, none⟩]⟩,
  ⟨"CLK_OVR", 0x8, [], [⟨"OVR", 0, 19, .w1c, 0, (some 0)⟩]⟩,
  ⟨"CLK_JUMP", 0xC, [], [⟨"JUMP", 0, 19, .w1c, 0, (some 0)⟩]⟩,
  ⟨"CLK_GRP_CTL", 0x10, [], [⟨"FREEZE", 0, 6, .rw, 0, (some 0)⟩,
     ⟨"MUZZLE", 8, 6, .rw, 0, (some 0)⟩,
     ⟨"RESET", 16, 6, .wo, 0, (some 0)⟩]⟩,
  ⟨"CLK_GRP_STATUS", 0x14, [], [⟨"DRAINED", 0, 6, .ro, 0, (some 0)⟩,
     ⟨"IN_RESET", 8, 6, .ro, 0, (some 0)⟩,
     ⟨"CLOCK_PRESENT", 16, 6, .ro, 0, none⟩]⟩,
  ⟨"CLK_FLUSH_CNT", 0x18, [], [⟨"COUNT", 0, 32, .ro, 0, none⟩]⟩,
  ⟨"CLK_SEQ_PHASE", 0x40, [(16, 0x4)], [⟨"PHASE", 0, 6, .ro, 0, none⟩]⟩]

/-- Registers of the link (0x0004_0000). -/
def rows_lnk : List RegRow :=
  [
  ⟨"LNK_CTL", 0x0, [(2, 0x100)], [⟨"MAX_RATE", 0, 2, .rws, 3, none⟩,
     ⟨"LANE_EN", 2, 4, .rws, 0xf, none⟩,
     ⟨"RETRAIN", 6, 1, .wo, 0, (some 0)⟩]⟩,
  ⟨"LNK_STATUS", 0x4, [(2, 0x100)], [⟨"STATE", 0, 3, .ro, 0, (some 1)⟩,
     ⟨"RATE", 3, 2, .ro, 0, (some 0)⟩,
     ⟨"LANES_UP", 5, 4, .ro, 0, (some 0)⟩,
     ⟨"PARTNER", 16, 6, .ro, 0x3f, (some 0x3f)⟩,
     ⟨"LANE_LOST", 24, 1, .w1c, 0, (some 0)⟩,
     ⟨"DOWN_SEEN", 25, 1, .w1c, 0, (some 0)⟩,
     ⟨"DISCARDED", 26, 1, .w1c, 0, (some 0)⟩,
     ⟨"RETRAINED", 27, 1, .w1c, 0, (some 0)⟩]⟩,
  ⟨"LNK_CRC_CNT", 0x8, [(2, 0x100)], [⟨"COUNT", 0, 32, .ro, 0, (some 0)⟩]⟩,
  ⟨"LNK_REPLAY_CNT", 0xC, [(2, 0x100)], [⟨"COUNT", 0, 32, .ro, 0, (some 0)⟩]⟩,
  ⟨"LNK_RETRAIN_CNT", 0x10, [(2, 0x100)], [⟨"COUNT", 0, 32, .ro, 0, none⟩]⟩,
  ⟨"LNK_DISCARD_CNT", 0x14, [(2, 0x100)], [⟨"COUNT", 0, 32, .ro, 0, none⟩]⟩,
  ⟨"LNK_FWD", 0x18, [(2, 0x100)], [⟨"FWD_SHARE", 0, 4, .rws, 0xc, none⟩]⟩,
  ⟨"LNK_EVT_CFG", 0x200, [], [⟨"EVENT_PORT", 0, 1, .rws, 0, none⟩,
     ⟨"EVENT_EN", 1, 1, .rws, 1, none⟩,
     ⟨"EVENT_SESSION", 2, 2, .rws, 0, none⟩]⟩,
  ⟨"LNK_EVT_LOST", 0x204, [], [⟨"COUNT", 0, 32, .ro, 0, none⟩]⟩,
  ⟨"LNK_INFLIGHT", 0x208, [], [⟨"COUNT", 0, 15, .ro, 0, none⟩]⟩,
  ⟨"LNK_SESSION", 0x20C, [], [⟨"BUSY", 0, 4, .ro, 0, none⟩,
     ⟨"HOME", 4, 4, .ro, 0, none⟩]⟩,
  ⟨"LNK_RX_STATUS", 0x210, [], [⟨"BAD_PACKET", 0, 1, .w1c, 0, (some 0)⟩,
     ⟨"DUP_ID", 1, 1, .w1c, 0, (some 0)⟩,
     ⟨"DEVID_STRAP", 2, 1, .w1c, 0, (some 0)⟩,
     ⟨"EMERGENCY", 3, 1, .w1c, 0, (some 0)⟩,
     ⟨"SWAP_PENDING_A", 4, 1, .ro, 0, (some 0)⟩,
     ⟨"SWAP_PENDING_B", 5, 1, .ro, 0, (some 0)⟩]⟩] ++ [
  ⟨"LNK_BADPKT_CNT", 0x214, [], [⟨"COUNT", 0, 32, .ro, 0, (some 0)⟩]⟩,
  ⟨"LNK_A_SLOT_SH", 0x400, [(16, 0x4)], [⟨"ENTRIES", 0, 32, .rw, 0, none⟩]⟩,
  ⟨"LNK_A_SLOT_ACT", 0x440, [(16, 0x4)], [⟨"ENTRIES", 0, 32, .ro, 0, none⟩]⟩,
  ⟨"LNK_B_SLOT_SH", 0x480, [(16, 0x4)], [⟨"ENTRIES", 0, 32, .rw, 0, none⟩]⟩,
  ⟨"LNK_B_SLOT_ACT", 0x4C0, [(16, 0x4)], [⟨"ENTRIES", 0, 32, .ro, 0, none⟩]⟩]

/-- Registers of the MPA and DRAM controllers (0x0005_0000). -/
def rows_mpa : List RegRow :=
  [
  ⟨"MPA_CTL", 0x0, [], [⟨"FREEZE", 0, 1, .rw, 0, (some 0)⟩]⟩,
  ⟨"MPA_STATUS", 0x4, [], [⟨"DRAINED", 0, 1, .ro, 0, (some 0)⟩,
     ⟨"CLASS_SWAP_PENDING", 1, 1, .ro, 0, (some 0)⟩,
     ⟨"WDOG_BITE", 2, 1, .w1c, 0, (some 0)⟩]⟩,
  ⟨"MPA_WDOG", 0x8, [], [⟨"LIMIT", 0, 24, .rws, 0x4000, none⟩]⟩,
  ⟨"MPA_SWAP", 0xC, [], [⟨"CLASS", 0, 1, .wo, 0, (some 0)⟩,
     ⟨"SLOT_A", 1, 1, .wo, 0, (some 0)⟩,
     ⟨"SLOT_B", 2, 1, .wo, 0, (some 0)⟩]⟩,
  ⟨"MPA_MAP", 0x10, [], [⟨"MAP", 0, 1, .rws, 1, none⟩,
     ⟨"MAP_ACTIVE", 1, 1, .ro, 1, none⟩]⟩,
  ⟨"MPA_CLASS_SH", 0x20, [(3, 0x4)], [⟨"CLASS", 0, 32, .rws, 0, none⟩]⟩,
  ⟨"MPA_CLASS_ACT", 0x30, [(3, 0x4)], [⟨"CLASS", 0, 32, .ro, 0, none⟩]⟩,
  ⟨"MPA_REQ", 0x40, [(44, 0x4)], [⟨"K_MAX", 0, 4, .ro, 0, (some 0)⟩,
     ⟨"HOLDING", 4, 1, .ro, 0, (some 0)⟩,
     ⟨"FENCED", 5, 1, .ro, 0, none⟩]⟩,
  ⟨"DRM_STATUS", 0x100, [(2, 0x80)], [⟨"TRAINED", 0, 1, .ro, 1, none⟩,
     ⟨"SELF_REFRESH", 1, 1, .ro, 0, (some 0)⟩,
     ⟨"UE_SEEN", 8, 1, .w1c, 0, (some 0)⟩,
     ⟨"PC_FAIL", 9, 1, .w1c, 0, (some 0)⟩,
     ⟨"TEMP", 16, 8, .ro, 0, none⟩]⟩,
  ⟨"DRM_PC_MUZZLED", 0x104, [(2, 0x80)], [⟨"MUZZLED", 0, 16, .ro, 0, none⟩]⟩,
  ⟨"DRM_CE_CNT", 0x108, [(2, 0x80)], [⟨"COUNT", 0, 32, .ro, 0, none⟩]⟩,
  ⟨"DRM_UE_CNT", 0x10C, [(2, 0x80)], [⟨"COUNT", 0, 32, .ro, 0, none⟩]⟩]

/-- Registers of the MRAM store (0x0006_0000). -/
def rows_mrm : List RegRow :=
  [
  ⟨"MRM_CTL", 0x0, [], [⟨"GO", 0, 1, .wo, 0, (some 0)⟩,
     ⟨"DIR", 1, 1, .rw, 0, (some 0)⟩]⟩,
  ⟨"MRM_DRAM", 0x4, [], [⟨"DRAM_UNIT", 0, 29, .rw, 0, (some 0)⟩]⟩,
  ⟨"MRM_OFFSET", 0x8, [], [⟨"MRAM_UNIT", 0, 20, .rw, 0, (some 0)⟩]⟩,
  ⟨"MRM_LEN", 0xC, [], [⟨"UNITS", 0, 21, .rw, 0, (some 0)⟩]⟩,
  ⟨"MRM_STATUS", 0x10, [], [⟨"BUSY", 0, 1, .ro, 0, (some 0)⟩,
     ⟨"DONE", 1, 1, .w1c, 0, (some 0)⟩,
     ⟨"ERR", 2, 1, .w1c, 0, (some 0)⟩,
     ⟨"UE_SEEN", 3, 1, .w1c, 0, (some 0)⟩,
     ⟨"RECORD_BAD", 4, 1, .w1c, 0, (some 0)⟩]⟩,
  ⟨"MRM_CE_CNT", 0x14, [], [⟨"COUNT", 0, 32, .ro, 0, none⟩]⟩]

/-- Registers of the Whistle (0x0007_0000). -/
def rows_wht : List RegRow :=
  [
  ⟨"WH_CTL", 0x0, [], [⟨"MASTER", 0, 1, .rws, 0, none⟩,
     ⟨"ALLSTOP_IN", 1, 1, .rws, 1, none⟩,
     ⟨"ALLSTOP_OUT", 2, 1, .rws, 0, none⟩,
     ⟨"NODE", 8, 6, .rws, 0, none⟩]⟩,
  ⟨"WH_STATUS", 0x4, [], [⟨"STATE", 0, 3, .ro, 1, none⟩,
     ⟨"SWAP_PENDING", 3, 1, .ro, 0, (some 0)⟩,
     ⟨"SYNC_LOST", 4, 1, .w1c, 0, (some 0)⟩,
     ⟨"TIME_SLIP", 5, 1, .w1c, 0, (some 0)⟩,
     ⟨"MASTER_CONFLICT", 6, 1, .w1c, 0, (some 0)⟩,
     ⟨"ALLSTOP_SEEN", 7, 1, .w1c, 0, (some 0)⟩,
     ⟨"ECHO_MISS", 8, 1, .w1c, 0, (some 0)⟩,
     ⟨"WHS_LOST", 9, 1, .w1c, 0, (some 0)⟩]⟩,
  ⟨"WH_DELAY", 0x8, [], [⟨"DELAY", 0, 16, .ro, 0, none⟩,
     ⟨"PHASE_ERR", 16, 16, .ro, 0, (some 0)⟩]⟩,
  ⟨"WH_TIME_LO", 0xC, [], [⟨"TIME_LO", 0, 32, .ro, 0, none⟩]⟩,
  ⟨"WH_TIME_HI", 0x10, [], [⟨"TIME_HI", 0, 32, .ro, 0, none⟩]⟩,
  ⟨"WH_TIME_SET_LO", 0x14, [], [⟨"SET_LO", 0, 32, .rw, 0, (some 0)⟩]⟩,
  ⟨"WH_TIME_SET_HI", 0x18, [], [⟨"SET_HI", 0, 32, .rw, 0, (some 0)⟩]⟩,
  ⟨"WH_SWAP_LO", 0x1C, [], [⟨"SWAP_LO", 0, 32, .rw, 0, (some 0)⟩]⟩,
  ⟨"WH_SWAP_HI", 0x20, [], [⟨"SWAP_HI", 0, 32, .rw, 0, (some 0)⟩]⟩,
  ⟨"WH_EMIT", 0x24, [], [⟨"LINES", 0, 7, .wo, 0, (some 0)⟩]⟩,
  ⟨"WH_ALLSTOP", 0x28, [], [⟨"ASSERT", 0, 1, .wo, 0, (some 0)⟩]⟩,
  ⟨"WH_EVT_CNT", 0x40, [(7, 0x4)], [⟨"COUNT", 0, 32, .ro, 0, (some 0)⟩]⟩] ++ [
  ⟨"WH_MERGE_CNT", 0x60, [(7, 0x4)], [⟨"COUNT", 0, 32, .ro, 0, (some 0)⟩]⟩,
  ⟨"WH_SLOT_SH", 0x400, [(128, 0x4)], [⟨"ENTRIES", 0, 32, .rw, 0, none⟩]⟩,
  ⟨"WH_SLOT_ACT", 0x600, [(128, 0x4)], [⟨"ENTRIES", 0, 32, .ro, 0, none⟩]⟩]

/-- Registers of the twin (0x0007_1000). -/
def rows_twn : List RegRow :=
  [
  ⟨"TWN_CTL", 0x1000, [], [⟨"MIRROR_EN", 0, 1, .rws, 0, none⟩,
     ⟨"FALLBACK_PORT", 1, 1, .rws, 1, none⟩]⟩,
  ⟨"TWN_STATUS", 0x1004, [], [⟨"STATE", 0, 2, .ro, 0, (some 0)⟩,
     ⟨"PARTNER_ID", 2, 5, .ro, 0, (some 0)⟩,
     ⟨"LINK_UP", 7, 1, .ro, 0, (some 0)⟩,
     ⟨"TWIN_LOST", 8, 1, .w1c, 0, (some 0)⟩,
     ⟨"LANE_LOST", 9, 1, .w1c, 0, (some 0)⟩,
     ⟨"CONFIG_ERR", 10, 1, .w1c, 0, (some 0)⟩,
     ⟨"MIRROR_ERR", 11, 1, .w1c, 0, (some 0)⟩]⟩,
  ⟨"TWN_MIR_BASE", 0x1008, [], [⟨"MIR_BASE", 0, 29, .rws, 0, none⟩]⟩,
  ⟨"TWN_MIR_RSTRIDE", 0x100C, [], [⟨"MIR_RSTRIDE", 0, 16, .rws, 0x10, none⟩]⟩,
  ⟨"TWN_MIR_LAG", 0x1010, [], [⟨"MIR_LAG", 0, 32, .ro, 0, (some 0)⟩]⟩]

/-- Registers of the Shepherd (0x0008_0000). -/
def rows_shp : List RegRow :=
  [
  ⟨"SHP_SITE_CTL", 0x8000, [(1024, 0x20)], [⟨"STATE", 0, 3, .ro, 0, none⟩,
     ⟨"KIND", 3, 1, .ro, 0, none⟩,
     ⟨"CAUSE", 4, 4, .ro, 0, none⟩,
     ⟨"FAILS_KEPT", 8, 1, .ro, 0, none⟩,
     ⟨"FFB_VALID", 9, 1, .ro, 0, none⟩,
     ⟨"BIN", 16, 16, .ro, 0, none⟩]⟩,
  ⟨"SHP_SITE_FFB_LO", 0x8004, [(1024, 0x20)], [⟨"FFB_LO", 0, 32, .ro, 0, none⟩]⟩,
  ⟨"SHP_SITE_FFB_HI", 0x8008, [(1024, 0x20)], [⟨"FFB_HI", 0, 32, .ro, 0, none⟩]⟩,
  ⟨"SHP_SITE_FAILS", 0x800C, [(1024, 0x20)], [⟨"FAIL_COUNT", 0, 32, .ro, 0, none⟩]⟩,
  ⟨"SHP_SITE_FLOW", 0x8010, [(1024, 0x20)], [⟨"FLOW_STEP", 0, 16, .ro, 0, none⟩,
     ⟨"RETEST_COUNT", 16, 8, .ro, 0, none⟩]⟩,
  ⟨"SHP_SITE_REPAIR", 0x8014, [(1024, 0x20)], [⟨"REPAIR_PTR", 0, 29, .ro, 0, none⟩]⟩,
  ⟨"SHP_SITE_MEAS", 0x8018, [(1024, 0x20)], [⟨"MEAS_VALID", 0, 8, .ro, 0, none⟩]⟩,
  ⟨"SHP_STATUS", 0x0, [], [⟨"IMAGE_OK", 0, 1, .ro, 1, none⟩,
     ⟨"SLOT", 1, 1, .ro, 0, none⟩,
     ⟨"AUTH_FAIL_A", 2, 1, .w1c, 0, none⟩,
     ⟨"AUTH_FAIL_B", 3, 1, .w1c, 0, none⟩,
     ⟨"ORDER_FAULT", 4, 1, .w1c, 0, (some 0)⟩,
     ⟨"OVERRUN", 5, 1, .w1c, 0, (some 0)⟩,
     ⟨"STORE_CHECK", 6, 1, .w1c, 0, (some 0)⟩]⟩,
  ⟨"SHP_IMAGE_VER", 0x4, [], [⟨"VERSION", 0, 32, .ro, 0, none⟩]⟩,
  ⟨"SHP_RESTART_CNT", 0x8, [], [⟨"COUNT", 0, 32, .ro, 0, (some 0)⟩]⟩,
  ⟨"SHP_PROTECT_CNT", 0xC, [], [⟨"COUNT", 0, 32, .ro, 0, (some 0)⟩]⟩,
  ⟨"SHP_LEASH_DEFAULT", 0x10, [], [⟨"LEASH", 0, 16, .rws, 0xc8, none⟩]⟩] ++ [
  ⟨"SHP_FLOW", 0x40, [(16, 0x4)], [⟨"OFFSET", 0, 13, .ro, 0, none⟩,
     ⟨"LOADED", 16, 1, .ro, 0, none⟩,
     ⟨"RUN_SITES", 17, 11, .ro, 0, (some 0)⟩]⟩,
  ⟨"SHP_LOCK", 0x100, [(64, 0x4)], [⟨"OWNER", 0, 2, .ro, 0, none⟩,
     ⟨"HELD", 2, 1, .ro, 0, none⟩,
     ⟨"DIRTY", 3, 1, .ro, 0, none⟩,
     ⟨"BY_RUN", 4, 1, .ro, 0, (some 0)⟩,
     ⟨"REMAIN_MS", 16, 16, .ro, 0, none⟩]⟩]

/-- Registers of the calibration (0x0008_1000). -/
def rows_cal : List RegRow :=
  [
  ⟨"CAL_CTL", 0x1000, [], [⟨"AUTO", 1, 8, .rws, 0x3f, none⟩,
     ⟨"AUTO_STORE", 9, 1, .rws, 1, none⟩]⟩,
  ⟨"CAL_STATUS", 0x1004, [], [⟨"GAP_OPEN", 0, 1, .ro, 0, (some 0)⟩,
     ⟨"GAP_KIND", 1, 2, .ro, 0, (some 0)⟩,
     ⟨"STORE_BUSY", 3, 1, .ro, 0, (some 0)⟩,
     ⟨"FACT_BAD", 4, 1, .ro, 0, none⟩,
     ⟨"LIVE_NONE", 5, 1, .ro, 0, none⟩,
     ⟨"LIVE_SLOT", 6, 1, .ro, 0, none⟩,
     ⟨"STORE_ERR", 7, 1, .w1c, 0, none⟩,
     ⟨"RUNNING", 16, 9, .ro, 0, (some 0)⟩]⟩,
  ⟨"CAL_INTERVAL", 0x1014, [(8, 0x4)], [⟨"SECONDS", 0, 24, .rws, 0xe10, none⟩]⟩,
  ⟨"CAL_REST", 0x1040, [], [⟨"REST_MS", 0, 16, .rws, 0x32, none⟩,
     ⟨"STORE_MIN", 16, 16, .rws, 0x3c, none⟩]⟩]

/-- Registers of the MSP and GPIO (0x0009_0000). -/
def rows_msp : List RegRow :=
  [
  ⟨"MSP_STATUS", 0x0, [], [⟨"FAULT_STATE", 0, 2, .ro, 0, none⟩,
     ⟨"ALERT", 2, 1, .ro, 0, none⟩,
     ⟨"CORE_UP", 3, 1, .ro, 0, none⟩,
     ⟨"REST", 4, 2, .ro, 0, (some 0)⟩,
     ⟨"START_OK", 6, 1, .ro, 0, none⟩,
     ⟨"START_FAIL", 7, 1, .ro, 0, (some 0)⟩,
     ⟨"TWIN", 8, 2, .ro, 0, (some 0)⟩,
     ⟨"TMAX", 16, 16, .ro, 0, none⟩]⟩,
  ⟨"MSP_ALIVE", 0x4, [], [⟨"REFERENCE", 0, 8, .ro, 0, none⟩,
     ⟨"HAS_REF", 8, 1, .ro, 0, none⟩,
     ⟨"BAD_FRAME", 9, 1, .w1c, 0, none⟩,
     ⟨"MSP_BAD_CNT", 16, 16, .ro, 0, none⟩]⟩,
  ⟨"MSP_IND_ADDR", 0x8, [], [⟨"ADDR", 0, 32, .rw, 0, none⟩]⟩,
  ⟨"MSP_IND_DATA", 0xC, [], [⟨"DATA", 0, 32, .ro, 0, none⟩]⟩,
  ⟨"MSP_IND_STATUS", 0x10, [], [⟨"CODE", 0, 8, .ro, 0, (some 0)⟩,
     ⟨"BUSY", 8, 1, .ro, 0, (some 0)⟩,
     ⟨"DONE", 9, 1, .w1c, 0, (some 0)⟩]⟩,
  ⟨"MSP_TAP", 0x14, [], [⟨"TAP_REFUSED", 0, 1, .w1c, 0, none⟩]⟩,
  ⟨"GPIO_DIR", 0x100, [], [⟨"DIR", 0, 16, .rws, 0, none⟩]⟩,
  ⟨"GPIO_OUT", 0x104, [], [⟨"OUT", 0, 16, .rws, 0, none⟩]⟩,
  ⟨"GPIO_IN", 0x108, [], [⟨"IN", 0, 16, .ro, 0, none⟩]⟩,
  ⟨"GPIO_SAFE", 0x10C, [], [⟨"SAFE_OUT", 0, 16, .rws, 0, none⟩,
     ⟨"SAFE_DIR", 16, 16, .rws, 0, none⟩]⟩,
  ⟨"GPIO_ISO", 0x110, [], [⟨"ISO_LEN", 0, 11, .rws, 0, none⟩,
     ⟨"ISO_EN", 16, 1, .rws, 0, none⟩,
     ⟨"ISO_GO", 17, 1, .wo, 0, (some 0)⟩,
     ⟨"BUSY", 18, 1, .ro, 0, (some 0)⟩]⟩,
  ⟨"GPIO_ISO_IMG", 0x200, [(32, 0x4)], [⟨"BITS", 0, 32, .rws, 0, none⟩]⟩]

/-- Registers of the pack sequencer unit (pack +0x0000). -/
def rows_seq : List RegRow :=
  [
  ⟨"SEQ_CTL", 0x0, [], [⟨"FLAG", 0, 1, .rw, 0, (some 0)⟩,
     ⟨"PAUSE", 1, 1, .rw, 0, (some 0)⟩]⟩,
  ⟨"SEQ_STATUS", 0x4, [], [⟨"LOADED", 0, 1, .ro, 0, none⟩,
     ⟨"WAITING", 1, 1, .ro, 0, (some 0)⟩,
     ⟨"JUMP_PENDING", 2, 1, .ro, 0, (some 0)⟩,
     ⟨"JUMP_LATCHED", 3, 1, .ro, 0, (some 0)⟩,
     ⟨"MATCH_TO", 4, 1, .ro, 0, (some 0)⟩,
     ⟨"LATE_JUMP", 5, 1, .w1c, 0, (some 0)⟩,
     ⟨"JMP_OVERRIDDEN", 6, 1, .w1c, 0, (some 0)⟩,
     ⟨"STORE_CHECK", 7, 1, .w1c, 0, (some 0)⟩,
     ⟨"END_REASON", 8, 3, .ro, 0, (some 0)⟩,
     ⟨"SEGMENT", 16, 10, .ro, 0, (some 0)⟩]⟩,
  ⟨"SEQ_HOLD_CFG", 0x8, [], [⟨"HOLD_FMT", 0, 12, .rws, 0, none⟩,
     ⟨"HOLD_TSET", 16, 5, .rws, 0, none⟩]⟩,
  ⟨"SEQ_HOLD_LOW", 0xC, [], [⟨"HOLD_LOW", 0, 16, .rws, 0x1000, none⟩]⟩,
  ⟨"SEQ_BEAT_LO", 0x10, [], [⟨"BEAT_LO", 0, 32, .ro, 0, (some 0)⟩]⟩,
  ⟨"SEQ_BEAT_HI", 0x14, [], [⟨"BEAT_HI", 0, 32, .ro, 0, (some 0)⟩]⟩,
  ⟨"SEQ_SEG_BEAT", 0x18, [], [⟨"PATTERN_BEAT", 0, 32, .ro, 0, (some 0)⟩]⟩,
  ⟨"SEQ_WAIT_BEATS", 0x1C, [], [⟨"COUNT", 0, 32, .ro, 0, (some 0)⟩]⟩,
  ⟨"SEQ_HOLD_CNT", 0x20, [], [⟨"COUNT", 0, 32, .ro, 0, (some 0)⟩]⟩,
  ⟨"SEQ_HOLD_EVT", 0x24, [], [⟨"COUNT", 0, 32, .ro, 0, (some 0)⟩]⟩,
  ⟨"SEQ_JUMP", 0x28, [], [⟨"TARGET", 0, 10, .ro, 0, (some 0)⟩,
     ⟨"SOURCE", 16, 1, .ro, 0, (some 0)⟩]⟩,
  ⟨"SEQ_PREFETCH", 0x2C, [], [⟨"BUFFERED", 0, 16, .ro, 0, (some 0)⟩]⟩] ++ [
  ⟨"SEQ_IMAGE", 0x30, [], [⟨"SEQ_COUNT", 0, 17, .ro, 0, none⟩,
     ⟨"SEG_COUNT", 17, 11, .ro, 0, none⟩]⟩,
  ⟨"SEQ_CACHE", 0x34, [], [⟨"LOOP_CAPACITY", 0, 17, .ro, 0x10000, none⟩,
     ⟨"PINNED", 17, 6, .ro, 0, none⟩]⟩,
  ⟨"SEQ_CORR_CNT", 0x38, [], [⟨"COUNT", 0, 32, .ro, 0, (some 0)⟩]⟩]

/-- Registers of the timing unit (+0x2000). -/
def rows_tim : List RegRow :=
  [
  ⟨"TIM_CTL", 0x0, [], [⟨"DRIFT_EN", 0, 1, .rws, 1, none⟩,
     ⟨"AUTO_TDR", 1, 1, .rws, 1, none⟩]⟩,
  ⟨"TIM_STATUS", 0x4, [], [⟨"STALE", 0, 1, .ro, 1, (some 1)⟩,
     ⟨"TDR_BUSY", 1, 1, .ro, 0, (some 0)⟩,
     ⟨"TRIM_MOVING", 2, 1, .ro, 0, (some 0)⟩,
     ⟨"COLLISION", 3, 1, .w1c, 0, (some 0)⟩,
     ⟨"OVERRUN", 4, 1, .w1c, 0, (some 0)⟩,
     ⟨"DRIFT_ALARM", 5, 1, .w1c, 0, (some 0)⟩,
     ⟨"CAL_REJECT", 6, 1, .w1c, 0, (some 0)⟩]⟩,
  ⟨"TIM_TDR_CFG", 0x8, [], [⟨"STEP", 0, 16, .rws, 0x5302, none⟩,
     ⟨"SHOTS", 16, 8, .rws, 0x40, none⟩]⟩,
  ⟨"TIM_CONTACT_CFG", 0xC, [], [⟨"CONTACT_MIN", 0, 16, .rws, 6, none⟩,
     ⟨"CONTACT_MAX", 16, 16, .rws, 0x190, none⟩]⟩,
  ⟨"TIM_ALIGN_TEMP", 0x10, [], [⟨"TEMP_AT_ALIGN", 0, 16, .ro, 0, none⟩,
     ⟨"DRIFT_CORR", 16, 16, .ro, 0, none⟩]⟩,
  ⟨"TIM_DRIFT_COEF", 0x14, [], [⟨"COEF", 0, 16, .ro, 0, none⟩]⟩,
  ⟨"TIM_COLL_CNT", 0x18, [], [⟨"COUNT", 0, 32, .ro, 0, (some 0)⟩]⟩,
  ⟨"TIM_OVR_CNT", 0x1C, [], [⟨"COUNT", 0, 32, .ro, 0, (some 0)⟩]⟩,
  ⟨"TIM_PER_SH_LO", 0x100, [(32, 0x8)], [⟨"PERIOD_LO", 0, 32, .rws, 0x10, none⟩]⟩,
  ⟨"TIM_PER_SH_HI", 0x104, [(32, 0x8)], [⟨"PERIOD_HI", 0, 1, .rws, 0, none⟩]⟩,
  ⟨"TIM_PER_ACT_LO", 0x200, [(32, 0x8)], [⟨"PERIOD_LO", 0, 32, .ro, 0x10, none⟩]⟩,
  ⟨"TIM_PER_ACT_HI", 0x204, [(32, 0x8)], [⟨"PERIOD_HI", 0, 1, .ro, 0, none⟩]⟩] ++ [
  ⟨"TIM_CHA_DRV", 0x400, [(32, 0x10)], [⟨"TD_TARGET", 0, 16, .ro, 0, none⟩,
     ⟨"TD_APPLIED", 16, 16, .ro, 0, none⟩]⟩,
  ⟨"TIM_CHA_CMP", 0x404, [(32, 0x10)], [⟨"TC_TARGET", 0, 16, .ro, 0, none⟩,
     ⟨"TC_APPLIED", 16, 16, .ro, 0, none⟩]⟩,
  ⟨"TIM_CHA_RT", 0x408, [(32, 0x10)], [⟨"OPEN_RT", 0, 16, .ro, 0, none⟩,
     ⟨"CONTACT_RT", 16, 16, .ro, 0, (some 0)⟩]⟩,
  ⟨"TIM_CHA_STAT", 0x40C, [(32, 0x10)], [⟨"CONTACT", 0, 3, .ro, 0, (some 0)⟩,
     ⟨"REJECTED", 3, 1, .w1c, 0, (some 0)⟩,
     ⟨"COLLISION", 4, 1, .w1c, 0, (some 0)⟩,
     ⟨"OVERRUN", 5, 1, .w1c, 0, (some 0)⟩,
     ⟨"REJECT_RUN", 6, 2, .ro, 0, none⟩]⟩]

/-- Registers of the capture unit (+0x4000). -/
def rows_cap : List RegRow :=
  [
  ⟨"CAP_CTL", 0x0, [], [⟨"RING_EN", 0, 1, .rws, 0, none⟩,
     ⟨"STREAM_EN", 1, 1, .rws, 0, none⟩,
     ⟨"STREAM_PORT", 2, 1, .rws, 0, none⟩,
     ⟨"CHAN_EN", 3, 1, .rws, 1, none⟩,
     ⟨"VALUE_EN", 4, 1, .rws, 1, none⟩,
     ⟨"SITE_EN", 5, 1, .rws, 1, none⟩]⟩,
  ⟨"CAP_RING_BASE", 0x4, [], [⟨"RING_BASE", 0, 29, .rws, 0, none⟩]⟩,
  ⟨"CAP_RING_SIZE", 0x8, [], [⟨"RING_SIZE", 0, 16, .rws, 0, none⟩]⟩,
  ⟨"CAP_WR_LO", 0x10, [], [⟨"WR_LO", 0, 32, .ro, 0, none⟩]⟩,
  ⟨"CAP_WR_HI", 0x14, [], [⟨"WR_HI", 0, 32, .ro, 0, none⟩]⟩,
  ⟨"CAP_RD_LO", 0x18, [], [⟨"RD_LO", 0, 32, .rw, 0, none⟩]⟩,
  ⟨"CAP_RD_HI", 0x1C, [], [⟨"RD_HI", 0, 32, .rw, 0, none⟩]⟩,
  ⟨"CAP_HIWAT", 0x20, [], [⟨"HIWAT", 0, 16, .rws, 0, none⟩]⟩,
  ⟨"CAP_TRIG_EN", 0x24, [], [⟨"WHISTLE", 0, 7, .rws, 0, none⟩,
     ⟨"SEQ", 8, 1, .rws, 0, none⟩,
     ⟨"MATCH", 9, 1, .rws, 0, none⟩,
     ⟨"PSM", 10, 6, .rws, 0, none⟩,
     ⟨"HOST", 16, 1, .rws, 0, none⟩]⟩,
  ⟨"CAP_TRIG_HOLDOFF", 0x28, [], [⟨"TRIG_HOLDOFF", 0, 16, .rws, 4, none⟩]⟩,
  ⟨"CAP_TRIG", 0x2C, [], [⟨"INDEX", 0, 8, .wo, 0, (some 0)⟩]⟩,
  ⟨"CAP_KEEPALIVE", 0x30, [], [⟨"KEEPALIVE", 0, 16, .rws, 0x3e8, none⟩]⟩] ++ [
  ⟨"CAP_STATUS", 0x34, [], [⟨"LOST", 0, 1, .w1c, 0, (some 0)⟩,
     ⟨"MARK_LOST", 1, 1, .w1c, 0, (some 0)⟩,
     ⟨"RING_FULL", 2, 1, .ro, 0, (some 0)⟩,
     ⟨"HIWAT", 3, 1, .ro, 0, (some 0)⟩,
     ⟨"STREAMING", 4, 1, .ro, 0, (some 0)⟩]⟩,
  ⟨"CAP_LOST_LO", 0x38, [], [⟨"LOST_LO", 0, 32, .ro, 0, none⟩]⟩,
  ⟨"CAP_LOST_HI", 0x3C, [], [⟨"LOST_HI", 0, 32, .ro, 0, none⟩]⟩,
  ⟨"CAP_MERGED_LO", 0x40, [], [⟨"MERGED_LO", 0, 32, .ro, 0, none⟩]⟩,
  ⟨"CAP_MERGED_HI", 0x44, [], [⟨"MERGED_HI", 0, 32, .ro, 0, none⟩]⟩,
  ⟨"CAP_MARK_LOST", 0x48, [], [⟨"COUNT", 0, 32, .ro, 0, none⟩]⟩,
  ⟨"CAP_FAIL_SUM", 0x4C, [], [⟨"FAILED", 0, 32, .ro, 0, (some 0)⟩]⟩,
  ⟨"CAP_SITE_INFO", 0x100, [(32, 0x20)], [⟨"SITE", 0, 10, .ro, 0, (some 0)⟩,
     ⟨"SLOT_VALID", 16, 1, .ro, 0, (some 0)⟩,
     ⟨"FFB_VALID", 17, 1, .ro, 0, (some 0)⟩,
     ⟨"FAILING", 18, 1, .ro, 0, (some 0)⟩,
     ⟨"LOG_VALID", 19, 1, .ro, 0, (some 0)⟩]⟩,
  ⟨"CAP_SITE_FFB_LO", 0x104, [(32, 0x20)], [⟨"FFB_LO", 0, 32, .ro, 0, (some 0)⟩]⟩,
  ⟨"CAP_SITE_FFB_HI", 0x108, [(32, 0x20)], [⟨"FFB_HI", 0, 32, .ro, 0, (some 0)⟩]⟩,
  ⟨"CAP_SITE_FAILS", 0x10C, [(32, 0x20)], [⟨"FAILS", 0, 32, .ro, 0, (some 0)⟩]⟩,
  ⟨"CAP_SITE_LOG_LO", 0x110, [(32, 0x20)], [⟨"LOG_LO", 0, 32, .ro, 0, (some 0)⟩]⟩] ++ [
  ⟨"CAP_SITE_LOG_HI", 0x114, [(32, 0x20)], [⟨"LOG_HI", 0, 32, .ro, 0, (some 0)⟩]⟩]

/-- Registers of the APG and repair unit (+0x6000). -/
def rows_apg : List RegRow :=
  [
  ⟨"APG_CTL", 0x0, [], [⟨"LOG_EN", 0, 1, .rws, 0, none⟩,
     ⟨"BM_SET", 1, 1, .rws, 0, none⟩]⟩,
  ⟨"APG_STATUS", 0x4, [], [⟨"BM_LOST", 0, 1, .w1c, 0, (some 0)⟩,
     ⟨"BM_BUSY_DROP", 1, 1, .w1c, 0, (some 0)⟩,
     ⟨"X_CARRY", 2, 1, .ro, 0, (some 0)⟩,
     ⟨"Y_CARRY", 3, 1, .ro, 0, (some 0)⟩]⟩,
  ⟨"APG_IDLE", 0x8, [], [⟨"IDLE_CTRL", 0, 8, .rws, 0, none⟩]⟩,
  ⟨"APG_BM_LOST_CNT", 0xC, [], [⟨"COUNT", 0, 32, .ro, 0, (some 0)⟩]⟩,
  ⟨"APG_IMEM_ADDR", 0x10, [], [⟨"ADDR", 0, 12, .rw, 0, (some 0)⟩]⟩,
  ⟨"APG_IMEM_LO", 0x14, [], [⟨"LO", 0, 32, .rw, 0, (some 0)⟩]⟩,
  ⟨"APG_IMEM_HI", 0x18, [], [⟨"HI", 0, 32, .rw, 0, (some 0)⟩]⟩,
  ⟨"APG_X_CUR", 0x20, [], [⟨"CUR", 0, 20, .rw, 0, (some 0)⟩]⟩,
  ⟨"APG_Y_CUR", 0x40, [], [⟨"CUR", 0, 20, .rw, 0, (some 0)⟩]⟩,
  ⟨"APG_X_BASE", 0x24, [], [⟨"BASE", 0, 20, .rws, 0, none⟩]⟩,
  ⟨"APG_Y_BASE", 0x44, [], [⟨"BASE", 0, 20, .rws, 0, none⟩]⟩,
  ⟨"APG_X_MAX", 0x28, [], [⟨"MAX", 0, 20, .rws, 0xfffff, none⟩]⟩] ++ [
  ⟨"APG_Y_MAX", 0x48, [], [⟨"MAX", 0, 20, .rws, 0xfffff, none⟩]⟩,
  ⟨"APG_X_STEP", 0x2C, [], [⟨"STEP", 0, 20, .rws, 1, none⟩]⟩,
  ⟨"APG_Y_STEP", 0x4C, [], [⟨"STEP", 0, 20, .rws, 1, none⟩]⟩,
  ⟨"APG_X_MASK", 0x30, [], [⟨"MASK", 0, 20, .rws, 0xfffff, none⟩]⟩,
  ⟨"APG_Y_MASK", 0x50, [], [⟨"MASK", 0, 20, .rws, 0xfffff, none⟩]⟩,
  ⟨"APG_X_SAVE", 0x34, [], [⟨"SAVE", 0, 20, .rw, 0, (some 0)⟩]⟩,
  ⟨"APG_Y_SAVE", 0x54, [], [⟨"SAVE", 0, 20, .rw, 0, (some 0)⟩]⟩,
  ⟨"APG_BG", 0x100, [(16, 0x4)], [⟨"BG", 0, 32, .rws, 0, none⟩]⟩,
  ⟨"APG_TOPO_LO", 0x140, [(8, 0x8)], [⟨"MASK", 0, 32, .rws, 0, none⟩]⟩,
  ⟨"APG_TOPO_HI", 0x144, [(8, 0x8)], [⟨"MASK", 0, 8, .rws, 0, none⟩]⟩,
  ⟨"APG_ASCR_LO", 0x200, [(40, 0x8)], [⟨"MASK", 0, 32, .rws, 0, none⟩]⟩,
  ⟨"APG_ASCR_HI", 0x204, [(40, 0x8)], [⟨"MASK", 0, 8, .rws, 0, none⟩]⟩] ++ [
  ⟨"APG_DSCR_LO", 0x400, [(32, 0x8)], [⟨"DSCR_MASK", 0, 32, .rws, 0, none⟩]⟩,
  ⟨"APG_DSCR_HI", 0x404, [(32, 0x8)], [⟨"DSCR_MASK", 0, 8, .rws, 0, none⟩,
     ⟨"PERM", 8, 5, .rws, 0, none⟩]⟩,
  ⟨"APG_MAP0", 0x500, [(32, 0x4)], [⟨"DRV_SEL", 0, 7, .rws, 0x7e, none⟩,
     ⟨"DRV_INV", 7, 1, .rws, 0, none⟩,
     ⟨"EXP_SEL", 8, 7, .rws, 0x7e, none⟩,
     ⟨"EXP_INV", 15, 1, .rws, 0, none⟩]⟩,
  ⟨"APG_MAP1", 0x580, [(32, 0x4)], [⟨"DRV_SEL", 0, 7, .rws, 0x7e, none⟩,
     ⟨"DRV_INV", 7, 1, .rws, 0, none⟩,
     ⟨"EXP_SEL", 8, 7, .rws, 0x7e, none⟩,
     ⟨"EXP_INV", 15, 1, .rws, 0, none⟩]⟩,
  ⟨"APG_BM_GEOM", 0x600, [], [⟨"ROW_BITS", 0, 5, .rws, 0x10, none⟩,
     ⟨"COL_BITS", 5, 5, .rws, 0x10, none⟩,
     ⟨"REGION_BITS", 10, 3, .rws, 0, none⟩]⟩,
  ⟨"APG_BM_BASE0", 0x604, [], [⟨"BASE", 0, 29, .rws, 0, none⟩]⟩,
  ⟨"APG_BM_BASE1", 0x608, [], [⟨"BASE", 0, 29, .rws, 0, none⟩]⟩,
  ⟨"APG_BM_STRIDE", 0x60C, [], [⟨"STRIDE", 0, 29, .rws, 0, none⟩]⟩,
  ⟨"APG_BM_LOST", 0x680, [(32, 0x4)], [⟨"SITES", 0, 32, .w1c, 0, none⟩]⟩,
  ⟨"RA_CTL", 0x1000, [], [⟨"SPARE_ROWS", 0, 7, .rws, 0, none⟩,
     ⟨"SPARE_COLS", 8, 7, .rws, 0, none⟩]⟩,
  ⟨"RA_NODE_LIMIT", 0x1004, [], [⟨"LIMIT", 0, 24, .rws, 0x100000, none⟩]⟩,
  ⟨"RA_SOL_BASE", 0x1008, [], [⟨"BASE", 0, 29, .rws, 0, none⟩]⟩] ++ [
  ⟨"RA_SOL_STRIDE", 0x100C, [], [⟨"STRIDE", 0, 29, .rws, 0, none⟩]⟩,
  ⟨"RA_REQ", 0x1010, [], [⟨"SITE", 0, 10, .wo, 0, (some 0)⟩,
     ⟨"SET", 10, 1, .wo, 0, (some 0)⟩,
     ⟨"ANALYSE", 11, 1, .wo, 0, (some 0)⟩,
     ⟨"CLEAR", 12, 1, .wo, 0, (some 0)⟩,
     ⟨"ORDER", 13, 1, .wo, 0, (some 0)⟩]⟩,
  ⟨"RA_STATUS", 0x1014, [], [⟨"QUEUED", 0, 7, .ro, 0, (some 0)⟩,
     ⟨"BUSY", 8, 1, .ro, 0, (some 0)⟩,
     ⟨"READ_ERR", 9, 1, .w1c, 0, (some 0)⟩]⟩,
  ⟨"RA_DONE_CNT", 0x1018, [], [⟨"COUNT", 0, 32, .ro, 0, (some 0)⟩]⟩,
  ⟨"RA_LAST", 0x101C, [], [⟨"SITE", 0, 10, .ro, 0, (some 0)⟩,
     ⟨"RESULT", 10, 3, .ro, 0, (some 0)⟩]⟩]

/-- Registers of the TMU unit (+0x8000). -/
def rows_tmu : List RegRow :=
  [
  ⟨"TMU_CTL", 0x0, [(4, 0x400)], [⟨"MODE", 0, 2, .rws, 0, none⟩,
     ⟨"TIP_REF", 2, 1, .rws, 1, none⟩,
     ⟨"ARM_MODE", 3, 2, .rws, 0, none⟩,
     ⟨"ARM_LINE", 5, 3, .rws, 0, none⟩,
     ⟨"NSTOPS", 8, 5, .rws, 1, none⟩]⟩,
  ⟨"TMU_SRC", 0x4, [(4, 0x400)], [⟨"START_SRC", 0, 8, .rws, 0x4a, none⟩,
     ⟨"START_EDGE", 8, 1, .rws, 0, none⟩,
     ⟨"STOP_SRC", 16, 8, .rws, 0x4b, none⟩,
     ⟨"STOP_EDGE", 24, 1, .rws, 0, none⟩]⟩,
  ⟨"TMU_SKIP", 0x8, [(4, 0x400)], [⟨"START_SKIP", 0, 16, .rws, 0, none⟩,
     ⟨"STOP_SKIP", 16, 16, .rws, 0, none⟩]⟩,
  ⟨"TMU_TIMEOUT_LO", 0xC, [(4, 0x400)], [⟨"TIMEOUT_LO", 0, 32, .rws, 0x2faf0800, none⟩]⟩,
  ⟨"TMU_TIMEOUT_HI", 0x10, [(4, 0x400)], [⟨"TIMEOUT_HI", 0, 8, .rws, 0, none⟩]⟩,
  ⟨"TMU_GATE", 0x14, [(4, 0x400)], [⟨"GATE", 0, 32, .rws, 0xc3500, none⟩]⟩,
  ⟨"TMU_NREP", 0x18, [(4, 0x400)], [⟨"NREP", 0, 32, .rws, 0, none⟩]⟩,
  ⟨"TMU_BUF_BASE", 0x1C, [(4, 0x400)], [⟨"BUF_BASE", 0, 29, .rws, 0, none⟩]⟩,
  ⟨"TMU_BUF_SIZE", 0x20, [(4, 0x400)], [⟨"BUF_SIZE", 0, 32, .rws, 0, none⟩]⟩,
  ⟨"TMU_CALGEN", 0x24, [(4, 0x400)], [⟨"DELAY", 0, 16, .rws, 0x10, none⟩]⟩,
  ⟨"TMU_GO", 0x28, [(4, 0x400)], [⟨"GO", 0, 1, .wo, 0, (some 0)⟩,
     ⟨"ABORT", 1, 1, .wo, 0, (some 0)⟩]⟩,
  ⟨"TMU_STATUS", 0x2C, [(4, 0x400)], [⟨"BUSY", 0, 1, .ro, 0, (some 0)⟩,
     ⟨"DONE", 1, 1, .w1c, 0, (some 0)⟩,
     ⟨"TDR_OWNED", 2, 1, .ro, 0, (some 0)⟩,
     ⟨"MUZZLED", 3, 1, .ro, 0, none⟩,
     ⟨"CAL_RANGE", 4, 1, .w1c, 0, (some 0)⟩]⟩] ++ [
  ⟨"TMU_CAL", 0x30, [(4, 0x400)], [⟨"C1", 0, 12, .ro, 0, (some 0)⟩,
     ⟨"C2", 16, 12, .ro, 0, (some 0)⟩]⟩,
  ⟨"TMU_CLOSE_CNT", 0x34, [(4, 0x400)], [⟨"COUNT", 0, 32, .ro, 0, (some 0)⟩]⟩,
  ⟨"TMU_LIN", 0x100, [(4, 0x400), (65, 0x4)], [⟨"L", 0, 16, .ro, 0, none⟩]⟩,
  ⟨"TMU_RES_HDR", 0x40, [(4, 0x400)], [⟨"MEAS_SEQ", 0, 16, .ro, 0, (some 0)⟩,
     ⟨"STOPS_SEEN", 16, 5, .ro, 0, (some 0)⟩,
     ⟨"END", 21, 3, .ro, 0, (some 0)⟩,
     ⟨"TIP_APPLIED", 24, 1, .ro, 0, (some 0)⟩]⟩,
  ⟨"TMU_START_DT_LO", 0x44, [(4, 0x400)], [⟨"START_DT", 0, 32, .ro, 0, (some 0)⟩]⟩,
  ⟨"TMU_START_DT_HI", 0x48, [(4, 0x400)], [⟨"START_DT", 0, 32, .ro, 0, (some 0)⟩]⟩,
  ⟨"TMU_COUNT_LO", 0x4C, [(4, 0x400)], [⟨"COUNT", 0, 32, .ro, 0, (some 0)⟩]⟩,
  ⟨"TMU_COUNT_HI", 0x50, [(4, 0x400)], [⟨"COUNT", 0, 32, .ro, 0, (some 0)⟩]⟩,
  ⟨"TMU_SPAN_LO", 0x54, [(4, 0x400)], [⟨"SPAN", 0, 32, .ro, 0, (some 0)⟩]⟩,
  ⟨"TMU_SPAN_HI", 0x58, [(4, 0x400)], [⟨"SPAN", 0, 32, .ro, 0, (some 0)⟩]⟩,
  ⟨"TMU_PERIOD_LO", 0x5C, [(4, 0x400)], [⟨"PERIOD", 0, 32, .ro, 0, (some 0)⟩]⟩,
  ⟨"TMU_PERIOD_HI", 0x60, [(4, 0x400)], [⟨"PERIOD", 0, 32, .ro, 0, (some 0)⟩]⟩] ++ [
  ⟨"TMU_STOP_LO", 0x64, [(4, 0x400), (16, 0x8)], [⟨"STOP", 0, 32, .ro, 0xffffffff, (some 0xffffffff)⟩]⟩,
  ⟨"TMU_STOP_HI", 0x68, [(4, 0x400), (16, 0x8)], [⟨"STOP", 0, 32, .ro, 0xffffffff, (some 0xffffffff)⟩]⟩,
  ⟨"TMU_RES_TRL", 0xE4, [(4, 0x400)], [⟨"MEAS_SEQ", 0, 16, .ro, 0, (some 0)⟩]⟩]

/-- Registers of the channel unit (+0xA000). -/
def rows_ch : List RegRow :=
  [
  ⟨"CH_VIH", 0x0, [(32, 0x40)], [⟨"LEVEL", 0, 16, .rws, 0x3a98, none⟩]⟩,
  ⟨"CH_VIL", 0x4, [(32, 0x40)], [⟨"LEVEL", 0, 16, .rws, 0x3a98, none⟩]⟩,
  ⟨"CH_VTT", 0x8, [(32, 0x40)], [⟨"LEVEL", 0, 16, .rws, 0x3a98, none⟩]⟩,
  ⟨"CH_VOH", 0xC, [(32, 0x40)], [⟨"LEVEL", 0, 16, .rws, 0x3a98, none⟩]⟩,
  ⟨"CH_VOL", 0x10, [(32, 0x40)], [⟨"LEVEL", 0, 16, .rws, 0x3a98, none⟩]⟩,
  ⟨"CH_VCOM", 0x14, [(32, 0x40)], [⟨"LEVEL", 0, 16, .rws, 0x3a98, none⟩]⟩,
  ⟨"CH_LOAD", 0x18, [(32, 0x40)], [⟨"IOL", 0, 12, .rws, 0, none⟩,
     ⟨"IOH", 16, 12, .rws, 0, none⟩]⟩,
  ⟨"CH_CTL", 0x1C, [(32, 0x40)], [⟨"IDLE_TERM", 0, 1, .rws, 0, none⟩,
     ⟨"CMP_HYST", 1, 1, .rws, 0, none⟩,
     ⟨"PENDING", 8, 1, .ro, 0, (some 1)⟩,
     ⟨"LANE_MEMBER", 9, 1, .ro, 0, none⟩]⟩,
  ⟨"CH_PMU_CTL", 0x20, [(32, 0x40)], [⟨"MODE", 0, 3, .rw, 0, (some 0)⟩,
     ⟨"RANGE", 4, 3, .rw, 4, (some 4)⟩,
     ⟨"GO", 8, 1, .wo, 0, (some 0)⟩,
     ⟨"BUSY", 9, 1, .ro, 0, (some 0)⟩]⟩,
  ⟨"CH_PMU_FORCE", 0x24, [(32, 0x40)], [⟨"FORCE", 0, 16, .rw, 0x3a98, (some 0x3a98)⟩]⟩,
  ⟨"CH_PMU_CLAMP", 0x28, [(32, 0x40)], [⟨"CLAMP_LO", 0, 16, .rw, 0x9c4, (some 0x9c4)⟩,
     ⟨"CLAMP_HI", 16, 16, .rw, 0xea60, (some 0xea60)⟩]⟩,
  ⟨"CH_PMU_MEAS", 0x2C, [(32, 0x40)], [⟨"SAMPLES", 0, 16, .rw, 0x10, (some 0x10)⟩,
     ⟨"SETTLE_US", 16, 16, .rw, 0x64, (some 0x64)⟩]⟩] ++ [
  ⟨"CH_PMU_RESULT", 0x30, [(32, 0x40)], [⟨"RESULT", 0, 16, .ro, 0, (some 0)⟩,
     ⟨"VALID", 16, 1, .ro, 0, (some 0)⟩,
     ⟨"CLAMPED", 17, 1, .ro, 0, (some 0)⟩,
     ⟨"OVERRANGE", 18, 1, .ro, 0, (some 0)⟩]⟩,
  ⟨"CH_STATUS", 0x34, [(32, 0x40)], [⟨"DRV_OVERCURRENT", 0, 1, .w1c, 0, (some 0)⟩,
     ⟨"PIN_CLAMP", 1, 1, .w1c, 0, (some 0)⟩,
     ⟨"LEVEL_CHECK", 2, 1, .w1c, 0, (some 0)⟩,
     ⟨"PMU_CLAMP", 3, 1, .w1c, 0, (some 0)⟩,
     ⟨"LOAD_COMPLIANCE", 4, 1, .w1c, 0, (some 0)⟩,
     ⟨"FE_CHECK", 5, 1, .w1c, 0, (some 0)⟩,
     ⟨"MUZZLED", 16, 1, .ro, 0, none⟩,
     ⟨"DRV_PROTECT", 17, 1, .ro, 0, (some 0)⟩]⟩,
  ⟨"CH_LVL_READ", 0x38, [(32, 0x40)], [⟨"READ_CODE", 0, 16, .ro, 0, (some 0)⟩,
     ⟨"WHICH", 16, 3, .ro, 0, (some 0)⟩]⟩,
  ⟨"CH_APPLY", 0x800, [], [⟨"CHANNELS", 0, 32, .wo, 0, (some 0)⟩]⟩,
  ⟨"CH_LVLCHK", 0x804, [], [⟨"LVLCHK_EN", 0, 1, .rws, 1, none⟩,
     ⟨"LVLCHK_TOL", 16, 16, .rws, 0x19, none⟩]⟩,
  ⟨"CH_FAULT_SUM", 0x808, [], [⟨"ANY_FAULT", 0, 32, .ro, 0, (some 0)⟩]⟩,
  ⟨"CH_LANE", 0x900, [(16, 0x4)], [⟨"ENABLE", 0, 1, .rws, 0, none⟩,
     ⟨"DEEMPH", 1, 4, .rws, 0, none⟩,
     ⟨"RX_EQ", 8, 4, .rws, 0, none⟩,
     ⟨"POLARITY", 12, 1, .rws, 0, none⟩,
     ⟨"MUZZLED", 16, 1, .ro, 0, none⟩]⟩]

/-- Registers of the PSM unit (+0xC000). -/
def rows_psm : List RegRow :=
  [
  ⟨"PSM_CTL", 0x0, [(6, 0x400)], [⟨"MODE", 0, 3, .rws, 0, none⟩,
     ⟨"GAIN", 3, 1, .rws, 0, none⟩,
     ⟨"RANGE", 4, 3, .rws, 4, none⟩,
     ⟨"SENSE_LOCAL", 7, 1, .rws, 0, none⟩,
     ⟨"MON_SEL", 8, 2, .rws, 2, none⟩,
     ⟨"REST_KEEP", 10, 1, .rws, 0, none⟩]⟩,
  ⟨"PSM_LEVEL", 0x4, [(6, 0x400)], [⟨"LEVEL", 0, 18, .rws, 0, none⟩]⟩,
  ⟨"PSM_SLEW", 0x8, [(6, 0x400)], [⟨"SLEW", 0, 16, .rws, 0, none⟩]⟩,
  ⟨"PSM_CLAMP", 0xC, [(6, 0x400)], [⟨"CLAMP_SRC", 0, 16, .rws, 0x7fff, none⟩,
     ⟨"CLAMP_SNK", 16, 16, .rws, 0x7fff, none⟩]⟩,
  ⟨"PSM_VCLAMP_LO", 0x10, [(6, 0x400)], [⟨"VCLAMP_LO", 0, 18, .rws, 0x20000, none⟩]⟩,
  ⟨"PSM_VCLAMP_HI", 0x14, [(6, 0x400)], [⟨"VCLAMP_HI", 0, 18, .rws, 0x1ffff, none⟩]⟩,
  ⟨"PSM_REST", 0x18, [(6, 0x400)], [⟨"REST_LEVEL", 0, 18, .rws, 0, none⟩]⟩,
  ⟨"PSM_SHORT", 0x1C, [(6, 0x400)], [⟨"SHORT_MV", 0, 16, .rws, 0x64, none⟩,
     ⟨"SHORT_US", 16, 16, .rws, 0x64, none⟩]⟩,
  ⟨"PSM_CHK_TOL", 0x20, [(6, 0x400)], [⟨"CHK_TOL", 0, 18, .rws, 0x100, none⟩]⟩,
  ⟨"PSM_CHK_CFG", 0x24, [(6, 0x400)], [⟨"CHK_EN", 0, 1, .rws, 1, none⟩,
     ⟨"CHK_COUNT", 8, 8, .rws, 4, none⟩,
     ⟨"CHK_LAG", 16, 16, .rws, 0x3e8, none⟩]⟩,
  ⟨"PSM_CLK", 0x28, [(6, 0x400)], [⟨"DIV", 0, 24, .rws, 0x10, none⟩]⟩,
  ⟨"PSM_RESAMP", 0x2C, [(6, 0x400)], [⟨"UP", 0, 5, .rws, 1, none⟩,
     ⟨"DOWN", 8, 5, .rws, 1, none⟩]⟩] ++ [
  ⟨"PSM_WF_TAB", 0x30, [(6, 0x400)], [⟨"WF_TAB_BASE", 0, 29, .rws, 0, none⟩]⟩,
  ⟨"PSM_WF_COUNT", 0x34, [(6, 0x400)], [⟨"WF_COUNT", 0, 7, .rws, 0, none⟩]⟩,
  ⟨"PSM_SINE_FTW_LO", 0x38, [(6, 0x400)], [⟨"FTW", 0, 32, .rws, 0, none⟩]⟩,
  ⟨"PSM_SINE_FTW_HI", 0x3C, [(6, 0x400)], [⟨"FTW", 0, 16, .rws, 0, none⟩]⟩,
  ⟨"PSM_SINE_PH0_LO", 0x40, [(6, 0x400)], [⟨"PHASE0", 0, 32, .rws, 0, none⟩]⟩,
  ⟨"PSM_SINE_PH0_HI", 0x44, [(6, 0x400)], [⟨"PHASE0", 0, 16, .rws, 0, none⟩]⟩,
  ⟨"PSM_SINE_AMPL", 0x48, [(6, 0x400)], [⟨"AMPL", 0, 18, .rws, 0, none⟩]⟩,
  ⟨"PSM_SINE_OFFSET", 0x4C, [(6, 0x400)], [⟨"OFFSET", 0, 18, .rws, 0, none⟩]⟩,
  ⟨"PSM_THR", 0x50, [(6, 0x400)], [⟨"THR_LEVEL", 0, 18, .rws, 0, none⟩,
     ⟨"THR_DIR", 18, 1, .rws, 0, none⟩,
     ⟨"THR_QTY", 19, 1, .rws, 0, none⟩,
     ⟨"THR_EN", 20, 1, .rws, 0, none⟩,
     ⟨"HYST", 24, 8, .rws, 1, none⟩]⟩,
  ⟨"PSM_BOOST", 0x54, [(2, 0xC00)], [⟨"RSH", 0, 10, .rws, 0xfa, none⟩,
     ⟨"COMP", 10, 3, .rws, 0, none⟩]⟩,
  ⟨"PSM_MEAS_CFG", 0x58, [(6, 0x400)], [⟨"SAMPLES", 0, 16, .rws, 0x10, none⟩,
     ⟨"SETTLE_US", 16, 15, .rws, 0x64, none⟩,
     ⟨"MEAS_QTY", 31, 1, .rws, 0, none⟩]⟩,
  ⟨"PSM_GO", 0x5C, [(6, 0x400)], [⟨"MEAS_GO", 0, 1, .wo, 0, (some 0)⟩,
     ⟨"SNAP_TRIG", 1, 1, .wo, 0, (some 0)⟩,
     ⟨"SNAP_ABORT", 2, 1, .wo, 0, (some 0)⟩]⟩] ++ [
  ⟨"PSM_SNAP_CFG", 0x60, [(6, 0x400)], [⟨"SNAP_COUNT", 0, 16, .rws, 1, none⟩,
     ⟨"TRIG_SRC", 16, 3, .rws, 0, none⟩,
     ⟨"TRIG_LINE", 19, 3, .rws, 0, none⟩,
     ⟨"SNAP_QTY", 22, 1, .rws, 0, none⟩]⟩,
  ⟨"PSM_SNAP_LEN", 0x64, [(6, 0x400)], [⟨"LEN", 0, 17, .rws, 0x400, none⟩,
     ⟨"PRE", 17, 13, .rws, 0, none⟩]⟩,
  ⟨"PSM_SNAP_DIV", 0x68, [(6, 0x400)], [⟨"SNAP_DIV", 0, 16, .rws, 1, none⟩]⟩,
  ⟨"PSM_SNAP_BASE", 0x6C, [(6, 0x400)], [⟨"SNAP_BASE", 0, 29, .rws, 0, none⟩]⟩,
  ⟨"PSM_SNAP_SIZE", 0x70, [(6, 0x400)], [⟨"SNAP_SIZE", 0, 32, .rws, 0, none⟩]⟩,
  ⟨"PSM_CUE", 0x100, [(6, 0x400), (32, 0x4)], [⟨"ACTION", 0, 4, .rws, 0, none⟩,
     ⟨"ARG", 8, 18, .rws, 0, none⟩]⟩,
  ⟨"PSM_STATUS", 0x80, [(6, 0x400)], [⟨"SOURCE", 0, 2, .ro, 0, (some 0)⟩,
     ⟨"SETTLED", 2, 1, .ro, 1, none⟩,
     ⟨"WAVE_ARMED", 3, 1, .ro, 0, (some 0)⟩,
     ⟨"WAVE_RUN", 4, 1, .ro, 0, (some 0)⟩,
     ⟨"SINE_RUN", 5, 1, .ro, 0, (some 0)⟩,
     ⟨"SNAP_ARMED", 6, 1, .ro, 0, (some 0)⟩,
     ⟨"MEAS_BUSY", 7, 1, .ro, 0, (some 0)⟩,
     ⟨"JUMP_PENDING", 8, 1, .ro, 0, (some 0)⟩,
     ⟨"MUZZLED", 9, 1, .ro, 0, none⟩,
     ⟨"SAFE_RAMP", 10, 1, .ro, 0, (some 0)⟩,
     ⟨"SHORT_PROTECT", 11, 1, .ro, 0, (some 0)⟩,
     ⟨"SENSE_FALLBACK", 12, 1, .ro, 0, (some 0)⟩,
     ⟨"CLAMPING", 13, 1, .ro, 0, (some 0)⟩,
     ⟨"CLAMP", 16, 1, .w1c, 0, (some 0)⟩,
     ⟨"SHORT", 17, 1, .w1c, 0, (some 0)⟩,
     ⟨"READBACK", 18, 1, .w1c, 0, (some 0)⟩,
     ⟨"SENSE_OPEN", 19, 1, .w1c, 0, (some 0)⟩,
     ⟨"BOOST_RANGE", 20, 1, .w1c, 0, (some 0)⟩,
     ⟨"UNDERRUN", 21, 1, .w1c, 0, (some 0)⟩,
     ⟨"LATE_JUMP", 22, 1, .w1c, 0, (some 0)⟩,
     ⟨"CUE_IGNORED", 23, 1, .w1c, 0, (some 0)⟩,
     ⟨"SINE_SAT", 24, 1, .w1c, 0, (some 0)⟩]⟩,
  ⟨"PSM_WAVE", 0x84, [(6, 0x400)], [⟨"SEGMENT", 0, 6, .ro, 0, (some 0)⟩,
     ⟨"END_REASON", 8, 3, .ro, 0, (some 0)⟩,
     ⟨"JUMP_TARGET", 16, 6, .ro, 0, (some 0)⟩]⟩,
  ⟨"PSM_MON_F", 0x88, [(6, 0x400)], [⟨"READING", 0, 18, .ro, 0, (some 0)⟩]⟩,
  ⟨"PSM_MON_M", 0x8C, [(6, 0x400)], [⟨"READING", 0, 18, .ro, 0, (some 0)⟩]⟩,
  ⟨"PSM_MEAS_MEAN", 0x90, [(6, 0x400)], [⟨"MEAN", 0, 18, .ro, 0, (some 0)⟩,
     ⟨"VALID", 24, 1, .ro, 0, (some 0)⟩,
     ⟨"OVERRANGE", 25, 1, .ro, 0, (some 0)⟩,
     ⟨"CLAMPED", 26, 1, .ro, 0, (some 0)⟩]⟩,
  ⟨"PSM_MEAS_MIN", 0x94, [(6, 0x400)], [⟨"MIN", 0, 18, .ro, 0, (some 0)⟩]⟩] ++ [
  ⟨"PSM_MEAS_MAX", 0x98, [(6, 0x400)], [⟨"MAX", 0, 18, .ro, 0, (some 0)⟩]⟩,
  ⟨"PSM_CUE_IGN_CNT", 0x9C, [(6, 0x400)], [⟨"COUNT", 0, 32, .ro, 0, (some 0)⟩]⟩,
  ⟨"PSM_SNAP_DONE", 0xA0, [(6, 0x400)], [⟨"COUNT", 0, 16, .ro, 0, (some 0)⟩]⟩,
  ⟨"PSM_SNAP_MISSED", 0xA4, [(6, 0x400)], [⟨"COUNT", 0, 32, .ro, 0, (some 0)⟩]⟩]

/-- Registers of the pack status unit (+0xE000). -/
def rows_pk : List RegRow :=
  [
  ⟨"PK_STATUS", 0x0, [], [⟨"SEQ_RUN", 0, 1, .ro, 0, (some 0)⟩,
     ⟨"SEQ_HOLD", 1, 1, .ro, 0, (some 0)⟩,
     ⟨"START_DEFERRED", 2, 1, .ro, 0, (some 0)⟩,
     ⟨"MUZZLED", 3, 1, .ro, 0, none⟩,
     ⟨"CH_MUZZLED", 4, 1, .ro, 0, none⟩,
     ⟨"PSM_MUZZLED", 5, 1, .ro, 0, none⟩,
     ⟨"TMU_MUZZLED", 6, 1, .ro, 0, none⟩,
     ⟨"CAL_ACTIVE", 7, 1, .ro, 0, (some 0)⟩,
     ⟨"APG_SOURCE", 8, 1, .ro, 0, (some 0)⟩,
     ⟨"RA_BUSY", 9, 1, .ro, 0, (some 0)⟩,
     ⟨"UNDERRUN_SEEN", 10, 1, .w1c, 0, (some 0)⟩,
     ⟨"TSET", 16, 5, .ro, 0, (some 0)⟩]⟩,
  ⟨"PK_CHMAP", 0x40, [(32, 0x4)], [⟨"SITE", 0, 10, .rws, 0, none⟩,
     ⟨"ROLE", 10, 2, .rws, 0, none⟩,
     ⟨"SRC", 16, 5, .rws, 0, none⟩]⟩,
  ⟨"PK_PSMMAP", 0xC0, [(6, 0x4)], [⟨"FIRST_SITE", 0, 10, .rws, 0, none⟩,
     ⟨"LAST_SITE", 10, 10, .rws, 0, none⟩,
     ⟨"ENABLE", 31, 1, .rws, 0, none⟩]⟩,
  ⟨"PK_XOR_DRV", 0x400, [(256, 0x4)], [⟨"BITS", 0, 32, .rws, 0, none⟩]⟩,
  ⟨"PK_XOR_EXP", 0x800, [(256, 0x4)], [⟨"BITS", 0, 32, .rws, 0, none⟩]⟩,
  ⟨"PK_MASK", 0xC00, [(256, 0x4)], [⟨"BITS", 0, 32, .rws, 0, none⟩]⟩,
  ⟨"CAL_PK_DUE", 0x1000, [], [⟨"DUE", 0, 9, .ro, 0x1ff, none⟩]⟩,
  ⟨"CAL_CH_REJ", 0x1100, [(32, 0x4)], [⟨"LEVEL_RUN", 0, 2, .ro, 0, none⟩,
     ⟨"VERN_RUN", 2, 2, .ro, 0, none⟩,
     ⟨"PMU_RUN", 4, 2, .ro, 0, none⟩]⟩,
  ⟨"CAL_PSM_REJ", 0x1180, [(6, 0x4)], [⟨"PSM_RUN", 0, 2, .ro, 0, none⟩,
     ⟨"BOOST_RUN", 2, 2, .ro, 0, none⟩]⟩,
  ⟨"CAL_TMU_REJ", 0x11A0, [(4, 0x4)], [⟨"LIN_RUN", 0, 2, .ro, 0, none⟩]⟩]

/-- Registers of the AE core block (0x0020_0000 + c × 0x0001_0000). -/
def rows_ae : List RegRow :=
  [
  ⟨"AE_CTL", 0x0, [], [⟨"RUN", 0, 1, .rw, 0, (some 0)⟩,
     ⟨"USER", 1, 1, .rws, 0, none⟩,
     ⟨"HALT_REQ", 2, 1, .wo, 0, (some 0)⟩,
     ⟨"RESET", 3, 1, .wo, 0, (some 0)⟩,
     ⟨"START_PC", 16, 13, .rws, 0x1000, none⟩]⟩,
  ⟨"AE_STATUS", 0x4, [], [⟨"RUNNING", 0, 1, .ro, 0, (some 0)⟩,
     ⟨"IN_REP", 1, 1, .ro, 0, (some 0)⟩,
     ⟨"CALL_BUSY", 2, 1, .ro, 0, (some 0)⟩,
     ⟨"LIB_INTACT", 3, 1, .ro, 1, none⟩,
     ⟨"MUZZLED", 4, 1, .ro, 0, none⟩,
     ⟨"OVF", 5, 1, .ro, 0, (some 0)⟩,
     ⟨"SAT_OP", 6, 1, .ro, 0, (some 0)⟩,
     ⟨"SAT_ST", 7, 1, .ro, 0, (some 0)⟩,
     ⟨"ILLEGAL", 8, 1, .w1c, 0, (some 0)⟩,
     ⟨"MEM_CHECK", 9, 1, .w1c, 0, (some 0)⟩,
     ⟨"DMA_ERR", 10, 1, .w1c, 0, (some 0)⟩,
     ⟨"CALL_TIMEOUT", 11, 1, .w1c, 0, (some 0)⟩]⟩,
  ⟨"AE_PC", 0x8, [], [⟨"PC", 0, 13, .ro, 0, (some 0)⟩]⟩,
  ⟨"AE_IVEC", 0xC, [], [⟨"IVEC", 0, 13, .rw, 0, (some 0)⟩]⟩,
  ⟨"AE_INT_PEND", 0x10, [], [⟨"PEND", 0, 4, .w1c, 0, (some 0)⟩]⟩,
  ⟨"AE_INT_EN", 0x14, [], [⟨"EN", 0, 4, .rw, 0, (some 0)⟩]⟩,
  ⟨"AE_DOORBELL", 0x18, [], [⟨"RING", 0, 1, .wo, 0, (some 0)⟩]⟩,
  ⟨"AE_CALL_LIMIT", 0x1C, [], [⟨"CALL_LIMIT", 0, 24, .rws, 0x186a0, none⟩]⟩,
  ⟨"AE_CYCLE_LO", 0x20, [], [⟨"CYCLE_LO", 0, 32, .ro, 0, (some 0)⟩]⟩,
  ⟨"AE_CYCLE_HI", 0x24, [], [⟨"CYCLE_HI", 0, 32, .ro, 0, (some 0)⟩]⟩,
  ⟨"AE_CALL_CNT", 0x28, [], [⟨"COUNT", 0, 32, .ro, 0, none⟩]⟩,
  ⟨"AE_CORR_CNT", 0x2C, [], [⟨"COUNT", 0, 32, .ro, 0, (some 0)⟩]⟩] ++ [
  ⟨"AE_MBOX", 0x100, [(16, 0x4)], [⟨"WORD", 0, 32, .ro, 0, (some 0)⟩]⟩,
  ⟨"AE_RESULT", 0x180, [(16, 0x4)], [⟨"WORD", 0, 32, .ro, 0, (some 0)⟩]⟩]

/-! ## Addresses -/

/-! Addresses of the global block (0x0000_0000). -/

/-- GLB_ID, R30. -/
def R.GLB_ID : Nat := 0x0
/-- GLB_AVAIL, R31. -/
def R.GLB_AVAIL : Nat := 0x4
/-- GLB_START, R478. -/
def R.GLB_START : Nat := 0x10
/-- GLB_REST, R478. -/
def R.GLB_REST : Nat := 0x14
/-- GLB_CKPT, R478. -/
def R.GLB_CKPT : Nat := 0x18
/-- DLOG_BASE, R479. -/
def R.DLOG_BASE : Nat := 0x40
/-- DLOG_SIZE, R479. -/
def R.DLOG_SIZE : Nat := 0x44
/-- DLOG_WR_LO, R479. -/
def R.DLOG_WR_LO : Nat := 0x48
/-- DLOG_WR_HI, R479. -/
def R.DLOG_WR_HI : Nat := 0x4C
/-- DLOG_RD_LO, R479. -/
def R.DLOG_RD_LO : Nat := 0x50
/-- DLOG_RD_HI, R479. -/
def R.DLOG_RD_HI : Nat := 0x54
/-- DLOG_LOST, R479. -/
def R.DLOG_LOST : Nat := 0x58
/-! Addresses of the fault collector (0x0001_0000). -/

/-- FLT_STATUS, R425. -/
def R.FLT_STATUS : Nat := 0x10000
/-- FLT_PENDING, R425. -/
def R.FLT_PENDING : Nat := 0x10004
/-- FLT_CLEAR, R425. -/
def R.FLT_CLEAR : Nat := 0x10008
/-- FLT_ALERT_MASK, R425. -/
def R.FLT_ALERT_MASK : Nat := 0x1000C
/-- FLT_FIRST_LO, R425. -/
def R.FLT_FIRST_LO : Nat := 0x10010
/-- FLT_FIRST_HI, R425. -/
def R.FLT_FIRST_HI : Nat := 0x10014
/-- FLT_FIRST_INFO, R425. -/
def R.FLT_FIRST_INFO : Nat := 0x10018
/-- FLT_FIRST_TIME_LO, R425. -/
def R.FLT_FIRST_TIME_LO : Nat := 0x1001C
/-- FLT_FIRST_TIME_HI, R425. -/
def R.FLT_FIRST_TIME_HI : Nat := 0x10020
/-- FLT_MSG_CNT, R425. -/
def R.FLT_MSG_CNT : Nat := 0x10024
/-- FLT_LOG_IDX, R425. -/
def R.FLT_LOG_IDX : Nat := 0x10028
/-- FLT_HIST_DROP, R425. -/
def R.FLT_HIST_DROP : Nat := 0x1002C
/-- FLT_UNMUZZLE, R425. -/
def R.FLT_UNMUZZLE : Nat := 0x10030
/-- FLT_MUZZLE, R425. -/
def R.FLT_MUZZLE : Nat := 0x10034
/-- FLT_SEV, R425. -/
def R.FLT_SEV (i : Nat) : Nat := 0x10100 + 0x4 * i
/-! Addresses of the housekeeping (0x0002_0000). -/

/-- HK_CTL, R427. -/
def R.HK_CTL : Nat := 0x20000
/-- HK_STATUS, R427. -/
def R.HK_STATUS : Nat := 0x20004
/-- HK_TEMP, R427. -/
def R.HK_TEMP (i : Nat) : Nat := 0x20010 + 0x4 * i
/-- HK_GRAD, R427. -/
def R.HK_GRAD (i : Nat) : Nat := 0x20030 + 0x4 * i
/-- HK_TMAX, R427. -/
def R.HK_TMAX : Nat := 0x20044
/-! Addresses of the clock generation (0x0003_0000). -/

/-- CLK_STATUS, R394. -/
def R.CLK_STATUS : Nat := 0x30000
/-- CLK_SEQ_ON, R394. -/
def R.CLK_SEQ_ON : Nat := 0x30004
/-- CLK_OVR, R394. -/
def R.CLK_OVR : Nat := 0x30008
/-- CLK_JUMP, R394. -/
def R.CLK_JUMP : Nat := 0x3000C
/-- CLK_GRP_CTL, R394. -/
def R.CLK_GRP_CTL : Nat := 0x30010
/-- CLK_GRP_STATUS, R394. -/
def R.CLK_GRP_STATUS : Nat := 0x30014
/-- CLK_FLUSH_CNT, R394. -/
def R.CLK_FLUSH_CNT : Nat := 0x30018
/-- CLK_SEQ_PHASE, R394. -/
def R.CLK_SEQ_PHASE (i : Nat) : Nat := 0x30040 + 0x4 * i
/-! Addresses of the link (0x0004_0000). -/

/-- LNK_CTL, R318. -/
def R.LNK_CTL (i : Nat) : Nat := 0x40000 + 0x100 * i
/-- LNK_STATUS, R318. -/
def R.LNK_STATUS (i : Nat) : Nat := 0x40004 + 0x100 * i
/-- LNK_CRC_CNT, R318. -/
def R.LNK_CRC_CNT (i : Nat) : Nat := 0x40008 + 0x100 * i
/-- LNK_REPLAY_CNT, R318. -/
def R.LNK_REPLAY_CNT (i : Nat) : Nat := 0x4000C + 0x100 * i
/-- LNK_RETRAIN_CNT, R318. -/
def R.LNK_RETRAIN_CNT (i : Nat) : Nat := 0x40010 + 0x100 * i
/-- LNK_DISCARD_CNT, R318. -/
def R.LNK_DISCARD_CNT (i : Nat) : Nat := 0x40014 + 0x100 * i
/-- LNK_FWD, R318. -/
def R.LNK_FWD (i : Nat) : Nat := 0x40018 + 0x100 * i
/-- LNK_EVT_CFG, R319. -/
def R.LNK_EVT_CFG : Nat := 0x40200
/-- LNK_EVT_LOST, R319. -/
def R.LNK_EVT_LOST : Nat := 0x40204
/-- LNK_INFLIGHT, R319. -/
def R.LNK_INFLIGHT : Nat := 0x40208
/-- LNK_SESSION, R319. -/
def R.LNK_SESSION : Nat := 0x4020C
/-- LNK_RX_STATUS, R319. -/
def R.LNK_RX_STATUS : Nat := 0x40210
/-- LNK_BADPKT_CNT, R319. -/
def R.LNK_BADPKT_CNT : Nat := 0x40214
/-- LNK_A_SLOT_SH, R319. -/
def R.LNK_A_SLOT_SH (i : Nat) : Nat := 0x40400 + 0x4 * i
/-- LNK_A_SLOT_ACT, R319. -/
def R.LNK_A_SLOT_ACT (i : Nat) : Nat := 0x40440 + 0x4 * i
/-- LNK_B_SLOT_SH, R319. -/
def R.LNK_B_SLOT_SH (i : Nat) : Nat := 0x40480 + 0x4 * i
/-- LNK_B_SLOT_ACT, R319. -/
def R.LNK_B_SLOT_ACT (i : Nat) : Nat := 0x404C0 + 0x4 * i
/-! Addresses of the MPA and DRAM controllers (0x0005_0000). -/

/-- MPA_CTL, R376. -/
def R.MPA_CTL : Nat := 0x50000
/-- MPA_STATUS, R376. -/
def R.MPA_STATUS : Nat := 0x50004
/-- MPA_WDOG, R376. -/
def R.MPA_WDOG : Nat := 0x50008
/-- MPA_SWAP, R376. -/
def R.MPA_SWAP : Nat := 0x5000C
/-- MPA_MAP, R376. -/
def R.MPA_MAP : Nat := 0x50010
/-- MPA_CLASS_SH, R376. -/
def R.MPA_CLASS_SH (i : Nat) : Nat := 0x50020 + 0x4 * i
/-- MPA_CLASS_ACT, R376. -/
def R.MPA_CLASS_ACT (i : Nat) : Nat := 0x50030 + 0x4 * i
/-- MPA_REQ, R376. -/
def R.MPA_REQ (i : Nat) : Nat := 0x50040 + 0x4 * i
/-- DRM_STATUS, R377. -/
def R.DRM_STATUS (i : Nat) : Nat := 0x50100 + 0x80 * i
/-- DRM_PC_MUZZLED, R377. -/
def R.DRM_PC_MUZZLED (i : Nat) : Nat := 0x50104 + 0x80 * i
/-- DRM_CE_CNT, R377. -/
def R.DRM_CE_CNT (i : Nat) : Nat := 0x50108 + 0x80 * i
/-- DRM_UE_CNT, R377. -/
def R.DRM_UE_CNT (i : Nat) : Nat := 0x5010C + 0x80 * i
/-! Addresses of the MRAM store (0x0006_0000). -/

/-- MRM_CTL, R378. -/
def R.MRM_CTL : Nat := 0x60000
/-- MRM_DRAM, R378. -/
def R.MRM_DRAM : Nat := 0x60004
/-- MRM_OFFSET, R378. -/
def R.MRM_OFFSET : Nat := 0x60008
/-- MRM_LEN, R378. -/
def R.MRM_LEN : Nat := 0x6000C
/-- MRM_STATUS, R378. -/
def R.MRM_STATUS : Nat := 0x60010
/-- MRM_CE_CNT, R378. -/
def R.MRM_CE_CNT : Nat := 0x60014
/-! Addresses of the Whistle (0x0007_0000). -/

/-- WH_CTL, R198. -/
def R.WH_CTL : Nat := 0x70000
/-- WH_STATUS, R198. -/
def R.WH_STATUS : Nat := 0x70004
/-- WH_DELAY, R198. -/
def R.WH_DELAY : Nat := 0x70008
/-- WH_TIME_LO, R198. -/
def R.WH_TIME_LO : Nat := 0x7000C
/-- WH_TIME_HI, R198. -/
def R.WH_TIME_HI : Nat := 0x70010
/-- WH_TIME_SET_LO, R198. -/
def R.WH_TIME_SET_LO : Nat := 0x70014
/-- WH_TIME_SET_HI, R198. -/
def R.WH_TIME_SET_HI : Nat := 0x70018
/-- WH_SWAP_LO, R198. -/
def R.WH_SWAP_LO : Nat := 0x7001C
/-- WH_SWAP_HI, R198. -/
def R.WH_SWAP_HI : Nat := 0x70020
/-- WH_EMIT, R198. -/
def R.WH_EMIT : Nat := 0x70024
/-- WH_ALLSTOP, R198. -/
def R.WH_ALLSTOP : Nat := 0x70028
/-- WH_EVT_CNT, R198. -/
def R.WH_EVT_CNT (i : Nat) : Nat := 0x70040 + 0x4 * i
/-- WH_MERGE_CNT, R198. -/
def R.WH_MERGE_CNT (i : Nat) : Nat := 0x70060 + 0x4 * i
/-- WH_SLOT_SH, R198. -/
def R.WH_SLOT_SH (i : Nat) : Nat := 0x70400 + 0x4 * i
/-- WH_SLOT_ACT, R198. -/
def R.WH_SLOT_ACT (i : Nat) : Nat := 0x70600 + 0x4 * i
/-! Addresses of the twin (0x0007_1000). -/

/-- TWN_CTL, R480. -/
def R.TWN_CTL : Nat := 0x71000
/-- TWN_STATUS, R480. -/
def R.TWN_STATUS : Nat := 0x71004
/-- TWN_MIR_BASE, R480. -/
def R.TWN_MIR_BASE : Nat := 0x71008
/-- TWN_MIR_RSTRIDE, R480. -/
def R.TWN_MIR_RSTRIDE : Nat := 0x7100C
/-- TWN_MIR_LAG, R480. -/
def R.TWN_MIR_LAG : Nat := 0x71010
/-! Addresses of the Shepherd (0x0008_0000). -/

/-- SHP_SITE_CTL, R38. -/
def R.SHP_SITE_CTL (i : Nat) : Nat := 0x88000 + 0x20 * i
/-- SHP_SITE_FFB_LO, R38. -/
def R.SHP_SITE_FFB_LO (i : Nat) : Nat := 0x88004 + 0x20 * i
/-- SHP_SITE_FFB_HI, R38. -/
def R.SHP_SITE_FFB_HI (i : Nat) : Nat := 0x88008 + 0x20 * i
/-- SHP_SITE_FAILS, R38. -/
def R.SHP_SITE_FAILS (i : Nat) : Nat := 0x8800C + 0x20 * i
/-- SHP_SITE_FLOW, R38. -/
def R.SHP_SITE_FLOW (i : Nat) : Nat := 0x88010 + 0x20 * i
/-- SHP_SITE_REPAIR, R38. -/
def R.SHP_SITE_REPAIR (i : Nat) : Nat := 0x88014 + 0x20 * i
/-- SHP_SITE_MEAS, R38. -/
def R.SHP_SITE_MEAS (i : Nat) : Nat := 0x88018 + 0x20 * i
/-- SHP_STATUS, R350. -/
def R.SHP_STATUS : Nat := 0x80000
/-- SHP_IMAGE_VER, R350. -/
def R.SHP_IMAGE_VER : Nat := 0x80004
/-- SHP_RESTART_CNT, R350. -/
def R.SHP_RESTART_CNT : Nat := 0x80008
/-- SHP_PROTECT_CNT, R350. -/
def R.SHP_PROTECT_CNT : Nat := 0x8000C
/-- SHP_LEASH_DEFAULT, R350. -/
def R.SHP_LEASH_DEFAULT : Nat := 0x80010
/-- SHP_FLOW, R350. -/
def R.SHP_FLOW (i : Nat) : Nat := 0x80040 + 0x4 * i
/-- SHP_LOCK, R350. -/
def R.SHP_LOCK (i : Nat) : Nat := 0x80100 + 0x4 * i
/-! Addresses of the calibration (0x0008_1000). -/

/-- CAL_CTL, R444. -/
def R.CAL_CTL : Nat := 0x81000
/-- CAL_STATUS, R444. -/
def R.CAL_STATUS : Nat := 0x81004
/-- CAL_INTERVAL, R444. -/
def R.CAL_INTERVAL (i : Nat) : Nat := 0x81010 + 0x4 * i
/-- CAL_REST, R444. -/
def R.CAL_REST : Nat := 0x81040
/-! Addresses of the MSP and GPIO (0x0009_0000). -/

/-- MSP_STATUS, R481. -/
def R.MSP_STATUS : Nat := 0x90000
/-- MSP_ALIVE, R481. -/
def R.MSP_ALIVE : Nat := 0x90004
/-- MSP_IND_ADDR, R481. -/
def R.MSP_IND_ADDR : Nat := 0x90008
/-- MSP_IND_DATA, R481. -/
def R.MSP_IND_DATA : Nat := 0x9000C
/-- MSP_IND_STATUS, R481. -/
def R.MSP_IND_STATUS : Nat := 0x90010
/-- MSP_TAP, R481. -/
def R.MSP_TAP : Nat := 0x90014
/-- GPIO_DIR, R482. -/
def R.GPIO_DIR : Nat := 0x90100
/-- GPIO_OUT, R482. -/
def R.GPIO_OUT : Nat := 0x90104
/-- GPIO_IN, R482. -/
def R.GPIO_IN : Nat := 0x90108
/-- GPIO_SAFE, R482. -/
def R.GPIO_SAFE : Nat := 0x9010C
/-- GPIO_ISO, R482. -/
def R.GPIO_ISO : Nat := 0x90110
/-- GPIO_ISO_IMG, R482. -/
def R.GPIO_ISO_IMG (i : Nat) : Nat := 0x90200 + 0x4 * i
/-! Addresses of the pack sequencer unit (pack +0x0000). -/

/-- SEQ_CTL, R138. -/
def R.SEQ_CTL (p : Nat) : Nat := 0x100000 + 0x10000 * p
/-- SEQ_STATUS, R138. -/
def R.SEQ_STATUS (p : Nat) : Nat := 0x100004 + 0x10000 * p
/-- SEQ_HOLD_CFG, R138. -/
def R.SEQ_HOLD_CFG (p : Nat) : Nat := 0x100008 + 0x10000 * p
/-- SEQ_HOLD_LOW, R138. -/
def R.SEQ_HOLD_LOW (p : Nat) : Nat := 0x10000C + 0x10000 * p
/-- SEQ_BEAT_LO, R138. -/
def R.SEQ_BEAT_LO (p : Nat) : Nat := 0x100010 + 0x10000 * p
/-- SEQ_BEAT_HI, R138. -/
def R.SEQ_BEAT_HI (p : Nat) : Nat := 0x100014 + 0x10000 * p
/-- SEQ_SEG_BEAT, R138. -/
def R.SEQ_SEG_BEAT (p : Nat) : Nat := 0x100018 + 0x10000 * p
/-- SEQ_WAIT_BEATS, R138. -/
def R.SEQ_WAIT_BEATS (p : Nat) : Nat := 0x10001C + 0x10000 * p
/-- SEQ_HOLD_CNT, R138. -/
def R.SEQ_HOLD_CNT (p : Nat) : Nat := 0x100020 + 0x10000 * p
/-- SEQ_HOLD_EVT, R138. -/
def R.SEQ_HOLD_EVT (p : Nat) : Nat := 0x100024 + 0x10000 * p
/-- SEQ_JUMP, R138. -/
def R.SEQ_JUMP (p : Nat) : Nat := 0x100028 + 0x10000 * p
/-- SEQ_PREFETCH, R138. -/
def R.SEQ_PREFETCH (p : Nat) : Nat := 0x10002C + 0x10000 * p
/-- SEQ_IMAGE, R138. -/
def R.SEQ_IMAGE (p : Nat) : Nat := 0x100030 + 0x10000 * p
/-- SEQ_CACHE, R138. -/
def R.SEQ_CACHE (p : Nat) : Nat := 0x100034 + 0x10000 * p
/-- SEQ_CORR_CNT, R138. -/
def R.SEQ_CORR_CNT (p : Nat) : Nat := 0x100038 + 0x10000 * p
/-! Addresses of the timing unit (+0x2000). -/

/-- TIM_CTL, R108. -/
def R.TIM_CTL (p : Nat) : Nat := 0x102000 + 0x10000 * p
/-- TIM_STATUS, R108. -/
def R.TIM_STATUS (p : Nat) : Nat := 0x102004 + 0x10000 * p
/-- TIM_TDR_CFG, R108. -/
def R.TIM_TDR_CFG (p : Nat) : Nat := 0x102008 + 0x10000 * p
/-- TIM_CONTACT_CFG, R108. -/
def R.TIM_CONTACT_CFG (p : Nat) : Nat := 0x10200C + 0x10000 * p
/-- TIM_ALIGN_TEMP, R108. -/
def R.TIM_ALIGN_TEMP (p : Nat) : Nat := 0x102010 + 0x10000 * p
/-- TIM_DRIFT_COEF, R108. -/
def R.TIM_DRIFT_COEF (p : Nat) : Nat := 0x102014 + 0x10000 * p
/-- TIM_COLL_CNT, R108. -/
def R.TIM_COLL_CNT (p : Nat) : Nat := 0x102018 + 0x10000 * p
/-- TIM_OVR_CNT, R108. -/
def R.TIM_OVR_CNT (p : Nat) : Nat := 0x10201C + 0x10000 * p
/-- TIM_PER_SH_LO, R109. -/
def R.TIM_PER_SH_LO (p : Nat) (i : Nat) : Nat := 0x102100 + 0x10000 * p + 0x8 * i
/-- TIM_PER_SH_HI, R109. -/
def R.TIM_PER_SH_HI (p : Nat) (i : Nat) : Nat := 0x102104 + 0x10000 * p + 0x8 * i
/-- TIM_PER_ACT_LO, R109. -/
def R.TIM_PER_ACT_LO (p : Nat) (i : Nat) : Nat := 0x102200 + 0x10000 * p + 0x8 * i
/-- TIM_PER_ACT_HI, R109. -/
def R.TIM_PER_ACT_HI (p : Nat) (i : Nat) : Nat := 0x102204 + 0x10000 * p + 0x8 * i
/-- TIM_CHA_DRV, R110. -/
def R.TIM_CHA_DRV (p : Nat) (i : Nat) : Nat := 0x102400 + 0x10000 * p + 0x10 * i
/-- TIM_CHA_CMP, R110. -/
def R.TIM_CHA_CMP (p : Nat) (i : Nat) : Nat := 0x102404 + 0x10000 * p + 0x10 * i
/-- TIM_CHA_RT, R110. -/
def R.TIM_CHA_RT (p : Nat) (i : Nat) : Nat := 0x102408 + 0x10000 * p + 0x10 * i
/-- TIM_CHA_STAT, R110. -/
def R.TIM_CHA_STAT (p : Nat) (i : Nat) : Nat := 0x10240C + 0x10000 * p + 0x10 * i
/-! Addresses of the capture unit (+0x4000). -/

/-- CAP_CTL, R182. -/
def R.CAP_CTL (p : Nat) : Nat := 0x104000 + 0x10000 * p
/-- CAP_RING_BASE, R182. -/
def R.CAP_RING_BASE (p : Nat) : Nat := 0x104004 + 0x10000 * p
/-- CAP_RING_SIZE, R182. -/
def R.CAP_RING_SIZE (p : Nat) : Nat := 0x104008 + 0x10000 * p
/-- CAP_WR_LO, R182. -/
def R.CAP_WR_LO (p : Nat) : Nat := 0x104010 + 0x10000 * p
/-- CAP_WR_HI, R182. -/
def R.CAP_WR_HI (p : Nat) : Nat := 0x104014 + 0x10000 * p
/-- CAP_RD_LO, R182. -/
def R.CAP_RD_LO (p : Nat) : Nat := 0x104018 + 0x10000 * p
/-- CAP_RD_HI, R182. -/
def R.CAP_RD_HI (p : Nat) : Nat := 0x10401C + 0x10000 * p
/-- CAP_HIWAT, R182. -/
def R.CAP_HIWAT (p : Nat) : Nat := 0x104020 + 0x10000 * p
/-- CAP_TRIG_EN, R182. -/
def R.CAP_TRIG_EN (p : Nat) : Nat := 0x104024 + 0x10000 * p
/-- CAP_TRIG_HOLDOFF, R182. -/
def R.CAP_TRIG_HOLDOFF (p : Nat) : Nat := 0x104028 + 0x10000 * p
/-- CAP_TRIG, R182. -/
def R.CAP_TRIG (p : Nat) : Nat := 0x10402C + 0x10000 * p
/-- CAP_KEEPALIVE, R182. -/
def R.CAP_KEEPALIVE (p : Nat) : Nat := 0x104030 + 0x10000 * p
/-- CAP_STATUS, R182. -/
def R.CAP_STATUS (p : Nat) : Nat := 0x104034 + 0x10000 * p
/-- CAP_LOST_LO, R182. -/
def R.CAP_LOST_LO (p : Nat) : Nat := 0x104038 + 0x10000 * p
/-- CAP_LOST_HI, R182. -/
def R.CAP_LOST_HI (p : Nat) : Nat := 0x10403C + 0x10000 * p
/-- CAP_MERGED_LO, R182. -/
def R.CAP_MERGED_LO (p : Nat) : Nat := 0x104040 + 0x10000 * p
/-- CAP_MERGED_HI, R182. -/
def R.CAP_MERGED_HI (p : Nat) : Nat := 0x104044 + 0x10000 * p
/-- CAP_MARK_LOST, R182. -/
def R.CAP_MARK_LOST (p : Nat) : Nat := 0x104048 + 0x10000 * p
/-- CAP_FAIL_SUM, R182. -/
def R.CAP_FAIL_SUM (p : Nat) : Nat := 0x10404C + 0x10000 * p
/-- CAP_SITE_INFO, R183. -/
def R.CAP_SITE_INFO (p : Nat) (i : Nat) : Nat := 0x104100 + 0x10000 * p + 0x20 * i
/-- CAP_SITE_FFB_LO, R183. -/
def R.CAP_SITE_FFB_LO (p : Nat) (i : Nat) : Nat := 0x104104 + 0x10000 * p + 0x20 * i
/-- CAP_SITE_FFB_HI, R183. -/
def R.CAP_SITE_FFB_HI (p : Nat) (i : Nat) : Nat := 0x104108 + 0x10000 * p + 0x20 * i
/-- CAP_SITE_FAILS, R183. -/
def R.CAP_SITE_FAILS (p : Nat) (i : Nat) : Nat := 0x10410C + 0x10000 * p + 0x20 * i
/-- CAP_SITE_LOG_LO, R183. -/
def R.CAP_SITE_LOG_LO (p : Nat) (i : Nat) : Nat := 0x104110 + 0x10000 * p + 0x20 * i
/-- CAP_SITE_LOG_HI, R183. -/
def R.CAP_SITE_LOG_HI (p : Nat) (i : Nat) : Nat := 0x104114 + 0x10000 * p + 0x20 * i
/-! Addresses of the APG and repair unit (+0x6000). -/

/-- APG_CTL, R161. -/
def R.APG_CTL (p : Nat) : Nat := 0x106000 + 0x10000 * p
/-- APG_STATUS, R161. -/
def R.APG_STATUS (p : Nat) : Nat := 0x106004 + 0x10000 * p
/-- APG_IDLE, R161. -/
def R.APG_IDLE (p : Nat) : Nat := 0x106008 + 0x10000 * p
/-- APG_BM_LOST_CNT, R161. -/
def R.APG_BM_LOST_CNT (p : Nat) : Nat := 0x10600C + 0x10000 * p
/-- APG_IMEM_ADDR, R161. -/
def R.APG_IMEM_ADDR (p : Nat) : Nat := 0x106010 + 0x10000 * p
/-- APG_IMEM_LO, R161. -/
def R.APG_IMEM_LO (p : Nat) : Nat := 0x106014 + 0x10000 * p
/-- APG_IMEM_HI, R161. -/
def R.APG_IMEM_HI (p : Nat) : Nat := 0x106018 + 0x10000 * p
/-- APG_X_CUR, R162. -/
def R.APG_X_CUR (p : Nat) : Nat := 0x106020 + 0x10000 * p
/-- APG_Y_CUR, R162. -/
def R.APG_Y_CUR (p : Nat) : Nat := 0x106040 + 0x10000 * p
/-- APG_X_BASE, R162. -/
def R.APG_X_BASE (p : Nat) : Nat := 0x106024 + 0x10000 * p
/-- APG_Y_BASE, R162. -/
def R.APG_Y_BASE (p : Nat) : Nat := 0x106044 + 0x10000 * p
/-- APG_X_MAX, R162. -/
def R.APG_X_MAX (p : Nat) : Nat := 0x106028 + 0x10000 * p
/-- APG_Y_MAX, R162. -/
def R.APG_Y_MAX (p : Nat) : Nat := 0x106048 + 0x10000 * p
/-- APG_X_STEP, R162. -/
def R.APG_X_STEP (p : Nat) : Nat := 0x10602C + 0x10000 * p
/-- APG_Y_STEP, R162. -/
def R.APG_Y_STEP (p : Nat) : Nat := 0x10604C + 0x10000 * p
/-- APG_X_MASK, R162. -/
def R.APG_X_MASK (p : Nat) : Nat := 0x106030 + 0x10000 * p
/-- APG_Y_MASK, R162. -/
def R.APG_Y_MASK (p : Nat) : Nat := 0x106050 + 0x10000 * p
/-- APG_X_SAVE, R162. -/
def R.APG_X_SAVE (p : Nat) : Nat := 0x106034 + 0x10000 * p
/-- APG_Y_SAVE, R162. -/
def R.APG_Y_SAVE (p : Nat) : Nat := 0x106054 + 0x10000 * p
/-- APG_BG, R163. -/
def R.APG_BG (p : Nat) (i : Nat) : Nat := 0x106100 + 0x10000 * p + 0x4 * i
/-- APG_TOPO_LO, R163. -/
def R.APG_TOPO_LO (p : Nat) (i : Nat) : Nat := 0x106140 + 0x10000 * p + 0x8 * i
/-- APG_TOPO_HI, R163. -/
def R.APG_TOPO_HI (p : Nat) (i : Nat) : Nat := 0x106144 + 0x10000 * p + 0x8 * i
/-- APG_ASCR_LO, R163. -/
def R.APG_ASCR_LO (p : Nat) (i : Nat) : Nat := 0x106200 + 0x10000 * p + 0x8 * i
/-- APG_ASCR_HI, R163. -/
def R.APG_ASCR_HI (p : Nat) (i : Nat) : Nat := 0x106204 + 0x10000 * p + 0x8 * i
/-- APG_DSCR_LO, R163. -/
def R.APG_DSCR_LO (p : Nat) (i : Nat) : Nat := 0x106400 + 0x10000 * p + 0x8 * i
/-- APG_DSCR_HI, R163. -/
def R.APG_DSCR_HI (p : Nat) (i : Nat) : Nat := 0x106404 + 0x10000 * p + 0x8 * i
/-- APG_MAP0, R163. -/
def R.APG_MAP0 (p : Nat) (i : Nat) : Nat := 0x106500 + 0x10000 * p + 0x4 * i
/-- APG_MAP1, R163. -/
def R.APG_MAP1 (p : Nat) (i : Nat) : Nat := 0x106580 + 0x10000 * p + 0x4 * i
/-- APG_BM_GEOM, R163. -/
def R.APG_BM_GEOM (p : Nat) : Nat := 0x106600 + 0x10000 * p
/-- APG_BM_BASE0, R163. -/
def R.APG_BM_BASE0 (p : Nat) : Nat := 0x106604 + 0x10000 * p
/-- APG_BM_BASE1, R163. -/
def R.APG_BM_BASE1 (p : Nat) : Nat := 0x106608 + 0x10000 * p
/-- APG_BM_STRIDE, R163. -/
def R.APG_BM_STRIDE (p : Nat) : Nat := 0x10660C + 0x10000 * p
/-- APG_BM_LOST, R163. -/
def R.APG_BM_LOST (p : Nat) (i : Nat) : Nat := 0x106680 + 0x10000 * p + 0x4 * i
/-- RA_CTL, R164. -/
def R.RA_CTL (p : Nat) : Nat := 0x107000 + 0x10000 * p
/-- RA_NODE_LIMIT, R164. -/
def R.RA_NODE_LIMIT (p : Nat) : Nat := 0x107004 + 0x10000 * p
/-- RA_SOL_BASE, R164. -/
def R.RA_SOL_BASE (p : Nat) : Nat := 0x107008 + 0x10000 * p
/-- RA_SOL_STRIDE, R164. -/
def R.RA_SOL_STRIDE (p : Nat) : Nat := 0x10700C + 0x10000 * p
/-- RA_REQ, R164. -/
def R.RA_REQ (p : Nat) : Nat := 0x107010 + 0x10000 * p
/-- RA_STATUS, R164. -/
def R.RA_STATUS (p : Nat) : Nat := 0x107014 + 0x10000 * p
/-- RA_DONE_CNT, R164. -/
def R.RA_DONE_CNT (p : Nat) : Nat := 0x107018 + 0x10000 * p
/-- RA_LAST, R164. -/
def R.RA_LAST (p : Nat) : Nat := 0x10701C + 0x10000 * p
/-! Addresses of the TMU unit (+0x8000). -/

/-- TMU_CTL, R215. -/
def R.TMU_CTL (t : Nat) : Nat := 0x108000 + 0x10000 * (t / 4) + 0x400 * (t % 4)
/-- TMU_SRC, R215. -/
def R.TMU_SRC (t : Nat) : Nat := 0x108004 + 0x10000 * (t / 4) + 0x400 * (t % 4)
/-- TMU_SKIP, R215. -/
def R.TMU_SKIP (t : Nat) : Nat := 0x108008 + 0x10000 * (t / 4) + 0x400 * (t % 4)
/-- TMU_TIMEOUT_LO, R215. -/
def R.TMU_TIMEOUT_LO (t : Nat) : Nat := 0x10800C + 0x10000 * (t / 4) + 0x400 * (t % 4)
/-- TMU_TIMEOUT_HI, R215. -/
def R.TMU_TIMEOUT_HI (t : Nat) : Nat := 0x108010 + 0x10000 * (t / 4) + 0x400 * (t % 4)
/-- TMU_GATE, R215. -/
def R.TMU_GATE (t : Nat) : Nat := 0x108014 + 0x10000 * (t / 4) + 0x400 * (t % 4)
/-- TMU_NREP, R215. -/
def R.TMU_NREP (t : Nat) : Nat := 0x108018 + 0x10000 * (t / 4) + 0x400 * (t % 4)
/-- TMU_BUF_BASE, R215. -/
def R.TMU_BUF_BASE (t : Nat) : Nat := 0x10801C + 0x10000 * (t / 4) + 0x400 * (t % 4)
/-- TMU_BUF_SIZE, R215. -/
def R.TMU_BUF_SIZE (t : Nat) : Nat := 0x108020 + 0x10000 * (t / 4) + 0x400 * (t % 4)
/-- TMU_CALGEN, R215. -/
def R.TMU_CALGEN (t : Nat) : Nat := 0x108024 + 0x10000 * (t / 4) + 0x400 * (t % 4)
/-- TMU_GO, R215. -/
def R.TMU_GO (t : Nat) : Nat := 0x108028 + 0x10000 * (t / 4) + 0x400 * (t % 4)
/-- TMU_STATUS, R215. -/
def R.TMU_STATUS (t : Nat) : Nat := 0x10802C + 0x10000 * (t / 4) + 0x400 * (t % 4)
/-- TMU_CAL, R215. -/
def R.TMU_CAL (t : Nat) : Nat := 0x108030 + 0x10000 * (t / 4) + 0x400 * (t % 4)
/-- TMU_CLOSE_CNT, R215. -/
def R.TMU_CLOSE_CNT (t : Nat) : Nat := 0x108034 + 0x10000 * (t / 4) + 0x400 * (t % 4)
/-- TMU_LIN, R215. -/
def R.TMU_LIN (t : Nat) (i : Nat) : Nat := 0x108100 + 0x10000 * (t / 4) + 0x400 * (t % 4) + 0x4 * i
/-- TMU_RES_HDR, R216. -/
def R.TMU_RES_HDR (t : Nat) : Nat := 0x108040 + 0x10000 * (t / 4) + 0x400 * (t % 4)
/-- TMU_START_DT_LO, R216. -/
def R.TMU_START_DT_LO (t : Nat) : Nat := 0x108044 + 0x10000 * (t / 4) + 0x400 * (t % 4)
/-- TMU_START_DT_HI, R216. -/
def R.TMU_START_DT_HI (t : Nat) : Nat := 0x108048 + 0x10000 * (t / 4) + 0x400 * (t % 4)
/-- TMU_COUNT_LO, R216. -/
def R.TMU_COUNT_LO (t : Nat) : Nat := 0x10804C + 0x10000 * (t / 4) + 0x400 * (t % 4)
/-- TMU_COUNT_HI, R216. -/
def R.TMU_COUNT_HI (t : Nat) : Nat := 0x108050 + 0x10000 * (t / 4) + 0x400 * (t % 4)
/-- TMU_SPAN_LO, R216. -/
def R.TMU_SPAN_LO (t : Nat) : Nat := 0x108054 + 0x10000 * (t / 4) + 0x400 * (t % 4)
/-- TMU_SPAN_HI, R216. -/
def R.TMU_SPAN_HI (t : Nat) : Nat := 0x108058 + 0x10000 * (t / 4) + 0x400 * (t % 4)
/-- TMU_PERIOD_LO, R216. -/
def R.TMU_PERIOD_LO (t : Nat) : Nat := 0x10805C + 0x10000 * (t / 4) + 0x400 * (t % 4)
/-- TMU_PERIOD_HI, R216. -/
def R.TMU_PERIOD_HI (t : Nat) : Nat := 0x108060 + 0x10000 * (t / 4) + 0x400 * (t % 4)
/-- TMU_STOP_LO, R216. -/
def R.TMU_STOP_LO (t : Nat) (i : Nat) : Nat := 0x108064 + 0x10000 * (t / 4) + 0x400 * (t % 4) + 0x8 * i
/-- TMU_STOP_HI, R216. -/
def R.TMU_STOP_HI (t : Nat) (i : Nat) : Nat := 0x108068 + 0x10000 * (t / 4) + 0x400 * (t % 4) + 0x8 * i
/-- TMU_RES_TRL, R216. -/
def R.TMU_RES_TRL (t : Nat) : Nat := 0x1080E4 + 0x10000 * (t / 4) + 0x400 * (t % 4)
/-! Addresses of the channel unit (+0xA000). -/

/-- CH_VIH, R83. -/
def R.CH_VIH (n : Nat) : Nat := 0x10A000 + 0x10000 * (n / 32) + 0x40 * (n % 32)
/-- CH_VIL, R83. -/
def R.CH_VIL (n : Nat) : Nat := 0x10A004 + 0x10000 * (n / 32) + 0x40 * (n % 32)
/-- CH_VTT, R83. -/
def R.CH_VTT (n : Nat) : Nat := 0x10A008 + 0x10000 * (n / 32) + 0x40 * (n % 32)
/-- CH_VOH, R83. -/
def R.CH_VOH (n : Nat) : Nat := 0x10A00C + 0x10000 * (n / 32) + 0x40 * (n % 32)
/-- CH_VOL, R83. -/
def R.CH_VOL (n : Nat) : Nat := 0x10A010 + 0x10000 * (n / 32) + 0x40 * (n % 32)
/-- CH_VCOM, R83. -/
def R.CH_VCOM (n : Nat) : Nat := 0x10A014 + 0x10000 * (n / 32) + 0x40 * (n % 32)
/-- CH_LOAD, R83. -/
def R.CH_LOAD (n : Nat) : Nat := 0x10A018 + 0x10000 * (n / 32) + 0x40 * (n % 32)
/-- CH_CTL, R83. -/
def R.CH_CTL (n : Nat) : Nat := 0x10A01C + 0x10000 * (n / 32) + 0x40 * (n % 32)
/-- CH_PMU_CTL, R83. -/
def R.CH_PMU_CTL (n : Nat) : Nat := 0x10A020 + 0x10000 * (n / 32) + 0x40 * (n % 32)
/-- CH_PMU_FORCE, R83. -/
def R.CH_PMU_FORCE (n : Nat) : Nat := 0x10A024 + 0x10000 * (n / 32) + 0x40 * (n % 32)
/-- CH_PMU_CLAMP, R83. -/
def R.CH_PMU_CLAMP (n : Nat) : Nat := 0x10A028 + 0x10000 * (n / 32) + 0x40 * (n % 32)
/-- CH_PMU_MEAS, R83. -/
def R.CH_PMU_MEAS (n : Nat) : Nat := 0x10A02C + 0x10000 * (n / 32) + 0x40 * (n % 32)
/-- CH_PMU_RESULT, R83. -/
def R.CH_PMU_RESULT (n : Nat) : Nat := 0x10A030 + 0x10000 * (n / 32) + 0x40 * (n % 32)
/-- CH_STATUS, R83. -/
def R.CH_STATUS (n : Nat) : Nat := 0x10A034 + 0x10000 * (n / 32) + 0x40 * (n % 32)
/-- CH_LVL_READ, R83. -/
def R.CH_LVL_READ (n : Nat) : Nat := 0x10A038 + 0x10000 * (n / 32) + 0x40 * (n % 32)
/-- CH_APPLY, R84. -/
def R.CH_APPLY (p : Nat) : Nat := 0x10A800 + 0x10000 * p
/-- CH_LVLCHK, R84. -/
def R.CH_LVLCHK (p : Nat) : Nat := 0x10A804 + 0x10000 * p
/-- CH_FAULT_SUM, R84. -/
def R.CH_FAULT_SUM (p : Nat) : Nat := 0x10A808 + 0x10000 * p
/-- CH_LANE, R85. -/
def R.CH_LANE (p : Nat) (i : Nat) : Nat := 0x10A900 + 0x10000 * p + 0x4 * i
/-! Addresses of the PSM unit (+0xC000). -/

/-- PSM_CTL, R251. -/
def R.PSM_CTL (n : Nat) : Nat := 0x10C000 + 0x10000 * (n / 6) + 0x400 * (n % 6)
/-- PSM_LEVEL, R251. -/
def R.PSM_LEVEL (n : Nat) : Nat := 0x10C004 + 0x10000 * (n / 6) + 0x400 * (n % 6)
/-- PSM_SLEW, R251. -/
def R.PSM_SLEW (n : Nat) : Nat := 0x10C008 + 0x10000 * (n / 6) + 0x400 * (n % 6)
/-- PSM_CLAMP, R251. -/
def R.PSM_CLAMP (n : Nat) : Nat := 0x10C00C + 0x10000 * (n / 6) + 0x400 * (n % 6)
/-- PSM_VCLAMP_LO, R251. -/
def R.PSM_VCLAMP_LO (n : Nat) : Nat := 0x10C010 + 0x10000 * (n / 6) + 0x400 * (n % 6)
/-- PSM_VCLAMP_HI, R251. -/
def R.PSM_VCLAMP_HI (n : Nat) : Nat := 0x10C014 + 0x10000 * (n / 6) + 0x400 * (n % 6)
/-- PSM_REST, R251. -/
def R.PSM_REST (n : Nat) : Nat := 0x10C018 + 0x10000 * (n / 6) + 0x400 * (n % 6)
/-- PSM_SHORT, R251. -/
def R.PSM_SHORT (n : Nat) : Nat := 0x10C01C + 0x10000 * (n / 6) + 0x400 * (n % 6)
/-- PSM_CHK_TOL, R251. -/
def R.PSM_CHK_TOL (n : Nat) : Nat := 0x10C020 + 0x10000 * (n / 6) + 0x400 * (n % 6)
/-- PSM_CHK_CFG, R251. -/
def R.PSM_CHK_CFG (n : Nat) : Nat := 0x10C024 + 0x10000 * (n / 6) + 0x400 * (n % 6)
/-- PSM_CLK, R251. -/
def R.PSM_CLK (n : Nat) : Nat := 0x10C028 + 0x10000 * (n / 6) + 0x400 * (n % 6)
/-- PSM_RESAMP, R251. -/
def R.PSM_RESAMP (n : Nat) : Nat := 0x10C02C + 0x10000 * (n / 6) + 0x400 * (n % 6)
/-- PSM_WF_TAB, R251. -/
def R.PSM_WF_TAB (n : Nat) : Nat := 0x10C030 + 0x10000 * (n / 6) + 0x400 * (n % 6)
/-- PSM_WF_COUNT, R251. -/
def R.PSM_WF_COUNT (n : Nat) : Nat := 0x10C034 + 0x10000 * (n / 6) + 0x400 * (n % 6)
/-- PSM_SINE_FTW_LO, R251. -/
def R.PSM_SINE_FTW_LO (n : Nat) : Nat := 0x10C038 + 0x10000 * (n / 6) + 0x400 * (n % 6)
/-- PSM_SINE_FTW_HI, R251. -/
def R.PSM_SINE_FTW_HI (n : Nat) : Nat := 0x10C03C + 0x10000 * (n / 6) + 0x400 * (n % 6)
/-- PSM_SINE_PH0_LO, R251. -/
def R.PSM_SINE_PH0_LO (n : Nat) : Nat := 0x10C040 + 0x10000 * (n / 6) + 0x400 * (n % 6)
/-- PSM_SINE_PH0_HI, R251. -/
def R.PSM_SINE_PH0_HI (n : Nat) : Nat := 0x10C044 + 0x10000 * (n / 6) + 0x400 * (n % 6)
/-- PSM_SINE_AMPL, R251. -/
def R.PSM_SINE_AMPL (n : Nat) : Nat := 0x10C048 + 0x10000 * (n / 6) + 0x400 * (n % 6)
/-- PSM_SINE_OFFSET, R251. -/
def R.PSM_SINE_OFFSET (n : Nat) : Nat := 0x10C04C + 0x10000 * (n / 6) + 0x400 * (n % 6)
/-- PSM_THR, R251. -/
def R.PSM_THR (n : Nat) : Nat := 0x10C050 + 0x10000 * (n / 6) + 0x400 * (n % 6)
/-- PSM_BOOST, R251. -/
def R.PSM_BOOST (n : Nat) : Nat := 0x10C054 + 0x10000 * (n / 6) + 0x400 * (n % 6)
/-- PSM_MEAS_CFG, R251. -/
def R.PSM_MEAS_CFG (n : Nat) : Nat := 0x10C058 + 0x10000 * (n / 6) + 0x400 * (n % 6)
/-- PSM_GO, R251. -/
def R.PSM_GO (n : Nat) : Nat := 0x10C05C + 0x10000 * (n / 6) + 0x400 * (n % 6)
/-- PSM_SNAP_CFG, R251. -/
def R.PSM_SNAP_CFG (n : Nat) : Nat := 0x10C060 + 0x10000 * (n / 6) + 0x400 * (n % 6)
/-- PSM_SNAP_LEN, R251. -/
def R.PSM_SNAP_LEN (n : Nat) : Nat := 0x10C064 + 0x10000 * (n / 6) + 0x400 * (n % 6)
/-- PSM_SNAP_DIV, R251. -/
def R.PSM_SNAP_DIV (n : Nat) : Nat := 0x10C068 + 0x10000 * (n / 6) + 0x400 * (n % 6)
/-- PSM_SNAP_BASE, R251. -/
def R.PSM_SNAP_BASE (n : Nat) : Nat := 0x10C06C + 0x10000 * (n / 6) + 0x400 * (n % 6)
/-- PSM_SNAP_SIZE, R251. -/
def R.PSM_SNAP_SIZE (n : Nat) : Nat := 0x10C070 + 0x10000 * (n / 6) + 0x400 * (n % 6)
/-- PSM_CUE, R251. -/
def R.PSM_CUE (n : Nat) (i : Nat) : Nat := 0x10C100 + 0x10000 * (n / 6) + 0x400 * (n % 6) + 0x4 * i
/-- PSM_STATUS, R252. -/
def R.PSM_STATUS (n : Nat) : Nat := 0x10C080 + 0x10000 * (n / 6) + 0x400 * (n % 6)
/-- PSM_WAVE, R252. -/
def R.PSM_WAVE (n : Nat) : Nat := 0x10C084 + 0x10000 * (n / 6) + 0x400 * (n % 6)
/-- PSM_MON_F, R252. -/
def R.PSM_MON_F (n : Nat) : Nat := 0x10C088 + 0x10000 * (n / 6) + 0x400 * (n % 6)
/-- PSM_MON_M, R252. -/
def R.PSM_MON_M (n : Nat) : Nat := 0x10C08C + 0x10000 * (n / 6) + 0x400 * (n % 6)
/-- PSM_MEAS_MEAN, R252. -/
def R.PSM_MEAS_MEAN (n : Nat) : Nat := 0x10C090 + 0x10000 * (n / 6) + 0x400 * (n % 6)
/-- PSM_MEAS_MIN, R252. -/
def R.PSM_MEAS_MIN (n : Nat) : Nat := 0x10C094 + 0x10000 * (n / 6) + 0x400 * (n % 6)
/-- PSM_MEAS_MAX, R252. -/
def R.PSM_MEAS_MAX (n : Nat) : Nat := 0x10C098 + 0x10000 * (n / 6) + 0x400 * (n % 6)
/-- PSM_CUE_IGN_CNT, R252. -/
def R.PSM_CUE_IGN_CNT (n : Nat) : Nat := 0x10C09C + 0x10000 * (n / 6) + 0x400 * (n % 6)
/-- PSM_SNAP_DONE, R252. -/
def R.PSM_SNAP_DONE (n : Nat) : Nat := 0x10C0A0 + 0x10000 * (n / 6) + 0x400 * (n % 6)
/-- PSM_SNAP_MISSED, R252. -/
def R.PSM_SNAP_MISSED (n : Nat) : Nat := 0x10C0A4 + 0x10000 * (n / 6) + 0x400 * (n % 6)
/-! Addresses of the pack status unit (+0xE000). -/

/-- PK_STATUS, R32. -/
def R.PK_STATUS (p : Nat) : Nat := 0x10E000 + 0x10000 * p
/-- PK_CHMAP, R39. -/
def R.PK_CHMAP (p : Nat) (i : Nat) : Nat := 0x10E040 + 0x10000 * p + 0x4 * i
/-- PK_PSMMAP, R41. -/
def R.PK_PSMMAP (p : Nat) (i : Nat) : Nat := 0x10E0C0 + 0x10000 * p + 0x4 * i
/-- PK_XOR_DRV, R44. -/
def R.PK_XOR_DRV (p : Nat) (i : Nat) : Nat := 0x10E400 + 0x10000 * p + 0x4 * i
/-- PK_XOR_EXP, R44. -/
def R.PK_XOR_EXP (p : Nat) (i : Nat) : Nat := 0x10E800 + 0x10000 * p + 0x4 * i
/-- PK_MASK, R44. -/
def R.PK_MASK (p : Nat) (i : Nat) : Nat := 0x10EC00 + 0x10000 * p + 0x4 * i
/-- CAL_PK_DUE, R445. -/
def R.CAL_PK_DUE (p : Nat) : Nat := 0x10F000 + 0x10000 * p
/-- CAL_CH_REJ, R445. -/
def R.CAL_CH_REJ (p : Nat) (i : Nat) : Nat := 0x10F100 + 0x10000 * p + 0x4 * i
/-- CAL_PSM_REJ, R445. -/
def R.CAL_PSM_REJ (p : Nat) (i : Nat) : Nat := 0x10F180 + 0x10000 * p + 0x4 * i
/-- CAL_TMU_REJ, R445. -/
def R.CAL_TMU_REJ (p : Nat) (i : Nat) : Nat := 0x10F1A0 + 0x10000 * p + 0x4 * i
/-! Addresses of the AE core block (0x0020_0000 + c × 0x0001_0000). -/

/-- AE_CTL, R280. -/
def R.AE_CTL (c : Nat) : Nat := 0x200000 + 0x10000 * c
/-- AE_STATUS, R280. -/
def R.AE_STATUS (c : Nat) : Nat := 0x200004 + 0x10000 * c
/-- AE_PC, R280. -/
def R.AE_PC (c : Nat) : Nat := 0x200008 + 0x10000 * c
/-- AE_IVEC, R280. -/
def R.AE_IVEC (c : Nat) : Nat := 0x20000C + 0x10000 * c
/-- AE_INT_PEND, R280. -/
def R.AE_INT_PEND (c : Nat) : Nat := 0x200010 + 0x10000 * c
/-- AE_INT_EN, R280. -/
def R.AE_INT_EN (c : Nat) : Nat := 0x200014 + 0x10000 * c
/-- AE_DOORBELL, R280. -/
def R.AE_DOORBELL (c : Nat) : Nat := 0x200018 + 0x10000 * c
/-- AE_CALL_LIMIT, R280. -/
def R.AE_CALL_LIMIT (c : Nat) : Nat := 0x20001C + 0x10000 * c
/-- AE_CYCLE_LO, R280. -/
def R.AE_CYCLE_LO (c : Nat) : Nat := 0x200020 + 0x10000 * c
/-- AE_CYCLE_HI, R280. -/
def R.AE_CYCLE_HI (c : Nat) : Nat := 0x200024 + 0x10000 * c
/-- AE_CALL_CNT, R280. -/
def R.AE_CALL_CNT (c : Nat) : Nat := 0x200028 + 0x10000 * c
/-- AE_CORR_CNT, R280. -/
def R.AE_CORR_CNT (c : Nat) : Nat := 0x20002C + 0x10000 * c
/-- AE_MBOX, R281. -/
def R.AE_MBOX (c : Nat) (i : Nat) : Nat := 0x200100 + 0x10000 * c + 0x4 * i
/-- AE_RESULT, R281. -/
def R.AE_RESULT (c : Nat) (i : Nat) : Nat := 0x200180 + 0x10000 * c + 0x4 * i

/-! ## Fields -/

/-! Fields of the global block (0x0000_0000). -/

def F.GLB_ID_PART_NUMBER : Ref := ⟨R.GLB_ID, 16, 16⟩
def F.GLB_ID_STEPPING : Ref := ⟨R.GLB_ID, 12, 4⟩
def F.GLB_ID_TWIN_MEMBER : Ref := ⟨R.GLB_ID, 7, 1⟩
def F.GLB_ID_DEV_ID : Ref := ⟨R.GLB_ID, 0, 5⟩
def F.GLB_AVAIL_PACK_AVAIL : Ref := ⟨R.GLB_AVAIL, 0, 16⟩
def F.GLB_AVAIL_AE_AVAIL : Ref := ⟨R.GLB_AVAIL, 16, 8⟩
def F.GLB_AVAIL_PFE_AVAIL : Ref := ⟨R.GLB_AVAIL, 24, 4⟩
def F.GLB_AVAIL_DRAM_AVAIL : Ref := ⟨R.GLB_AVAIL, 28, 2⟩
def F.GLB_START_START_OK : Ref := ⟨R.GLB_START, 0, 1⟩
def F.GLB_START_WARM_FAILS : Ref := ⟨R.GLB_START, 1, 2⟩
def F.GLB_START_LAST_KIND : Ref := ⟨R.GLB_START, 3, 1⟩
def F.GLB_START_REASON : Ref := ⟨R.GLB_START, 4, 3⟩
def F.GLB_START_START_FAIL : Ref := ⟨R.GLB_START, 7, 1⟩
def F.GLB_START_STEP : Ref := ⟨R.GLB_START, 8, 4⟩
def F.GLB_START_CKPT_NONE : Ref := ⟨R.GLB_START, 12, 1⟩
def F.GLB_REST_STATE : Ref := ⟨R.GLB_REST, 0, 2⟩
def F.GLB_REST_WAKE : Ref := ⟨R.GLB_REST, 2, 1⟩
def F.GLB_CKPT : Ref := ⟨R.GLB_CKPT, 0, 16⟩
def F.DLOG_BASE : Ref := ⟨R.DLOG_BASE, 0, 29⟩
def F.DLOG_SIZE : Ref := ⟨R.DLOG_SIZE, 0, 16⟩
def F.DLOG_WR_LO : Ref := ⟨R.DLOG_WR_LO, 0, 32⟩
def F.DLOG_WR_HI : Ref := ⟨R.DLOG_WR_HI, 0, 32⟩
def F.DLOG_RD_LO : Ref := ⟨R.DLOG_RD_LO, 0, 32⟩
def F.DLOG_RD_HI : Ref := ⟨R.DLOG_RD_HI, 0, 32⟩
def F.DLOG_LOST : Ref := ⟨R.DLOG_LOST, 0, 32⟩
/-! Fields of the fault collector (0x0001_0000). -/

def F.FLT_STATUS_STATE : Ref := ⟨R.FLT_STATUS, 0, 2⟩
def F.FLT_STATUS_FIRST_VALID : Ref := ⟨R.FLT_STATUS, 2, 1⟩
def F.FLT_STATUS_HIST_DROP : Ref := ⟨R.FLT_STATUS, 3, 1⟩
def F.FLT_PENDING : Ref := ⟨R.FLT_PENDING, 0, 8⟩
def F.FLT_CLEAR_CLEAR_STOP : Ref := ⟨R.FLT_CLEAR, 0, 1⟩
def F.FLT_CLEAR_CLEAR_SAFE : Ref := ⟨R.FLT_CLEAR, 1, 1⟩
def F.FLT_CLEAR_CLEAR_FIRST : Ref := ⟨R.FLT_CLEAR, 2, 1⟩
def F.FLT_ALERT_MASK : Ref := ⟨R.FLT_ALERT_MASK, 0, 8⟩
def F.FLT_FIRST_LO : Ref := ⟨R.FLT_FIRST_LO, 0, 32⟩
def F.FLT_FIRST_HI : Ref := ⟨R.FLT_FIRST_HI, 0, 32⟩
def F.FLT_FIRST_INFO_SEV_TAKEN : Ref := ⟨R.FLT_FIRST_INFO, 0, 3⟩
def F.FLT_FIRST_INFO_SEV_PROG : Ref := ⟨R.FLT_FIRST_INFO, 3, 3⟩
def F.FLT_FIRST_INFO_ESCALATED : Ref := ⟨R.FLT_FIRST_INFO, 6, 1⟩
def F.FLT_FIRST_TIME_LO : Ref := ⟨R.FLT_FIRST_TIME_LO, 0, 32⟩
def F.FLT_FIRST_TIME_HI : Ref := ⟨R.FLT_FIRST_TIME_HI, 0, 32⟩
def F.FLT_MSG_CNT : Ref := ⟨R.FLT_MSG_CNT, 0, 32⟩
def F.FLT_LOG_IDX : Ref := ⟨R.FLT_LOG_IDX, 0, 6⟩
def F.FLT_HIST_DROP : Ref := ⟨R.FLT_HIST_DROP, 0, 32⟩
def F.FLT_UNMUZZLE_UNIT_TYPE : Ref := ⟨R.FLT_UNMUZZLE, 0, 4⟩
def F.FLT_UNMUZZLE_INDEX : Ref := ⟨R.FLT_UNMUZZLE, 8, 12⟩
def F.FLT_MUZZLE_UNIT_TYPE : Ref := ⟨R.FLT_MUZZLE, 0, 4⟩
def F.FLT_MUZZLE_INDEX : Ref := ⟨R.FLT_MUZZLE, 8, 12⟩
def F.FLT_SEV_SEV0 (i : Nat) : Ref := ⟨R.FLT_SEV i, 0, 3⟩
def F.FLT_SEV_SEV1 (i : Nat) : Ref := ⟨R.FLT_SEV i, 4, 3⟩
def F.FLT_SEV_SEV2 (i : Nat) : Ref := ⟨R.FLT_SEV i, 8, 3⟩
def F.FLT_SEV_SEV3 (i : Nat) : Ref := ⟨R.FLT_SEV i, 12, 3⟩
def F.FLT_SEV_SEV4 (i : Nat) : Ref := ⟨R.FLT_SEV i, 16, 3⟩
def F.FLT_SEV_SEV5 (i : Nat) : Ref := ⟨R.FLT_SEV i, 20, 3⟩
def F.FLT_SEV_SEV6 (i : Nat) : Ref := ⟨R.FLT_SEV i, 24, 3⟩
def F.FLT_SEV_SEV7 (i : Nat) : Ref := ⟨R.FLT_SEV i, 28, 3⟩
/-! Fields of the housekeeping (0x0002_0000). -/

def F.HK_CTL_COMPAT : Ref := ⟨R.HK_CTL, 0, 1⟩
def F.HK_CTL_XCHECK_EN : Ref := ⟨R.HK_CTL, 1, 1⟩
def F.HK_STATUS_BROKEN : Ref := ⟨R.HK_STATUS, 0, 5⟩
def F.HK_STATUS_DEFER : Ref := ⟨R.HK_STATUS, 5, 1⟩
def F.HK_STATUS_WARN_ACTIVE : Ref := ⟨R.HK_STATUS, 6, 1⟩
def F.HK_STATUS_STOP_ACTIVE : Ref := ⟨R.HK_STATUS, 7, 1⟩
def F.HK_STATUS_TRIP : Ref := ⟨R.HK_STATUS, 8, 1⟩
def F.HK_STATUS_NO_DIODE : Ref := ⟨R.HK_STATUS, 9, 1⟩
def F.HK_STATUS_DRAM_WARN : Ref := ⟨R.HK_STATUS, 10, 2⟩
def F.HK_STATUS_DRAM_STOP : Ref := ⟨R.HK_STATUS, 12, 2⟩
def F.HK_TEMP_READING (i : Nat) : Ref := ⟨R.HK_TEMP i, 0, 16⟩
def F.HK_TEMP_EFFECTIVE (i : Nat) : Ref := ⟨R.HK_TEMP i, 16, 16⟩
def F.HK_GRAD (i : Nat) : Ref := ⟨R.HK_GRAD i, 0, 16⟩
def F.HK_TMAX_TMAX : Ref := ⟨R.HK_TMAX, 0, 16⟩
def F.HK_TMAX_PEAK : Ref := ⟨R.HK_TMAX, 16, 16⟩
/-! Fields of the clock generation (0x0003_0000). -/

def F.CLK_STATUS_REF_OK : Ref := ⟨R.CLK_STATUS, 0, 1⟩
def F.CLK_STATUS_ROOT_LOCK : Ref := ⟨R.CLK_STATUS, 1, 1⟩
def F.CLK_STATUS_DRM_LOCK : Ref := ⟨R.CLK_STATUS, 2, 2⟩
def F.CLK_STATUS_HKO_OK : Ref := ⟨R.CLK_STATUS, 4, 1⟩
def F.CLK_STATUS_WHS_OK : Ref := ⟨R.CLK_STATUS, 5, 1⟩
def F.CLK_STATUS_TTB_FROM_ROOT : Ref := ⟨R.CLK_STATUS, 6, 1⟩
def F.CLK_STATUS_REF_LOST_SEEN : Ref := ⟨R.CLK_STATUS, 8, 1⟩
def F.CLK_STATUS_UNLOCK_SEEN : Ref := ⟨R.CLK_STATUS, 9, 1⟩
def F.CLK_STATUS_HKO_RANGE : Ref := ⟨R.CLK_STATUS, 10, 1⟩
def F.CLK_SEQ_ON : Ref := ⟨R.CLK_SEQ_ON, 0, 16⟩
def F.CLK_OVR : Ref := ⟨R.CLK_OVR, 0, 19⟩
def F.CLK_JUMP : Ref := ⟨R.CLK_JUMP, 0, 19⟩
def F.CLK_GRP_CTL_FREEZE : Ref := ⟨R.CLK_GRP_CTL, 0, 6⟩
def F.CLK_GRP_CTL_MUZZLE : Ref := ⟨R.CLK_GRP_CTL, 8, 6⟩
def F.CLK_GRP_CTL_RESET : Ref := ⟨R.CLK_GRP_CTL, 16, 6⟩
def F.CLK_GRP_STATUS_DRAINED : Ref := ⟨R.CLK_GRP_STATUS, 0, 6⟩
def F.CLK_GRP_STATUS_IN_RESET : Ref := ⟨R.CLK_GRP_STATUS, 8, 6⟩
def F.CLK_GRP_STATUS_CLOCK_PRESENT : Ref := ⟨R.CLK_GRP_STATUS, 16, 6⟩
def F.CLK_FLUSH_CNT : Ref := ⟨R.CLK_FLUSH_CNT, 0, 32⟩
def F.CLK_SEQ_PHASE (i : Nat) : Ref := ⟨R.CLK_SEQ_PHASE i, 0, 6⟩
/-! Fields of the link (0x0004_0000). -/

def F.LNK_CTL_MAX_RATE (i : Nat) : Ref := ⟨R.LNK_CTL i, 0, 2⟩
def F.LNK_CTL_LANE_EN (i : Nat) : Ref := ⟨R.LNK_CTL i, 2, 4⟩
def F.LNK_CTL_RETRAIN (i : Nat) : Ref := ⟨R.LNK_CTL i, 6, 1⟩
def F.LNK_STATUS_STATE (i : Nat) : Ref := ⟨R.LNK_STATUS i, 0, 3⟩
def F.LNK_STATUS_RATE (i : Nat) : Ref := ⟨R.LNK_STATUS i, 3, 2⟩
def F.LNK_STATUS_LANES_UP (i : Nat) : Ref := ⟨R.LNK_STATUS i, 5, 4⟩
def F.LNK_STATUS_PARTNER (i : Nat) : Ref := ⟨R.LNK_STATUS i, 16, 6⟩
def F.LNK_STATUS_LANE_LOST (i : Nat) : Ref := ⟨R.LNK_STATUS i, 24, 1⟩
def F.LNK_STATUS_DOWN_SEEN (i : Nat) : Ref := ⟨R.LNK_STATUS i, 25, 1⟩
def F.LNK_STATUS_DISCARDED (i : Nat) : Ref := ⟨R.LNK_STATUS i, 26, 1⟩
def F.LNK_STATUS_RETRAINED (i : Nat) : Ref := ⟨R.LNK_STATUS i, 27, 1⟩
def F.LNK_CRC_CNT (i : Nat) : Ref := ⟨R.LNK_CRC_CNT i, 0, 32⟩
def F.LNK_REPLAY_CNT (i : Nat) : Ref := ⟨R.LNK_REPLAY_CNT i, 0, 32⟩
def F.LNK_RETRAIN_CNT (i : Nat) : Ref := ⟨R.LNK_RETRAIN_CNT i, 0, 32⟩
def F.LNK_DISCARD_CNT (i : Nat) : Ref := ⟨R.LNK_DISCARD_CNT i, 0, 32⟩
def F.LNK_FWD (i : Nat) : Ref := ⟨R.LNK_FWD i, 0, 4⟩
def F.LNK_EVT_CFG_EVENT_PORT : Ref := ⟨R.LNK_EVT_CFG, 0, 1⟩
def F.LNK_EVT_CFG_EVENT_EN : Ref := ⟨R.LNK_EVT_CFG, 1, 1⟩
def F.LNK_EVT_CFG_EVENT_SESSION : Ref := ⟨R.LNK_EVT_CFG, 2, 2⟩
def F.LNK_EVT_LOST : Ref := ⟨R.LNK_EVT_LOST, 0, 32⟩
def F.LNK_INFLIGHT : Ref := ⟨R.LNK_INFLIGHT, 0, 15⟩
def F.LNK_SESSION_BUSY : Ref := ⟨R.LNK_SESSION, 0, 4⟩
def F.LNK_SESSION_HOME : Ref := ⟨R.LNK_SESSION, 4, 4⟩
def F.LNK_RX_STATUS_BAD_PACKET : Ref := ⟨R.LNK_RX_STATUS, 0, 1⟩
def F.LNK_RX_STATUS_DUP_ID : Ref := ⟨R.LNK_RX_STATUS, 1, 1⟩
def F.LNK_RX_STATUS_DEVID_STRAP : Ref := ⟨R.LNK_RX_STATUS, 2, 1⟩
def F.LNK_RX_STATUS_EMERGENCY : Ref := ⟨R.LNK_RX_STATUS, 3, 1⟩
def F.LNK_RX_STATUS_SWAP_PENDING_A : Ref := ⟨R.LNK_RX_STATUS, 4, 1⟩
def F.LNK_RX_STATUS_SWAP_PENDING_B : Ref := ⟨R.LNK_RX_STATUS, 5, 1⟩
def F.LNK_BADPKT_CNT : Ref := ⟨R.LNK_BADPKT_CNT, 0, 32⟩
def F.LNK_A_SLOT_SH (i : Nat) : Ref := ⟨R.LNK_A_SLOT_SH i, 0, 32⟩
def F.LNK_A_SLOT_ACT (i : Nat) : Ref := ⟨R.LNK_A_SLOT_ACT i, 0, 32⟩
def F.LNK_B_SLOT_SH (i : Nat) : Ref := ⟨R.LNK_B_SLOT_SH i, 0, 32⟩
def F.LNK_B_SLOT_ACT (i : Nat) : Ref := ⟨R.LNK_B_SLOT_ACT i, 0, 32⟩
/-! Fields of the MPA and DRAM controllers (0x0005_0000). -/

def F.MPA_CTL : Ref := ⟨R.MPA_CTL, 0, 1⟩
def F.MPA_STATUS_DRAINED : Ref := ⟨R.MPA_STATUS, 0, 1⟩
def F.MPA_STATUS_CLASS_SWAP_PENDING : Ref := ⟨R.MPA_STATUS, 1, 1⟩
def F.MPA_STATUS_WDOG_BITE : Ref := ⟨R.MPA_STATUS, 2, 1⟩
def F.MPA_WDOG : Ref := ⟨R.MPA_WDOG, 0, 24⟩
def F.MPA_SWAP_CLASS : Ref := ⟨R.MPA_SWAP, 0, 1⟩
def F.MPA_SWAP_SLOT_A : Ref := ⟨R.MPA_SWAP, 1, 1⟩
def F.MPA_SWAP_SLOT_B : Ref := ⟨R.MPA_SWAP, 2, 1⟩
def F.MPA_MAP_MAP : Ref := ⟨R.MPA_MAP, 0, 1⟩
def F.MPA_MAP_MAP_ACTIVE : Ref := ⟨R.MPA_MAP, 1, 1⟩
def F.MPA_CLASS_SH (i : Nat) : Ref := ⟨R.MPA_CLASS_SH i, 0, 32⟩
def F.MPA_CLASS_ACT (i : Nat) : Ref := ⟨R.MPA_CLASS_ACT i, 0, 32⟩
def F.MPA_REQ_K_MAX (i : Nat) : Ref := ⟨R.MPA_REQ i, 0, 4⟩
def F.MPA_REQ_HOLDING (i : Nat) : Ref := ⟨R.MPA_REQ i, 4, 1⟩
def F.MPA_REQ_FENCED (i : Nat) : Ref := ⟨R.MPA_REQ i, 5, 1⟩
def F.DRM_STATUS_TRAINED (i : Nat) : Ref := ⟨R.DRM_STATUS i, 0, 1⟩
def F.DRM_STATUS_SELF_REFRESH (i : Nat) : Ref := ⟨R.DRM_STATUS i, 1, 1⟩
def F.DRM_STATUS_UE_SEEN (i : Nat) : Ref := ⟨R.DRM_STATUS i, 8, 1⟩
def F.DRM_STATUS_PC_FAIL (i : Nat) : Ref := ⟨R.DRM_STATUS i, 9, 1⟩
def F.DRM_STATUS_TEMP (i : Nat) : Ref := ⟨R.DRM_STATUS i, 16, 8⟩
def F.DRM_PC_MUZZLED (i : Nat) : Ref := ⟨R.DRM_PC_MUZZLED i, 0, 16⟩
def F.DRM_CE_CNT (i : Nat) : Ref := ⟨R.DRM_CE_CNT i, 0, 32⟩
def F.DRM_UE_CNT (i : Nat) : Ref := ⟨R.DRM_UE_CNT i, 0, 32⟩
/-! Fields of the MRAM store (0x0006_0000). -/

def F.MRM_CTL_GO : Ref := ⟨R.MRM_CTL, 0, 1⟩
def F.MRM_CTL_DIR : Ref := ⟨R.MRM_CTL, 1, 1⟩
def F.MRM_DRAM : Ref := ⟨R.MRM_DRAM, 0, 29⟩
def F.MRM_OFFSET : Ref := ⟨R.MRM_OFFSET, 0, 20⟩
def F.MRM_LEN : Ref := ⟨R.MRM_LEN, 0, 21⟩
def F.MRM_STATUS_BUSY : Ref := ⟨R.MRM_STATUS, 0, 1⟩
def F.MRM_STATUS_DONE : Ref := ⟨R.MRM_STATUS, 1, 1⟩
def F.MRM_STATUS_ERR : Ref := ⟨R.MRM_STATUS, 2, 1⟩
def F.MRM_STATUS_UE_SEEN : Ref := ⟨R.MRM_STATUS, 3, 1⟩
def F.MRM_STATUS_RECORD_BAD : Ref := ⟨R.MRM_STATUS, 4, 1⟩
def F.MRM_CE_CNT : Ref := ⟨R.MRM_CE_CNT, 0, 32⟩
/-! Fields of the Whistle (0x0007_0000). -/

def F.WH_CTL_MASTER : Ref := ⟨R.WH_CTL, 0, 1⟩
def F.WH_CTL_ALLSTOP_IN : Ref := ⟨R.WH_CTL, 1, 1⟩
def F.WH_CTL_ALLSTOP_OUT : Ref := ⟨R.WH_CTL, 2, 1⟩
def F.WH_CTL_NODE : Ref := ⟨R.WH_CTL, 8, 6⟩
def F.WH_STATUS_STATE : Ref := ⟨R.WH_STATUS, 0, 3⟩
def F.WH_STATUS_SWAP_PENDING : Ref := ⟨R.WH_STATUS, 3, 1⟩
def F.WH_STATUS_SYNC_LOST : Ref := ⟨R.WH_STATUS, 4, 1⟩
def F.WH_STATUS_TIME_SLIP : Ref := ⟨R.WH_STATUS, 5, 1⟩
def F.WH_STATUS_MASTER_CONFLICT : Ref := ⟨R.WH_STATUS, 6, 1⟩
def F.WH_STATUS_ALLSTOP_SEEN : Ref := ⟨R.WH_STATUS, 7, 1⟩
def F.WH_STATUS_ECHO_MISS : Ref := ⟨R.WH_STATUS, 8, 1⟩
def F.WH_STATUS_WHS_LOST : Ref := ⟨R.WH_STATUS, 9, 1⟩
def F.WH_DELAY_DELAY : Ref := ⟨R.WH_DELAY, 0, 16⟩
def F.WH_DELAY_PHASE_ERR : Ref := ⟨R.WH_DELAY, 16, 16⟩
def F.WH_TIME_LO : Ref := ⟨R.WH_TIME_LO, 0, 32⟩
def F.WH_TIME_HI : Ref := ⟨R.WH_TIME_HI, 0, 32⟩
def F.WH_TIME_SET_LO : Ref := ⟨R.WH_TIME_SET_LO, 0, 32⟩
def F.WH_TIME_SET_HI : Ref := ⟨R.WH_TIME_SET_HI, 0, 32⟩
def F.WH_SWAP_LO : Ref := ⟨R.WH_SWAP_LO, 0, 32⟩
def F.WH_SWAP_HI : Ref := ⟨R.WH_SWAP_HI, 0, 32⟩
def F.WH_EMIT : Ref := ⟨R.WH_EMIT, 0, 7⟩
def F.WH_ALLSTOP : Ref := ⟨R.WH_ALLSTOP, 0, 1⟩
def F.WH_EVT_CNT (i : Nat) : Ref := ⟨R.WH_EVT_CNT i, 0, 32⟩
def F.WH_MERGE_CNT (i : Nat) : Ref := ⟨R.WH_MERGE_CNT i, 0, 32⟩
def F.WH_SLOT_SH (i : Nat) : Ref := ⟨R.WH_SLOT_SH i, 0, 32⟩
def F.WH_SLOT_ACT (i : Nat) : Ref := ⟨R.WH_SLOT_ACT i, 0, 32⟩
/-! Fields of the twin (0x0007_1000). -/

def F.TWN_CTL_MIRROR_EN : Ref := ⟨R.TWN_CTL, 0, 1⟩
def F.TWN_CTL_FALLBACK_PORT : Ref := ⟨R.TWN_CTL, 1, 1⟩
def F.TWN_STATUS_STATE : Ref := ⟨R.TWN_STATUS, 0, 2⟩
def F.TWN_STATUS_PARTNER_ID : Ref := ⟨R.TWN_STATUS, 2, 5⟩
def F.TWN_STATUS_LINK_UP : Ref := ⟨R.TWN_STATUS, 7, 1⟩
def F.TWN_STATUS_TWIN_LOST : Ref := ⟨R.TWN_STATUS, 8, 1⟩
def F.TWN_STATUS_LANE_LOST : Ref := ⟨R.TWN_STATUS, 9, 1⟩
def F.TWN_STATUS_CONFIG_ERR : Ref := ⟨R.TWN_STATUS, 10, 1⟩
def F.TWN_STATUS_MIRROR_ERR : Ref := ⟨R.TWN_STATUS, 11, 1⟩
def F.TWN_MIR_BASE : Ref := ⟨R.TWN_MIR_BASE, 0, 29⟩
def F.TWN_MIR_RSTRIDE : Ref := ⟨R.TWN_MIR_RSTRIDE, 0, 16⟩
def F.TWN_MIR_LAG : Ref := ⟨R.TWN_MIR_LAG, 0, 32⟩
/-! Fields of the Shepherd (0x0008_0000). -/

def F.SHP_SITE_CTL_STATE (i : Nat) : Ref := ⟨R.SHP_SITE_CTL i, 0, 3⟩
def F.SHP_SITE_CTL_KIND (i : Nat) : Ref := ⟨R.SHP_SITE_CTL i, 3, 1⟩
def F.SHP_SITE_CTL_CAUSE (i : Nat) : Ref := ⟨R.SHP_SITE_CTL i, 4, 4⟩
def F.SHP_SITE_CTL_FAILS_KEPT (i : Nat) : Ref := ⟨R.SHP_SITE_CTL i, 8, 1⟩
def F.SHP_SITE_CTL_FFB_VALID (i : Nat) : Ref := ⟨R.SHP_SITE_CTL i, 9, 1⟩
def F.SHP_SITE_CTL_BIN (i : Nat) : Ref := ⟨R.SHP_SITE_CTL i, 16, 16⟩
def F.SHP_SITE_FFB_LO (i : Nat) : Ref := ⟨R.SHP_SITE_FFB_LO i, 0, 32⟩
def F.SHP_SITE_FFB_HI (i : Nat) : Ref := ⟨R.SHP_SITE_FFB_HI i, 0, 32⟩
def F.SHP_SITE_FAILS (i : Nat) : Ref := ⟨R.SHP_SITE_FAILS i, 0, 32⟩
def F.SHP_SITE_FLOW_FLOW_STEP (i : Nat) : Ref := ⟨R.SHP_SITE_FLOW i, 0, 16⟩
def F.SHP_SITE_FLOW_RETEST_COUNT (i : Nat) : Ref := ⟨R.SHP_SITE_FLOW i, 16, 8⟩
def F.SHP_SITE_REPAIR (i : Nat) : Ref := ⟨R.SHP_SITE_REPAIR i, 0, 29⟩
def F.SHP_SITE_MEAS (i : Nat) : Ref := ⟨R.SHP_SITE_MEAS i, 0, 8⟩
def F.SHP_STATUS_IMAGE_OK : Ref := ⟨R.SHP_STATUS, 0, 1⟩
def F.SHP_STATUS_SLOT : Ref := ⟨R.SHP_STATUS, 1, 1⟩
def F.SHP_STATUS_AUTH_FAIL_A : Ref := ⟨R.SHP_STATUS, 2, 1⟩
def F.SHP_STATUS_AUTH_FAIL_B : Ref := ⟨R.SHP_STATUS, 3, 1⟩
def F.SHP_STATUS_ORDER_FAULT : Ref := ⟨R.SHP_STATUS, 4, 1⟩
def F.SHP_STATUS_OVERRUN : Ref := ⟨R.SHP_STATUS, 5, 1⟩
def F.SHP_STATUS_STORE_CHECK : Ref := ⟨R.SHP_STATUS, 6, 1⟩
def F.SHP_IMAGE_VER : Ref := ⟨R.SHP_IMAGE_VER, 0, 32⟩
def F.SHP_RESTART_CNT : Ref := ⟨R.SHP_RESTART_CNT, 0, 32⟩
def F.SHP_PROTECT_CNT : Ref := ⟨R.SHP_PROTECT_CNT, 0, 32⟩
def F.SHP_LEASH_DEFAULT : Ref := ⟨R.SHP_LEASH_DEFAULT, 0, 16⟩
def F.SHP_FLOW_OFFSET (i : Nat) : Ref := ⟨R.SHP_FLOW i, 0, 13⟩
def F.SHP_FLOW_LOADED (i : Nat) : Ref := ⟨R.SHP_FLOW i, 16, 1⟩
def F.SHP_FLOW_RUN_SITES (i : Nat) : Ref := ⟨R.SHP_FLOW i, 17, 11⟩
def F.SHP_LOCK_OWNER (i : Nat) : Ref := ⟨R.SHP_LOCK i, 0, 2⟩
def F.SHP_LOCK_HELD (i : Nat) : Ref := ⟨R.SHP_LOCK i, 2, 1⟩
def F.SHP_LOCK_DIRTY (i : Nat) : Ref := ⟨R.SHP_LOCK i, 3, 1⟩
def F.SHP_LOCK_BY_RUN (i : Nat) : Ref := ⟨R.SHP_LOCK i, 4, 1⟩
def F.SHP_LOCK_REMAIN_MS (i : Nat) : Ref := ⟨R.SHP_LOCK i, 16, 16⟩
/-! Fields of the calibration (0x0008_1000). -/

def F.CAL_CTL_AUTO : Ref := ⟨R.CAL_CTL, 1, 8⟩
def F.CAL_CTL_AUTO_STORE : Ref := ⟨R.CAL_CTL, 9, 1⟩
def F.CAL_STATUS_GAP_OPEN : Ref := ⟨R.CAL_STATUS, 0, 1⟩
def F.CAL_STATUS_GAP_KIND : Ref := ⟨R.CAL_STATUS, 1, 2⟩
def F.CAL_STATUS_STORE_BUSY : Ref := ⟨R.CAL_STATUS, 3, 1⟩
def F.CAL_STATUS_FACT_BAD : Ref := ⟨R.CAL_STATUS, 4, 1⟩
def F.CAL_STATUS_LIVE_NONE : Ref := ⟨R.CAL_STATUS, 5, 1⟩
def F.CAL_STATUS_LIVE_SLOT : Ref := ⟨R.CAL_STATUS, 6, 1⟩
def F.CAL_STATUS_STORE_ERR : Ref := ⟨R.CAL_STATUS, 7, 1⟩
def F.CAL_STATUS_RUNNING : Ref := ⟨R.CAL_STATUS, 16, 9⟩
def F.CAL_INTERVAL (i : Nat) : Ref := ⟨R.CAL_INTERVAL i, 0, 24⟩
def F.CAL_REST_REST_MS : Ref := ⟨R.CAL_REST, 0, 16⟩
def F.CAL_REST_STORE_MIN : Ref := ⟨R.CAL_REST, 16, 16⟩
/-! Fields of the MSP and GPIO (0x0009_0000). -/

def F.MSP_STATUS_FAULT_STATE : Ref := ⟨R.MSP_STATUS, 0, 2⟩
def F.MSP_STATUS_ALERT : Ref := ⟨R.MSP_STATUS, 2, 1⟩
def F.MSP_STATUS_CORE_UP : Ref := ⟨R.MSP_STATUS, 3, 1⟩
def F.MSP_STATUS_REST : Ref := ⟨R.MSP_STATUS, 4, 2⟩
def F.MSP_STATUS_START_OK : Ref := ⟨R.MSP_STATUS, 6, 1⟩
def F.MSP_STATUS_START_FAIL : Ref := ⟨R.MSP_STATUS, 7, 1⟩
def F.MSP_STATUS_TWIN : Ref := ⟨R.MSP_STATUS, 8, 2⟩
def F.MSP_STATUS_TMAX : Ref := ⟨R.MSP_STATUS, 16, 16⟩
def F.MSP_ALIVE_REFERENCE : Ref := ⟨R.MSP_ALIVE, 0, 8⟩
def F.MSP_ALIVE_HAS_REF : Ref := ⟨R.MSP_ALIVE, 8, 1⟩
def F.MSP_ALIVE_BAD_FRAME : Ref := ⟨R.MSP_ALIVE, 9, 1⟩
def F.MSP_ALIVE_MSP_BAD_CNT : Ref := ⟨R.MSP_ALIVE, 16, 16⟩
def F.MSP_IND_ADDR : Ref := ⟨R.MSP_IND_ADDR, 0, 32⟩
def F.MSP_IND_DATA : Ref := ⟨R.MSP_IND_DATA, 0, 32⟩
def F.MSP_IND_STATUS_CODE : Ref := ⟨R.MSP_IND_STATUS, 0, 8⟩
def F.MSP_IND_STATUS_BUSY : Ref := ⟨R.MSP_IND_STATUS, 8, 1⟩
def F.MSP_IND_STATUS_DONE : Ref := ⟨R.MSP_IND_STATUS, 9, 1⟩
def F.MSP_TAP : Ref := ⟨R.MSP_TAP, 0, 1⟩
def F.GPIO_DIR : Ref := ⟨R.GPIO_DIR, 0, 16⟩
def F.GPIO_OUT : Ref := ⟨R.GPIO_OUT, 0, 16⟩
def F.GPIO_IN : Ref := ⟨R.GPIO_IN, 0, 16⟩
def F.GPIO_SAFE_SAFE_OUT : Ref := ⟨R.GPIO_SAFE, 0, 16⟩
def F.GPIO_SAFE_SAFE_DIR : Ref := ⟨R.GPIO_SAFE, 16, 16⟩
def F.GPIO_ISO_ISO_LEN : Ref := ⟨R.GPIO_ISO, 0, 11⟩
def F.GPIO_ISO_ISO_EN : Ref := ⟨R.GPIO_ISO, 16, 1⟩
def F.GPIO_ISO_ISO_GO : Ref := ⟨R.GPIO_ISO, 17, 1⟩
def F.GPIO_ISO_BUSY : Ref := ⟨R.GPIO_ISO, 18, 1⟩
def F.GPIO_ISO_IMG (i : Nat) : Ref := ⟨R.GPIO_ISO_IMG i, 0, 32⟩
/-! Fields of the pack sequencer unit (pack +0x0000). -/

def F.SEQ_CTL_FLAG (p : Nat) : Ref := ⟨R.SEQ_CTL p, 0, 1⟩
def F.SEQ_CTL_PAUSE (p : Nat) : Ref := ⟨R.SEQ_CTL p, 1, 1⟩
def F.SEQ_STATUS_LOADED (p : Nat) : Ref := ⟨R.SEQ_STATUS p, 0, 1⟩
def F.SEQ_STATUS_WAITING (p : Nat) : Ref := ⟨R.SEQ_STATUS p, 1, 1⟩
def F.SEQ_STATUS_JUMP_PENDING (p : Nat) : Ref := ⟨R.SEQ_STATUS p, 2, 1⟩
def F.SEQ_STATUS_JUMP_LATCHED (p : Nat) : Ref := ⟨R.SEQ_STATUS p, 3, 1⟩
def F.SEQ_STATUS_MATCH_TO (p : Nat) : Ref := ⟨R.SEQ_STATUS p, 4, 1⟩
def F.SEQ_STATUS_LATE_JUMP (p : Nat) : Ref := ⟨R.SEQ_STATUS p, 5, 1⟩
def F.SEQ_STATUS_JMP_OVERRIDDEN (p : Nat) : Ref := ⟨R.SEQ_STATUS p, 6, 1⟩
def F.SEQ_STATUS_STORE_CHECK (p : Nat) : Ref := ⟨R.SEQ_STATUS p, 7, 1⟩
def F.SEQ_STATUS_END_REASON (p : Nat) : Ref := ⟨R.SEQ_STATUS p, 8, 3⟩
def F.SEQ_STATUS_SEGMENT (p : Nat) : Ref := ⟨R.SEQ_STATUS p, 16, 10⟩
def F.SEQ_HOLD_CFG_HOLD_FMT (p : Nat) : Ref := ⟨R.SEQ_HOLD_CFG p, 0, 12⟩
def F.SEQ_HOLD_CFG_HOLD_TSET (p : Nat) : Ref := ⟨R.SEQ_HOLD_CFG p, 16, 5⟩
def F.SEQ_HOLD_LOW (p : Nat) : Ref := ⟨R.SEQ_HOLD_LOW p, 0, 16⟩
def F.SEQ_BEAT_LO (p : Nat) : Ref := ⟨R.SEQ_BEAT_LO p, 0, 32⟩
def F.SEQ_BEAT_HI (p : Nat) : Ref := ⟨R.SEQ_BEAT_HI p, 0, 32⟩
def F.SEQ_SEG_BEAT (p : Nat) : Ref := ⟨R.SEQ_SEG_BEAT p, 0, 32⟩
def F.SEQ_WAIT_BEATS (p : Nat) : Ref := ⟨R.SEQ_WAIT_BEATS p, 0, 32⟩
def F.SEQ_HOLD_CNT (p : Nat) : Ref := ⟨R.SEQ_HOLD_CNT p, 0, 32⟩
def F.SEQ_HOLD_EVT (p : Nat) : Ref := ⟨R.SEQ_HOLD_EVT p, 0, 32⟩
def F.SEQ_JUMP_TARGET (p : Nat) : Ref := ⟨R.SEQ_JUMP p, 0, 10⟩
def F.SEQ_JUMP_SOURCE (p : Nat) : Ref := ⟨R.SEQ_JUMP p, 16, 1⟩
def F.SEQ_PREFETCH (p : Nat) : Ref := ⟨R.SEQ_PREFETCH p, 0, 16⟩
def F.SEQ_IMAGE_SEQ_COUNT (p : Nat) : Ref := ⟨R.SEQ_IMAGE p, 0, 17⟩
def F.SEQ_IMAGE_SEG_COUNT (p : Nat) : Ref := ⟨R.SEQ_IMAGE p, 17, 11⟩
def F.SEQ_CACHE_LOOP_CAPACITY (p : Nat) : Ref := ⟨R.SEQ_CACHE p, 0, 17⟩
def F.SEQ_CACHE_PINNED (p : Nat) : Ref := ⟨R.SEQ_CACHE p, 17, 6⟩
def F.SEQ_CORR_CNT (p : Nat) : Ref := ⟨R.SEQ_CORR_CNT p, 0, 32⟩
/-! Fields of the timing unit (+0x2000). -/

def F.TIM_CTL_DRIFT_EN (p : Nat) : Ref := ⟨R.TIM_CTL p, 0, 1⟩
def F.TIM_CTL_AUTO_TDR (p : Nat) : Ref := ⟨R.TIM_CTL p, 1, 1⟩
def F.TIM_STATUS_STALE (p : Nat) : Ref := ⟨R.TIM_STATUS p, 0, 1⟩
def F.TIM_STATUS_TDR_BUSY (p : Nat) : Ref := ⟨R.TIM_STATUS p, 1, 1⟩
def F.TIM_STATUS_TRIM_MOVING (p : Nat) : Ref := ⟨R.TIM_STATUS p, 2, 1⟩
def F.TIM_STATUS_COLLISION (p : Nat) : Ref := ⟨R.TIM_STATUS p, 3, 1⟩
def F.TIM_STATUS_OVERRUN (p : Nat) : Ref := ⟨R.TIM_STATUS p, 4, 1⟩
def F.TIM_STATUS_DRIFT_ALARM (p : Nat) : Ref := ⟨R.TIM_STATUS p, 5, 1⟩
def F.TIM_STATUS_CAL_REJECT (p : Nat) : Ref := ⟨R.TIM_STATUS p, 6, 1⟩
def F.TIM_TDR_CFG_STEP (p : Nat) : Ref := ⟨R.TIM_TDR_CFG p, 0, 16⟩
def F.TIM_TDR_CFG_SHOTS (p : Nat) : Ref := ⟨R.TIM_TDR_CFG p, 16, 8⟩
def F.TIM_CONTACT_CFG_CONTACT_MIN (p : Nat) : Ref := ⟨R.TIM_CONTACT_CFG p, 0, 16⟩
def F.TIM_CONTACT_CFG_CONTACT_MAX (p : Nat) : Ref := ⟨R.TIM_CONTACT_CFG p, 16, 16⟩
def F.TIM_ALIGN_TEMP_TEMP_AT_ALIGN (p : Nat) : Ref := ⟨R.TIM_ALIGN_TEMP p, 0, 16⟩
def F.TIM_ALIGN_TEMP_DRIFT_CORR (p : Nat) : Ref := ⟨R.TIM_ALIGN_TEMP p, 16, 16⟩
def F.TIM_DRIFT_COEF (p : Nat) : Ref := ⟨R.TIM_DRIFT_COEF p, 0, 16⟩
def F.TIM_COLL_CNT (p : Nat) : Ref := ⟨R.TIM_COLL_CNT p, 0, 32⟩
def F.TIM_OVR_CNT (p : Nat) : Ref := ⟨R.TIM_OVR_CNT p, 0, 32⟩
def F.TIM_PER_SH_LO (p : Nat) (i : Nat) : Ref := ⟨R.TIM_PER_SH_LO p i, 0, 32⟩
def F.TIM_PER_SH_HI (p : Nat) (i : Nat) : Ref := ⟨R.TIM_PER_SH_HI p i, 0, 1⟩
def F.TIM_PER_ACT_LO (p : Nat) (i : Nat) : Ref := ⟨R.TIM_PER_ACT_LO p i, 0, 32⟩
def F.TIM_PER_ACT_HI (p : Nat) (i : Nat) : Ref := ⟨R.TIM_PER_ACT_HI p i, 0, 1⟩
def F.TIM_CHA_DRV_TD_TARGET (p : Nat) (i : Nat) : Ref := ⟨R.TIM_CHA_DRV p i, 0, 16⟩
def F.TIM_CHA_DRV_TD_APPLIED (p : Nat) (i : Nat) : Ref := ⟨R.TIM_CHA_DRV p i, 16, 16⟩
def F.TIM_CHA_CMP_TC_TARGET (p : Nat) (i : Nat) : Ref := ⟨R.TIM_CHA_CMP p i, 0, 16⟩
def F.TIM_CHA_CMP_TC_APPLIED (p : Nat) (i : Nat) : Ref := ⟨R.TIM_CHA_CMP p i, 16, 16⟩
def F.TIM_CHA_RT_OPEN_RT (p : Nat) (i : Nat) : Ref := ⟨R.TIM_CHA_RT p i, 0, 16⟩
def F.TIM_CHA_RT_CONTACT_RT (p : Nat) (i : Nat) : Ref := ⟨R.TIM_CHA_RT p i, 16, 16⟩
def F.TIM_CHA_STAT_CONTACT (p : Nat) (i : Nat) : Ref := ⟨R.TIM_CHA_STAT p i, 0, 3⟩
def F.TIM_CHA_STAT_REJECTED (p : Nat) (i : Nat) : Ref := ⟨R.TIM_CHA_STAT p i, 3, 1⟩
def F.TIM_CHA_STAT_COLLISION (p : Nat) (i : Nat) : Ref := ⟨R.TIM_CHA_STAT p i, 4, 1⟩
def F.TIM_CHA_STAT_OVERRUN (p : Nat) (i : Nat) : Ref := ⟨R.TIM_CHA_STAT p i, 5, 1⟩
def F.TIM_CHA_STAT_REJECT_RUN (p : Nat) (i : Nat) : Ref := ⟨R.TIM_CHA_STAT p i, 6, 2⟩
/-! Fields of the capture unit (+0x4000). -/

def F.CAP_CTL_RING_EN (p : Nat) : Ref := ⟨R.CAP_CTL p, 0, 1⟩
def F.CAP_CTL_STREAM_EN (p : Nat) : Ref := ⟨R.CAP_CTL p, 1, 1⟩
def F.CAP_CTL_STREAM_PORT (p : Nat) : Ref := ⟨R.CAP_CTL p, 2, 1⟩
def F.CAP_CTL_CHAN_EN (p : Nat) : Ref := ⟨R.CAP_CTL p, 3, 1⟩
def F.CAP_CTL_VALUE_EN (p : Nat) : Ref := ⟨R.CAP_CTL p, 4, 1⟩
def F.CAP_CTL_SITE_EN (p : Nat) : Ref := ⟨R.CAP_CTL p, 5, 1⟩
def F.CAP_RING_BASE (p : Nat) : Ref := ⟨R.CAP_RING_BASE p, 0, 29⟩
def F.CAP_RING_SIZE (p : Nat) : Ref := ⟨R.CAP_RING_SIZE p, 0, 16⟩
def F.CAP_WR_LO (p : Nat) : Ref := ⟨R.CAP_WR_LO p, 0, 32⟩
def F.CAP_WR_HI (p : Nat) : Ref := ⟨R.CAP_WR_HI p, 0, 32⟩
def F.CAP_RD_LO (p : Nat) : Ref := ⟨R.CAP_RD_LO p, 0, 32⟩
def F.CAP_RD_HI (p : Nat) : Ref := ⟨R.CAP_RD_HI p, 0, 32⟩
def F.CAP_HIWAT (p : Nat) : Ref := ⟨R.CAP_HIWAT p, 0, 16⟩
def F.CAP_TRIG_EN_WHISTLE (p : Nat) : Ref := ⟨R.CAP_TRIG_EN p, 0, 7⟩
def F.CAP_TRIG_EN_SEQ (p : Nat) : Ref := ⟨R.CAP_TRIG_EN p, 8, 1⟩
def F.CAP_TRIG_EN_MATCH (p : Nat) : Ref := ⟨R.CAP_TRIG_EN p, 9, 1⟩
def F.CAP_TRIG_EN_PSM (p : Nat) : Ref := ⟨R.CAP_TRIG_EN p, 10, 6⟩
def F.CAP_TRIG_EN_HOST (p : Nat) : Ref := ⟨R.CAP_TRIG_EN p, 16, 1⟩
def F.CAP_TRIG_HOLDOFF (p : Nat) : Ref := ⟨R.CAP_TRIG_HOLDOFF p, 0, 16⟩
def F.CAP_TRIG (p : Nat) : Ref := ⟨R.CAP_TRIG p, 0, 8⟩
def F.CAP_KEEPALIVE (p : Nat) : Ref := ⟨R.CAP_KEEPALIVE p, 0, 16⟩
def F.CAP_STATUS_LOST (p : Nat) : Ref := ⟨R.CAP_STATUS p, 0, 1⟩
def F.CAP_STATUS_MARK_LOST (p : Nat) : Ref := ⟨R.CAP_STATUS p, 1, 1⟩
def F.CAP_STATUS_RING_FULL (p : Nat) : Ref := ⟨R.CAP_STATUS p, 2, 1⟩
def F.CAP_STATUS_HIWAT (p : Nat) : Ref := ⟨R.CAP_STATUS p, 3, 1⟩
def F.CAP_STATUS_STREAMING (p : Nat) : Ref := ⟨R.CAP_STATUS p, 4, 1⟩
def F.CAP_LOST_LO (p : Nat) : Ref := ⟨R.CAP_LOST_LO p, 0, 32⟩
def F.CAP_LOST_HI (p : Nat) : Ref := ⟨R.CAP_LOST_HI p, 0, 32⟩
def F.CAP_MERGED_LO (p : Nat) : Ref := ⟨R.CAP_MERGED_LO p, 0, 32⟩
def F.CAP_MERGED_HI (p : Nat) : Ref := ⟨R.CAP_MERGED_HI p, 0, 32⟩
def F.CAP_MARK_LOST (p : Nat) : Ref := ⟨R.CAP_MARK_LOST p, 0, 32⟩
def F.CAP_FAIL_SUM (p : Nat) : Ref := ⟨R.CAP_FAIL_SUM p, 0, 32⟩
def F.CAP_SITE_INFO_SITE (p : Nat) (i : Nat) : Ref := ⟨R.CAP_SITE_INFO p i, 0, 10⟩
def F.CAP_SITE_INFO_SLOT_VALID (p : Nat) (i : Nat) : Ref := ⟨R.CAP_SITE_INFO p i, 16, 1⟩
def F.CAP_SITE_INFO_FFB_VALID (p : Nat) (i : Nat) : Ref := ⟨R.CAP_SITE_INFO p i, 17, 1⟩
def F.CAP_SITE_INFO_FAILING (p : Nat) (i : Nat) : Ref := ⟨R.CAP_SITE_INFO p i, 18, 1⟩
def F.CAP_SITE_INFO_LOG_VALID (p : Nat) (i : Nat) : Ref := ⟨R.CAP_SITE_INFO p i, 19, 1⟩
def F.CAP_SITE_FFB_LO (p : Nat) (i : Nat) : Ref := ⟨R.CAP_SITE_FFB_LO p i, 0, 32⟩
def F.CAP_SITE_FFB_HI (p : Nat) (i : Nat) : Ref := ⟨R.CAP_SITE_FFB_HI p i, 0, 32⟩
def F.CAP_SITE_FAILS (p : Nat) (i : Nat) : Ref := ⟨R.CAP_SITE_FAILS p i, 0, 32⟩
def F.CAP_SITE_LOG_LO (p : Nat) (i : Nat) : Ref := ⟨R.CAP_SITE_LOG_LO p i, 0, 32⟩
def F.CAP_SITE_LOG_HI (p : Nat) (i : Nat) : Ref := ⟨R.CAP_SITE_LOG_HI p i, 0, 32⟩
/-! Fields of the APG and repair unit (+0x6000). -/

def F.APG_CTL_LOG_EN (p : Nat) : Ref := ⟨R.APG_CTL p, 0, 1⟩
def F.APG_CTL_BM_SET (p : Nat) : Ref := ⟨R.APG_CTL p, 1, 1⟩
def F.APG_STATUS_BM_LOST (p : Nat) : Ref := ⟨R.APG_STATUS p, 0, 1⟩
def F.APG_STATUS_BM_BUSY_DROP (p : Nat) : Ref := ⟨R.APG_STATUS p, 1, 1⟩
def F.APG_STATUS_X_CARRY (p : Nat) : Ref := ⟨R.APG_STATUS p, 2, 1⟩
def F.APG_STATUS_Y_CARRY (p : Nat) : Ref := ⟨R.APG_STATUS p, 3, 1⟩
def F.APG_IDLE (p : Nat) : Ref := ⟨R.APG_IDLE p, 0, 8⟩
def F.APG_BM_LOST_CNT (p : Nat) : Ref := ⟨R.APG_BM_LOST_CNT p, 0, 32⟩
def F.APG_IMEM_ADDR (p : Nat) : Ref := ⟨R.APG_IMEM_ADDR p, 0, 12⟩
def F.APG_IMEM_LO (p : Nat) : Ref := ⟨R.APG_IMEM_LO p, 0, 32⟩
def F.APG_IMEM_HI (p : Nat) : Ref := ⟨R.APG_IMEM_HI p, 0, 32⟩
def F.APG_X_CUR (p : Nat) : Ref := ⟨R.APG_X_CUR p, 0, 20⟩
def F.APG_Y_CUR (p : Nat) : Ref := ⟨R.APG_Y_CUR p, 0, 20⟩
def F.APG_X_BASE (p : Nat) : Ref := ⟨R.APG_X_BASE p, 0, 20⟩
def F.APG_Y_BASE (p : Nat) : Ref := ⟨R.APG_Y_BASE p, 0, 20⟩
def F.APG_X_MAX (p : Nat) : Ref := ⟨R.APG_X_MAX p, 0, 20⟩
def F.APG_Y_MAX (p : Nat) : Ref := ⟨R.APG_Y_MAX p, 0, 20⟩
def F.APG_X_STEP (p : Nat) : Ref := ⟨R.APG_X_STEP p, 0, 20⟩
def F.APG_Y_STEP (p : Nat) : Ref := ⟨R.APG_Y_STEP p, 0, 20⟩
def F.APG_X_MASK (p : Nat) : Ref := ⟨R.APG_X_MASK p, 0, 20⟩
def F.APG_Y_MASK (p : Nat) : Ref := ⟨R.APG_Y_MASK p, 0, 20⟩
def F.APG_X_SAVE (p : Nat) : Ref := ⟨R.APG_X_SAVE p, 0, 20⟩
def F.APG_Y_SAVE (p : Nat) : Ref := ⟨R.APG_Y_SAVE p, 0, 20⟩
def F.APG_BG (p : Nat) (i : Nat) : Ref := ⟨R.APG_BG p i, 0, 32⟩
def F.APG_TOPO_LO (p : Nat) (i : Nat) : Ref := ⟨R.APG_TOPO_LO p i, 0, 32⟩
def F.APG_TOPO_HI (p : Nat) (i : Nat) : Ref := ⟨R.APG_TOPO_HI p i, 0, 8⟩
def F.APG_ASCR_LO (p : Nat) (i : Nat) : Ref := ⟨R.APG_ASCR_LO p i, 0, 32⟩
def F.APG_ASCR_HI (p : Nat) (i : Nat) : Ref := ⟨R.APG_ASCR_HI p i, 0, 8⟩
def F.APG_DSCR_LO (p : Nat) (i : Nat) : Ref := ⟨R.APG_DSCR_LO p i, 0, 32⟩
def F.APG_DSCR_HI_DSCR_MASK (p : Nat) (i : Nat) : Ref := ⟨R.APG_DSCR_HI p i, 0, 8⟩
def F.APG_DSCR_HI_PERM (p : Nat) (i : Nat) : Ref := ⟨R.APG_DSCR_HI p i, 8, 5⟩
def F.APG_MAP0_DRV_SEL (p : Nat) (i : Nat) : Ref := ⟨R.APG_MAP0 p i, 0, 7⟩
def F.APG_MAP0_DRV_INV (p : Nat) (i : Nat) : Ref := ⟨R.APG_MAP0 p i, 7, 1⟩
def F.APG_MAP0_EXP_SEL (p : Nat) (i : Nat) : Ref := ⟨R.APG_MAP0 p i, 8, 7⟩
def F.APG_MAP0_EXP_INV (p : Nat) (i : Nat) : Ref := ⟨R.APG_MAP0 p i, 15, 1⟩
def F.APG_MAP1_DRV_SEL (p : Nat) (i : Nat) : Ref := ⟨R.APG_MAP1 p i, 0, 7⟩
def F.APG_MAP1_DRV_INV (p : Nat) (i : Nat) : Ref := ⟨R.APG_MAP1 p i, 7, 1⟩
def F.APG_MAP1_EXP_SEL (p : Nat) (i : Nat) : Ref := ⟨R.APG_MAP1 p i, 8, 7⟩
def F.APG_MAP1_EXP_INV (p : Nat) (i : Nat) : Ref := ⟨R.APG_MAP1 p i, 15, 1⟩
def F.APG_BM_GEOM_ROW_BITS (p : Nat) : Ref := ⟨R.APG_BM_GEOM p, 0, 5⟩
def F.APG_BM_GEOM_COL_BITS (p : Nat) : Ref := ⟨R.APG_BM_GEOM p, 5, 5⟩
def F.APG_BM_GEOM_REGION_BITS (p : Nat) : Ref := ⟨R.APG_BM_GEOM p, 10, 3⟩
def F.APG_BM_BASE0 (p : Nat) : Ref := ⟨R.APG_BM_BASE0 p, 0, 29⟩
def F.APG_BM_BASE1 (p : Nat) : Ref := ⟨R.APG_BM_BASE1 p, 0, 29⟩
def F.APG_BM_STRIDE (p : Nat) : Ref := ⟨R.APG_BM_STRIDE p, 0, 29⟩
def F.APG_BM_LOST (p : Nat) (i : Nat) : Ref := ⟨R.APG_BM_LOST p i, 0, 32⟩
def F.RA_CTL_SPARE_ROWS (p : Nat) : Ref := ⟨R.RA_CTL p, 0, 7⟩
def F.RA_CTL_SPARE_COLS (p : Nat) : Ref := ⟨R.RA_CTL p, 8, 7⟩
def F.RA_NODE_LIMIT (p : Nat) : Ref := ⟨R.RA_NODE_LIMIT p, 0, 24⟩
def F.RA_SOL_BASE (p : Nat) : Ref := ⟨R.RA_SOL_BASE p, 0, 29⟩
def F.RA_SOL_STRIDE (p : Nat) : Ref := ⟨R.RA_SOL_STRIDE p, 0, 29⟩
def F.RA_REQ_SITE (p : Nat) : Ref := ⟨R.RA_REQ p, 0, 10⟩
def F.RA_REQ_SET (p : Nat) : Ref := ⟨R.RA_REQ p, 10, 1⟩
def F.RA_REQ_ANALYSE (p : Nat) : Ref := ⟨R.RA_REQ p, 11, 1⟩
def F.RA_REQ_CLEAR (p : Nat) : Ref := ⟨R.RA_REQ p, 12, 1⟩
def F.RA_REQ_ORDER (p : Nat) : Ref := ⟨R.RA_REQ p, 13, 1⟩
def F.RA_STATUS_QUEUED (p : Nat) : Ref := ⟨R.RA_STATUS p, 0, 7⟩
def F.RA_STATUS_BUSY (p : Nat) : Ref := ⟨R.RA_STATUS p, 8, 1⟩
def F.RA_STATUS_READ_ERR (p : Nat) : Ref := ⟨R.RA_STATUS p, 9, 1⟩
def F.RA_DONE_CNT (p : Nat) : Ref := ⟨R.RA_DONE_CNT p, 0, 32⟩
def F.RA_LAST_SITE (p : Nat) : Ref := ⟨R.RA_LAST p, 0, 10⟩
def F.RA_LAST_RESULT (p : Nat) : Ref := ⟨R.RA_LAST p, 10, 3⟩
/-! Fields of the TMU unit (+0x8000). -/

def F.TMU_CTL_MODE (t : Nat) : Ref := ⟨R.TMU_CTL t, 0, 2⟩
def F.TMU_CTL_TIP_REF (t : Nat) : Ref := ⟨R.TMU_CTL t, 2, 1⟩
def F.TMU_CTL_ARM_MODE (t : Nat) : Ref := ⟨R.TMU_CTL t, 3, 2⟩
def F.TMU_CTL_ARM_LINE (t : Nat) : Ref := ⟨R.TMU_CTL t, 5, 3⟩
def F.TMU_CTL_NSTOPS (t : Nat) : Ref := ⟨R.TMU_CTL t, 8, 5⟩
def F.TMU_SRC_START_SRC (t : Nat) : Ref := ⟨R.TMU_SRC t, 0, 8⟩
def F.TMU_SRC_START_EDGE (t : Nat) : Ref := ⟨R.TMU_SRC t, 8, 1⟩
def F.TMU_SRC_STOP_SRC (t : Nat) : Ref := ⟨R.TMU_SRC t, 16, 8⟩
def F.TMU_SRC_STOP_EDGE (t : Nat) : Ref := ⟨R.TMU_SRC t, 24, 1⟩
def F.TMU_SKIP_START_SKIP (t : Nat) : Ref := ⟨R.TMU_SKIP t, 0, 16⟩
def F.TMU_SKIP_STOP_SKIP (t : Nat) : Ref := ⟨R.TMU_SKIP t, 16, 16⟩
def F.TMU_TIMEOUT_LO (t : Nat) : Ref := ⟨R.TMU_TIMEOUT_LO t, 0, 32⟩
def F.TMU_TIMEOUT_HI (t : Nat) : Ref := ⟨R.TMU_TIMEOUT_HI t, 0, 8⟩
def F.TMU_GATE (t : Nat) : Ref := ⟨R.TMU_GATE t, 0, 32⟩
def F.TMU_NREP (t : Nat) : Ref := ⟨R.TMU_NREP t, 0, 32⟩
def F.TMU_BUF_BASE (t : Nat) : Ref := ⟨R.TMU_BUF_BASE t, 0, 29⟩
def F.TMU_BUF_SIZE (t : Nat) : Ref := ⟨R.TMU_BUF_SIZE t, 0, 32⟩
def F.TMU_CALGEN (t : Nat) : Ref := ⟨R.TMU_CALGEN t, 0, 16⟩
def F.TMU_GO_GO (t : Nat) : Ref := ⟨R.TMU_GO t, 0, 1⟩
def F.TMU_GO_ABORT (t : Nat) : Ref := ⟨R.TMU_GO t, 1, 1⟩
def F.TMU_STATUS_BUSY (t : Nat) : Ref := ⟨R.TMU_STATUS t, 0, 1⟩
def F.TMU_STATUS_DONE (t : Nat) : Ref := ⟨R.TMU_STATUS t, 1, 1⟩
def F.TMU_STATUS_TDR_OWNED (t : Nat) : Ref := ⟨R.TMU_STATUS t, 2, 1⟩
def F.TMU_STATUS_MUZZLED (t : Nat) : Ref := ⟨R.TMU_STATUS t, 3, 1⟩
def F.TMU_STATUS_CAL_RANGE (t : Nat) : Ref := ⟨R.TMU_STATUS t, 4, 1⟩
def F.TMU_CAL_C1 (t : Nat) : Ref := ⟨R.TMU_CAL t, 0, 12⟩
def F.TMU_CAL_C2 (t : Nat) : Ref := ⟨R.TMU_CAL t, 16, 12⟩
def F.TMU_CLOSE_CNT (t : Nat) : Ref := ⟨R.TMU_CLOSE_CNT t, 0, 32⟩
def F.TMU_LIN (t : Nat) (i : Nat) : Ref := ⟨R.TMU_LIN t i, 0, 16⟩
def F.TMU_RES_HDR_MEAS_SEQ (t : Nat) : Ref := ⟨R.TMU_RES_HDR t, 0, 16⟩
def F.TMU_RES_HDR_STOPS_SEEN (t : Nat) : Ref := ⟨R.TMU_RES_HDR t, 16, 5⟩
def F.TMU_RES_HDR_END (t : Nat) : Ref := ⟨R.TMU_RES_HDR t, 21, 3⟩
def F.TMU_RES_HDR_TIP_APPLIED (t : Nat) : Ref := ⟨R.TMU_RES_HDR t, 24, 1⟩
def F.TMU_START_DT_LO (t : Nat) : Ref := ⟨R.TMU_START_DT_LO t, 0, 32⟩
def F.TMU_START_DT_HI (t : Nat) : Ref := ⟨R.TMU_START_DT_HI t, 0, 32⟩
def F.TMU_COUNT_LO (t : Nat) : Ref := ⟨R.TMU_COUNT_LO t, 0, 32⟩
def F.TMU_COUNT_HI (t : Nat) : Ref := ⟨R.TMU_COUNT_HI t, 0, 32⟩
def F.TMU_SPAN_LO (t : Nat) : Ref := ⟨R.TMU_SPAN_LO t, 0, 32⟩
def F.TMU_SPAN_HI (t : Nat) : Ref := ⟨R.TMU_SPAN_HI t, 0, 32⟩
def F.TMU_PERIOD_LO (t : Nat) : Ref := ⟨R.TMU_PERIOD_LO t, 0, 32⟩
def F.TMU_PERIOD_HI (t : Nat) : Ref := ⟨R.TMU_PERIOD_HI t, 0, 32⟩
def F.TMU_STOP_LO (t : Nat) (i : Nat) : Ref := ⟨R.TMU_STOP_LO t i, 0, 32⟩
def F.TMU_STOP_HI (t : Nat) (i : Nat) : Ref := ⟨R.TMU_STOP_HI t i, 0, 32⟩
def F.TMU_RES_TRL (t : Nat) : Ref := ⟨R.TMU_RES_TRL t, 0, 16⟩
/-! Fields of the channel unit (+0xA000). -/

def F.CH_VIH (n : Nat) : Ref := ⟨R.CH_VIH n, 0, 16⟩
def F.CH_VIL (n : Nat) : Ref := ⟨R.CH_VIL n, 0, 16⟩
def F.CH_VTT (n : Nat) : Ref := ⟨R.CH_VTT n, 0, 16⟩
def F.CH_VOH (n : Nat) : Ref := ⟨R.CH_VOH n, 0, 16⟩
def F.CH_VOL (n : Nat) : Ref := ⟨R.CH_VOL n, 0, 16⟩
def F.CH_VCOM (n : Nat) : Ref := ⟨R.CH_VCOM n, 0, 16⟩
def F.CH_LOAD_IOL (n : Nat) : Ref := ⟨R.CH_LOAD n, 0, 12⟩
def F.CH_LOAD_IOH (n : Nat) : Ref := ⟨R.CH_LOAD n, 16, 12⟩
def F.CH_CTL_IDLE_TERM (n : Nat) : Ref := ⟨R.CH_CTL n, 0, 1⟩
def F.CH_CTL_CMP_HYST (n : Nat) : Ref := ⟨R.CH_CTL n, 1, 1⟩
def F.CH_CTL_PENDING (n : Nat) : Ref := ⟨R.CH_CTL n, 8, 1⟩
def F.CH_CTL_LANE_MEMBER (n : Nat) : Ref := ⟨R.CH_CTL n, 9, 1⟩
def F.CH_PMU_CTL_MODE (n : Nat) : Ref := ⟨R.CH_PMU_CTL n, 0, 3⟩
def F.CH_PMU_CTL_RANGE (n : Nat) : Ref := ⟨R.CH_PMU_CTL n, 4, 3⟩
def F.CH_PMU_CTL_GO (n : Nat) : Ref := ⟨R.CH_PMU_CTL n, 8, 1⟩
def F.CH_PMU_CTL_BUSY (n : Nat) : Ref := ⟨R.CH_PMU_CTL n, 9, 1⟩
def F.CH_PMU_FORCE (n : Nat) : Ref := ⟨R.CH_PMU_FORCE n, 0, 16⟩
def F.CH_PMU_CLAMP_CLAMP_LO (n : Nat) : Ref := ⟨R.CH_PMU_CLAMP n, 0, 16⟩
def F.CH_PMU_CLAMP_CLAMP_HI (n : Nat) : Ref := ⟨R.CH_PMU_CLAMP n, 16, 16⟩
def F.CH_PMU_MEAS_SAMPLES (n : Nat) : Ref := ⟨R.CH_PMU_MEAS n, 0, 16⟩
def F.CH_PMU_MEAS_SETTLE_US (n : Nat) : Ref := ⟨R.CH_PMU_MEAS n, 16, 16⟩
def F.CH_PMU_RESULT_RESULT (n : Nat) : Ref := ⟨R.CH_PMU_RESULT n, 0, 16⟩
def F.CH_PMU_RESULT_VALID (n : Nat) : Ref := ⟨R.CH_PMU_RESULT n, 16, 1⟩
def F.CH_PMU_RESULT_CLAMPED (n : Nat) : Ref := ⟨R.CH_PMU_RESULT n, 17, 1⟩
def F.CH_PMU_RESULT_OVERRANGE (n : Nat) : Ref := ⟨R.CH_PMU_RESULT n, 18, 1⟩
def F.CH_STATUS_DRV_OVERCURRENT (n : Nat) : Ref := ⟨R.CH_STATUS n, 0, 1⟩
def F.CH_STATUS_PIN_CLAMP (n : Nat) : Ref := ⟨R.CH_STATUS n, 1, 1⟩
def F.CH_STATUS_LEVEL_CHECK (n : Nat) : Ref := ⟨R.CH_STATUS n, 2, 1⟩
def F.CH_STATUS_PMU_CLAMP (n : Nat) : Ref := ⟨R.CH_STATUS n, 3, 1⟩
def F.CH_STATUS_LOAD_COMPLIANCE (n : Nat) : Ref := ⟨R.CH_STATUS n, 4, 1⟩
def F.CH_STATUS_FE_CHECK (n : Nat) : Ref := ⟨R.CH_STATUS n, 5, 1⟩
def F.CH_STATUS_MUZZLED (n : Nat) : Ref := ⟨R.CH_STATUS n, 16, 1⟩
def F.CH_STATUS_DRV_PROTECT (n : Nat) : Ref := ⟨R.CH_STATUS n, 17, 1⟩
def F.CH_LVL_READ_READ_CODE (n : Nat) : Ref := ⟨R.CH_LVL_READ n, 0, 16⟩
def F.CH_LVL_READ_WHICH (n : Nat) : Ref := ⟨R.CH_LVL_READ n, 16, 3⟩
def F.CH_APPLY (p : Nat) : Ref := ⟨R.CH_APPLY p, 0, 32⟩
def F.CH_LVLCHK_LVLCHK_EN (p : Nat) : Ref := ⟨R.CH_LVLCHK p, 0, 1⟩
def F.CH_LVLCHK_LVLCHK_TOL (p : Nat) : Ref := ⟨R.CH_LVLCHK p, 16, 16⟩
def F.CH_FAULT_SUM (p : Nat) : Ref := ⟨R.CH_FAULT_SUM p, 0, 32⟩
def F.CH_LANE_ENABLE (p : Nat) (i : Nat) : Ref := ⟨R.CH_LANE p i, 0, 1⟩
def F.CH_LANE_DEEMPH (p : Nat) (i : Nat) : Ref := ⟨R.CH_LANE p i, 1, 4⟩
def F.CH_LANE_RX_EQ (p : Nat) (i : Nat) : Ref := ⟨R.CH_LANE p i, 8, 4⟩
def F.CH_LANE_POLARITY (p : Nat) (i : Nat) : Ref := ⟨R.CH_LANE p i, 12, 1⟩
def F.CH_LANE_MUZZLED (p : Nat) (i : Nat) : Ref := ⟨R.CH_LANE p i, 16, 1⟩
/-! Fields of the PSM unit (+0xC000). -/

def F.PSM_CTL_MODE (n : Nat) : Ref := ⟨R.PSM_CTL n, 0, 3⟩
def F.PSM_CTL_GAIN (n : Nat) : Ref := ⟨R.PSM_CTL n, 3, 1⟩
def F.PSM_CTL_RANGE (n : Nat) : Ref := ⟨R.PSM_CTL n, 4, 3⟩
def F.PSM_CTL_SENSE_LOCAL (n : Nat) : Ref := ⟨R.PSM_CTL n, 7, 1⟩
def F.PSM_CTL_MON_SEL (n : Nat) : Ref := ⟨R.PSM_CTL n, 8, 2⟩
def F.PSM_CTL_REST_KEEP (n : Nat) : Ref := ⟨R.PSM_CTL n, 10, 1⟩
def F.PSM_LEVEL (n : Nat) : Ref := ⟨R.PSM_LEVEL n, 0, 18⟩
def F.PSM_SLEW (n : Nat) : Ref := ⟨R.PSM_SLEW n, 0, 16⟩
def F.PSM_CLAMP_CLAMP_SRC (n : Nat) : Ref := ⟨R.PSM_CLAMP n, 0, 16⟩
def F.PSM_CLAMP_CLAMP_SNK (n : Nat) : Ref := ⟨R.PSM_CLAMP n, 16, 16⟩
def F.PSM_VCLAMP_LO (n : Nat) : Ref := ⟨R.PSM_VCLAMP_LO n, 0, 18⟩
def F.PSM_VCLAMP_HI (n : Nat) : Ref := ⟨R.PSM_VCLAMP_HI n, 0, 18⟩
def F.PSM_REST (n : Nat) : Ref := ⟨R.PSM_REST n, 0, 18⟩
def F.PSM_SHORT_SHORT_MV (n : Nat) : Ref := ⟨R.PSM_SHORT n, 0, 16⟩
def F.PSM_SHORT_SHORT_US (n : Nat) : Ref := ⟨R.PSM_SHORT n, 16, 16⟩
def F.PSM_CHK_TOL (n : Nat) : Ref := ⟨R.PSM_CHK_TOL n, 0, 18⟩
def F.PSM_CHK_CFG_CHK_EN (n : Nat) : Ref := ⟨R.PSM_CHK_CFG n, 0, 1⟩
def F.PSM_CHK_CFG_CHK_COUNT (n : Nat) : Ref := ⟨R.PSM_CHK_CFG n, 8, 8⟩
def F.PSM_CHK_CFG_CHK_LAG (n : Nat) : Ref := ⟨R.PSM_CHK_CFG n, 16, 16⟩
def F.PSM_CLK (n : Nat) : Ref := ⟨R.PSM_CLK n, 0, 24⟩
def F.PSM_RESAMP_UP (n : Nat) : Ref := ⟨R.PSM_RESAMP n, 0, 5⟩
def F.PSM_RESAMP_DOWN (n : Nat) : Ref := ⟨R.PSM_RESAMP n, 8, 5⟩
def F.PSM_WF_TAB (n : Nat) : Ref := ⟨R.PSM_WF_TAB n, 0, 29⟩
def F.PSM_WF_COUNT (n : Nat) : Ref := ⟨R.PSM_WF_COUNT n, 0, 7⟩
def F.PSM_SINE_FTW_LO (n : Nat) : Ref := ⟨R.PSM_SINE_FTW_LO n, 0, 32⟩
def F.PSM_SINE_FTW_HI (n : Nat) : Ref := ⟨R.PSM_SINE_FTW_HI n, 0, 16⟩
def F.PSM_SINE_PH0_LO (n : Nat) : Ref := ⟨R.PSM_SINE_PH0_LO n, 0, 32⟩
def F.PSM_SINE_PH0_HI (n : Nat) : Ref := ⟨R.PSM_SINE_PH0_HI n, 0, 16⟩
def F.PSM_SINE_AMPL (n : Nat) : Ref := ⟨R.PSM_SINE_AMPL n, 0, 18⟩
def F.PSM_SINE_OFFSET (n : Nat) : Ref := ⟨R.PSM_SINE_OFFSET n, 0, 18⟩
def F.PSM_THR_THR_LEVEL (n : Nat) : Ref := ⟨R.PSM_THR n, 0, 18⟩
def F.PSM_THR_THR_DIR (n : Nat) : Ref := ⟨R.PSM_THR n, 18, 1⟩
def F.PSM_THR_THR_QTY (n : Nat) : Ref := ⟨R.PSM_THR n, 19, 1⟩
def F.PSM_THR_THR_EN (n : Nat) : Ref := ⟨R.PSM_THR n, 20, 1⟩
def F.PSM_THR_HYST (n : Nat) : Ref := ⟨R.PSM_THR n, 24, 8⟩
def F.PSM_BOOST_RSH (n : Nat) : Ref := ⟨R.PSM_BOOST n, 0, 10⟩
def F.PSM_BOOST_COMP (n : Nat) : Ref := ⟨R.PSM_BOOST n, 10, 3⟩
def F.PSM_MEAS_CFG_SAMPLES (n : Nat) : Ref := ⟨R.PSM_MEAS_CFG n, 0, 16⟩
def F.PSM_MEAS_CFG_SETTLE_US (n : Nat) : Ref := ⟨R.PSM_MEAS_CFG n, 16, 15⟩
def F.PSM_MEAS_CFG_MEAS_QTY (n : Nat) : Ref := ⟨R.PSM_MEAS_CFG n, 31, 1⟩
def F.PSM_GO_MEAS_GO (n : Nat) : Ref := ⟨R.PSM_GO n, 0, 1⟩
def F.PSM_GO_SNAP_TRIG (n : Nat) : Ref := ⟨R.PSM_GO n, 1, 1⟩
def F.PSM_GO_SNAP_ABORT (n : Nat) : Ref := ⟨R.PSM_GO n, 2, 1⟩
def F.PSM_SNAP_CFG_SNAP_COUNT (n : Nat) : Ref := ⟨R.PSM_SNAP_CFG n, 0, 16⟩
def F.PSM_SNAP_CFG_TRIG_SRC (n : Nat) : Ref := ⟨R.PSM_SNAP_CFG n, 16, 3⟩
def F.PSM_SNAP_CFG_TRIG_LINE (n : Nat) : Ref := ⟨R.PSM_SNAP_CFG n, 19, 3⟩
def F.PSM_SNAP_CFG_SNAP_QTY (n : Nat) : Ref := ⟨R.PSM_SNAP_CFG n, 22, 1⟩
def F.PSM_SNAP_LEN_LEN (n : Nat) : Ref := ⟨R.PSM_SNAP_LEN n, 0, 17⟩
def F.PSM_SNAP_LEN_PRE (n : Nat) : Ref := ⟨R.PSM_SNAP_LEN n, 17, 13⟩
def F.PSM_SNAP_DIV (n : Nat) : Ref := ⟨R.PSM_SNAP_DIV n, 0, 16⟩
def F.PSM_SNAP_BASE (n : Nat) : Ref := ⟨R.PSM_SNAP_BASE n, 0, 29⟩
def F.PSM_SNAP_SIZE (n : Nat) : Ref := ⟨R.PSM_SNAP_SIZE n, 0, 32⟩
def F.PSM_CUE_ACTION (n : Nat) (i : Nat) : Ref := ⟨R.PSM_CUE n i, 0, 4⟩
def F.PSM_CUE_ARG (n : Nat) (i : Nat) : Ref := ⟨R.PSM_CUE n i, 8, 18⟩
def F.PSM_STATUS_SOURCE (n : Nat) : Ref := ⟨R.PSM_STATUS n, 0, 2⟩
def F.PSM_STATUS_SETTLED (n : Nat) : Ref := ⟨R.PSM_STATUS n, 2, 1⟩
def F.PSM_STATUS_WAVE_ARMED (n : Nat) : Ref := ⟨R.PSM_STATUS n, 3, 1⟩
def F.PSM_STATUS_WAVE_RUN (n : Nat) : Ref := ⟨R.PSM_STATUS n, 4, 1⟩
def F.PSM_STATUS_SINE_RUN (n : Nat) : Ref := ⟨R.PSM_STATUS n, 5, 1⟩
def F.PSM_STATUS_SNAP_ARMED (n : Nat) : Ref := ⟨R.PSM_STATUS n, 6, 1⟩
def F.PSM_STATUS_MEAS_BUSY (n : Nat) : Ref := ⟨R.PSM_STATUS n, 7, 1⟩
def F.PSM_STATUS_JUMP_PENDING (n : Nat) : Ref := ⟨R.PSM_STATUS n, 8, 1⟩
def F.PSM_STATUS_MUZZLED (n : Nat) : Ref := ⟨R.PSM_STATUS n, 9, 1⟩
def F.PSM_STATUS_SAFE_RAMP (n : Nat) : Ref := ⟨R.PSM_STATUS n, 10, 1⟩
def F.PSM_STATUS_SHORT_PROTECT (n : Nat) : Ref := ⟨R.PSM_STATUS n, 11, 1⟩
def F.PSM_STATUS_SENSE_FALLBACK (n : Nat) : Ref := ⟨R.PSM_STATUS n, 12, 1⟩
def F.PSM_STATUS_CLAMPING (n : Nat) : Ref := ⟨R.PSM_STATUS n, 13, 1⟩
def F.PSM_STATUS_CLAMP (n : Nat) : Ref := ⟨R.PSM_STATUS n, 16, 1⟩
def F.PSM_STATUS_SHORT (n : Nat) : Ref := ⟨R.PSM_STATUS n, 17, 1⟩
def F.PSM_STATUS_READBACK (n : Nat) : Ref := ⟨R.PSM_STATUS n, 18, 1⟩
def F.PSM_STATUS_SENSE_OPEN (n : Nat) : Ref := ⟨R.PSM_STATUS n, 19, 1⟩
def F.PSM_STATUS_BOOST_RANGE (n : Nat) : Ref := ⟨R.PSM_STATUS n, 20, 1⟩
def F.PSM_STATUS_UNDERRUN (n : Nat) : Ref := ⟨R.PSM_STATUS n, 21, 1⟩
def F.PSM_STATUS_LATE_JUMP (n : Nat) : Ref := ⟨R.PSM_STATUS n, 22, 1⟩
def F.PSM_STATUS_CUE_IGNORED (n : Nat) : Ref := ⟨R.PSM_STATUS n, 23, 1⟩
def F.PSM_STATUS_SINE_SAT (n : Nat) : Ref := ⟨R.PSM_STATUS n, 24, 1⟩
def F.PSM_WAVE_SEGMENT (n : Nat) : Ref := ⟨R.PSM_WAVE n, 0, 6⟩
def F.PSM_WAVE_END_REASON (n : Nat) : Ref := ⟨R.PSM_WAVE n, 8, 3⟩
def F.PSM_WAVE_JUMP_TARGET (n : Nat) : Ref := ⟨R.PSM_WAVE n, 16, 6⟩
def F.PSM_MON_F (n : Nat) : Ref := ⟨R.PSM_MON_F n, 0, 18⟩
def F.PSM_MON_M (n : Nat) : Ref := ⟨R.PSM_MON_M n, 0, 18⟩
def F.PSM_MEAS_MEAN_MEAN (n : Nat) : Ref := ⟨R.PSM_MEAS_MEAN n, 0, 18⟩
def F.PSM_MEAS_MEAN_VALID (n : Nat) : Ref := ⟨R.PSM_MEAS_MEAN n, 24, 1⟩
def F.PSM_MEAS_MEAN_OVERRANGE (n : Nat) : Ref := ⟨R.PSM_MEAS_MEAN n, 25, 1⟩
def F.PSM_MEAS_MEAN_CLAMPED (n : Nat) : Ref := ⟨R.PSM_MEAS_MEAN n, 26, 1⟩
def F.PSM_MEAS_MIN (n : Nat) : Ref := ⟨R.PSM_MEAS_MIN n, 0, 18⟩
def F.PSM_MEAS_MAX (n : Nat) : Ref := ⟨R.PSM_MEAS_MAX n, 0, 18⟩
def F.PSM_CUE_IGN_CNT (n : Nat) : Ref := ⟨R.PSM_CUE_IGN_CNT n, 0, 32⟩
def F.PSM_SNAP_DONE (n : Nat) : Ref := ⟨R.PSM_SNAP_DONE n, 0, 16⟩
def F.PSM_SNAP_MISSED (n : Nat) : Ref := ⟨R.PSM_SNAP_MISSED n, 0, 32⟩
/-! Fields of the pack status unit (+0xE000). -/

def F.PK_STATUS_SEQ_RUN (p : Nat) : Ref := ⟨R.PK_STATUS p, 0, 1⟩
def F.PK_STATUS_SEQ_HOLD (p : Nat) : Ref := ⟨R.PK_STATUS p, 1, 1⟩
def F.PK_STATUS_START_DEFERRED (p : Nat) : Ref := ⟨R.PK_STATUS p, 2, 1⟩
def F.PK_STATUS_MUZZLED (p : Nat) : Ref := ⟨R.PK_STATUS p, 3, 1⟩
def F.PK_STATUS_CH_MUZZLED (p : Nat) : Ref := ⟨R.PK_STATUS p, 4, 1⟩
def F.PK_STATUS_PSM_MUZZLED (p : Nat) : Ref := ⟨R.PK_STATUS p, 5, 1⟩
def F.PK_STATUS_TMU_MUZZLED (p : Nat) : Ref := ⟨R.PK_STATUS p, 6, 1⟩
def F.PK_STATUS_CAL_ACTIVE (p : Nat) : Ref := ⟨R.PK_STATUS p, 7, 1⟩
def F.PK_STATUS_APG_SOURCE (p : Nat) : Ref := ⟨R.PK_STATUS p, 8, 1⟩
def F.PK_STATUS_RA_BUSY (p : Nat) : Ref := ⟨R.PK_STATUS p, 9, 1⟩
def F.PK_STATUS_UNDERRUN_SEEN (p : Nat) : Ref := ⟨R.PK_STATUS p, 10, 1⟩
def F.PK_STATUS_TSET (p : Nat) : Ref := ⟨R.PK_STATUS p, 16, 5⟩
def F.PK_CHMAP_SITE (p : Nat) (i : Nat) : Ref := ⟨R.PK_CHMAP p i, 0, 10⟩
def F.PK_CHMAP_ROLE (p : Nat) (i : Nat) : Ref := ⟨R.PK_CHMAP p i, 10, 2⟩
def F.PK_CHMAP_SRC (p : Nat) (i : Nat) : Ref := ⟨R.PK_CHMAP p i, 16, 5⟩
def F.PK_PSMMAP_FIRST_SITE (p : Nat) (i : Nat) : Ref := ⟨R.PK_PSMMAP p i, 0, 10⟩
def F.PK_PSMMAP_LAST_SITE (p : Nat) (i : Nat) : Ref := ⟨R.PK_PSMMAP p i, 10, 10⟩
def F.PK_PSMMAP_ENABLE (p : Nat) (i : Nat) : Ref := ⟨R.PK_PSMMAP p i, 31, 1⟩
def F.PK_XOR_DRV (p : Nat) (i : Nat) : Ref := ⟨R.PK_XOR_DRV p i, 0, 32⟩
def F.PK_XOR_EXP (p : Nat) (i : Nat) : Ref := ⟨R.PK_XOR_EXP p i, 0, 32⟩
def F.PK_MASK (p : Nat) (i : Nat) : Ref := ⟨R.PK_MASK p i, 0, 32⟩
def F.CAL_PK_DUE (p : Nat) : Ref := ⟨R.CAL_PK_DUE p, 0, 9⟩
def F.CAL_CH_REJ_LEVEL_RUN (p : Nat) (i : Nat) : Ref := ⟨R.CAL_CH_REJ p i, 0, 2⟩
def F.CAL_CH_REJ_VERN_RUN (p : Nat) (i : Nat) : Ref := ⟨R.CAL_CH_REJ p i, 2, 2⟩
def F.CAL_CH_REJ_PMU_RUN (p : Nat) (i : Nat) : Ref := ⟨R.CAL_CH_REJ p i, 4, 2⟩
def F.CAL_PSM_REJ_PSM_RUN (p : Nat) (i : Nat) : Ref := ⟨R.CAL_PSM_REJ p i, 0, 2⟩
def F.CAL_PSM_REJ_BOOST_RUN (p : Nat) (i : Nat) : Ref := ⟨R.CAL_PSM_REJ p i, 2, 2⟩
def F.CAL_TMU_REJ (p : Nat) (i : Nat) : Ref := ⟨R.CAL_TMU_REJ p i, 0, 2⟩
/-! Fields of the AE core block (0x0020_0000 + c × 0x0001_0000). -/

def F.AE_CTL_RUN (c : Nat) : Ref := ⟨R.AE_CTL c, 0, 1⟩
def F.AE_CTL_USER (c : Nat) : Ref := ⟨R.AE_CTL c, 1, 1⟩
def F.AE_CTL_HALT_REQ (c : Nat) : Ref := ⟨R.AE_CTL c, 2, 1⟩
def F.AE_CTL_RESET (c : Nat) : Ref := ⟨R.AE_CTL c, 3, 1⟩
def F.AE_CTL_START_PC (c : Nat) : Ref := ⟨R.AE_CTL c, 16, 13⟩
def F.AE_STATUS_RUNNING (c : Nat) : Ref := ⟨R.AE_STATUS c, 0, 1⟩
def F.AE_STATUS_IN_REP (c : Nat) : Ref := ⟨R.AE_STATUS c, 1, 1⟩
def F.AE_STATUS_CALL_BUSY (c : Nat) : Ref := ⟨R.AE_STATUS c, 2, 1⟩
def F.AE_STATUS_LIB_INTACT (c : Nat) : Ref := ⟨R.AE_STATUS c, 3, 1⟩
def F.AE_STATUS_MUZZLED (c : Nat) : Ref := ⟨R.AE_STATUS c, 4, 1⟩
def F.AE_STATUS_OVF (c : Nat) : Ref := ⟨R.AE_STATUS c, 5, 1⟩
def F.AE_STATUS_SAT_OP (c : Nat) : Ref := ⟨R.AE_STATUS c, 6, 1⟩
def F.AE_STATUS_SAT_ST (c : Nat) : Ref := ⟨R.AE_STATUS c, 7, 1⟩
def F.AE_STATUS_ILLEGAL (c : Nat) : Ref := ⟨R.AE_STATUS c, 8, 1⟩
def F.AE_STATUS_MEM_CHECK (c : Nat) : Ref := ⟨R.AE_STATUS c, 9, 1⟩
def F.AE_STATUS_DMA_ERR (c : Nat) : Ref := ⟨R.AE_STATUS c, 10, 1⟩
def F.AE_STATUS_CALL_TIMEOUT (c : Nat) : Ref := ⟨R.AE_STATUS c, 11, 1⟩
def F.AE_PC (c : Nat) : Ref := ⟨R.AE_PC c, 0, 13⟩
def F.AE_IVEC (c : Nat) : Ref := ⟨R.AE_IVEC c, 0, 13⟩
def F.AE_INT_PEND (c : Nat) : Ref := ⟨R.AE_INT_PEND c, 0, 4⟩
def F.AE_INT_EN (c : Nat) : Ref := ⟨R.AE_INT_EN c, 0, 4⟩
def F.AE_DOORBELL (c : Nat) : Ref := ⟨R.AE_DOORBELL c, 0, 1⟩
def F.AE_CALL_LIMIT (c : Nat) : Ref := ⟨R.AE_CALL_LIMIT c, 0, 24⟩
def F.AE_CYCLE_LO (c : Nat) : Ref := ⟨R.AE_CYCLE_LO c, 0, 32⟩
def F.AE_CYCLE_HI (c : Nat) : Ref := ⟨R.AE_CYCLE_HI c, 0, 32⟩
def F.AE_CALL_CNT (c : Nat) : Ref := ⟨R.AE_CALL_CNT c, 0, 32⟩
def F.AE_CORR_CNT (c : Nat) : Ref := ⟨R.AE_CORR_CNT c, 0, 32⟩
def F.AE_MBOX (c : Nat) (i : Nat) : Ref := ⟨R.AE_MBOX c i, 0, 32⟩
def F.AE_RESULT (c : Nat) (i : Nat) : Ref := ⟨R.AE_RESULT c i, 0, 32⟩


/-! Lookup. -/

/-- Does an offset belong to the array with these dimensions? -/
def dimsCover : List (Nat × Nat) → Nat → Bool
  | [], o => o == 0
  | (n, st) :: ds, o => decide (o / st < n) && dimsCover ds (o % st)

/-- Does the register row hold the word at this offset of its block? -/
def RegRow.covers (r : RegRow) (o : Nat) : Bool :=
  decide (r.off ≤ o) && dimsCover r.dims (o - r.off)

/-- Log entry k of the fault log (R426), and the reserved words, have no row. -/
def rows_fltlog : List RegRow :=
  [⟨"FLT_LOG", 0x1000, [(256, 4)], [⟨"WORD", 0, 32, .ro, 0, none⟩]⟩]

/-- The blocks of R25 that are not SRAM windows. -/
inductive Block where
  | device (k : Nat)
  | packUnit (p u : Nat)
  | ae (c : Nat)
deriving DecidableEq, Repr

/-- The registers of a block. -/
def Block.rows : Block → List RegRow
  | .device 0 => rows_glb
  | .device 1 => rows_flt ++ rows_fltlog
  | .device 2 => rows_hk
  | .device 3 => rows_clk
  | .device 4 => rows_lnk
  | .device 5 => rows_mpa
  | .device 6 => rows_mrm
  | .device 7 => rows_wht ++ rows_twn
  | .device 8 => rows_shp ++ rows_cal
  | .device 9 => rows_msp
  | .device _ => []
  | .packUnit _ 0 => rows_seq
  | .packUnit _ 1 => rows_tim
  | .packUnit _ 2 => rows_cap
  | .packUnit _ 3 => rows_apg
  | .packUnit _ 4 => rows_tmu
  | .packUnit _ 5 => rows_ch
  | .packUnit _ 6 => rows_psm
  | .packUnit _ 7 => rows_pk
  | .packUnit _ _ => []
  | .ae _ => rows_ae

/-- First address of a block. -/
def Block.base : Block → Nat
  | .device k => 0x10000 * k
  | .packUnit p u => 0x100000 + 0x10000 * p + 0x2000 * u
  | .ae c => 0x200000 + 0x10000 * c

/-- Size of a block in bytes. -/
def Block.size : Block → Nat
  | .packUnit _ _ => 0x2000
  | _ => 0x10000

/-- The block of an address, `none` for unassigned addresses and the SRAM windows (R24). -/
def blockOf (a : Nat) : Option Block :=
  if a < 0xA0000 then some (.device (a / 0x10000))
  else if 0x100000 ≤ a ∧ a < 0x200000 then
    some (.packUnit ((a - 0x100000) / 0x10000) (a % 0x10000 / 0x2000))
  else if 0x200000 ≤ a ∧ a < 0x280000 then some (.ae ((a - 0x200000) / 0x10000))
  else none

/-- The regions of the SRAM window (R26). -/
inductive Region where
  | format (p : Nat) | tsetActive (p : Nat) | tsetShadow (p : Nat) | sine (n : Nat)
  | aeImem (c : Nat) | aeDmem (c : Nat) | control | nano | flow
deriving DecidableEq, Repr

/-- First address of a window region. -/
def Region.base : Region → Nat
  | .format p => 0x1000000 + 0x20000 * p
  | .tsetActive p => 0x1200000 + 0x20000 * p
  | .tsetShadow p => 0x1210000 + 0x20000 * p
  | .sine n => 0x1400000 + 0x4000 * n
  | .aeImem c => 0x1600000 + 0x10000 * c
  | .aeDmem c => 0x1800000 + 0x80000 * c
  | .control => 0x1C00000
  | .nano => 0x1C40000
  | .flow => 0x1C80000

/-- Size of a window region in bytes. -/
def Region.size : Region → Nat
  | .format _ => 0x20000
  | .tsetActive _ => 0x10000
  | .tsetShadow _ => 0x10000
  | .sine _ => 0x4000
  | .aeImem _ => 0x10000
  | .aeDmem _ => 0x80000
  | .control => 0x40000
  | .nano => 0x20000
  | .flow => 0x80000

/-- Is the region read-only (R26, R27)? -/
def Region.readOnly : Region → Bool
  | .tsetActive _ => true
  | .control => true
  | .nano => true
  | _ => false

/-- The window region of an address (R26). -/
def regionOf (a : Nat) : Option Region :=
  if a < 0x1000000 then none
  else
    let o := a - 0x1000000
    if o < 0x200000 then some (.format (o / 0x20000))
    else if o < 0x400000 then
      let p := (o - 0x200000) / 0x20000
      if (o - 0x200000) % 0x20000 < 0x10000 then some (.tsetActive p) else some (.tsetShadow p)
    else if o < 0x400000 + 96 * 0x4000 then some (.sine ((o - 0x400000) / 0x4000))
    else if 0x600000 ≤ o ∧ o < 0x600000 + 8 * 0x10000 then some (.aeImem ((o - 0x600000) / 0x10000))
    else if 0x800000 ≤ o ∧ o < 0xC00000 then some (.aeDmem ((o - 0x800000) / 0x80000))
    else if 0xC00000 ≤ o ∧ o < 0xC40000 then some .control
    else if 0xC40000 ≤ o ∧ o < 0xC60000 then some .nano
    else if 0xC80000 ≤ o ∧ o < 0xD00000 then some .flow
    else none

/-- The register row at an address, if a field map names the word. -/
def rowAt (a : Nat) : Option RegRow :=
  match blockOf a with
  | none => none
  | some b => b.rows.find? (fun r => r.covers (a - b.base))

/-- The cold-reset word a row's fields give. -/
def RegRow.coldWord (r : RegRow) : Nat :=
  r.flds.foldl (fun acc f => acc + f.cold % 2 ^ f.w * 2 ^ f.lo) 0

/-- π × 2^100, rounded down: the constant of the sine table. -/
def piFixed : Nat := 3982441812995697363688351113952

/-- Sum of the sine series from term `t` = x^n / n! on, x in units of 2^-100. -/
def sineSeries (x : Nat) : Nat → Nat → Nat → Bool → Int → Int
  | 0, _, _, _, acc => acc
  | fuel + 1, n, t, neg, acc =>
    let acc' := if neg then acc - (t : Int) else acc + (t : Int)
    sineSeries x fuel (n + 2) (t * x / 2 ^ 100 * x / 2 ^ 100 / ((n + 1) * (n + 2))) (!neg) acc'

/-- round(524,287 × sin(2π i / 4,096)) for 0 ≤ i ≤ 1,024 (R236). -/
def sineQuarter (i : Nat) : Nat :=
  let x := piFixed * i / 2048
  let v := sineSeries x 18 1 x false 0
  ((524287 * v * 2 + 2 ^ 100) / 2 ^ 101).toNat

/-- The sine-table entry T[i] as a 20-bit two's-complement code (R236). -/
def sineEntry (i : Nat) : Nat :=
  if i ≤ 1024 then sineQuarter i
  else if i ≤ 2048 then sineQuarter (2048 - i)
  else if i ≤ 3072 then (2 ^ 20 - sineQuarter (i - 2048)) % 2 ^ 20
  else (2 ^ 20 - sineQuarter (4096 - i)) % 2 ^ 20

/-- The cold-start class of a link slot-table entry (R312). -/
def slotClass (k : Nat) : Nat :=
  if k % 16 = 0 then 0x10
  else if k % 16 = 8 then 0x11
  else if k % 16 = 4 then 0x13
  else if k % 16 = 12 then 0x12
  else (k / 4 * 3 + k % 4 - 1) % 16

/-- The cold-start severity of a fault source (R400). -/
def coldSeverity (src : Nat) : Nat :=
  if src = 0 ∨ src = 1 ∨ src = 3 ∨ src = 0x163 ∨ src = 0x170 ∨ src = 0x180 ∨ src = 0x183 then 1
  else if src = 2 then 4
  else if 4 ≤ src ∧ src ≤ 7 then 2
  else if 0x20 ≤ src ∧ src ≤ 0x11F then 1
  else if 0x120 ≤ src ∧ src < 0x140 then
    (if src % 4 = 0 ∨ src % 4 = 2 then 1 else if src % 4 = 1 then 2 else 0)
  else if 0x140 ≤ src ∧ src ≤ 0x142 then 1
  else if 0x160 ≤ src ∧ src ≤ 0x162 then 1
  else if src = 0x182 then 3
  else 0

/-- The cold-reset words that differ from entry to entry of an array, by block (`o` the offset in
the block); `none` where the field map gives one value for the array. -/
def coldSpecial : Block → Nat → Option Nat
  | .packUnit _ 7, o =>
    if 0x40 ≤ o ∧ o < 0xC0 then some ((o - 0x40) / 4 * 0x10000) else none
  | .packUnit _ 3, o =>
    if 0x200 ≤ o ∧ o < 0x340 then
      let i := (o - 0x200) / 8
      if o % 8 = 0 then some (if i < 32 then 2 ^ i else 0) else some (if i < 32 then 0 else 2 ^ (i - 32))
    else if 0x404 ≤ o ∧ o < 0x500 ∧ o % 8 = 4 then some ((o - 0x404) / 8 * 0x100)
    else none
  | .device 1, o =>
    if 0x100 ≤ o ∧ o < 0x1D0 then
      let b := 8 * ((o - 0x100) / 4)
      some (coldSeverity b + 0x10 * coldSeverity (b + 1) + 0x100 * coldSeverity (b + 2)
        + 0x1000 * coldSeverity (b + 3) + 0x10000 * coldSeverity (b + 4)
        + 0x100000 * coldSeverity (b + 5) + 0x1000000 * coldSeverity (b + 6)
        + 0x10000000 * coldSeverity (b + 7))
    else none
  | .device 4, o =>
    if 0x400 ≤ o ∧ o < 0x500 then
      let k := o % 0x40
      some (slotClass k + 0x100 * slotClass (k + 1) + 0x10000 * slotClass (k + 2)
        + 0x1000000 * slotClass (k + 3))
    else none
  | .device 5, o =>
    if o = 0x24 ∨ o = 0x34 then some 0x55555555
    else if o = 0x28 ∨ o = 0x38 then some 0x00EAAAAA
    else none
  | .device 8, o =>
    if o = 0x1010 + 4 * 5 ∨ o = 0x1010 + 4 * 6 then some 600 else none
  | _, _ => none

/-- What a window word reads after a cold start: sine tables as R236, timing sets with UI_COUNT 1
in every D0 entry (R93), every other word 0 (the spec gives the stores no cold-start contents;
DESIGN CHOICE, assumption 4). -/
def coldWindow (a : Nat) : Nat :=
  match regionOf a with
  | some (.sine n) => sineEntry ((a - (Region.sine n).base) / 4)
  | some (.tsetActive _) => if a % 0x40 = 4 then 0x10000 else 0
  | some (.tsetShadow _) => if a % 0x40 = 4 then 0x10000 else 0
  | _ => 0

/-- The word at an address right after a cold start. -/
def coldWord (a : Nat) : Word :=
  BitVec.ofNat 32
    (if 0x1000000 ≤ a then coldWindow a
     else match blockOf a with
       | none => 0
       | some b =>
         match coldSpecial b (a - b.base) with
         | some v => v
         | none =>
           match rowAt a with
           | none => 0
           | some r => r.coldWord)

/-- The highest address a field map of the block names (R307). In the Shepherd block that is word 7 of site
context 1,023, which R38 lists as reserved. -/
def Block.lastValid (b : Block) : Nat :=
  if b = .device 8 then 0x8FFFC
  else
    b.base + b.rows.foldl (fun m r =>
      max m (r.off + r.dims.foldl (fun acc d => acc + (d.1 - 1) * d.2) 0)) 0

end Sys2Proof.Machine
end

