-- ==== Sys2Proof/Machine/Ops.lean ====
section
/-! DEFINITION. The named operations over registers, fields, counters, the fault messages, the
muzzles, DRAM and MRAM that every meaning uses. -/

namespace Sys2Proof.Machine

/-- The outcome of a command of the block. -/
abbrev Out := Host.Outcome State Fault Refusal

/-- The answer of a register write: a status that rejects it, or the state after it. -/
abbrev Res := Except Status State

/-! ## Registers and fields -/

/-- The word at a register or window address, as a number. -/
def State.rd (s : State) (a : Nat) : Nat := (Tab.get (coldWord a) s.regs a).toNat

/-- Store a word at a register or window address. -/
def State.wr (s : State) (a v : Nat) : State :=
  { s with regs := Tab.put (coldWord a) s.regs a (BitVec.ofNat 32 v) }

/-- Bits [lo + w − 1 : lo] of a number. -/
def bits (x lo w : Nat) : Nat := x / 2 ^ lo % 2 ^ w

/-- Bit i of a number. -/
def bit (x i : Nat) : Bool := x / 2 ^ i % 2 == 1

/-- Replace bits [lo + w − 1 : lo] of a number. -/
def setBits (x lo w v : Nat) : Nat :=
  x % 2 ^ lo + v % 2 ^ w * 2 ^ lo + x / 2 ^ (lo + w) * 2 ^ (lo + w)

/-- The value of a field. -/
def State.get (s : State) (r : Ref) : Nat := bits (s.rd r.addr) r.lo r.w

/-- A one-bit field as a truth value. -/
def State.flag (s : State) (r : Ref) : Bool := s.get r != 0

/-- Set a field. -/
def State.set (s : State) (r : Ref) (v : Nat) : State :=
  s.wr r.addr (setBits (s.rd r.addr) r.lo r.w v)

/-- Set a one-bit field from a truth value. -/
def State.setB (s : State) (r : Ref) (b : Bool) : State := s.set r (if b then 1 else 0)

/-- A field read as two's complement. -/
def signed (w x : Nat) : Int := if x % 2 ^ w < 2 ^ (w - 1) then (x % 2 ^ w : Nat) else (x % 2 ^ w : Nat) - (2 ^ w : Int)

/-- A number as the low w bits of two's complement. -/
def unsigned (w : Nat) (x : Int) : Nat := (x % (2 ^ w : Int)).toNat

/-- The value of a signed field. -/
def State.getI (s : State) (r : Ref) : Int := signed r.w (s.get r)

/-- Set a signed field. -/
def State.setI (s : State) (r : Ref) (v : Int) : State := s.set r (unsigned r.w v)

/-- Add to a field that holds at all ones. -/
def State.bumpBy (s : State) (r : Ref) (n : Nat) : State :=
  s.set r (min (s.get r + n) (2 ^ r.w - 1))

/-- Count one event in a field that holds at all ones. -/
def State.bump (s : State) (r : Ref) : State := s.bumpBy r 1

/-- A 64-bit pair whose low word is at address `lo` (the high word 4 above). -/
def State.rd64 (s : State) (lo : Nat) : Nat := s.rd lo + 2 ^ 32 * s.rd (lo + 4)

/-- Store a 64-bit pair. -/
def State.wr64 (s : State) (lo v : Nat) : State := (s.wr lo v).wr (lo + 4) (v / 2 ^ 32)

/-- Apply a function at every element of a list, in order. -/
def State.forEach {α : Type} (l : List α) (f : α → State → State) (s : State) : State :=
  l.foldl (fun acc x => f x acc) s

/-- Draw a free word. -/
def State.drawWord (s : State) : Word × State :=
  (Config.freeWord s.free, { s with free := s.free + 1 })

/-- Draw a free truth value. -/
def State.drawBool (s : State) : Bool × State :=
  (Config.freeBool s.free, { s with free := s.free + 1 })

/-! ## Access codes (R3) -/

/-- One field of a stored word under a write of `v`: RW and RWS take the written bits, W1C bits
are cleared where `v` has a 1, RO and WO keep what they hold. -/
def Fld.store (f : Fld) (v old : Nat) : Nat :=
  match f.acc with
  | .ro => old
  | .wo => old
  | .rw => setBits old f.lo f.w (bits v f.lo f.w)
  | .rws => setBits old f.lo f.w (bits v f.lo f.w)
  | .w1c => setBits old f.lo f.w (bits old f.lo f.w &&& (2 ^ f.w - 1 - bits v f.lo f.w))

/-- The word a register holds after a write of `v` under its fields' access codes. -/
def RegRow.store (r : RegRow) (v old : Nat) : Nat := r.flds.foldl (fun w f => f.store v w) old

/-- Store a written word under the access codes of the register at the address; a window word is
stored whole; a reserved word ignores the write (R3). -/
def State.store (s : State) (a v : Nat) : State :=
  match regionOf a with
  | some _ => s.wr a v
  | none =>
    match rowAt a with
    | none => s
    | some r => s.wr a (r.store v (s.rd a))

/-- Does the register at the address have a W1C field? -/
def hasW1C (a : Nat) : Bool :=
  match rowAt a with
  | none => false
  | some r => r.flds.any (fun f => f.acc == .w1c)

/-! ## Who writes -/

/-- The session on whose behalf an access is made; the management port acts as session 0. -/
def originSession : Origin → Nat
  | .link s => s.toNat
  | .msp => 0
  | .shepherd s => s.toNat

end Sys2Proof.Machine

namespace Sys2Proof.Machine

/-! ## Fault messages (R395) -/

/-- The 64-bit form of a message (R395): KIND is the class in bits [16:14] over the code. -/
def FaultMsg.word (m : FaultMsg) : Nat :=
  m.src % 2 ^ 9 + m.kind % 2 ^ 5 * 2 ^ 9 + m.cls % 2 ^ 3 * 2 ^ 14 + m.addr % 2 ^ 32 * 2 ^ 17
    + m.time % 2 ^ 15 * 2 ^ 49

/-- The class codes (R396). -/
def cTIMING : Nat := 0
def cDATA : Nat := 1
def cANALOG : Nat := 2
def cTHERMAL : Nat := 3
def cLINK : Nat := 4
def cMEMORY : Nat := 5
def cPROTOCOL : Nat := 6
def cWATCHDOG : Nat := 7

/-- Send a fault message to the collector. -/
def State.raise (s : State) (src cls kind addr : Nat) : State :=
  { s with faultIn := s.faultIn ++ [⟨src, cls, kind, addr % 2 ^ 32, s.time % 2 ^ 15⟩] }

/-- Set a status bit and send its message; a detection repeated while the bit is 1 sends nothing
(R77, R104, R137, R424 and the other fault tables). -/
def State.raiseOnce (s : State) (bit : Ref) (src cls kind addr : Nat) : State :=
  if s.flag bit then s else (s.set bit 1).raise src cls kind addr

/-- Fault source of unit `u` (0 to 15) of pack p (R397). -/
def packSrc (p u : Nat) : Nat := 0x20 + 16 * p + u

/-- Does a calibration task run on a unit (R428)? -/
def State.taskOn (s : State) (task u : Nat) : Bool := s.calTasks.any (fun k => k.task == task && k.units.contains u)

/-! ## The device state (R399) -/

/-- NORMAL 0, STOPPED 1, SAFE 2, TRIPPED 3. -/
def State.devState (s : State) : Nat := s.get F.FLT_STATUS_STATE

/-- STOPPED or a state above it, in which starts are refused (R407). -/
def State.stopped (s : State) : Bool := s.devState != 0

/-- Is the device TRIPPED (R412, R416)? -/
def State.tripped (s : State) : Bool := s.devState == 3

/-! ## Muzzles (R398, R413) -/

/-- Is there a muzzle record of exactly this unit? -/
def State.muzzledSelf (s : State) (u : MUnit) : Bool := s.muzzles.any (fun m => m.unit == u)

/-- Is a pack muzzled, by itself or with its PFE die (R8)? -/
def State.packMuzzled (s : State) (p : Nat) : Bool :=
  s.muzzledSelf (.pack p) || s.muzzledSelf (.pfe (p / 4))

/-- Is differential lane k (channels 2k, 2k + 1) enabled? A lane that was muzzled when ENABLE was written 0
stays one until the unmuzzle (R86). -/
def State.laneEnabled (s : State) (k : Nat) : Bool :=
  s.flag (F.CH_LANE_ENABLE (k / 16) (k % 16)) || Tab.get false s.laneKept k

/-- Is a device channel muzzled: by itself, with its lane, or with its pack? Muzzling a channel of an
enabled lane records the lane too (R75, R398). -/
def State.chanMuzzled (s : State) (n : Nat) : Bool :=
  s.muzzledSelf (.channel n) || s.muzzledSelf (.lane (n / 2)) || s.packMuzzled (n / 32)

/-- Is a device lane muzzled? -/
def State.laneMuzzled (s : State) (k : Nat) : Bool :=
  s.muzzledSelf (.lane k) || s.packMuzzled (k / 16)

/-- Is a PSM muzzled? -/
def State.psmMuzzled (s : State) (n : Nat) : Bool := s.muzzledSelf (.psm n) || s.packMuzzled (n / 6)

/-- Is a TMU muzzled? -/
def State.tmuMuzzled (s : State) (t : Nat) : Bool := s.muzzledSelf (.tmu t) || s.packMuzzled (t / 4)

/-- Is an AE core muzzled? -/
def State.aeMuzzled (s : State) (c : Nat) : Bool := s.muzzledSelf (.ae c)

/-- Is pseudo-channel q (0 to 31) muzzled? -/
def State.pcMuzzled (s : State) (q : Nat) : Bool := s.muzzledSelf (.pc q)

/-- Is a unit muzzled, by itself or by a unit that contains it? -/
def State.muzzledUnit (s : State) : MUnit → Bool
  | .channel n => s.chanMuzzled n
  | .lane k => s.laneMuzzled k
  | .psm n => s.psmMuzzled n
  | .tmu t => s.tmuMuzzled t
  | .pack p => s.packMuzzled p
  | .ae c => s.aeMuzzled c
  | .pc q => s.pcMuzzled q
  | .linkLane i => s.muzzledSelf (.linkLane i)
  | .pfe k => s.muzzledSelf (.pfe k)

/-- UNIT_TYPE and INDEX of a unit (R413). -/
def unitCode : MUnit → Nat × Nat
  | .channel n => (0, n)
  | .lane n => (1, n)
  | .psm n => (2, n)
  | .tmu n => (3, n)
  | .pack n => (4, n)
  | .ae n => (5, n)
  | .pc n => (6, n)
  | .linkLane n => (7, n)
  | .pfe n => (8, n)

/-- The unit of a UNIT_TYPE and INDEX, or the status that refuses them (R413). -/
def unitOf (ty ix : Nat) : Except Status MUnit :=
  let pick (n : Nat) (u : MUnit) : Except Status MUnit :=
    if ix < n then .ok u else .error .badAddress
  match ty with
  | 0 => pick 512 (.channel ix)
  | 1 => pick 256 (.lane ix)
  | 2 => pick 96 (.psm ix)
  | 3 => pick 64 (.tmu ix)
  | 4 => pick 16 (.pack ix)
  | 5 => pick 8 (.ae ix)
  | 6 => pick 32 (.pc ix)
  | 7 => pick 10 (.linkLane ix)
  | 8 => pick 4 (.pfe ix)
  | _ => .error .badOpcode

/-- The unit code of R413 as a fault ADDRESS: UNIT_TYPE in [3:0], INDEX in [19:8] (R424). -/
def unitAddr (u : MUnit) : Nat := (unitCode u).1 + (unitCode u).2 * 2 ^ 8

/-- Record a muzzle of a unit with the message that caused it; a unit already muzzled collects the
further message as a cause. -/
def State.addMuzzle (s : State) (u : MUnit) (cause : List FaultMsg) : State :=
  if s.muzzledSelf u then
    { s with muzzles := s.muzzles.map (fun m =>
        if m.unit = u then { m with causes := m.causes ++ cause } else m) }
  else { s with muzzles := s.muzzles ++ [⟨u, false, cause⟩] }

/-- The unit whose muzzle state guards writes to a register address (R29): the pack of a pack unit,
the AE core of a core block; none elsewhere. -/
def State.addrMuzzled (s : State) (a : Nat) : Bool :=
  match blockOf a with
  | some (.packUnit p _) => s.packMuzzled p
  | some (.ae c) => s.aeMuzzled c
  | _ => false

/-- Run a register write under R29: in a muzzled pack or core, a write of a register with W1C fields
is carried out (no such register has another writable field), and any other is rejected with
MUZZLED. -/
def State.guarded (s : State) (a : Nat) (f : State → Res) : Res :=
  if s.addrMuzzled a && !hasW1C a then .error .muzzled else f s

/-- The end of a direct register write: its status is the bus response, and a rejected write
changes nothing else. -/
def State.respond (s : State) (r : Res) : State :=
  match r with
  | .ok t => { t with resp := .ok }
  | .error st => { s with resp := st }

/-! ## Events (R313, R314) -/

/-- Queue an event: words 0 to 4 of R313; a full queue of 256 loses it and counts it. -/
def State.pushEvent (s : State) (w0 w1 sev kind : Nat) : State :=
  if s.events.length < 256 then
    { s with events := s.events ++ [[BitVec.ofNat 32 w0, BitVec.ofNat 32 w1,
        BitVec.ofNat 32 s.time, BitVec.ofNat 32 (s.time / 2 ^ 32), BitVec.ofNat 32 (sev + kind * 2 ^ 8)]] }
  else
    { s.bump (F.LNK_EVT_LOST) with evtLost := min (s.evtLost + 1) (2 ^ 32 - 1) }

/-- A notice event: source ID, code and argument (R313). -/
def State.notice (s : State) (src code arg : Nat) : State :=
  s.pushEvent (src + code * 2 ^ 16) arg 0 1

/-! ## DRAM (R351 to R353) -/

/-- The pseudo-channel number q = 16 s + c and the offset within it of DRAM address a (R351). -/
def dramPlace (interleaved : Bool) (a : Nat) : Nat × Nat :=
  if interleaved then
    (bits a 8 1 * 16 + (bits a 9 4 ^^^ bits a 13 4), a / 2 ^ 13 % 2 ^ 22 * 256 + a % 256)
  else (bits a 30 5, a % 2 ^ 30)

/-- Is the INTERLEAVED map in use (MAP_ACTIVE)? -/
def State.interleaved (s : State) : Bool := s.flag F.MPA_MAP_MAP_ACTIVE

/-- The key under which the byte at DRAM address a is held: its pseudo-channel and offset. -/
def State.dramKey (s : State) (a : Nat) : Nat :=
  let (q, o) := dramPlace s.interleaved a
  q * 2 ^ 30 + o

/-- The pseudo-channel of a DRAM address. -/
def State.dramPc (s : State) (a : Nat) : Nat := (dramPlace s.interleaved a).1

/-- One byte of DRAM. -/
def State.dramByte (s : State) (a : Nat) : Byte := Memory.get s.dram (s.dramKey a)

/-- Write one byte of DRAM. -/
def State.putDramByte (s : State) (a : Nat) (b : Byte) : State :=
  { s with dram := Memory.put s.dram (s.dramKey a) b }

/-- Read n bytes of DRAM. -/
def State.dramBytes (s : State) (a : Nat) : Nat → List Byte
  | 0 => []
  | n + 1 => s.dramByte a :: s.dramBytes (a + 1) n

/-- Write bytes to DRAM at ascending addresses. -/
def State.putDram (s : State) (a : Nat) : List Byte → State
  | [] => s
  | b :: bs => (s.putDramByte a b).putDram (a + 1) bs

/-- Read n bytes of DRAM as a little-endian number. -/
def State.dramNat (s : State) (a n : Nat) : Nat := Memory.ofBytes (s.dramBytes a n)

/-- Write the low n bytes of a number to DRAM. -/
def State.putDramNat (s : State) (a n v : Nat) : State := s.putDram a (Memory.toBytes n v)

/-- A 32-bit word of DRAM. -/
def State.dramWord (s : State) (a : Nat) : Nat := s.dramNat a 4

/-- n consecutive words of DRAM. -/
def State.dramWords (s : State) (a n : Nat) : List Word :=
  (List.range n).map (fun i => BitVec.ofNat 32 (s.dramWord (a + 4 * i)))

/-- Write words to DRAM at ascending addresses. -/
def State.putDramWords (s : State) (a : Nat) : List Word → State
  | [] => s
  | w :: ws => (s.putDramNat a 4 w.toNat).putDramWords (a + 4) ws

/-- Does a request for pseudo-channel q receive the muzzle response: a muzzled one (R361), or one of a
stack whose DRAM PLL is unlocked (R380)? -/
def State.pcClosed (s : State) (q : Nat) : Bool :=
  s.pcMuzzled q || !bit (s.get F.CLK_STATUS_DRM_LOCK) (q / 16)

/-- Does FREEZE keep every request for DRAM waiting (R364)? -/
def State.frozen (s : State) : Bool := s.flag F.MPA_CTL

/-- Does any byte of [a, a + n) lie on a pseudo-channel that gives the muzzle response? -/
def State.touchesMuzzledPc (s : State) (a n : Nat) : Bool :=
  (s.muzzles.any (fun m => match m.unit with | .pc _ => true | _ => false) || s.get F.CLK_STATUS_DRM_LOCK != 3)
    && decide (0 < n)
    && (List.range ((a + n - 1) / 256 + 1 - a / 256)).any (fun i => s.pcClosed (s.dramPc (256 * (a / 256 + i))))

/-- An uncorrectable burst at DRAM address a (R373 to R375): counted, DRAM_UE raised, and PC_FAIL at
the sixteenth of its pseudo-channel. -/
def State.dramUe (s : State) (a : Nat) : State :=
  let q := s.dramPc a
  let n := Tab.get 0 s.ueCount q + 1
  let t := ((s.bump (F.DRM_UE_CNT (q / 16))).raiseOnce (F.DRM_STATUS_UE_SEEN (q / 16)) (0x140 + q / 16)
    cMEMORY 0x01 (a / 64))
  let t := { t with ueCount := Tab.put 0 t.ueCount q n }
  if n = 16 then t.raiseOnce (F.DRM_STATUS_PC_FAIL (q / 16)) (0x140 + q / 16) cMEMORY 0x02 q else t

/-- Write bytes to MRAM. -/
def State.putMram (s : State) (a : Nat) (bs : List Byte) : State :=
  { s with mram := Memory.putBytes s.mram a bs }

/-- Write the low n bytes of a number to MRAM. -/
def State.putMramNat (s : State) (a n v : Nat) : State :=
  { s with mram := Memory.putNat s.mram a n v }

/-- A little-endian number of n bytes of MRAM. -/
def State.mramNat (s : State) (a n : Nat) : Nat := Memory.getNat s.mram a n

/-! ## Crossing reports (R384, R386, R393) -/

/-- A PULSE event dropped at crossing `i`, instance `n`. -/
def State.crossOverrun (s : State) (i n : Nat) : State :=
  s.raiseOnce ⟨R.CLK_OVR, i, 1⟩ 0x003 cPROTOCOL 0x05 (i + n * 2 ^ 8)

/-- A discontinuity seen at crossing `i`, instance `n`. -/
def State.crossJump (s : State) (i n : Nat) : State :=
  s.raiseOnce ⟨R.CLK_JUMP, i, 1⟩ 0x003 cDATA 0x06 (i + n * 2 ^ 8)

/-! ## Reset groups (R391) -/

/-- Do the consumers of group g's crossings hold: the group is muzzled, or held in reset (R391)? -/
def State.grpHeld (s : State) (g : Nat) : Bool :=
  bit (s.get F.CLK_GRP_CTL_MUZZLE) g || s.flag ⟨R.CLK_GRP_STATUS, 8 + g, 1⟩

/-- Is group g frozen? -/
def State.grpFrozen (s : State) (g : Nat) : Bool := bit (s.get F.CLK_GRP_CTL_FREEZE) g

/-- Does nothing of group g reach the CORE side: it is frozen, muzzled or held in reset (R391)? -/
def State.grpShut (s : State) (g : Nat) : Bool := s.grpFrozen g || s.grpHeld g

/-! ## The core domains stop (R380, R382, R408, R417) -/

/-- Is power short of what any output of the core needs: VAUX is absent, PWRGOOD is low, or the core does not run? -/
def State.dark (s : State) : Bool := !s.vaux || !s.pwrgood || !s.coreUp

/-- The DEV_ID of the device. -/
def State.devId (s : State) : Nat := s.get F.GLB_ID_DEV_ID

/-- Do the lanes run from the keepalive PLL (R382)? -/
def State.slowLink (s : State) : Bool := !s.coreUp

/-- Do the lanes send nothing: without REFCLK the keepalive PLL has no reference, in TRIPPED it is off, and without PWRGOOD
or VAUX the transmitters are at high impedance (R382, R416, R493). -/
def State.lanesSilent (s : State) : Bool :=
  !s.vaux || !s.pwrgood || (s.slowLink && (!s.flag F.CLK_STATUS_REF_OK || s.tripped))

/-- What a KEEPALIVE carries now (R285, R408). -/
def State.keepNow (s : State) : KeepInfo :=
  ⟨s.coreUp, decide (2 ≤ s.devState), decide (s.get F.GLB_REST_STATE = 2), BitVec.ofNat 5 s.devId⟩

/-- KEEPALIVE blocks go out on the twin link and on lane 0 of ports A and B; silent lanes carry none (R382, R408). -/
def State.keepSend (s : State) : State :=
  if s.lanesSilent then s
  else { s with
    keepOut := some s.keepNow
    keepPorts := [(0, some s.keepNow), (1, some s.keepNow)] }

/-- The CORE domains stop: the ports that are open and the twin link train anew on their keepalive lanes, which carry
KEEPALIVE from then on. -/
def State.coreStop (s : State) : State :=
  let t : State := { s with coreUp := false }
  let t := t.forEach (List.range 2) (fun x u =>
    if 2 ≤ u.get (F.LNK_STATUS_STATE x) then
      (((u.set (F.LNK_STATUS_STATE x) 1).set (F.LNK_STATUS_RATE x) 0).set (F.LNK_STATUS_LANES_UP x) 0).bump (F.LNK_RETRAIN_CNT x)
    else u)
  (t.set F.TWN_STATUS_LINK_UP 0).keepSend

/-! ## Thermal deferral of starts (R131) -/

/-- The starts that wait for their first beat take note of DEFER: START_DEFERRED of their packs shows it, and a start is
counted as delayed by it while it lasts, and after it where START_TIME has passed meanwhile (R131). -/
def State.deferNote (s : State) : State :=
  let on := s.flag F.HK_STATUS_DEFER
  let t := s.forEach ((s.groups.filter (fun (g : StartGroup) => !g.running)).flatMap (fun (g : StartGroup) => g.packs))
    (fun q u => u.setB (F.PK_STATUS_START_DEFERRED q) on)
  { t with groups := t.groups.map (fun (g : StartGroup) =>
      if g.running then g
      else { g with deferred := on || (g.deferred && g.startTime != 0 && decide (g.startTime < s.time)) }) }

/-! ## CRC-32C (R286) -/

/-- One bit step of the reflected CRC. -/
def crcBit (x : Nat) : Nat := if x % 2 = 1 then x / 2 ^^^ 0x82F63B78 else x / 2

/-- One byte step. -/
def crcByte (crc b : Nat) : Nat :=
  crcBit (crcBit (crcBit (crcBit (crcBit (crcBit (crcBit (crcBit (crc ^^^ b))))))))

/-- CRC-32C of a list of bytes: initial value all ones, reflected, final inversion. -/
def crc32c (bs : List Nat) : Nat := bs.foldl crcByte 0xFFFFFFFF ^^^ 0xFFFFFFFF

/-- The four bytes of a word, least significant first. -/
def wordBytes (w : Nat) : List Nat := [w % 256, w / 2 ^ 8 % 256, w / 2 ^ 16 % 256, w / 2 ^ 24 % 256]

/-- CRC-32C of words in transmission order. -/
def crcWords (ws : List Nat) : Nat := crc32c (ws.flatMap wordBytes)

end Sys2Proof.Machine
end

