-- ==== Sys2Proof/Machine/Cmd.lean ====
section
/-! DEFINITION. What every link command shares: the in-flight table, the gates of Rest and of a
missing image, running a command once, and completing it (R295 to R303, R315, R325). -/

namespace Sys2Proof.Machine

/-- The packs named by a mask, in ascending order. -/
def packsOf (mask : Nat) : List Nat := (List.range 16).filter (fun p => bit mask p)

/-- The mask bit of domain AE and of domain SHEPHERD; bits 0 to 15 are PACK0 to PACK15 (R22). -/
def domAE : Nat := 2 ^ 16
def domSHEPHERD : Nat := 2 ^ 17

/-- The ordering domain of a register address (R22). -/
def domainOfAddr (a : Nat) : Nat :=
  match blockOf a with
  | some (.packUnit p _) => 2 ^ p
  | some (.ae _) => domAE
  | some (.device _) => domSHEPHERD
  | none =>
    match regionOf a with
    | some (.format p) => 2 ^ p
    | some (.tsetActive p) => 2 ^ p
    | some (.tsetShadow p) => 2 ^ p
    | some (.sine n) => 2 ^ (n / 6)
    | some (.aeImem _) => domAE
    | some (.aeDmem _) => domAE
    | _ => domSHEPHERD

/-- The ordering domains of a command (R22, R23). DESIGN CHOICE: a CAL_RUN or CAL_FORGET whose PACKS is 0 has none
(assumption 178). -/
def domainsOf (op : Nat) (pl : List Word) : Nat :=
  if op < 0x10 then domainOfAddr (word pl 0)
  else if op < 0x30 then domSHEPHERD
  else if op < 0x40 then word pl 0 % 2 ^ 16
  else if op < 0x50 then 2 ^ (word pl 0 % 128 / 6 % 16)
  else if op = 0x50 then 2 ^ (word pl 0 % 512 / 32)
  else if op = 0x5C then domAE
  else if op < 0x60 then 2 ^ (word pl 0 % 64 / 4)
  else if op = 0x60 then word pl 0 % 2 ^ 16
  else if op = 0x63 then word pl 1 % 2 ^ 16
  else if op = 0x65 then word pl 1 % 2 ^ 16
  else domSHEPHERD

/-- The always-alive window: the blocks of R472. -/
def aliveWindow (a : Nat) : Bool :=
  decide (a < 0x30000) || (decide (0x90000 ≤ a) && decide (a < 0xA0000))
    || (decide (0x71000 ≤ a) && decide (a < 0x72000))

/-- The block of R325 that a device without an image still serves: global and MRAM store. -/
def imagelessBlock (a : Nat) : Bool :=
  decide (a < 0x10000) || (decide (0x60000 ≤ a) && decide (a < 0x70000))

/-- The gates of Rest (R315) and of a missing image (R325): BAD_STATE for a command they do not
admit. A command that arrives while the device is WAKING is treated as in Rest (assumption 8). -/
def State.gate (s : State) (op : Nat) (pl : List Word) : Option Status :=
  if 2 ≤ s.get F.GLB_REST_STATE ∧
      ¬ ((op = 0x00 ∧ aliveWindow (word pl 0)) ∨ op = 0xF0 ∨ op = 0xF2 ∨ op = 0x80 ∨ op = 0x81
        ∨ op = 0x83) then some .badState
  else if s.flag F.SHP_STATUS_IMAGE_OK = false ∧
      ¬ ((op ≤ 0x02 ∧ imagelessBlock (word pl 0)) ∨ op = 0x10 ∨ op = 0x11 ∨ op = 0xF0 ∨ op = 0xF2
        ∨ op = 0x80 ∨ (op = 0x81 ∧ bit (word pl 0) 0)) then some .badState
  else none

/-- Are two headers of one command: the same session and tag? -/
def sameCmd (a b : CmdHdr) : Bool := a.session == b.session && a.tag == b.tag

/-- The in-flight entry of a header. -/
def State.entryOf (s : State) (h : CmdHdr) : Option InFlight :=
  s.inflight.find? (fun e => sameCmd e.hdr h)

/-- Queue a completion. -/
def State.addReply (s : State) (e : InFlight) (st : Status) (detail : Nat) (pl : List Word) : State :=
  { s with replies := s.replies ++
      [⟨e.opcode, e.hdr.session.toNat, e.hdr.tag.toNat, e.hdr.port, bit e.domains 16, true, st, detail, pl⟩] }

/-- Remove a command from the in-flight table and queue its completion, unless SESSION_RESET has
suppressed it (R299, R300). -/
def State.retire (s : State) (e : InFlight) (st : Status) (detail : Nat) (pl : List Word) : State :=
  let t := { s with inflight := s.inflight.filter (fun x => !sameCmd x.hdr e.hdr) }
  if e.suppressed then t else t.addReply e st detail pl

/-- A running BARRIER with no earlier command of its session in flight, URGENT ones aside
(R302, R303). -/
def readyBarrier : List InFlight → List InFlight → Option InFlight
  | _, [] => none
  | before, e :: es =>
    if e.opcode = 0xF1 ∧ e.phase = .running ∧
        before.all (fun x => x.hdr.session ≠ e.hdr.session || x.hdr.urgent) then some e
    else readyBarrier (before ++ [e]) es

/-- Complete every BARRIER whose session has no earlier command left. -/
def State.settleBarriers (s : State) : Nat → State
  | 0 => s
  | n + 1 =>
    match readyBarrier [] s.inflight with
    | none => s
    | some e => (s.retire e .ok 0 []).settleBarriers n

/-- Complete a command: its completion is queued for the port it came by, and any BARRIER that
waited for it completes. A command no longer in flight (a warm start took it) has no completion. -/
def State.complete (s : State) (h : CmdHdr) (st : Status) (detail : Nat) (pl : List Word) : State :=
  match s.entryOf h with
  | none => s
  | some e => (s.retire e st detail pl).settleBarriers s.inflight.length

/-- Complete with a status and no payload. -/
def State.done (s : State) (h : CmdHdr) (st : Status) : State := s.complete h st 0 []

/-- Mark an entry as running. -/
def State.markRunning (s : State) (h : CmdHdr) : State :=
  { s with inflight := s.inflight.map (fun e => if sameCmd e.hdr h then { e with phase := .running } else e) }

/-- The packs a pattern, PSM, PMU or TMU command names. -/
def packsOfCmd (op : Nat) (pl : List Word) : List Nat :=
  if 0x30 ≤ op ∧ op < 0x40 then packsOf (word pl 0 % 2 ^ 16)
  else if 0x40 ≤ op ∧ op < 0x50 then [word pl 0 % 128 / 6 % 16]
  else if op = 0x50 then [word pl 0 % 512 / 32]
  else if op = 0x51 ∨ op = 0x52 then [word pl 0 % 64 / 4]
  else []

/-- The pack of a calibration task's unit; GRAD belongs to no pack (R428). -/
def calPack (task u : Nat) : Option Nat :=
  match task with
  | 1 => some (u / 32)
  | 2 => some (u / 32)
  | 3 => some (u / 32)
  | 4 => some (u / 6)
  | 5 => some (u / 4)
  | 6 => some u
  | 7 => some (u / 6)
  | _ => none

/-- A task's unit. -/
def State.calUnit (s : State) (task u : Nat) : CalUnit := Tab.get {} s.calUnits (1024 * task + u)

/-- Replace it. -/
def State.setCalUnit (s : State) (task u : Nat) (x : CalUnit) : State :=
  { s with calUnits := Tab.put {} s.calUnits (1024 * task + u) x }

/-- The registers whose write puts to use what a task's unit is: the PMU of a channel, a PSM, the TMUs that a task measures
with. A TMU_LIN in beats ends at a GO instead (R434). -/
def calRegs (k : CalTask) (u : Nat) : List Nat :=
  match k.task with
  | 1 => [R.CH_PMU_CTL u]
  | 2 => R.CH_PMU_CTL u :: (List.range 4).map (fun j => R.TMU_GO (4 * (u / 32) + j))
  | 3 => [R.CH_PMU_CTL u]
  | 4 => [R.PSM_CTL u]
  | 5 => if k.beats then [] else [R.TMU_GO u]
  | 6 => [R.TMU_GO (4 * u)]
  | 7 => [R.PSM_CTL u]
  | _ => []

/-- Does a running task hold a register write or modify, an ALIGN of one of its packs, or a CAL_RUN of the same task or of one
of its packs? -/
def taskHolds (k : CalTask) (op : Nat) (pl : List Word) : Bool :=
  let on (ps : List Nat) : Bool := k.units.any (fun u => match calPack k.task u with
    | some p => ps.contains p
    | none => false)
  match op with
  | 1 => k.units.any (fun u => (calRegs k u).any (fun a =>
      decide (word pl 0 ≤ a) && decide (a < word pl 0 + 4 * (pl.length - 1))))
  | 2 => k.units.any (fun u => (calRegs k u).contains (word pl 0))
  | 0x60 => !k.beats && on (packsOf (word pl 0))
  | 0x63 => k.task == word pl 0 || on (packsOf (word pl 1))
  | _ => false

/-- Is a command held because a calibration task or pass runs on a pack it names, or a task on a unit it needs (R432)? DESIGN
CHOICE: what a command of another opcode needs is what `calRegs` and `taskHolds` list (assumption 177). -/
def State.calHeld (s : State) (op : Nat) (pl : List Word) : Bool :=
  (packsOfCmd op pl).any (fun p => s.flag (F.PK_STATUS_CAL_ACTIVE p)) || s.calTasks.any (fun k => taskHolds k op pl)

/-- The port of a command becomes its session's home port (R300). -/
def State.homed (s : State) (h : CmdHdr) : State :=
  s.set ⟨R.LNK_SESSION, 4 + h.session.toNat, 1⟩ (if h.port then 1 else 0)

/-- A command enters the in-flight table. -/
def State.enlist (s : State) (op : Nat) (h : CmdHdr) (pl : List Word) (phase : Phase) : State :=
  { s with inflight := s.inflight ++ [⟨h, op, pl, domainsOf op pl, phase, false, false⟩] }

/-- Run a command whose holds are gone: the gates, its own length and field checks, its body. -/
def State.runBody (s : State) (op : Nat) (h : CmdHdr) (pl : List Word)
    (body : State → State) : State :=
  match s.gate op pl with
  | some st => s.done h st
  | none =>
    match formOf op pl with
    | some st => s.done h st
    | none => body s

/-- Has the routine that carries a command out committed: does neither it nor an abandoned one of the command stand before
its COMMIT (R322, R327)? -/
def State.cmdCommitted (s : State) (h : CmdHdr) : Bool :=
  !(s.routine.toList ++ s.parked).any (fun x => sameCmd x.hdr h && !x.committed)

/-- A running command goes back to its start and waits: its row comes again. -/
def State.cmdAgain (s : State) (h : CmdHdr) : State :=
  { s with inflight := s.inflight.map (fun e => if sameCmd e.hdr h then { e with phase := .released } else e) }

/-- A command row: while the core is down nothing happens; a command in flight runs once its holds
have been released (COMMAND_START) and its routine has committed (R322), and only once; a command with no in-flight entry is taken as
just admitted and started (assumption 7), and its port is its session's home (R300). A command whose pack a calibration task holds stays in flight
and runs when its row comes again after the task (R432). -/
def State.cmd (s : State) (op : Nat) (h : CmdHdr) (pl : List Word)
    (body : State → State) : State :=
  if s.coreUp then
    match s.entryOf h with
    | some e =>
      if e.phase = .released ∧ e.opcode = op ∧ e.payload = pl ∧ s.calHeld op pl = false ∧ s.cmdCommitted h = true then
        (s.markRunning h).runBody op h pl body
      else s
    | none =>
      if s.calHeld op pl then (s.homed h).enlist op h pl .released
      else ((s.homed h).enlist op h pl .running).runBody op h pl body
  else s

/-- Run r. -/
def State.run (s : State) (r : Nat) : Option Run := Tab.get none s.runs r

/-- Replace run r. -/
def State.setRun (s : State) (r : Nat) (x : Option Run) : State :=
  { s with runs := Tab.put none s.runs r x }

/-- The run of an identity. -/
def State.runById (s : State) (id : Nat) : Option Nat :=
  (List.range 16).find? (fun r => match s.run r with
    | some x => x.id == id
    | none => false)

/-- Answer whoever waits for started work: a command completes, after the END of a routine that runs (R326); a run keeps
the answer of the unit. -/
def State.answer (s : State) (o : Owner) (st : Status) (detail : Nat) (pl : List Word) : State :=
  match o with
  | .cmd h =>
    if s.routine.isNone then s.complete h st detail pl else { s with ends := s.ends ++ [⟨h, st, detail, pl⟩] }
  | .run id key =>
    match s.runById id with
    | none => s
    | some r =>
      match s.run r with
      | none => s
      | some x => s.setRun r (some { x with results := x.results ++ [(key, st, pl)] })

/-- Work that a command started ends with a status and no payload (R326). -/
def State.finish (s : State) (h : CmdHdr) (st : Status) : State := s.answer (.cmd h) st 0 []

/-- The completions that waited for the routine. -/
def State.endsDrain (s : State) : State :=
  ({ s with ends := [] } : State).forEach s.ends (fun e u => u.complete e.hdr e.status e.detail e.payload)

end Sys2Proof.Machine
end

