-- ==== Sys2Proof/Machine/Channel.lean ====
section
/-! DEFINITION. The channel front end (03_channel_front_end.md): levels, lanes, the per-pin PMU, the
detections and the level monitor. -/

namespace Sys2Proof.Machine

/-- The hidden state of a channel. -/
def State.chan (s : State) (n : Nat) : ChanState := Tab.get {} s.chans n

/-- Replace it. -/
def State.setChan (s : State) (n : Nat) (c : ChanState) : State :=
  { s with chans := Tab.put {} s.chans n c }

/-- Is a pattern running in pack p? -/
def State.seqRun (s : State) (p : Nat) : Bool := s.flag (F.PK_STATUS_SEQ_RUN p)

/-- The role of a device channel: 0 UNUSED, 1 SITE, 2 BCAST (R39). -/
def State.role (s : State) (n : Nat) : Nat := s.get (F.PK_CHMAP_ROLE (n / 32) (n % 32))

/-- Is the device in the safe state, in which every channel is held as a muzzled one is (R81)? -/
def State.safeState (s : State) : Bool := decide (2 ≤ s.devState)

/-- The PMU mode in force: OFF while the channel is muzzled or the device safe (R81). DEDUCED: a MODE written
before the first apply acts, since R82 says what a start leaves and no rule refuses the write (assumption 134). -/
def State.pmuMode (s : State) (n : Nat) : Nat :=
  if s.chanMuzzled n || s.safeState then 0 else s.get (F.CH_PMU_CTL_MODE n)

/-- The channel whose DRV_PROTECT, levels and format govern a channel: the even one of an enabled
lane (R71). -/
def State.governor (s : State) (n : Nat) : Nat := if s.laneEnabled (n / 2) then n / 2 * 2 else n


/-- Do the channels of pack p follow pattern edges: SEQ_RUN 1, or the tip has not yet reached the start of the
final beat plus twice its PERIOD (R98)? -/
def State.inPattern (s : State) (p : Nat) : Bool :=
  s.seqRun p || decide (4 * s.time < (Tab.get {} s.seqs p).idleAt)

/-- Is a ROLE SITE channel's site in state MUZZLED (R33)? -/
def State.siteMuzzled (s : State) (n : Nat) : Bool :=
  s.role n == 1 && s.get (F.SHP_SITE_CTL_STATE (s.get (F.PK_CHMAP_SITE (n / 32) (n % 32)))) == 4

/-- What pack p has received of a site's changes (R37, R51). -/
def State.stopAt (s : State) (site p : Nat) : Option SiteStop := s.siteStops.find? (fun x => x.site == site && x.pack == p)

/-- The beat in which a channel's running pack received its site's muzzle, if it did (R51). -/
def State.fenceBeat (s : State) (n : Nat) : Option Nat :=
  (s.stopAt (s.get (F.PK_CHMAP_SITE (n / 32) (n % 32))) (n / 32)).bind (·.fence)

/-- Has a drive edge of a beat on pack channel c still to act? -/
def BeatRec.drivesYet (b : BeatRec) (c : Nat) : Bool :=
  let cb := b.chans.getD c {}
  (List.range 4).any (fun e => bit cb.acting e && !bit cb.acted e)

/-- Is the channel fenced with its MUZZLED site (R51): in a running pattern from the first beat numbered after the
one in which the pack received the change (R37), once the drive edges of the beats up to that one have acted? -/
def State.siteFenced (s : State) (n : Nat) : Bool :=
  s.siteMuzzled n &&
    (match s.fenceBeat n with
     | none => true
     | some x =>
       let q : SeqState := Tab.get {} s.seqs (n / 32)
       !s.inPattern (n / 32) || (decide (x + 1 < q.nextBeat)
         && !q.beats.any (fun b => decide (b.num ≤ x) && b.drivesYet (n % 32))))

/-- Does a calibration task that isolates pads run on the channel: LEVEL, VERNIER, PMU (R428)? -/
def State.isolated (s : State) (n : Nat) : Bool := s.taskOn 1 n || s.taskOn 2 n || s.taskOn 3 n

/-- Is every CHnnn ball at high impedance: power is short of what the core needs (R446, R492, R493), or the device is in
Rest, which it leaves with the end of the wake (R453, R457)? -/
def State.padsOff (s : State) : Bool := s.dark || decide (2 ≤ s.get F.GLB_REST_STATE)

/-- Is the driver held at high impedance whatever the formats say: muzzle, safe or stopped state,
PMU on (R68), overcurrent protection (R78), no apply yet (R82), UNUSED (R40), fenced site (R51), isolation (R428)? -/
def State.driverHeld (s : State) (n : Nat) : Bool :=
  s.chanMuzzled n || s.stopped || s.padsOff || s.pmuMode n != 0
    || s.flag (F.CH_STATUS_DRV_PROTECT (s.governor n)) || !(s.chan (s.governor n)).applied
    || s.role n == 0 || s.siteFenced n || s.isolated n

/-- The TDR pass of a channel's pack, when it includes the channel and its levels are not yet back (R100). -/
def State.tdrOf (s : State) (n : Nat) : Option AlignPass :=
  match Tab.get none s.passes (n / 32) with
  | some a => if a.chans.contains (n % 32) then some a else none
  | none => none

/-- Has the shot of the TMU that measures a channel in a pass been launched and not returned (R100 step 3)? -/
def AlignPass.launched (a : AlignPass) (c : Nat) : Bool :=
  (List.range 4).any (fun j => (a.todo.getD j []).head? == some c && (Tab.get none a.starts j).isSome)

/-- What the driver does now: during a TDR pass it drives 0, and 1 from the launch of a shot to its end (R100);
outside patterns high impedance or termination by IDLE_TERM (R83, R98). -/
def State.driver (s : State) (n : Nat) : Drive :=
  match s.tdrOf n with
  | some a => if s.chanMuzzled n || s.stopped || s.padsOff then .z else if a.launched (n % 32) then .one else .zero
  | none =>
    if s.driverHeld n then .z
    else if s.inPattern (n / 32) then (s.chan n).drive
    else if s.flag (F.CH_CTL_IDLE_TERM n) then .term else .z

/-- Is the active load on (R64)? Outside patterns and in a TDR pass it is off. -/
def State.loadOn (s : State) (n : Nat) : Bool :=
  s.inPattern (n / 32) && !s.driverHeld n && (s.tdrOf n).isNone && (s.chan n).drive == .z && (s.chan n).loadOn

/-! ## Levels (R52 to R58, R74) -/

/-- Is a 16-bit code a legal level code (R53)? -/
def legalLevel (c : Nat) : Bool := decide (2500 ≤ c) && decide (c ≤ 60000)

/-- The six level register addresses of a channel, in the order of CH_LVL_READ WHICH. -/
def levelRegs (n : Nat) : List Nat :=
  [R.CH_VIH n, R.CH_VIL n, R.CH_VTT n, R.CH_VOH n, R.CH_VOL n, R.CH_VCOM n]

/-- PERIOD (33 bits) of an active timing set, SEQp cycles (R109). -/
def State.period (s : State) (p t : Nat) : Nat :=
  s.rd (R.TIM_PER_ACT_LO p t) + 2 ^ 32 * s.get (F.TIM_PER_ACT_HI p t)

/-- UI_COUNT of a channel in an active timing set (R91). -/
def State.uiCount (s : State) (p t c : Nat) : Nat :=
  bits (s.rd ((Region.tsetActive p).base + 0x800 * t + 0x40 * c + 4)) 16 3

/-- The largest swing, in level codes, for a unit interval of PERIOD / N SEQp cycles of 625 ps
(R56). -/
def swingFor (period n : Nat) : Nat :=
  if n ≤ period then 57500 else if n ≤ 2 * period then 30000 else 15000

/-- The same for each side of a lane, whose unit interval is half of that (R74). -/
def laneSwingFor (period n : Nat) : Nat := if n ≤ 2 * period then 15000 else 7500

/-- The swing limit of a channel over the 32 active timing sets (R56). -/
def State.swingLimit (s : State) (n : Nat) : Nat :=
  (List.range 32).foldl (fun m t => min m (swingFor (s.period (n / 32) t) (s.uiCount (n / 32) t (n % 32)))) 57500

/-- The lane limit over the 32 active timing sets (R74). -/
def State.laneSwingLimit (s : State) (n : Nat) : Nat :=
  (List.range 32).foldl (fun m t => min m (laneSwingFor (s.period (n / 32) t) (s.uiCount (n / 32) t (n % 32)))) 15000

/-- Do six levels meet the checks of R55, for a channel that is (`even`) or is not the even channel
of an enabled lane? -/
def levelsOk (limit laneLimit : Nat) (even : Bool) (l : List Nat) : Bool :=
  let vih := l.getD 0 0
  let vil := l.getD 1 0
  let voh := l.getD 3 0
  let vol := l.getD 4 0
  decide (vil ≤ vih) && decide (vol ≤ voh) && decide (vih - vil ≤ limit)
    && (!even || (decide (vih - vil ≤ laneLimit) && decide (voh ≤ 27500) && decide (vol ≤ 27500)
        && decide (2500 ≤ voh) && decide (2500 ≤ vol)))

/-- The shadow levels of a channel. -/
def State.shadowLevels (s : State) (n : Nat) : List Nat := (levelRegs n).map (fun a => s.rd a % 2 ^ 16)

/-- Is the channel the even one of an enabled lane? -/
def State.evenOfLane (s : State) (n : Nat) : Bool := n % 2 == 0 && s.laneEnabled (n / 2)

/-- The TDR levels of a pass in the order of CH_LVL_READ WHICH: VIH is STEP, VIL 0 V, the thresholds one and three
quarters of the step (R100). -/
def tdrLevels (step : Nat) (own : List Nat) : List Nat :=
  [step, 15000, own.getD 2 15000, 15000 + 3 * (step - 15000) / 4, 15000 + (step - 15000) / 4, own.getD 5 15000]

/-- The six levels the channel's DACs are set to: the TDR levels during a pass, else the active levels of the
channel that governs it (R52, R71, R100). -/
def State.levelsInUse (s : State) (n : Nat) : List Nat :=
  let own := (s.chan (s.governor n)).levels
  match s.tdrOf n with
  | some _ => tdrLevels (s.get (F.TIM_TDR_CFG_STEP (n / 32))) own
  | none => own

/-- The voltage of a level code in µV (R53). -/
def levelUv (c : Nat) : Int := 80 * (c : Int) - 1200000

/-- The amplitude that d × 0.5 dB of de-emphasis leaves, in millionths: 10 to the power −d/40 (R73). -/
def deemphasis (d : Nat) : Nat :=
  [1000000, 944061, 891251, 841395, 794328, 749894, 707946, 668344, 630957, 595662, 562341, 530884, 501187, 473151,
    446684, 421697].getD d 1000000

/-- What a channel's driver shows for a bit, in µV: its level, and on an enabled lane that repeats the bit before, the
level drawn toward the middle of the swing by DEEMPH (R73). -/
def State.bitUv (s : State) (n level : Nat) : Int :=
  let l := s.levelsInUse n
  let high := levelUv (l.getD 0 15000)
  let low := levelUv (l.getD 1 15000)
  let v := levelUv (l.getD level 15000)
  let k := n / 2
  if s.laneEnabled k && (s.chan n).repeats then
    (high + low) / 2 + (2 * v - high - low) * deemphasis (s.get (F.CH_LANE_DEEMPH (k / 16) (k % 16))) / 2000000
  else v

/-- The voltage in µV to which the driver takes the pad through its 50 Ω output: VIH for a 1, VIL for a 0, VTT in
termination; none at high impedance (R52, R61, R73). -/
def State.drivenUv (s : State) (n : Nat) : Option Int :=
  match s.driver n with
  | .z => none
  | .one => some (s.bitUv n 0)
  | .zero => some (s.bitUv n 1)
  | .term => some (levelUv ((s.levelsInUse n).getD 2 15000))

/-- The current in nA that the load sinks from a pad at `uv` µV (negative: sources): IOL above VCOM, IOH below,
linear between the two within 100 mV of VCOM (R65). -/
def State.loadCurrent (s : State) (n : Nat) (uv : Int) : Int :=
  if s.loadOn n then
    let c := s.chan (s.governor n)
    let x := uv - levelUv (c.levels.getD 5 15000)
    let sink : Int := 6000 * c.iol
    let source : Int := -(6000 * (c.ioh : Int))
    if 100000 ≤ x then sink
    else if x ≤ -100000 then source
    else (source * (100000 - x) + sink * (x + 100000)) / 200000
  else 0

/-- Does a lane swap P and N (R73)? -/
def State.laneSwapped (s : State) (k : Nat) : Bool := s.flag (F.CH_LANE_POLARITY (k / 16) (k % 16))

/-! ## The comparators (R52, R62, R73, R506) -/

/-- What the comparators judge, in µV: the pad, or for an enabled lane V(P) − V(N) with POLARITY's swap. -/
def State.cmpInput (s : State) (n : Nat) (v : PadVolt) : Int :=
  if s.laneEnabled (n / 2) then (if s.laneSwapped (n / 2) then v.n - v.p else v.p - v.n) else v.p

/-- A course of inputs after equalisation: each is moved by the peaking that the course up to it brings; an input that
has not moved stays, as one of zero frequency does. -/
def equalised (k : Nat) : List Int → List Int → List Int
  | _, [] => []
  | seen, v :: vs =>
    let course := seen ++ [v]
    (if course.all (· == v) then v else v + Config.peaking k course) :: equalised k course vs

/-- The course of what the comparators judge, after the equalisation of an enabled lane (R73). DESIGN CHOICE: how the
peaking shapes a course is a free value (assumption 171). -/
def State.cmpCourse (s : State) (n : Nat) (l : List PadVolt) : List Int :=
  let k := n / 2
  let eq := s.get (F.CH_LANE_RX_EQ (k / 16) (k % 16))
  let course := l.map (s.cmpInput n)
  if s.laneEnabled k && eq != 0 then equalised eq [] course else course

/-- H and L of an input without hysteresis. -/
def plainResult (voh vol v : Int) : Bool × Bool := (decide (voh < v), decide (v < vol))

/-- The next H and L (R506): with hysteresis each result switches 5 mV beyond its threshold and keeps its value
between its two switch points; without a present result it starts from the value without hysteresis. -/
def nextResult (hyst : Bool) (voh vol : Int) (r : Option (Bool × Bool)) (v : Int) : Bool × Bool :=
  match hyst, r with
  | true, some (h, l) =>
    (if h then decide (voh - 5000 ≤ v) else decide (voh + 5000 < v),
     if l then decide (v ≤ vol + 5000) else decide (v < vol - 5000))
  | _, _ => plainResult voh vol v

/-- Is level i of a channel still moving after an apply at tick T: for 20 µs, 8,000 ticks (R58, R76)? -/
def ChanState.moving (c : ChanState) (i now : Nat) : Bool :=
  match c.changedAt.getD i none with
  | some t => decide (now < t + 8000)
  | none => false

/-- The thresholds VOH and VOL in µV at a strobe. While one moves it is anywhere between where the apply found it and
its new value (R58, R76): a free value, with VOL at most VOH. -/
def State.cmpThresholds (s : State) (n : Nat) : (Int × Int) × State :=
  let l := s.levelsInUse n
  let c := s.chan (s.governor n)
  let moving (i : Nat) : Bool := (s.tdrOf n).isNone && c.moving i s.time
  let within (i : Nat) (w : Word) : Int :=
    let (a, b) := c.spans.getD i (15000, 15000)
    levelUv a + (w.toNat : Int) % ((levelUv b - levelUv a).natAbs + 1 : Nat)
  if moving 3 || moving 4 then
    let (a, s) := s.drawWord
    let (b, s) := s.drawWord
    let voh := if moving 3 then within 3 a else levelUv (l.getD 3 15000)
    let vol := if moving 4 then within 4 b else levelUv (l.getD 4 15000)
    ((voh, min vol voh), s)
  else ((levelUv (l.getD 3 15000), levelUv (l.getD 4 15000)), s)

/-- The comparators follow a course of pad voltages to its end: the results at each moment of it, oldest first. -/
def followPad (hyst : Bool) (voh vol : Int) : Option (Bool × Bool) → List Int → List (Bool × Bool)
  | _, [] => []
  | r, v :: vs =>
    let x := nextResult hyst voh vol r v
    x :: followPad hyst voh vol (some x) vs

/-- The channel's comparators see what a pad shows: the results along its course, the last at the present moment,
which the governing channel keeps. -/
def State.comparePad (s : State) (n : Nat) (pad : PadObs) : List (Bool × Bool) × State :=
  let ((voh, vol), s) := s.cmpThresholds n
  let g := s.governor n
  let c := s.chan g
  let l := followPad (s.flag (F.CH_CTL_CMP_HYST g)) voh vol c.cmp (s.cmpCourse n (pad.before ++ [pad.now]))
  (l, s.setChan g { c with cmp := l.getLast? })

/-- The comparators of a channel start anew (R506). -/
def State.cmpStart (s : State) (n : Nat) : State := s.setChan n { s.chan n with cmp := none }

/-- Does the apply check of R55 pass on a channel? -/
def State.applyOk (s : State) (n : Nat) : Bool :=
  levelsOk (s.swingLimit n) (s.laneSwingLimit n) (s.evenOfLane n) (s.shadowLevels n)

/-- The instants at which six levels last changed, after a move from `old` to `new` at tick T. -/
def movedAt (old new : List Nat) (at_ : List (Option Nat)) (tick : Nat) : List (Option Nat) :=
  (List.range 6).map (fun i => if old.getD i 15000 = new.getD i 15000 then at_.getD i none else some tick)

/-- The codes between which each level lies after an apply of `new` at tick T: one that stays keeps its course, and one
that changes moves from wherever it is (R58). -/
def ChanState.spansTo (c : ChanState) (new : List Nat) (tick : Nat) : List (Nat × Nat) :=
  (List.range 6).map (fun i =>
    let was := c.levels.getD i 15000
    let goal := new.getD i 15000
    let (a, b) := if was = goal ∨ c.moving i tick = true then c.spans.getD i (15000, 15000) else (was, was)
    (min a goal, max b goal))

/-- The level whose DAC or comparator a LEVEL parameter trims, in the order of R440 type 1: offset and gain of the six
levels, then the offsets of the H and L comparators, which move VOH and VOL. -/
def trimLevel (k : Nat) : Option Nat :=
  if k < 12 then some (k / 2) else if k = 12 then some 3 else if k = 13 then some 4 else none

/-- The trims that an apply of channel n takes with it: where a trim of a level is under way and its next step falls due now,
10 µs after the one before, the level moves with all of the trim included, and no further step follows (R438, R439). -/
def State.trimTake (s : State) (n : Nat) : State :=
  let x := s.calUnit 1 n
  let due (e : Nat × CalParam) : Bool := match trimLevel e.1 with
    | none => false
    | some i => e.2.applied != e.2.target && (match (s.chan n).trimmedAt.getD i none with
      | none => true
      | some a => a == s.time || decide (a + 4000 ≤ s.time))
  if x.params.any due then
    let t := s.setCalUnit 1 n { x with params := x.params.map (fun e => if due e then (e.1, { e.2 with applied := e.2.target }) else e) }
    let ls := (x.params.filter due).filterMap (fun e => trimLevel e.1)
    t.setChan n { t.chan n with trimmedAt := ls.foldl (fun l i => l.set i (some s.time)) (t.chan n).trimmedAt }
  else s

/-- Move a channel's levels and load currents to their shadows; its comparators start anew. -/
def State.applyChan (s : State) (n : Nat) : State :=
  let s := s.trimTake n
  let c := s.chan n
  (s.setChan n { c with
      levels := s.shadowLevels n
      spans := c.spansTo (s.shadowLevels n) s.time
      iol := s.get (F.CH_LOAD_IOL n)
      ioh := s.get (F.CH_LOAD_IOH n)
      cmp := none
      applied := true
      changedAt := movedAt c.levels (s.shadowLevels n) c.changedAt s.time }).set (F.CH_CTL_PENDING n) 0

/-- The unmuzzled device channels of pack p that a mask names. -/
def State.namedChannels (s : State) (p mask : Nat) : List Nat :=
  ((List.range 32).filter (fun c => bit mask c)).map (fun c => 32 * p + c)
    |>.filter (fun n => !s.chanMuzzled n)

/-- A write of CH_APPLY (R55). -/
def writeChApply (p v : Nat) (s : State) : Res :=
  let ns := s.namedChannels p v
  if ns.all (fun n => s.applyOk n) then .ok (s.forEach ns (fun n t => t.applyChan n))
  else .error .badState

/-- A write of a level register: an illegal code is rejected, else PENDING is set (R53, R54). -/
def writeLevel (n a v : Nat) (s : State) : Res :=
  if legalLevel (v % 2 ^ 16) then .ok ((s.store a v).set (F.CH_CTL_PENDING n) 1)
  else .error .badOpcode

/-- A write of CH_LOAD (R65). -/
def writeLoad (n v : Nat) (s : State) : Res :=
  if bits v 0 12 ≤ 4000 ∧ bits v 16 12 ≤ 4000 then
    .ok ((s.store (R.CH_LOAD n) v).set (F.CH_CTL_PENDING n) 1)
  else .error .badOpcode

/-- Does a busy TMU of pack p use a source of pack channel c (R200)? FREQ uses only STOP_SRC. -/
def State.tmuUses (s : State) (p c : Nat) : Bool :=
  (List.range 4).any (fun j =>
    let t := 4 * p + j
    let names (x : Nat) := decide (x < 0x40) && x % 32 == c
    s.flag (F.TMU_STATUS_BUSY t)
      && (names (s.get (F.TMU_SRC_STOP_SRC t))
        || (s.get (F.TMU_CTL_MODE t) != 1 && names (s.get (F.TMU_SRC_START_SRC t)))))

/-! ## Lanes (R71 to R75) -/

/-- LANE_MEMBER of both channels of a device lane. -/
def State.laneMembers (s : State) (k : Nat) (b : Bool) : State :=
  (s.setB (F.CH_CTL_LANE_MEMBER (2 * k)) b).setB (F.CH_CTL_LANE_MEMBER (2 * k + 1)) b

/-- A write of CH_LANE of pack lane l. ENABLE 0 for a muzzled lane is stored and ends the lane at the unmuzzle (R86).
DEDUCED: BUSY comes before MUZZLED, in the order of R75's sentences (assumption 12). -/
def writeLane (p l v : Nat) (s : State) : Res :=
  let k := 16 * p + l
  let n := 2 * k
  let stored := (s.store (R.CH_LANE p l) v).laneMembers k (bit v 0)
  if bit v 0 then
    if s.seqRun p || s.tmuUses p (2 * l + 1) then .error .busy
    else if s.chanMuzzled n || s.chanMuzzled (n + 1) then .error .muzzled
    else if levelsOk (s.swingLimit n) (s.laneSwingLimit n) true (s.chan n).levels
        || !(s.chan n).applied then .ok stored
    else .error .badState
  else if s.laneEnabled k && s.laneMuzzled k then
    .ok { s.store (R.CH_LANE p l) v with laneKept := Tab.put false s.laneKept k true }
  else .ok stored

/-- A lane whose end waited for its unmuzzle ends (R86). -/
def State.laneSettle (s : State) (k : Nat) : State :=
  if Tab.get false s.laneKept k then
    ({ s with laneKept := Tab.put false s.laneKept k false } : State).laneMembers k (s.flag (F.CH_LANE_ENABLE (k / 16) (k % 16)))
  else s

/-! ## The PMU (R66 to R70) -/

/-- Is a PMU measurement running on the channel? -/
def State.pmuBusy (s : State) (n : Nat) : Bool := s.flag (F.CH_PMU_CTL_BUSY n)

/-- Start a measurement: VALID, CLAMPED and OVERRANGE clear and the settle wait begins; SAMPLES 0
ends it at once (R70). DESIGN CHOICE: it runs with MODE OFF too, where the conversions read an open switch
(R66; assumption 135). -/
def State.pmuStart (s : State) (n : Nat) : State :=
  let t := (((s.set (F.CH_PMU_RESULT_VALID n) 0).set (F.CH_PMU_RESULT_CLAMPED n) 0).set
    (F.CH_PMU_RESULT_OVERRANGE n) 0)
  if s.get (F.CH_PMU_MEAS_SAMPLES n) = 0 then t
  else (t.set (F.CH_PMU_CTL_BUSY n) 1).setChan n { t.chan n with pmuConverting := false }

/-- A write of CH_PMU_CTL: reserved codes, then the refusals of R86, R68 and R407, then GO; the mode's return to OFF
starts the comparators anew (R506). DESIGN CHOICE: a MODE other than OFF is accepted on the odd channel of an
enabled lane, which R71 leaves to the host (assumption 136). -/
def writePmuCtl (n v : Nat) (s : State) : Res :=
  let stored := s.store (R.CH_PMU_CTL n) v
  let stored := if bits v 0 3 = 0 ∧ s.get (F.CH_PMU_CTL_MODE n) ≠ 0 then stored.cmpStart (s.governor n) else stored
  if 4 ≤ bits v 0 3 ∨ 5 ≤ bits v 4 3 then .error .badOpcode
  else if bit v 8 && s.chanMuzzled n then .error .muzzled
  else if s.seqRun (n / 32) || s.pmuBusy n then .error .busy
  else if bits v 0 3 ≠ 0 ∧ s.get (F.CH_PMU_CTL_MODE n) = 0 ∧ s.tmuUses (n / 32) (n % 32) = true then .error .busy
  else if bit v 8 then
    if s.stopped then .error .badState
    else .ok (stored.pmuStart n)
  else .ok stored

/-- A write of CH_PMU_FORCE: a level code in FVMI, a current code in FIMV (R53, R67). -/
def writePmuForce (n v : Nat) (s : State) : Res :=
  let m := s.get (F.CH_PMU_CTL_MODE n)
  if (m = 1 ∧ ¬ legalLevel (v % 2 ^ 16)) ∨ (m = 2 ∧ v % 2 ^ 16 = 0x8000) then .error .badOpcode
  else .ok (s.store (R.CH_PMU_FORCE n) v)

/-- A write of CH_PMU_CLAMP: two level codes (R53). -/
def writePmuClamp (n v : Nat) (s : State) : Res :=
  if legalLevel (bits v 0 16) && legalLevel (bits v 16 16) && decide (bits v 0 16 ≤ bits v 16 16) then .ok (s.store (R.CH_PMU_CLAMP n) v)
  else .error .badOpcode

/-- A channel's driver goes to high impedance and its load off. -/
def State.letGo (s : State) (n : Nat) : State := s.setChan n { s.chan n with drive := .z, repeats := false, loadOn := false }

/-- The channels a channel drives with: both of an enabled lane. -/
def State.driveSides (s : State) (n : Nat) : List Nat := if s.laneEnabled (n / 2) then [n / 2 * 2, n / 2 * 2 + 1] else [n]

/-- A write of CH_STATUS: clearing DRV_OVERCURRENT ends the protection, and the driver acts again
from the next beat; until then it stays at high impedance (R78). -/
def writeChStatus (n v : Nat) (s : State) : Res :=
  let t := s.store (R.CH_STATUS n) v
  if bit v 0 && s.flag (F.CH_STATUS_DRV_PROTECT n) then
    let t := (t.set (F.CH_STATUS_DRV_PROTECT n) 0).forEach (s.driveSides n) (fun m u => u.letGo m)
    .ok (t.setChan n { t.chan n with actsFrom := s.rd64 (R.SEQ_BEAT_LO (n / 32)) + 1 })
  else .ok t

/-- End a PMU measurement without a result, completing its command with a status (R81, R407). -/
def State.pmuAbort (s : State) (n : Nat) (st : Status) : State :=
  if s.pmuBusy n then
    let c := s.chan n
    let t := (s.set (F.CH_PMU_CTL_BUSY n) 0).setChan n { c with pmuConverting := false, pmuOwner := none }
    match c.pmuOwner with
    | none => t
    | some o => t.answer o st 0 []
  else s

/-- The mean of integers rounded half away from zero (R70, R242). -/
def meanHalfAway (l : List Int) : Int :=
  let n : Int := l.length
  let sum := l.foldl (· + ·) 0
  if 0 ≤ sum then (2 * sum + n) / (2 * n) else -((2 * (-sum) + n) / (2 * n))

/-! ## Detections (R77 to R80) -/

/-- The fault address of a detection at a channel: its number, or the lane's for an enabled lane. -/
def State.detectAddr (s : State) (n : Nat) : Nat :=
  if s.laneEnabled (n / 2) then 0x80000000 + n / 2 else n

/-- A detection of class ANALOG at a channel: the bit of CH_STATUS at position `i` of the governing
channel and one message (R77). -/
def State.detect (s : State) (n i kind : Nat) : State :=
  s.raiseOnce ⟨R.CH_STATUS (s.governor n), i, 1⟩ (packSrc (n / 32) 15) cANALOG kind (s.detectAddr n)

/-! ## The commands -/

/-- CH_APPLY (R55). -/
def execChApply (_ : Origin) (p : Pack) (value : Word) (s : State) : Out :=
  .next (s.respond (s.guarded (R.CH_APPLY p) (writeChApply p value.toNat)))

/-- LANE_ENABLE (R75): a write of CH_LANE. -/
def execLaneEnable (_ : Origin) (p : Pack) (l : Fin 16) (value : Word) (s : State) : Out :=
  .next (s.respond (s.guarded (R.CH_LANE p l) (writeLane p l value.toNat)))

/-- CH_PMU_GO (R70): a write of CH_PMU_CTL. -/
def execChPmuGo (_ : Origin) (ch : Chan) (value : Word) (s : State) : Out :=
  .next (s.respond (s.guarded (R.CH_PMU_CTL ch) (writePmuCtl ch value.toNat)))

/-- PMU_MEAS_SETTLED (R70): the settle wait of a running measurement ends. -/
def execPmuMeasSettled (ch : Chan) (s : State) : Out :=
  .next (if s.pmuBusy ch then s.setChan ch { s.chan ch with pmuConverting := true } else s)

/-- PMU_MEAS_DONE (R70): after SAMPLES conversions the mean goes to RESULT, VALID is set, and a
PMU_MEASURE that waits completes with CH_PMU_RESULT. -/
def execPmuMeasDone (ch : Chan) (convs : List Conv) (s : State) : Out :=
  .next (
    let c := s.chan ch
    if s.pmuBusy ch && c.pmuConverting && convs.length == s.get (F.CH_PMU_MEAS_SAMPLES ch) then
      let t := (((s.setI (F.CH_PMU_RESULT_RESULT ch) (meanHalfAway (convs.map (·.code)))).set
        (F.CH_PMU_RESULT_VALID ch) 1).setB (F.CH_PMU_RESULT_OVERRANGE ch) (convs.any (·.full))).set
        (F.CH_PMU_CTL_BUSY ch) 0
      let t := t.setChan ch { c with pmuConverting := false, pmuOwner := none }
      match c.pmuOwner with
      | none => t
      | some o => t.answer o .ok 0 [BitVec.ofNat 32 (t.rd (R.CH_PMU_RESULT ch))]
    else s)

/-- DRV_OVERCURRENT (R77): the driver goes to high impedance and the load off under DRV_PROTECT. -/
def execDrvOvercurrent (ch : Chan) (s : State) : Out :=
  .next (((s.detect ch 0 0x01).set (F.CH_STATUS_DRV_PROTECT (s.governor ch)) 1).forEach (s.driveSides ch) (fun n t => t.letGo n))

/-- PIN_CLAMP (R77). -/
def execPinClamp (ch : Chan) (s : State) : Out := .next (s.detect ch 1 0x02)

/-- PMU_CLAMP (R69): only a forcing PMU has a clamp; a measurement under way notes it. -/
def execPmuClamp (ch : Chan) (s : State) : Out :=
  .next (
    if s.pmuMode ch = 1 ∨ s.pmuMode ch = 2 then
      let t := s.detect ch 3 0x04
      if s.pmuBusy ch then t.set (F.CH_PMU_RESULT_CLAMPED ch) 1 else t
    else s)

/-- LOAD_COMPLIANCE (R77): detected on a load that is on. -/
def execLoadCompliance (ch : Chan) (s : State) : Out :=
  .next (if s.loadOn ch then s.detect ch 4 0x05 else s)

/-- LEVEL_MONITOR_READ (R79): the reading of a level of a channel that is not muzzled, unless an apply or a trim step
changed that level within 100 µs (40,000 ticks), and the check of R77. -/
def execLevelMonitorRead (ch : Chan) (which : Fin 6) (code : BitVec 16) (s : State) : Out :=
  .next (
    let within (l : List (Option Nat)) : Bool := match l.getD which none with
      | none => false
      | some t => decide (s.time < t + 40000)
    if s.chanMuzzled ch || within (s.chan (s.governor ch)).changedAt || within (s.chan ch).trimmedAt then s
    else
      let t := (s.set (F.CH_LVL_READ_READ_CODE ch) code.toNat).set (F.CH_LVL_READ_WHICH ch) which
      let active := (s.levelsInUse ch).getD which 15000
      let off := max code.toNat active - min code.toNat active
      if s.flag (F.CH_LVLCHK_LVLCHK_EN (ch / 32)) && decide (s.get (F.CH_LVLCHK_LVLCHK_TOL (ch / 32)) * 1000 < off * 80) then
        t.detect ch 2 0x03
      else t)

/-- DRV_OVERCURRENT_CLEAR (R78): a write of CH_STATUS. -/
def execDrvOvercurrentClear (_ : Origin) (ch : Chan) (value : Word) (s : State) : Out :=
  .next (s.respond (s.guarded (R.CH_STATUS ch) (writeChStatus ch value.toNat)))

/-- Run register writes in order until one is rejected. -/
def runWrites : List (State → Res) → State → State × Option Status
  | [], s => (s, none)
  | f :: fs, s =>
    match f s with
    | .ok t => runWrites fs t
    | .error st => (s, some st)

/-- PMU_MEASURE (R310): writes the channel's PMU registers and GO; completes when VALID is set, or at
once for SAMPLES 0. The GO bit of the CTL image is written as 0 (assumption 9). -/
def execPmuMeasure (h : CmdHdr) (pl : List Word) (s : State) : Out :=
  .next (s.cmd 0x50 h pl (fun s =>
    let n := word pl 0
    let ctl := setBits (word pl 1) 8 1 0
    if s.stopped then s.done h .badState
    else
      let ws : List (State → Res) :=
        [fun t => t.guarded (R.CH_PMU_CTL n) (writePmuCtl n ctl),
         fun t => t.guarded (R.CH_PMU_FORCE n) (writePmuForce n (word pl 2)),
         fun t => t.guarded (R.CH_PMU_CLAMP n) (writePmuClamp n (word pl 3)),
         fun t => t.guarded (R.CH_PMU_MEAS n) (fun u => .ok (u.store (R.CH_PMU_MEAS n) (word pl 4))),
         fun t => t.guarded (R.CH_PMU_CTL n) (writePmuCtl n (setBits ctl 8 1 1))]
      match runWrites ws s with
      | (t, some st) => t.done h st
      | (t, none) =>
        if t.pmuBusy n then t.setChan n { t.chan n with pmuOwner := some (.cmd h) }
        else t.complete h .ok 0 [BitVec.ofNat 32 (t.rd (R.CH_PMU_RESULT n))]))

end Sys2Proof.Machine
end

