-- ==== Sys2Proof/Machine/Apg.lean ====
section
/-! DEFINITION. The algorithmic pattern generator, the fail bitmaps and the repair allocator
(06_memory_pattern_generator.md). -/

namespace Sys2Proof.Machine

/-- The hidden state of a pack's APG and allocator. -/
def State.apg (s : State) (p : Nat) : ApgState := Tab.get {} s.apgs p

/-- Replace it. -/
def State.setApg (s : State) (p : Nat) (a : ApgState) : State :=
  { s with apgs := Tab.put {} s.apgs p a }

/-! ## Generators (R141, R142) -/

/-- A generator's values. -/
structure Gen where
  cur : Nat
  base : Nat
  max : Nat
  step : Nat
  mask : Nat
  save : Nat
deriving DecidableEq, Repr

/-- One generator operation under the other generator's carry: the generator after it, and its
carry (R141). -/
def genOp (code : Nat) (other : Bool) (g : Gen) : Gen × Bool :=
  let inc : Gen × Bool := if g.max ≤ g.cur then ({ g with cur := g.base }, true) else ({ g with cur := g.cur + 1 }, false)
  let dec : Gen × Bool := if g.cur ≤ g.base then ({ g with cur := g.max }, true) else ({ g with cur := g.cur - 1 }, false)
  match code with
  | 1 => inc
  | 2 => dec
  | 3 => if g.max < g.cur + g.step then ({ g with cur := g.base }, true) else ({ g with cur := g.cur + g.step }, false)
  | 4 => if g.cur < g.base + g.step then ({ g with cur := g.max }, true) else ({ g with cur := g.cur - g.step }, false)
  | 5 => ({ g with cur := g.base }, false)
  | 6 => ({ g with cur := g.max }, false)
  | 7 => ({ g with cur := g.cur ^^^ g.mask }, false)
  | 8 => if other then inc else (g, false)
  | 9 => if other then dec else (g, false)
  | 10 => ({ g with save := g.cur }, false)
  | 11 => ({ g with cur := g.save }, false)
  | _ => (g, false)

/-- Is the operation one that sees the other generator's carry? -/
def usesCarry (code : Nat) : Bool := code == 8 || code == 9

/-- Both generators step: the one without INC_C or DEC_C first (R142). -/
def genStep (xop yop : Nat) (x y : Gen) : (Gen × Bool) × (Gen × Bool) :=
  if usesCarry xop then
    let (y', yc) := genOp yop false y
    (genOp xop yc x, (y', yc))
  else
    let (x', xc) := genOp xop false x
    ((x', xc), genOp yop xc y)

/-- The X and Y generators of a pack. -/
def State.genX (s : State) (p : Nat) : Gen :=
  ⟨s.get (F.APG_X_CUR p), s.get (F.APG_X_BASE p), s.get (F.APG_X_MAX p), s.get (F.APG_X_STEP p),
    s.get (F.APG_X_MASK p), s.get (F.APG_X_SAVE p)⟩

def State.genY (s : State) (p : Nat) : Gen :=
  ⟨s.get (F.APG_Y_CUR p), s.get (F.APG_Y_BASE p), s.get (F.APG_Y_MAX p), s.get (F.APG_Y_STEP p),
    s.get (F.APG_Y_MASK p), s.get (F.APG_Y_SAVE p)⟩

/-! ## Scramble and data (R143, R144) -/

/-- The parity of the low 40 bits of a number. -/
def parity40 (x : Nat) : Bool := (List.range 40).foldl (fun b i => xor b (bit x i)) false

/-- A 40-bit table entry at a low-word address. -/
def State.mask40 (s : State) (lo : Nat) : Nat := s.rd lo + 2 ^ 32 * (s.rd (lo + 4) % 2 ^ 8)

/-- A number from its bits, least significant first. -/
def ofBits (l : List Bool) : Nat := l.foldr (fun b acc => (if b then 1 else 0) + 2 * acc) 0

/-- The physical address of logical address LA (R143). -/
def State.physAddr (s : State) (p la : Nat) : Nat :=
  ofBits ((List.range 40).map (fun i => parity40 (s.mask40 (R.APG_ASCR_LO p i) &&& la)))

/-- The logical data word of a beat (R144). -/
def State.logicalData (s : State) (p : Nat) (instr : Nat) (pa : Nat) : Nat :=
  let bg := s.rd (R.APG_BG p (bits instr 8 4))
  let flip := xor (parity40 (s.mask40 (R.APG_TOPO_LO p (bits instr 12 3)) &&& pa)) (bit instr 15)
  let pd := if flip then bg ^^^ (2 ^ 32 - 1) else bg
  ofBits ((List.range 32).map (fun k =>
    xor (bit pd (s.get (F.APG_DSCR_HI_PERM p k))) (parity40 (s.mask40 (R.APG_DSCR_LO p k) &&& pa))))

/-- The bit a byte-map source code selects (R147). -/
def mapSource (code x y ld ctrl : Nat) : Bool :=
  if code < 0x20 then bit x code
  else if code < 0x40 then bit y (code - 0x20)
  else if code < 0x60 then bit ld (code - 0x40)
  else if code < 0x68 then bit ctrl (code - 0x60)
  else code == 0x7F

/-- The 32 stream bytes of a beat from an instruction and control bits (R147): drive bit in [3:0],
expect bit in [7:4]. -/
def State.apgBytes (s : State) (p : Nat) (instr ctrl : Nat) : List Nat :=
  let x := s.get (F.APG_X_CUR p)
  let y := s.get (F.APG_Y_CUR p)
  let ld := s.logicalData p instr (s.physAddr p (x + 2 ^ 20 * y))
  (List.range 32).map (fun b =>
    let e := s.rd (if bit instr 17 then R.APG_MAP1 p b else R.APG_MAP0 p b)
    let d := xor (mapSource (bits e 0 7) x y ld ctrl) (bit e 7)
    let ex := xor (mapSource (bits e 8 7) x y ld ctrl) (bit e 15)
    (if d then 0x0F else 0) + (if ex then 0xF0 else 0))

/-- The APG instruction at an address. -/
def State.apgInstr (s : State) (p a : Nat) : Nat := (Tab.get 0#64 (s.apg p).imem a).toNat

/-- An APX beat changes the generators; the carries show in APG_STATUS (R139, R142). -/
def State.apgStep (s : State) (p : Nat) (instr : Nat) : State :=
  let ((x, xc), (y, yc)) := genStep (bits instr 0 4) (bits instr 4 4) (s.genX p) (s.genY p)
  let t := ((((s.set (F.APG_X_CUR p) x.cur).set (F.APG_X_SAVE p) x.save).set (F.APG_Y_CUR p) y.cur).set
    (F.APG_Y_SAVE p) y.save)
  let t := (t.setB (F.APG_STATUS_X_CARRY p) xc).setB (F.APG_STATUS_Y_CARRY p) yc
  t.setApg p { t.apg p with last := BitVec.ofNat 64 instr }

/-- Is an APG instruction free of reserved fields and encodings (R141, R142, R145)? -/
def apgLegal (i : Nat) : Bool :=
  decide (i < 2 ^ 26) && decide (bits i 0 4 < 12) && decide (bits i 4 4 < 12)
    && !(usesCarry (bits i 0 4) && usesCarry (bits i 4 4))

/-! ## Fail bitmaps (R149 to R152) -/

/-- The bit offset of logical X and Y within a bitmap (R150). -/
def State.bmOffset (s : State) (p x y : Nat) : Nat :=
  let rb := s.get (F.APG_BM_GEOM_ROW_BITS p)
  let cb := s.get (F.APG_BM_GEOM_COL_BITS p)
  let gb := s.get (F.APG_BM_GEOM_REGION_BITS p)
  ((bits x rb gb * 2 ^ rb + bits x 0 rb) * 2 ^ cb) + bits y 0 cb

/-- The byte address of a site's bitmap in a set (R150). -/
def State.bmStart (s : State) (p site k : Nat) : Nat :=
  64 * (s.get (if k = 0 then F.APG_BM_BASE0 p else F.APG_BM_BASE1 p) + site * s.get (F.APG_BM_STRIDE p))

/-- The bytes that hold a bit of a bitmap: 2^(ROW_BITS + COL_BITS + REGION_BITS − 3), and one for the bitmap of 4 bits
(R150). -/
def State.bmSize (s : State) (p : Nat) : Nat :=
  max 1 (2 ^ (s.get (F.APG_BM_GEOM_ROW_BITS p) + s.get (F.APG_BM_GEOM_COL_BITS p) + s.get (F.APG_BM_GEOM_REGION_BITS p)) / 8)

/-- Is an allocation of site and set queued or running in any pack (R152)? -/
def State.underAllocation (s : State) (site k : Nat) : Bool :=
  (List.range 16).any (fun p =>
    ((s.apg p).queue.any (fun r => r.site == site && r.set == k)) ||
    (match (s.apg p).job with
     | some j => j.req.site == site && j.req.set == k
     | none => false))

/-- Mark a site's bit in APG_BM_LOST and count the update (R151, R152). -/
def State.bmMark (s : State) (p site : Nat) : State :=
  (s.set ⟨R.APG_BM_LOST p (site / 32), site % 32, 1⟩ 1).bump ⟨R.APG_BM_LOST_CNT p, 0, 32⟩

/-- A lost update (R151). -/
def State.bmLost (s : State) (p site : Nat) : State :=
  (s.bmMark p site).raiseOnce (F.APG_STATUS_BM_LOST p) (packSrc p 3) cMEMORY 0x01 site

/-- A dropped update (R152). -/
def State.bmBusy (s : State) (p site : Nat) : State :=
  (s.bmMark p site).raiseOnce (F.APG_STATUS_BM_BUSY_DROP p) (packSrc p 3) cPROTOCOL 0x02 site

/-- Add a bit to a coalescing buffer: merged into its line, or a new line while fewer than 64 wait. -/
def coalesce (buf : List BmLine) (site k line b : Nat) : Option (List BmLine) :=
  if buf.any (fun l => l.site == site && l.set == k && l.line == line) then
    some (buf.map (fun l => if l.site = site ∧ l.set = k ∧ l.line = line then
      { l with bits := if l.bits.contains b then l.bits else l.bits ++ [b] } else l))
  else if buf.length < 64 then some (buf ++ [⟨site, k, line, [b]⟩])
  else none

/-- A logging beat of a site at X, Y sets its bitmap bit (R149 to R152), with the registers as they stand when the result is
taken (assumption 183). -/
def State.bitmapLog (s : State) (p site x y : Nat) : State :=
  if !s.flag (F.APG_CTL_LOG_EN p) then s
  else
    let k := s.get (F.APG_CTL_BM_SET p)
    if s.underAllocation site k then s.bmBusy p site
    else
      let o := s.bmOffset p x y
      let byte := s.bmStart p site k + o / 8
      if 2 ^ 35 ≤ byte then s.bmLost p site
      else match coalesce (s.apg p).buf site k (byte / 64) (byte % 64 * 8 + o % 8) with
        | none => s.bmLost p site
        | some b => s.setApg p { s.apg p with buf := b }

/-- Set one bit of DRAM, given as byte address and bit. -/
def State.orDramBit (s : State) (a b : Nat) : State :=
  s.putDramByte a (s.dramByte a ||| BitVec.ofNat 8 (2 ^ b))

/-! ## The allocator's search (R154) -/

/-- Insert into an ascending list without repeats. -/
def insertAsc (x : Nat) : List Nat → List Nat
  | [] => [x]
  | y :: ys => if x < y then x :: y :: ys else if x = y then y :: ys else y :: insertAsc x ys

/-- A list sorted without repeats. -/
def sortAsc (l : List Nat) : List Nat := l.foldl (fun acc x => insertAsc x acc) []

/-- Failing cells not covered by repaired rows and columns. -/
def uncovered (cells : List (Nat × Nat)) (rows cols : List Nat) : List (Nat × Nat) :=
  cells.filter (fun c => !rows.contains c.1 && !cols.contains c.2)

/-- The spare state of a region while it is analysed. -/
structure Spares where
  r : Nat
  c : Nat
  rows : List Nat
  cols : List Nat
  changed : Bool
  failed : Bool
deriving DecidableEq, Repr

/-- One row of the must-repair pass: repaired when it holds more uncovered cells than the spare
columns left. -/
def mustRow (cells : List (Nat × Nat)) (sp : Spares) (row : Nat) : Spares :=
  if sp.failed then sp
  else if sp.c < ((uncovered cells sp.rows sp.cols).filter (fun x => x.1 == row)).length then
    if sp.r = 0 then { sp with failed := true }
    else { sp with rows := sp.rows ++ [row], r := sp.r - 1, changed := true }
  else sp

/-- One column of the must-repair pass. -/
def mustCol (cells : List (Nat × Nat)) (sp : Spares) (col : Nat) : Spares :=
  if sp.failed then sp
  else if sp.r < ((uncovered cells sp.rows sp.cols).filter (fun x => x.2 == col)).length then
    if sp.c = 0 then { sp with failed := true }
    else { sp with cols := sp.cols ++ [col], c := sp.c - 1, changed := true }
  else sp

/-- The must-repair loop; every pass but the last repairs a line, so the fuel of the spare lines plus
one suffices. -/
def mustRepair (cells : List (Nat × Nat)) (rowIds colIds : List Nat) : Nat → Spares → Spares
  | 0, sp => sp
  | n + 1, sp =>
    let a := rowIds.foldl (mustRow cells) { sp with changed := false }
    let b := colIds.foldl (mustCol cells) a
    if b.failed then b
    else if b.changed then mustRepair cells rowIds colIds n b
    else b

/-- The end of a search: solved, not solved, or abandoned at the node limit. -/
inductive Found where
  | yes | no | limit
deriving DecidableEq, Repr

/-- search(r, c) of R154 over the cell list: fuel r + c + 1. Answers how it ended, the nodes counted,
and the rows and columns appended. -/
def repairSearch (cells : List (Nat × Nat)) (limit : Nat) (order : Bool) :
    Nat → Nat → Nat → List Nat → List Nat → Nat → Found × Nat × List Nat × List Nat
  | 0, _, _, rows, cols, nodes => (.no, nodes, rows, cols)
  | fuel + 1, r, c, rows, cols, nodes =>
    let nodes := nodes + 1
    if limit < nodes then (.limit, nodes, rows, cols)
    else
      match uncovered cells rows cols with
      | [] => (.yes, nodes, rows, cols)
      | e :: _ =>
        let tryRow (nodes : Nat) : Found × Nat × List Nat × List Nat :=
          if 0 < r then repairSearch cells limit order fuel (r - 1) c (rows ++ [e.1]) cols nodes
          else (.no, nodes, rows, cols)
        let tryCol (nodes : Nat) : Found × Nat × List Nat × List Nat :=
          if 0 < c then repairSearch cells limit order fuel r (c - 1) rows (cols ++ [e.2]) nodes
          else (.no, nodes, rows, cols)
        let first := if order then tryCol nodes else tryRow nodes
        match first.1 with
        | .yes => first
        | .limit => first
        | .no =>
          let second := if order then tryRow first.2.1 else tryCol first.2.1
          match second.1 with
          | .yes => second
          | .limit => second
          | .no => (.no, second.2.1, rows, cols)

/-- The analysis of one region (R154, R156): cells in ascending (row, column) order. -/
def analyseRegion (cells : List (Nat × Nat)) (spareRows spareCols limit : Nat) (order : Bool) : RaRegion :=
  let sp := mustRepair cells (sortAsc (cells.map (·.1))) (sortAsc (cells.map (·.2)))
    (spareRows + spareCols + 1) ⟨spareRows, spareCols, [], [], false, false⟩
  if sp.failed then ⟨2, sp.rows, sp.cols, 0⟩
  else
    let left := uncovered cells sp.rows sp.cols
    if left.isEmpty then
      ⟨if sp.rows.isEmpty && sp.cols.isEmpty then 0 else 1, sp.rows, sp.cols, 0⟩
    else if 2 * sp.r * sp.c < left.length then ⟨2, sp.rows, sp.cols, 0⟩
    else
      match repairSearch left limit order (sp.r + sp.c + 1) sp.r sp.c [] [] 0 with
      | (.yes, n, rows, cols) => ⟨1, sp.rows ++ rows, sp.cols ++ cols, n⟩
      | (.no, n, _, _) => ⟨2, sp.rows, sp.cols, n⟩
      | (.limit, n, _, _) => ⟨3, sp.rows, sp.cols, n⟩

/-- The DRAM address under the map in use of a memory key (the inverse of R351's placement). -/
def State.dramAddrOfKey (s : State) (k : Nat) : Nat :=
  if s.interleaved then
    let q := k / 2 ^ 30
    let o := k % 2 ^ 30
    let hi := o / 256
    hi * 2 ^ 13 + (q % 16 ^^^ hi % 16) * 2 ^ 9 + q / 16 * 2 ^ 8 + o % 256
  else k

/-- The bytes of DRAM from start on, size of them, back to 0, but for those on pseudo-channels that take no transactions
(R374, R380). -/
def State.clearDram (s : State) (start size : Nat) : State :=
  { s with dram := s.dram.filter (fun (c : Nat × Byte) =>
      !(decide (start ≤ s.dramAddrOfKey c.1) && decide (s.dramAddrOfKey c.1 < start + size)
        && !s.pcClosed (c.1 / 2 ^ 30))) }

/-- The bit offsets set in a bitmap, ascending: read from the DRAM bytes that are not 0, lines that
read uncorrectable or lie on a muzzled pseudo-channel left out (R155). -/
def State.bmBits (s : State) (start size : Nat) (bad : List Nat) : List Nat :=
  sortAsc (s.dram.flatMap (fun (cell : Nat × Byte) =>
    let a := s.dramAddrOfKey cell.1
    if start ≤ a ∧ a < start + size ∧ ¬ bad.contains (a / 64 * 64) ∧ ¬ s.pcMuzzled (s.dramPc a) then
      ((List.range 8).filter (fun b => bit cell.2.toNat b)).map (fun b => (a - start) * 8 + b)
    else []))

/-- The failing cells of a region. -/
def regionCells (offsets : List Nat) (rb cb region : Nat) : List (Nat × Nat) :=
  (offsets.filter (fun o => o / 2 ^ (rb + cb) == region)).map (fun o => (o / 2 ^ cb % 2 ^ rb, o % 2 ^ cb))

/-! ## Repair records (R157) -/

/-- Bytes of a record for the pack's configuration, rounded up to 64. -/
def recordSize (spareRows spareCols regions : Nat) : Nat :=
  (64 + regions * (16 + 4 * (spareRows + spareCols)) + 63) / 64 * 64

/-- Pad a list of lines with 0xFFFF_FFFF. -/
def padLines (l : List Nat) (n : Nat) : List Nat := l ++ List.replicate (n - l.length) 0xFFFFFFFF

/-- The words of a region block (R157). -/
def regionBlock (spareRows spareCols i : Nat) (g : RaRegion) : List Nat :=
  [i + g.result * 2 ^ 8 + g.rows.length * 2 ^ 16 + g.cols.length * 2 ^ 24, 0, 0, 0]
    ++ padLines g.rows spareRows ++ padLines g.cols spareCols

/-- The RESULT of a request (R155). -/
def jobResult (j : RaJob) : Nat :=
  if j.incomplete then 4
  else if j.regions.any (fun g => g.result == 2) then 2
  else if j.regions.any (fun g => g.result == 3) then 3
  else if j.regions.any (fun g => g.result == 1) then 1
  else 0

/-- The record of a finished request, COMMIT aside. -/
def recordWords (spareRows spareCols : Nat) (j : RaJob) : List Nat :=
  [0x46504D31,
   j.req.site + j.req.set * 2 ^ 10 + jobResult j * 2 ^ 16,
   j.regions.length % 128 + spareRows * 2 ^ 16 + spareCols * 2 ^ 23,
   (j.regions.foldl (fun n g => n + g.rows.length) 0) % 2 ^ 16
     + (j.regions.foldl (fun n g => n + g.cols.length) 0) % 2 ^ 16 * 2 ^ 16,
   (j.regions.foldl (fun n g => n + g.nodes) 0) % 2 ^ 32]
  ++ List.replicate 10 0

/-- The byte address of a site's repair record (R157). -/
def State.recordAddr (s : State) (p site : Nat) : Nat :=
  64 * (s.get (F.RA_SOL_BASE p) + site * s.get (F.RA_SOL_STRIDE p))

/-- Store words of 32 bits in DRAM. -/
def State.putDramList (s : State) (a : Nat) : List Nat → State
  | [] => s
  | w :: ws => (s.putDramNat a 4 w).putDramList (a + 4) ws

/-- Store a word in DRAM: a pseudo-channel that takes no transactions keeps what it holds (R361, R374, R380). -/
def State.putOpen (s : State) (a w : Nat) : State :=
  if s.pcClosed (s.dramPc a) then s else s.putDramNat a 4 w

/-- Store words of 32 bits in DRAM, where its pseudo-channels take them. -/
def State.putOpenList (s : State) (a : Nat) : List Nat → State
  | [] => s
  | w :: ws => (s.putOpen a w).putOpenList (a + 4) ws

/-! ## Register writes (R146, R147, R153, R160) -/

/-- Is a byte-map source code assigned (R147)? -/
def mapCodeOk (c : Nat) : Bool :=
  decide (c < 0x14) || (decide (0x20 ≤ c) && decide (c < 0x34)) || (decide (0x40 ≤ c) && decide (c < 0x68))
    || decide (0x7E ≤ c)

/-- A write of APG_IMEM_HI (R146). DESIGN CHOICE: BUSY comes before a reserved encoding, here and in writeApgPlain
(assumption 144). -/
def writeImemHi (p v : Nat) (s : State) : Res :=
  if s.seqRun p then .error .busy
  else
    let g := s.apg p
    let i := g.staged + v * 2 ^ 32
    let a := s.get (F.APG_IMEM_ADDR p)
    if apgLegal i then
      .ok ((s.setApg p { g with imem := Tab.put 0#64 g.imem a (BitVec.ofNat 64 i) }).set
        (F.APG_IMEM_ADDR p) ((a + 1) % 4096))
    else .error .badOpcode

/-- A write of RA_REQ (R153). -/
def writeRaReq (p v : Nat) (s : State) : Res :=
  let g := s.apg p
  let req : RaReq := ⟨bits v 0 10, bits v 10 1, bit v 11, bit v 12, bit v 13, none, false⟩
  let regions := 2 ^ s.get (F.APG_BM_GEOM_REGION_BITS p)
  let size := recordSize (s.get (F.RA_CTL_SPARE_ROWS p)) (s.get (F.RA_CTL_SPARE_COLS p)) regions
  if 64 ≤ g.queue.length then .error .busy
  else if !req.analyse && !req.clear then .error .badOpcode
  else if 2 ^ 35 < s.bmStart p req.site req.set + s.bmSize p then .error .badAddress
  else if req.analyse ∧ (64 * s.get (F.RA_SOL_STRIDE p) < size ∨ 2 ^ 35 < s.recordAddr p req.site + size) then
    .error .badState
  else
    let t := s.setApg p { g with queue := g.queue ++ [req] }
    .ok (t.set (F.RA_STATUS_QUEUED p) (g.queue.length + 1))

/-- A write of another register of the APG and repair unit (R147, R160, R163, R164). DESIGN CHOICE: BUSY comes before a
reserved encoding (assumption 144). -/
def writeApgPlain (p o v : Nat) (s : State) : Res :=
  let a := (Block.packUnit p 3).base + o
  if o = 0x4 ∨ (0x680 ≤ o ∧ o < 0x700) ∨ o = 0x1014 then .ok (s.store a v)
  else if 0x1000 ≤ o then
    if o ≤ 0x100C ∧ (s.flag (F.RA_STATUS_BUSY p) ∨ (s.apg p).queue ≠ []) then .error .busy
    else if o = 0x1000 ∧ (64 < bits v 0 7 ∨ 64 < bits v 8 7) then .error .badOpcode
    else .ok (s.store a v)
  else if s.seqRun p then .error .busy
  else if o = 0x14 then .ok (s.setApg p { s.apg p with staged := v })
  else if 0x500 ≤ o ∧ o < 0x600 then
    if mapCodeOk (bits v 0 7) && mapCodeOk (bits v 8 7) then .ok (s.store a v) else .error .badOpcode
  else if o = 0x600 then
    if 1 ≤ bits v 0 5 ∧ bits v 0 5 ≤ 16 ∧ 1 ≤ bits v 5 5 ∧ bits v 5 5 ≤ 16 ∧ bits v 10 3 ≤ 6
        ∧ bits v 0 5 + bits v 10 3 ≤ 20 then .ok (s.store a v)
    else .error .badOpcode
  else .ok (s.store a v)

/-! ## The commands -/

/-- APG_IMEM_HI_WRITE (R146). -/
def execApgImemHiWrite (_ : Origin) (p : Pack) (value : Word) (s : State) : Out :=
  .next (s.respond (s.guarded (R.APG_IMEM_HI p) (writeImemHi p value.toNat)))

/-- The word a read of APG_IMEM_HI returns, and the state after it (R146). -/
def readImemHi (p : Nat) (s : State) : Nat × State :=
  ((s.apg p).latch, s.set (F.APG_IMEM_ADDR p) ((s.get (F.APG_IMEM_ADDR p) + 1) % 4096))

/-- The word a read of APG_IMEM_LO returns, and the state after it, which holds the high word
latched (R146). -/
def readImemLo (p : Nat) (s : State) : Nat × State :=
  let i := s.apgInstr p (s.get (F.APG_IMEM_ADDR p))
  (i % 2 ^ 32, s.setApg p { s.apg p with latch := i / 2 ^ 32 })

/-- APG_IMEM_HI_READ (R146). -/
def execApgImemHiRead (_ : Origin) (p : Pack) (s : State) : Out :=
  let (v, t) := readImemHi p s
  .next { t with resp := .ok, respData := v }

/-- RA_REQ (R153). -/
def execRaReq (_ : Origin) (p : Pack) (value : Word) (s : State) : Out :=
  .next (s.respond (s.guarded (R.RA_REQ p) (writeRaReq p value.toNat)))

/-- BITMAP_LINE_WRITE (R151, R373): capture writer p writes the oldest line of the coalescing buffer
as a read-OR-write; a line that reads uncorrectable or lies on a muzzled pseudo-channel is not
written and its update is lost. Under FREEZE the line waits (R364). DESIGN CHOICE: such a line counts as one lost update
(assumption 184), and a muzzle of the pack does not keep the line (assumption 185). -/
def execBitmapLineWrite (p : Pack) (uncorrectable : Bool) (s : State) : Out :=
  .next (
    match (s.apg p).buf with
    | [] => s
    | l :: ls =>
      if s.frozen then s else
      let t := s.setApg p { s.apg p with buf := ls }
      if uncorrectable then (t.dramUe (64 * l.line)).bmLost p l.site
      else if t.pcClosed (t.dramPc (64 * l.line)) then t.bmLost p l.site
      else t.forEach l.bits (fun b u => u.orDramBit (64 * l.line + b / 8) (b % 8)))

/-- Does streamer p leave transfers unused for the allocator (R14): it is not fenced, no pattern record is wanted for
which there is room, unless the APG feeds the stream slot and leaves that part unused, and no waveform sample is? -/
def State.streamerSpare (s : State) (p : Nat) : Bool :=
  let q : SeqState := Tab.get {} s.seqs p
  !bit s.fences p && (q.cursor.isNone || decide (32768 ≤ q.prefetch.length) || s.flag (F.PK_STATUS_APG_SOURCE p))
    && (List.range 6).all (fun i => match (Tab.get {} s.psms (6 * p + i) : PsmState).wave with
      | none => true
      | some w => w.cursor.isNone || decide (4096 ≤ w.queue.length))

/-- RA_REQUEST_START (R14, R153 to R155): the request at the head of the queue starts when none runs, no
coalescing buffer holds an update for its site and set, and the streamer has transfers to spare for its reads. DESIGN
CHOICE: the analysis uses the geometry and base registers as they stand at the start (assumption 143), and a muzzle of the
pack keeps no request from its start or end (assumption 185). `badLines` are the lines of 64 bytes that
read uncorrectable. -/
def execRaRequestStart (p : Pack) (badLines : List Nat) (s : State) : Out :=
  .next (
    let g := s.apg p
    match g.job, g.queue with
    | none, r :: rest =>
      if (List.range 16).any (fun q => (s.apg q).buf.any (fun l => l.site == r.site && l.set == r.set)) || !s.streamerSpare p || s.frozen then s
      else
        let start := s.bmStart p r.site r.set
        let size := s.bmSize p
        let rb := s.get (F.APG_BM_GEOM_ROW_BITS p)
        let cb := s.get (F.APG_BM_GEOM_COL_BITS p)
        let gb := s.get (F.APG_BM_GEOM_REGION_BITS p)
        let bad := badLines.filter (fun a => start ≤ a && a < start + size)
        let lost := (List.range 16).any (fun q => bit (s.rd (R.APG_BM_LOST q (r.site / 32))) (r.site % 32))
        let offs := s.bmBits start size bad
        let regions := if r.analyse then (List.range (2 ^ gb)).map (fun i =>
            analyseRegion (regionCells offs rb cb i) (s.get (F.RA_CTL_SPARE_ROWS p)) (s.get (F.RA_CTL_SPARE_COLS p))
              (s.get (F.RA_NODE_LIMIT p)) r.order) else []
        let t := s.setApg p { g with queue := rest, job := some ⟨r, lost || !bad.isEmpty || s.touchesMuzzledPc start size, regions⟩ }
        let t := ((t.set (F.RA_STATUS_QUEUED p) rest.length).set (F.RA_STATUS_BUSY p) 1).set (F.PK_STATUS_RA_BUSY p) 1
        let t := t.forEach (if r.analyse then bad else []) (fun a u =>
          (u.dramUe a).raiseOnce (F.RA_STATUS_READ_ERR p) (packSrc p 4) cMEMORY 0x01
            (r.site + (a - start) * 8 / 2 ^ (rb + cb) * 2 ^ 10))
        if r.analyse then t.putOpen (s.recordAddr p r.site + 60) 0 else t
    | _, _ => s)

end Sys2Proof.Machine
end

