-- ==== Sys2Proof/Machine/SiteOps.lean ====
section
/-! DEFINITION. Site contexts: state changes, untested causes, marks, the datalog, the runs a site
leaves, and the mirror items a change makes (02_sites_and_packs.md, R335 to R343, R455, R462). -/

namespace Sys2Proof.Machine

/-! ## Reading the flow-table store (R331, R332) -/

/-- Byte o of the flow-table store. -/
def State.flowByte (s : State) (o : Nat) : Nat :=
  if o < 0x80000 then bits (s.rd (Region.flow.base + o / 4 * 4)) (8 * (o % 4)) 8 else 0

/-- n bytes at offset o, little-endian. -/
def State.flowNat (s : State) (o : Nat) : Nat → Nat
  | 0 => 0
  | n + 1 => s.flowByte o + 256 * s.flowNat (o + 1) n

/-- The 32-bit word at offset o. -/
def State.flowWord (s : State) (o : Nat) : Nat := s.flowNat o 4

/-- Header word i of the image at byte offset `im`. -/
def State.flowHead (s : State) (im i : Nat) : Nat := s.flowWord (im + 4 * i)

/-- STEP_COUNT, LIMIT_COUNT, RETEST_MAX of an image. -/
def State.stepCount (s : State) (im : Nat) : Nat := bits (s.flowHead im 2) 0 13
def State.limitCount (s : State) (im : Nat) : Nat := bits (s.flowHead im 2) 16 13
def State.retestMax (s : State) (im : Nat) : Nat := bits (s.flowHead im 1) 16 8

/-- Word w of step i (R332). -/
def State.stepWord (s : State) (im i w : Nat) : Nat := s.flowWord (im + s.flowHead im 3 + 32 * i + 4 * w)

/-- KIND of step i. -/
def State.stepKind (s : State) (im i : Nat) : Nat := s.stepWord im i 0 % 256

/-! ## Site contexts -/

/-- STATE of a site (R33). -/
def State.siteState (s : State) (i : Nat) : Nat := s.get (F.SHP_SITE_CTL_STATE i)

/-- Is the site ACTIVE? -/
def State.siteActive (s : State) (i : Nat) : Bool := s.siteState i == 1

/-- The run a site takes part in. -/
def State.runOf (s : State) (site : Nat) : Option Nat :=
  (List.range 16).find? (fun r => match s.run r with
    | none => false
    | some x => x.members.any (fun m => m.1 == site))

/-- The sites with a ROLE SITE channel in pack p. -/
def State.sitesOfPack (s : State) (p : Nat) : List Nat :=
  sortAsc (((List.range 32).filter (fun c => s.get (F.PK_CHMAP_ROLE p c) == 1)).map
    (fun c => s.get (F.PK_CHMAP_SITE p c)))

/-- The sites of a PSM's enabled range (R41). -/
def State.sitesOfPsm (s : State) (n : Nat) : List Nat :=
  let a := R.PK_PSMMAP (n / 6) (n % 6)
  if bit (s.rd a) 31 then
    (List.range (bits (s.rd a) 10 10 + 1 - bits (s.rd a) 0 10)).map (fun i => bits (s.rd a) 0 10 + i)
  else []

/-- The sites that depend on a device channel (R49). -/
def State.sitesOfChannel (s : State) (n : Nat) : List Nat :=
  match s.role n with
  | 1 => [s.get (F.PK_CHMAP_SITE (n / 32) (n % 32))]
  | 2 => s.sitesOfPack (n / 32)
  | _ => []

/-- The sites that depend on pack p: those with a channel or an enabled PSM range in it (R49). -/
def State.sitesOnPack (s : State) (p : Nat) : List Nat :=
  sortAsc (s.sitesOfPack p ++ ((List.range 6).flatMap (fun n => s.sitesOfPsm (6 * p + n))))

/-- The sites that the maps make dependent on a unit, and the cause of R49. -/
def State.sitesOfUnit (s : State) : MUnit → List Nat × Nat
  | .channel n => (s.sitesOfChannel n, 1)
  | .lane k => (sortAsc (s.sitesOfChannel (2 * k) ++ s.sitesOfChannel (2 * k + 1)), 1)
  | .psm n => (s.sitesOfPsm n, 2)
  | .tmu _ => ([], 3)
  | .pack p => (s.sitesOnPack p, 4)
  | .pfe k => (sortAsc ((List.range 4).flatMap (fun j => s.sitesOnPack (4 * k + j))), 4)
  | .pc _ => ([], 5)
  | .ae _ => ([], 11)
  | .linkLane _ => ([], 0)

/-- Is the unit one whose sites the channel map names (R50)? -/
def mapUnit : MUnit → Bool
  | .channel _ => true
  | .lane _ => true
  | .pack _ => true
  | .pfe _ => true
  | _ => false

/-- The marks after the host has changed a channel map: one whose site the map before made dependent on its unit and
the new map does not has moved away from it, and one whose site depends on it again has not (R50). A MUX step's
rewriting of a map, and the restoring at its end, move no mark. -/
def State.remark (s before : State) : State :=
  { s with marks := s.marks.map (fun m =>
      if mapUnit m.unit then
        if (s.sitesOfUnit m.unit).1.contains m.site then { m with moved := false }
        else { m with moved := m.moved || (before.sitesOfUnit m.unit).1.contains m.site }
      else m) }

/-- Does a mark still count at a flow start: not when the host has mapped the site to an unmuzzled spare channel (R50)? -/
def State.markHolds (s : State) (m : SiteMark) : Bool :=
  !(m.moved && (List.range 512).any (fun n => s.role n == 1 && s.get (F.PK_CHMAP_SITE (n / 32) (n % 32)) == m.site
    && !s.chanMuzzled n))

/-- The cause with which a site is marked, 0 for none: the lowest over the marks that hold and over the muzzled
units the site depends on by the present maps (R49, R50). -/
def State.markOf (s : State) (site : Nat) : Nat :=
  let causes := (s.muzzles.filterMap (fun m =>
      let (l, c) := s.sitesOfUnit m.unit
      if l.contains site && c != 0 then some c else none))
    ++ s.marks.filterMap (fun m => if m.site = site ∧ s.markHolds m = true then some m.cause else none)
  match causes with
  | [] => 0
  | c :: cs => cs.foldl min c

/-- Every site that a unit's muzzle reaches is marked with the row's cause, whatever its state (R49). -/
def State.markSites (s : State) (u : MUnit) (sites : List Nat) (cause : Nat) : State :=
  if cause = 0 then s else { s with marks := s.marks ++ sites.map (fun i => { site := i, cause := cause, unit := u }) }

/-- A site-context change: a checkpoint becomes due, and with mirroring on a SITE item is pending
unless one of the site already waits unsent (R454, R462). -/
def State.ctxTouch (s : State) (site : Nat) : State :=
  let t := { s with ctxChanged := true }
  if s.flag F.TWN_CTL_MIRROR_EN ∧ ¬ s.mirrorQ.any (fun m => m.item == 1 && m.site == site && !m.sent) then
    { t with mirrorQ := t.mirrorQ ++ [⟨1, site, 0, false, false⟩] }
  else t

/-- Append a datalog record for a site that has left ACTIVE (R455). DESIGN CHOICE: one that Shepherd's fence keeps from
DRAM (R365) counts as one that finds the ring full (assumption 151). -/
def State.datalog (s : State) (site flow : Nat) : State :=
  let cap := s.get F.DLOG_SIZE * 2048
  let wr := s.rd64 R.DLOG_WR_LO
  let rdx := s.rd64 R.DLOG_RD_LO
  if cap = 0 then s
  else if cap ≤ wr - rdx ∨ bit s.fences 40 = true then s.bump F.DLOG_LOST
  else
    let a := 64 * s.get F.DLOG_BASE + 32 * (wr % cap)
    let t := s.putOpenList a
      [site + s.siteState site * 2 ^ 10 + s.get (F.SHP_SITE_CTL_BIN site) * 2 ^ 16,
       s.get (F.SHP_SITE_CTL_CAUSE site) + flow * 2 ^ 4 + s.get (F.SHP_SITE_FLOW_RETEST_COUNT site) * 2 ^ 8
         + s.get (F.SHP_SITE_FLOW_FLOW_STEP site) * 2 ^ 16,
       s.rd (R.SHP_SITE_FAILS site),
       s.get (F.SHP_SITE_REPAIR site),
       s.time % 2 ^ 32, s.time / 2 ^ 32 % 2 ^ 32,
       wr % 2 ^ 32,
       s.get F.GLB_ID_DEV_ID]
    t.wr64 R.DLOG_WR_LO (wr + 1)

/-- The sites of a run's range in a given state. -/
def State.countState (s : State) (x : Run) (st : Nat) : Nat :=
  ((List.range x.count).filter (fun i => s.siteState (x.first + i) == st)).length

/-- Free a lock without loss. -/
def State.lockFree (s : State) (r : Nat) : State :=
  let t := ((((s.set (F.SHP_LOCK_HELD r) 0).set (F.SHP_LOCK_BY_RUN r) 0).set (F.SHP_LOCK_REMAIN_MS r) 0).set
    (F.SHP_LOCK_DIRTY r) 0).set (F.SHP_LOCK_OWNER r) 0
  { t with lockRun := Tab.put none t.lockRun r none }

/-- A run that has no ACTIVE site left ends: maps it rewrote are restored, the locks Shepherd held for it are freed and FLOW_START
completes with the counts and the status of R343. -/
def State.settleRun (s : State) (r : Nat) : State :=
  match s.run r with
  | none => s
  | some x =>
    if x.members.isEmpty then
      let t := ({ s.setRun r none with ckptDue := true } : State).forEach x.saved (fun w u => u.wr w.1 w.2)
      let t := t.forEach (List.range 64) (fun k u =>
        if Tab.get none u.lockRun k = some r then
          u.lockFree k
        else if Tab.get none u.lockRun k = some (r + 16) then
          { u.set (F.SHP_LOCK_BY_RUN k) 0 with lockRun := Tab.put none u.lockRun k none }
        else u)
      let done := s.countState x 2
      let st := if !x.anyActive then Status.muzzled else if done = x.count then .ok else .partialDone
      t.complete x.hdr st 0 [BitVec.ofNat 32 done, BitVec.ofNat 32 (s.countState x 3), BitVec.ofNat 32 (s.countState x 4)]
    else s

/-- The capture state that packs hold for a site is added to its context: the fails of its slots, and the earliest of
their first-fail beats when the context holds none (R35, R337). -/
def State.foldFails (s : State) (packs : List Nat) (site : Nat) : State :=
  let slots := packs.flatMap (fun p => ((List.range 32).filter (fun c =>
    s.flag (F.CAP_SITE_INFO_SLOT_VALID p c) && s.get (F.CAP_SITE_INFO_SITE p c) == site)).map (fun c => (p, c)))
  let t := s.bumpBy (F.SHP_SITE_FAILS site) (slots.foldl (fun a x => a + s.rd (R.CAP_SITE_FAILS x.1 x.2)) 0)
  let firsts := (slots.filter (fun x => s.rd (R.CAP_SITE_FAILS x.1 x.2) != 0)).map
    (fun x => s.rd64 (R.CAP_SITE_FFB_LO x.1 x.2))
  match firsts with
  | [] => t
  | b :: bs =>
    if t.flag (F.SHP_SITE_CTL_FFB_VALID site) then t
    else (t.wr64 (R.SHP_SITE_FFB_LO site) (bs.foldl min b)).set (F.SHP_SITE_CTL_FFB_VALID site) 1

/-- The packs whose fails of the running pattern belong to a site's context: those of the PATTERN step it stands at,
once they have begun; none for a parked site (R336, R337). -/
def State.keptPacks (s : State) (site : Nat) : List Nat :=
  match (s.runOf site).bind (fun r => s.run r) with
  | none => []
  | some x =>
    let waits := s.groups.any (fun g => !g.running && (match g.owner with | .run id _ => id == x.id | .cmd _ => false))
    match x.step with
    | some i =>
      if s.stepKind x.image i = 1 ∧ x.standing.contains site = true ∧ waits = false then
        packsOf (s.stepWord x.image i 4 % 2 ^ 16)
      else []
    | none => []

/-- May the running routine not be abandoned: it has committed or is protected (R326)? -/
def State.routineHolds (s : State) : Bool :=
  match s.routine with
  | some x => x.committed || x.shielded
  | none => false

/-- An abandoned routine restarts from its first microword; the start after the seventh abandonment in a row is
protected (R327). -/
def State.routineAgain (s : State) (x : Routine) : State :=
  let n := x.abandoned + 1
  let t := s.bump F.SHP_RESTART_CNT
  let t := if n = 7 then t.bump F.SHP_PROTECT_CNT else t
  { t with routine := some { x with pc := x.entry, abandoned := n, shielded := decide (7 ≤ n) } }

/-- A reaction or a leash expiry preempts the running routine where that may be abandoned (R326). -/
def State.preempt (s : State) : State :=
  match s.routine with
  | some x => if x.committed || x.shielded then s else s.routineAgain x
  | none => s

/-- What a pack has received of a site's changes is replaced. -/
def State.putStop (s : State) (x : SiteStop) : State :=
  { s with siteStops := s.siteStops.filter (fun y => y.site != x.site || y.pack != x.pack) ++ [x] }

/-- The packs that run receive a site's change out of ACTIVE and count no fails of later beats (R37). The change that
reached a pack first stays. -/
def State.stopSite (s : State) (kept : List Nat) (site : Nat) : State :=
  s.forEach ((List.range 16).filter (fun p => s.seqRun p)) (fun p t =>
    let x := (t.stopAt site p).getD { site := site, pack := p }
    if x.beat.isSome then t
    else t.putStop { x with
      beat := some (s.rd64 (R.SEQ_BEAT_LO p))
      keeps := kept.contains p })

/-- The packs that run receive a site's muzzle (R37, R51). -/
def State.fenceSite (s : State) (site : Nat) : State :=
  s.forEach ((List.range 16).filter (fun p => s.seqRun p)) (fun p t =>
    t.putStop { (t.stopAt site p).getD { site := site, pack := p } with fence := some (s.rd64 (R.SEQ_BEAT_LO p)) })

/-- An ACTIVE site takes a new state and cause: the fails counted so far go to its context (R35), the packs stop
counting its fails from the next beat (R37), a datalog record is appended, and it leaves its run. -/
def State.leaveActive (s : State) (site st cause : Nat) : State :=
  let r := s.runOf site
  let flow := match r with
    | some k => (match s.run k with | some x => x.flow | none => 0)
    | none => 0
  let kept := if st = 2 then [] else s.keptPacks site
  let t := ((s.set (F.SHP_SITE_CTL_STATE site) st).set (F.SHP_SITE_CTL_CAUSE site) cause).foldFails kept site
  let t := if st = 3 ∧ t.rd (R.SHP_SITE_FAILS site) ≠ 0 then t.set (F.SHP_SITE_CTL_FAILS_KEPT site) 1 else t
  let t := ((t.stopSite kept site).datalog site flow).ctxTouch site
  match r with
  | none => t
  | some k =>
    match t.run k with
    | none => t
    | some x => (t.setRun k (some { x with
        members := x.members.filter (fun m => m.1 != site),
        standing := x.standing.filter (fun i => i != site),
        todo := x.todo.filter (fun i => i != site) })).settleRun k

/-- ACTIVE sites become UNTESTED with a cause; sites in other states are left alone (R34). -/
def State.untest (s : State) (sites : List Nat) (cause : Nat) : State :=
  s.forEach sites (fun i t => if t.siteActive i then t.leaveActive i 3 cause else t)

/-- Several site changes of one cycle: each ACTIVE site takes the lowest cause that reaches it (R35). -/
def State.untestAll (s : State) (l : List (List Nat × Nat)) : State :=
  s.forEach (List.range 14) (fun c t =>
    t.forEach (l.filter (fun (x : List Nat × Nat) => x.2 == c && !x.1.isEmpty)) (fun (x : List Nat × Nat) u => u.untest x.1 c))

/-- The site changes of a fault-collector reaction: the packs stop counting at once (R330), and Shepherd writes the
contexts: after the running routine where that may not be abandoned, else at once, and the routine restarts (R326). -/
def State.reactSites (s : State) (l : List (List Nat × Nat)) : State :=
  if s.routineHolds then
    ({ s with siteWork := s.siteWork ++ [l] } : State).forEach (l.flatMap (fun (x : List Nat × Nat) => x.1))
      (fun i t => if t.siteActive i then t.stopSite (t.keptPacks i) i else t)
  else (s.untestAll l).preempt

/-- The contexts that waited for the routine are written. -/
def State.siteDrain (s : State) : State :=
  ({ s with siteWork := [] } : State).forEach s.siteWork (fun l t => t.untestAll l)

/-- Every ACTIVE site. -/
def State.activeSites (s : State) : List Nat := (List.range 1024).filter (fun i => s.siteActive i)

/-- The sites with a ROLE SITE channel in any pack of a mask, and all sites the BCAST channels of
those packs serve: the sites of a start group (R129, R132). -/
def State.sitesOfGroup (s : State) (mask : Nat) : List Nat :=
  sortAsc ((packsOf mask).flatMap (fun p => s.sitesOfPack p))

/-- A site-context clear (R34): IDLE with every field 0, slots empty, and no flow remembered. -/
def State.clearSite (s : State) (i : Nat) : State :=
  let t := s.forEach (List.range 7) (fun w u => u.wr (0x88000 + 0x20 * i + 4 * w) 0)
  let t := t.forEach (List.range 8) (fun k u => { u with slots := Tab.put none u.slots (8 * i + k) none })
  ({ t with
    lastFlow := Tab.put none t.lastFlow i none
    siteStops := t.siteStops.map (fun x => if x.site = i then { x with fence := none } else x) } : State).ctxTouch i

/-- Store a value in a measurement slot of a site and mark it valid (R334, R342). -/
def State.putSlot (s : State) (site k v : Nat) : State :=
  let t := { s with slots := Tab.put none s.slots (8 * site + k) (some (v % 2 ^ 32)) }
  (t.set (⟨R.SHP_SITE_MEAS site, k, 1⟩ : Ref) 1).ctxTouch site

/-! ## The end of a repair request -/

/-- The record of an analysed request: the region blocks, the record's words, and its COMMIT last (R157). A muzzled
pseudo-channel keeps what it holds (R374), and the bytes behind the last block keep theirs (DESIGN CHOICE, assumption 172). -/
def State.repairWrite (s : State) (p : Nat) (j : RaJob) : State :=
  let a := s.recordAddr p j.req.site
  let sr := s.get (F.RA_CTL_SPARE_ROWS p)
  let sc := s.get (F.RA_CTL_SPARE_COLS p)
  let t := s.forEach (List.range j.regions.length) (fun i u =>
    u.putOpenList (a + 64 + i * (16 + 4 * (sr + sc)))
      (regionBlock sr sc i (j.regions.getD i ⟨0, [], [], 0⟩)))
  (t.putOpenList a (recordWords sr sc j)).putOpen (a + 60) 0x5EA1ED01

/-- The bitmap of a site and set back to 0, and its lost bits with it (R153). DESIGN CHOICE: where the registers were
rewritten since, by their values at the end of the request (assumption 143). -/
def State.repairClear (s : State) (p site set : Nat) : State :=
  (s.clearDram (s.bmStart p site set) (s.bmSize p)).forEach (List.range 16)
    (fun q u => u.set (⟨R.APG_BM_LOST q (site / 32), site % 32, 1⟩ : Ref) 0)

/-- A flow step's repair request ends with the record's verdict (R334). -/
def State.repairVerdict (s : State) (p : Nat) (j : RaJob) : State :=
  match s.runOf j.req.site with
  | none => s
  | some r =>
    match s.run r with
    | none => s
    | some x =>
      if x.busy.contains (j.req.site, p) then
        let v := match jobResult j with
          | 0 => Verdict.pass | 1 => .marginal | 4 => .noData | _ => .fail
        s.setRun r (some { x with
          busy := x.busy.filter (fun b => !(b.1 == j.req.site && b.2 == p))
          verdicts := x.verdicts ++ [(j.req.site, v)] })
      else s

/-- FLOW_ABORT discards the results of the repair requests of the steps it stops for these sites (R342). -/
def State.repairDrop (s : State) (sites : List Nat) : State :=
  let drop (r : RaReq) : RaReq := if r.run.isSome && sites.contains r.site then { r with dropped := true } else r
  s.forEach (List.range 16) (fun p t => t.setApg p { t.apg p with
    queue := (t.apg p).queue.map drop
    job := (t.apg p).job.map (fun j => { j with req := drop j.req }) })

/-- REPAIR_PTR handed to Shepherd, with a REPAIR item for the twin, unless the result is discarded (R156, R342, R462). -/
def State.repairHand (s : State) (p : Nat) (j : RaJob) : State :=
  if !j.req.dropped then
    let t := (s.set (F.SHP_SITE_REPAIR j.req.site) (s.recordAddr p j.req.site / 64)).ctxTouch j.req.site
    (if t.flag F.TWN_CTL_MIRROR_EN = true then
      { t with mirrorQ := t.mirrorQ ++ [⟨2, j.req.site, 0, false, false⟩] } else t).repairVerdict p j
  else s

/-- REPAIR_REQUEST_DONE (R156 to R158): the record is written COMMIT last, the bitmap cleared if asked,
RA_LAST and the count updated, and REPAIR_PTR handed to Shepherd with a REPAIR item for the twin. A fenced streamer moves
nothing for the allocator, nor does any under FREEZE (R14, R364, R365). DESIGN CHOICE: a record that a muzzled
pseudo-channel did not take is handed over all the same (assumption 186). -/
def execRepairRequestDone (p : Pack) (s : State) : Out :=
  .next (
    let g := s.apg p
    match g.job with
    | none => s
    | some j =>
      if bit s.fences p || s.frozen then s else
      let t := if j.req.analyse then s.repairWrite p j else s
      let t := if j.req.clear then t.repairClear p j.req.site j.req.set else t
      let t := ((t.set (F.RA_LAST_SITE p) j.req.site).set (F.RA_LAST_RESULT p)
        (if j.req.analyse then jobResult j else 0)).bump ⟨R.RA_DONE_CNT p, 0, 32⟩
      let t := ((t.set (F.RA_STATUS_BUSY p) 0).set (F.PK_STATUS_RA_BUSY p) 0).setApg p { g with job := none }
      if j.req.analyse then t.repairHand p j else t)

end Sys2Proof.Machine
end

