-- ==== Sys2Proof/Machine/Capture.lean ====
section
/-! DEFINITION. The capture engine of a pack: classification of compare results, change records,
marks, the ring in DRAM and the loss accounting (07_capture_and_whistle.md, R165 to R183). -/

namespace Sys2Proof.Machine

/-- The hidden state of pack p's sequencer and streamer. -/
def State.seq (s : State) (p : Nat) : SeqState := Tab.get {} s.seqs p

/-- Replace it. -/
def State.setSeq (s : State) (p : Nat) (q : SeqState) : State :=
  { s with seqs := Tab.put {} s.seqs p q }

/-- The hidden state of pack p's capture engine. -/
def State.cap (s : State) (p : Nat) : CapState := Tab.get {} s.caps p

/-- Replace it. -/
def State.setCap (s : State) (p : Nat) (c : CapState) : State :=
  { s with caps := Tab.put {} s.caps p c }

/-- The beat field of a mark written while no pattern runs (R168). -/
def noBeat : Nat := 2 ^ 64 - 1

/-- The beat that begins at the first internal boundary at or after the end of tick T, all ones while no pattern
runs (R173); none while that boundary is not known yet. -/
def State.beatAt (s : State) (p tick : Nat) : Option Nat :=
  let q := s.seq p
  if !s.seqRun p then some noBeat
  else match q.beats.find? (fun b => decide (4 * (tick + 1) ≤ b.start)) with
    | some b => some b.num
    | none => if 4 * (tick + 1) ≤ q.boundary then some q.nextBeat else none

/-! ## The ring (R175 to R177) -/

/-- Records the ring holds. -/
def State.ringCap (s : State) (p : Nat) : Nat := s.get (F.CAP_RING_SIZE p) * 2048

/-- Is the ring enabled and not of size 0? -/
def State.ringOn (s : State) (p : Nat) : Bool := s.flag (F.CAP_CTL_RING_EN p) && decide (0 < s.ringCap p)

/-- WR_IDX − RD_IDX. -/
def State.ringFill (s : State) (p : Nat) : Nat := s.rd64 (R.CAP_WR_LO p) - s.rd64 (R.CAP_RD_LO p)

/-- Refresh RING_FULL and HIWAT; a rising edge of HIWAT sends the CAP_HIWAT notice (R177, R313). -/
def State.ringRefresh (s : State) (p : Nat) : State :=
  let hi := decide (0 < s.get (F.CAP_HIWAT p)) && decide (s.get (F.CAP_HIWAT p) * 2048 ≤ s.ringFill p)
  let t := s.setB (F.CAP_STATUS_RING_FULL p) (decide (0 < s.ringCap p) && s.ringFill p == s.ringCap p)
  let t := t.setB (F.CAP_STATUS_HIWAT p) hi
  if hi && !s.flag (F.CAP_STATUS_HIWAT p) then t.notice (packSrc p 2) 1 p else t

/-! ## Staging (R170, R178) -/

/-- Does record a come before record b in the ring (R170)? -/
def recBefore (a b : CapRec) : Bool :=
  decide (a.epoch < b.epoch)
    || (a.epoch == b.epoch && (decide (a.beat < b.beat) || (a.beat == b.beat && decide (a.cls < b.cls))))

/-- Insert a record behind every record that does not come after it. -/
def insertRec (r : CapRec) : List CapRec → List CapRec
  | [] => [r]
  | x :: xs => if recBefore r x then r :: x :: xs else x :: insertRec r xs

/-- Count a lost record (R178): CAP_LOST, the LOST count of the next mark, and RECORDS_LOST once. -/
def State.loseRecord (s : State) (p : Nat) : State :=
  let c := s.cap p
  let t := s.setCap p { c with lostNext := min (c.lostNext + 1) (2 ^ 32 - 1), losing := true }
  let n := (s.rd64 (R.CAP_LOST_LO p) + 1) % 2 ^ 64
  (t.wr64 (R.CAP_LOST_LO p) n).raiseOnce (F.CAP_STATUS_LOST p) (packSrc p 2) cMEMORY 0x01 (n % 2 ^ 32)

/-- Count a lost mark. -/
def State.loseMark (s : State) (p : Nat) : State :=
  let t := (s.loseRecord p).bump (F.CAP_MARK_LOST p)
  t.raiseOnce (F.CAP_STATUS_MARK_LOST p) (packSrc p 2) cMEMORY 0x02 (t.get (F.CAP_MARK_LOST p))

/-- Is a mark entry of staging free? -/
def State.markFree (s : State) (p : Nat) : Bool := decide ((s.cap p).staging.length < 32768)

/-- Put a record into staging. -/
def State.stage (s : State) (p : Nat) (r : CapRec) : State :=
  let c := s.cap p
  let l := insertRec r c.staging
  s.setCap p { c with staging := l, fullSince := if l.length = 32768 then some s.time else c.fullSince }

/-- The words of a mark (R168, R171). -/
def markWords (p kind index beat tick dead merged lost : Nat) : List Nat :=
  [0x8 + p * 2 ^ 8 + kind * 2 ^ 16 + index * 2 ^ 24, beat % 2 ^ 32, beat / 2 ^ 32, tick % 2 ^ 32,
   tick / 2 ^ 32 % 2 ^ 32, dead, merged, lost]

/-- Has the interval ended by tick T without having been reported? -/
def DeadIv.due (d : DeadIv) (tick : Nat) : Bool :=
  !d.reported && (match d.stop with | some e => decide (e ≤ tick) | none => false)

/-- Write a mark: lost with the ring off (R175) or with every entry taken; else it reports the ended
interval and the records lost since the mark before it (R171, R174, R178). -/
def State.putMark (s : State) (p kind index beat tick : Nat) : State :=
  if !s.ringOn p || !s.markFree p then s.loseMark p
  else
    let c := s.cap p
    let (dead, merged, iv) := match c.iv with
      | some d => if d.due tick then
          (min ((d.stop.getD 0) - d.start) (2 ^ 32 - 1), min d.merged (2 ^ 16 - 1), some { d with reported := true })
        else (0, 0, some d)
      | none => (0, 0, none)
    (s.setCap p { c with lostNext := 0, iv := iv }).stage p
      ⟨c.epoch, beat, 0, markWords p kind index beat tick dead merged c.lostNext, none⟩

/-- A mark that is not a trigger is produced whenever the ring is enabled (R172), and lost in a ring of size 0 (R175). -/
def State.lifeMark (s : State) (p kind index beat tick : Nat) : State :=
  if s.flag (F.CAP_CTL_RING_EN p) then s.putMark p kind index beat tick else s

/-- A mark of the present tick is produced with the beat of R173, once that beat is known. -/
def State.tickMark (s : State) (p kind : Nat) : State :=
  match s.beatAt p s.time with
  | some b => s.lifeMark p kind 0 b s.time
  | none => s.setCap p { s.cap p with lateMarks := (s.cap p).lateMarks ++ [(kind, s.time)] }

/-- The marks whose beat has become known are produced. -/
def State.settleMarks (s : State) (p : Nat) : State :=
  match (s.cap p).lateMarks with
  | [] => s
  | l =>
    (s.setCap p { s.cap p with lateMarks := l.filter (fun m => (s.beatAt p m.2).isNone) }).forEach l (fun m t =>
      match s.beatAt p m.2 with
      | some b => t.lifeMark p m.1 0 b m.2
      | none => t)

/-- When staging first accepts records again after a loss, a LOSS_END mark is written (R178). DESIGN CHOICE: after a loss of
either kind that is once an entry is free that any record may take (assumption 173). -/
def State.lossEnd (s : State) (p : Nat) : State :=
  if (s.cap p).losing && s.ringOn p && decide ((s.cap p).staging.length < 32704) then
    (s.setCap p { s.cap p with losing := false }).tickMark p 0x15
  else s

/-- Stage a compare record: lost with the ring off or when only mark entries are free (R175, R178). -/
def State.putRecord (s : State) (p : Nat) (beat cls : Nat) (words : List Nat) (slot : Option Nat) : State :=
  let t := s.lossEnd p
  if t.ringOn p && decide ((t.cap p).staging.length < 32704) then
    t.stage p ⟨(t.cap p).epoch, beat, cls, words, slot⟩
  else t.loseRecord p

/-! ## Triggers (R172 to R174) -/

/-- KIND and INDEX of a trigger. -/
def trigCode : Trigger → Nat × Nat
  | .whistle l => (1, l)
  | .seq => (2, 0)
  | .matchEnd t => (3, if t then 1 else 0)
  | .psm n => (4, n)
  | .host i => (5, i.toNat)

/-- Is the trigger enabled in CAP_TRIG_EN? -/
def State.trigEnabled (s : State) (p : Nat) : Trigger → Bool
  | .whistle l => bit (s.get (F.CAP_TRIG_EN_WHISTLE p)) l
  | .seq => s.flag (F.CAP_TRIG_EN_SEQ p)
  | .matchEnd _ => s.flag (F.CAP_TRIG_EN_MATCH p)
  | .psm n => bit (s.get (F.CAP_TRIG_EN_PSM p)) n
  | .host _ => s.flag (F.CAP_TRIG_EN_HOST p)

/-- Does trigger a come before trigger b: earlier tick, then KIND, then INDEX (R174)? -/
def trigBefore (a b : TrigIn) : Bool :=
  let (ka, ia) := trigCode a.trig
  let (kb, ib) := trigCode b.trig
  decide (a.tick < b.tick) || (a.tick == b.tick && (decide (ka < kb) || (ka == kb && decide (ia < ib))))

/-- Insert a trigger in the order in which triggers are taken. -/
def insertTrig (x : TrigIn) : List TrigIn → List TrigIn
  | [] => [x]
  | y :: ys => if trigBefore x y then x :: y :: ys else y :: insertTrig x ys

/-- A trigger reaches the pack. -/
def State.pushTrigger (s : State) (p : Nat) (t : Trigger) (tick : Nat) (beat : Option Nat) : State :=
  let c := s.cap p
  s.setCap p { c with trigIn := insertTrig ⟨t, tick, beat⟩ c.trigIn }

/-- Is a dead interval open at tick T: its end not set, not yet reached, or reached only while no
mark entry was free (R174)? -/
def State.deadOpen (s : State) (p tick : Nat) : Bool :=
  match (s.cap p).iv with
  | none => false
  | some d =>
    match d.stop with
    | none => true
    | some e => decide (tick < e) || (!s.markFree p &&
        (match (s.cap p).fullSince with | some f => decide (f ≤ e) | none => false))

/-- An enabled trigger is taken (R174). -/
def State.takeTrigger (s : State) (p : Nat) (x : TrigIn) : State :=
  let (kind, index) := trigCode x.trig
  let c := s.cap p
  let merged (t : State) := t.wr64 (R.CAP_MERGED_LO p) ((t.rd64 (R.CAP_MERGED_LO p) + 1) % 2 ^ 64)
  if s.deadOpen p x.tick then
    merged (s.setCap p { c with iv := c.iv.map (fun d => { d with merged := d.merged + 1 }) })
  else if !s.markFree p then
    merged (s.setCap p { c with iv := some ⟨x.tick, none, 1, false⟩ })
  else
    let t := (s.lossEnd p).putMark p kind index (x.beat.getD ((s.beatAt p x.tick).getD noBeat)) x.tick
    t.setCap p { t.cap p with
      iv := some ⟨x.tick, some (x.tick + max (s.get (F.CAP_TRIG_HOLDOFF p)) 1), 0, false⟩ }

/-- The first tick at which a mark entry is free ends an interval that waited for it (R174). -/
def State.freeInterval (s : State) (p : Nat) : State :=
  let c := s.cap p
  match c.fullSince, c.iv with
  | some f, some d =>
    let stop := match d.stop with
      | none => some s.time
      | some e => if f ≤ e ∧ e ≤ s.time then some s.time else some e
    s.setCap p { c with fullSince := none, iv := some { d with stop := stop } }
  | some _, none => s.setCap p { c with fullSince := none }
  | none, _ => s

/-! ## Per-site state (R166, R167, R180) -/

/-- The slots of a pack by the present channel map: the lowest channel of each site, with the site. -/
def State.slotSites (s : State) (p : Nat) : List (Nat × Nat) :=
  (List.range 32).filterMap (fun c =>
    if s.get (F.PK_CHMAP_ROLE p c) = 1 then
      let i := s.get (F.PK_CHMAP_SITE p c)
      if (List.range c).any (fun d => s.get (F.PK_CHMAP_ROLE p d) == 1 && s.get (F.PK_CHMAP_SITE p d) == i) then none
      else some (c, i)
    else none)

/-- A pattern starts: every slot cleared, last results PASS, previous channel states PASS and values
unknown; slots follow the channel map (R167, R169, R180). -/
def State.captureStart (s : State) (p : Nat) : State :=
  let t := s.forEach (List.range 32) (fun c u => u.forEach (List.range 6) (fun w u => u.wr (R.CAP_SITE_INFO p c + 4 * w) 0))
  let t := t.forEach (s.slotSites p) (fun x u => (u.set (F.CAP_SITE_INFO_SITE p x.1) x.2).set (F.CAP_SITE_INFO_SLOT_VALID p x.1) 1)
  let t := t.wr (R.CAP_FAIL_SUM p) 0
  let t := { t with siteStops := t.siteStops.filter (fun x => x.pack != p) }
  t.setCap p { t.cap p with
    epoch := (t.cap p).epoch + 1
    prevFail := 0
    prevVal := []
    sawPass := 0
    firstFail := 0
    extraFail := [] }

/-- Do the fails of a site count in a beat: did its change out of ACTIVE reach the pack in this beat or a later one, or,
where none has, is it ACTIVE (R37)? -/
def State.siteCounts (s : State) (p site beat : Nat) : Bool :=
  match (s.stopAt site p).bind (·.beat) with
  | some x => decide (beat ≤ x)
  | none => s.siteActive site

/-- Does a channel's result of a beat count, beyond its own masks: its site counts, or for a BCAST
channel any site of the pack (R165)? -/
def State.chanCounts (s : State) (p c beat : Nat) : Bool :=
  match s.get (F.PK_CHMAP_ROLE p c) with
  | 1 => s.siteCounts p (s.get (F.PK_CHMAP_SITE p c)) beat
  | 2 => (s.sitesOfPack p).any (fun i => s.siteCounts p i beat)
  | _ => false

/-- The result of slot u of channel c that counts: none when not compared or withheld (R165). -/
def State.counted (s : State) (p : Nat) (b : BeatRec) (c u : Nat) : Option Obs :=
  let cb := b.chans.getD c {}
  let n := 32 * p + c
  if s.chanMuzzled n || s.safeState || s.pmuMode n != 0 || cb.masked || !s.chanCounts p c b.num then none
  else match cb.results.getD u .unset with
    | .unset => none
    | .mtc _ => none
    | r => some r

/-- A mask with a bit for each number of a list. -/
def maskOf (l : List Nat) : Nat := l.foldl (fun m i => m ||| 2 ^ i) 0

/-- Common word 0 of a compare record. -/
def recHead (type ui p f : Nat) : Nat := type + ui * 2 ^ 4 + p * 2 ^ 8 + f * 2 ^ 16

/-- The CHAN record of a unit interval, and the channel states after it (R169). -/
def State.chanRecord (s : State) (p : Nat) (b : BeatRec) (u : Nat) : State :=
  let res := (List.range 32).filterMap (fun c => match s.counted p b c u with
    | some (.cmp f) => some (c, f)
    | _ => none)
  let prev := (s.cap p).prevFail
  let changed := maskOf ((res.filter (fun x => bit prev x.1 != x.2)).map (·.1))
  let fails := maskOf ((res.filter (·.2)).map (·.1))
  let t := s.setCap p { s.cap p with prevFail := prev ^^^ changed }
  if changed ≠ 0 ∧ s.flag (F.CAP_CTL_CHAN_EN p) then
    t.putRecord p b.num (1 + 3 * u) [recHead 1 u p 0, b.num % 2 ^ 32, b.num / 2 ^ 32, changed, fails, 0, 0, 0] none
  else t

/-- The VALUE record of one half of the channels in a unit interval (R169). VALUES holds the captured value of
each channel of the half, the latest where this interval gives none, and 0 where none is known. -/
def State.valueRecord (s : State) (p : Nat) (b : BeatRec) (u half : Nat) : State :=
  let vals := (List.range 16).filterMap (fun k => match s.counted p b (16 * half + k) u with
    | some (.val h l) => some (k, (if h then 2 else 0) + (if l then 1 else 0))
    | _ => none)
  let old := (s.cap p).prevVal
  let changed := vals.filter (fun x => Tab.get none old (16 * half + x.1) != some x.2)
  let t := s.setCap p { s.cap p with
    prevVal := changed.foldl (fun m x => Tab.put none m (16 * half + x.1) (some x.2)) old }
  if changed ≠ [] ∧ s.flag (F.CAP_CTL_VALUE_EN p) then
    t.putRecord p b.num (2 + 3 * u + half)
      [recHead 2 u p half, b.num % 2 ^ 32, b.num / 2 ^ 32, maskOf (changed.map (·.1)),
        (List.range 16).foldl (fun m k => m + (Tab.get none (t.cap p).prevVal (16 * half + k)).getD 0 * 2 ^ (2 * k)) 0,
        0, 0, 0] none
  else t

/-- Fails of a beat up to the one in which the pack received a site's change go to the context the site left (R35,
R37). -/
def State.lateFails (s : State) (p site beat fails first : Nat) : State :=
  if s.siteActive site || !(s.stopAt site p).any (fun x => x.keeps && x.beat.any (fun b => decide (beat ≤ b))) then s
  else
    let t := s.bumpBy (F.SHP_SITE_FAILS site) fails
    let t := if t.flag (F.SHP_SITE_CTL_FFB_VALID site) then t
      else (t.wr64 (R.SHP_SITE_FFB_LO site) first).set (F.SHP_SITE_CTL_FFB_VALID site) 1
    (if t.siteState site = 3 then t.set (F.SHP_SITE_CTL_FAILS_KEPT site) 1 else t).ctxTouch site

/-- One site slot after a beat: fails counted, first-fail beat, beat result, its SITE record, and the
bitmap of a logging beat (R149, R166, R169). DESIGN CHOICE: ACTIVE, LOG_EN, BM_SET and the geometry are those at the moment
the result is taken (assumption 183). -/
def State.siteBeat (s : State) (p : Nat) (b : BeatRec) (slot : Nat) : State :=
  let site := s.get (F.CAP_SITE_INFO_SITE p slot)
  if !s.flag (F.CAP_SITE_INFO_SLOT_VALID p slot) || !s.siteCounts p site b.num then s
  else
    let chans := (List.range 32).filter (fun c => s.get (F.PK_CHMAP_ROLE p c) == 2
      || (s.get (F.PK_CHMAP_ROLE p c) == 1 && s.get (F.PK_CHMAP_SITE p c) == site))
    let res := chans.flatMap (fun c => (List.range 4).filterMap (fun u => match s.counted p b c u with
      | some (.cmp f) => some f
      | _ => none))
    let fails := (res.filter id).length
    let extra := (s.cap p).extraFail.filter (fun x => x.1 == site && x.2.1 == b.num)
    let first := (if fails = 0 then [] else [b.num]) ++ extra.map (·.2.2)
    let t := if res.contains false then s.setCap p { s.cap p with sawPass := (s.cap p).sawPass ||| 2 ^ slot } else s
    match first with
    | [] =>
      if res.contains false && s.flag (F.CAP_SITE_INFO_FAILING p slot) then
        let t := t.set (F.CAP_SITE_INFO_FAILING p slot) 0
        if s.flag (F.CAP_CTL_SITE_EN p) then
          t.putRecord p b.num (20 + site) [recHead 3 0 p site, b.num % 2 ^ 32, b.num / 2 ^ 32,
            t.get (F.CAP_SITE_FAILS p slot), 0, 0, 0, 0] none
        else t
      else t
    | x :: xs =>
      let low := xs.foldl min x
      let t := (t.bumpBy (F.CAP_SITE_FAILS p slot) (fails + extra.length)).lateFails p site b.num (fails + extra.length) low
      let t := t.set ⟨R.CAP_FAIL_SUM p, slot, 1⟩ 1
      let t := if !s.flag (F.CAP_SITE_INFO_FFB_VALID p slot) || decide (low < s.rd64 (R.CAP_SITE_FFB_LO p slot)) then
          (t.wr64 (R.CAP_SITE_FFB_LO p slot) low).set (F.CAP_SITE_INFO_FFB_VALID p slot) 1
        else t
      let isFirst := !bit (s.cap p).firstFail slot
      let t := t.setCap p { t.cap p with firstFail := (t.cap p).firstFail ||| 2 ^ slot }
      let t := if !s.flag (F.CAP_SITE_INFO_FAILING p slot) then
          let t := t.set (F.CAP_SITE_INFO_FAILING p slot) 1
          if s.flag (F.CAP_CTL_SITE_EN p) then
            t.putRecord p b.num (20 + site) [recHead 3 0 p (site + 2 ^ 10), b.num % 2 ^ 32, b.num / 2 ^ 32,
              t.get (F.CAP_SITE_FAILS p slot), 0, 0, 0, 0] (if isFirst then some slot else none)
          else t
        else t
      match b.log with
      | some (cx, cy) => if 0 < fails ∧ s.siteActive site = true then t.bitmapLog p site cx cy else t
      | none => t

/-- The slots of a pack in ascending order of their sites (R170). -/
def State.slotsBySite (s : State) (p : Nat) : List Nat :=
  (sortAsc ((List.range 32).filterMap (fun c =>
    if s.flag (F.CAP_SITE_INFO_SLOT_VALID p c) then some (s.get (F.CAP_SITE_INFO_SITE p c) * 32 + c) else none))).map (· % 32)

/-- Drop the leading beats that capture has and no open match outcome needs. -/
def dropCaptured (keep : List Nat) : List BeatRec → List BeatRec
  | [] => []
  | b :: bs => if b.captured && !keep.contains b.num then dropCaptured keep bs else b :: bs

/-- The beats whose match outcome is still open. -/
def SeqState.openNums (q : SeqState) : List Nat :=
  match q.wait with
  | none => []
  | some w => w.openBeats.map (·.1)

/-- Is the beat result of the newest beat of a MATCH still undecided: may a timeout at the beat's end
still charge its fails to it (R120)? -/
def State.matchOpen (s : State) (p : Nat) (b : BeatRec) : Bool :=
  let q := s.seq p
  q.wait.any (fun w => bits w.word 59 5 == 7) && b.num + 1 == q.nextBeat

/-- Have all acting edges of a beat acted, been skipped or been discarded, those of channels fenced
since aside, and is no MATCH outcome awaited at its end? -/
def State.beatComplete (s : State) (p : Nat) (b : BeatRec) : Bool :=
  !s.matchOpen p b &&
  (List.range 32).all (fun c =>
    let cb := b.chans.getD c {}
    cb.acting &&& cb.acted == cb.acting || s.chanMuzzled (32 * p + c) || s.pmuMode (32 * p + c) != 0 || s.stopped)

/-! ## The commands -/

/-- CAPTURE_RESULT (R165 to R170): the oldest beat not yet captured is classified once its edges have
acted. -/
def execCaptureResult (p : Pack) (beat : Nat) (s : State) : Out :=
  .next (
    match (s.seq p).beats.find? (fun b => !b.captured) with
    | none => s
    | some b =>
      if b.num ≠ beat ∨ ¬ s.beatComplete p b then s
      else
        let t := s.forEach (List.range 4) (fun u t =>
          ((t.chanRecord p b u).valueRecord p b u 0).valueRecord p b u 1)
        let t := t.forEach (s.slotsBySite p) (fun c t => t.siteBeat p b c)
        let t := t.setCap p { t.cap p with extraFail := (t.cap p).extraFail.filter (fun x => x.2.1 != beat) }
        let q := t.seq p
        let l := q.beats.map (fun x => if x.num = beat then { x with captured := true } else x)
        t.setSeq p { q with beats := dropCaptured q.openNums l })

/-- May a staged record enter the ring now: no compare record that must precede it is still to come
(R170)? -/
def State.recReady (s : State) (p : Nat) (r : CapRec) : Bool :=
  decide (r.epoch < (s.cap p).epoch) ||
    (match (s.seq p).beats.find? (fun b => !b.captured) with
     | none => !s.seqRun p || decide (r.beat ≤ (s.seq p).nextBeat)
     | some b => decide (r.beat < b.num) || (r.beat == b.num && r.cls == 0))

/-- The records the next burst takes: those that complete the 64-byte burst, are ready, and fit the
ring (R175, R176). -/
def State.burst (s : State) (p : Nat) : List CapRec :=
  let w := s.rd64 (R.CAP_WR_LO p)
  ((s.cap p).staging.take (min (2 - w % 2) (s.ringCap p - s.ringFill p))).takeWhile (fun r => s.recReady p r)

/-- Write one record at WR_IDX and pass it; a SITE record that reports a first FAIL sets the fail-log
pointer (R166, R176). -/
def State.ringPut (s : State) (p : Nat) (r : CapRec) : State :=
  let w := s.rd64 (R.CAP_WR_LO p)
  let t := s.putDramList (64 * s.get (F.CAP_RING_BASE p) + 32 * (w % s.ringCap p)) r.words
  let t := t.wr64 (R.CAP_WR_LO p) (w + 1)
  match r.slot with
  | some c =>
    if r.epoch = (s.cap p).epoch then
      (t.wr64 (R.CAP_SITE_LOG_LO p c) w).set (F.CAP_SITE_INFO_LOG_VALID p c) 1
    else t
  | none => t

/-- CAPTURE_BURST_WRITE (R175, R176): a burst that is full, or has waited 1 µs, goes to DRAM; staging
that accepts records again writes LOSS_END. A ring on a muzzled pseudo-channel stops (R9). -/
def execCaptureBurstWrite (p : Pack) (s : State) : Out :=
  .next (
    if !s.ringOn p || s.frozen || bit s.fences (16 + p) || s.touchesMuzzledPc (64 * s.get (F.CAP_RING_BASE p)) (32 * s.ringCap p) then s
    else
      match s.burst p with
      | [] => s
      | l =>
        let t := s.forEach l (fun r t => t.ringPut p r)
        let t := t.setCap p { t.cap p with staging := (t.cap p).staging.drop l.length }
        ((t.freeInterval p).lossEnd p).ringRefresh p)

/-- TRIGGER_ARRIVAL (R173, R174): the first waiting trigger is marked or merged, once the beat it carries is known; one
that is not enabled is dropped. -/
def execTriggerArrival (p : Pack) (t : Trigger) (s : State) : Out :=
  .next (
    match (s.cap p).trigIn with
    | [] => s
    | x :: xs =>
      if x.trig = t ∧ (x.beat.isSome || (s.beatAt p x.tick).isSome) = true then
        let u := s.setCap p { s.cap p with trigIn := xs }
        if s.trigEnabled p t then u.takeTrigger p x else u
      else s)

/-- DEAD_INTERVAL_END (R174): an interval whose end is unset, or was reached while staging was full,
ends now that a mark entry is free. -/
def execDeadIntervalEnd (p : Pack) (s : State) : Out :=
  .next (if s.markFree p then
      let c := s.cap p
      match c.iv with
      | some ⟨a, none, m, r⟩ => s.setCap p { c with iv := some ⟨a, some s.time, m, r⟩, fullSince := none }
      | _ => s.freeInterval p
    else s)

/-- A write of CAP_TRIG raises TRIG_HOST. -/
def writeCapTrig (p v : Nat) (s : State) : Res :=
  .ok (s.pushTrigger p (.host (BitVec.ofNat 8 v)) s.time none)

/-- CAP_TRIG (R172). -/
def execCapTrig (_ : Origin) (p : Pack) (value : Word) (s : State) : Out :=
  .next (s.respond (s.guarded (R.CAP_TRIG p) (writeCapTrig p value.toNat)))

/-- KEEPALIVE_MARK (R179): the KEEPALIVE interval runs out. -/
def execKeepaliveMark (p : Pack) (s : State) : Out :=
  .next (if s.get (F.CAP_KEEPALIVE p) = 0 then s else s.tickMark p 0x14)

/-- The packets of a pack's former ring that still wait for their acknowledgement move no index of the new ring (R176,
R177). -/
def State.streamForget (s : State) (p : Nat) : State :=
  { s with ports := s.ports.map (fun (x : Nat × PortState) => (x.1, { x.2 with
      replay := x.2.replay.map (fun (e : Sent) => match e.kind with
        | .stream q _ => if q = p then { e with kind := .plain } else e
        | _ => e) })) }

/-- A write of CAP_CTL: RING_EN needs the ring inside DRAM, and enabling sets both indices to 0
(R175, R176). -/
def writeRingEn (p v : Nat) (s : State) : Res :=
  if bit v 0 ∧ 2 ^ 35 < 64 * s.get (F.CAP_RING_BASE p) + 32 * s.ringCap p then .error .badAddress
  else
    let was := s.flag (F.CAP_CTL_RING_EN p)
    let t := s.store (R.CAP_CTL p) v
    let t := if bit v 0 && !was then ((t.wr64 (R.CAP_WR_LO p) 0).wr64 (R.CAP_RD_LO p) 0).streamForget p else t
    .ok ((t.lossEnd p).ringRefresh p)

/-- RING_EN (R175): a write of CAP_CTL. -/
def execRingEn (_ : Origin) (p : Pack) (value : Word) (s : State) : Out :=
  .next (s.respond (s.guarded (R.CAP_CTL p) (writeRingEn p value.toNat)))

/-- A write of CAP_RD_HI commits RD_IDX (R177). -/
def writeCapRdHi (p v : Nat) (s : State) : Res :=
  if s.flag (F.CAP_CTL_STREAM_EN p) then .error .busy
  else
    let x := (s.cap p).rdStage + v * 2 ^ 32
    if s.rd64 (R.CAP_RD_LO p) ≤ x ∧ x ≤ s.rd64 (R.CAP_WR_LO p) then
      .ok ((s.wr64 (R.CAP_RD_LO p) x).ringRefresh p)
    else .error .badState

/-- CAP_RD_HI (R177). -/
def execCapRdHi (_ : Origin) (p : Pack) (value : Word) (s : State) : Out :=
  .next (s.respond (s.guarded (R.CAP_RD_HI p) (writeCapRdHi p value.toNat)))

/-- A write of a capture register that has no row of its own (R175, R177, R182). -/
def writeCapPlain (p o v : Nat) (s : State) : Res :=
  let a := (Block.packUnit p 2).base + o
  if (o = 0x4 ∨ o = 0x8) ∧ s.flag (F.CAP_CTL_RING_EN p) then .error .busy
  else if o = 0x18 then
    if s.flag (F.CAP_CTL_STREAM_EN p) then .error .busy
    else .ok (s.setCap p { s.cap p with rdStage := v })
  else if o = 0x8 ∨ o = 0x20 then .ok ((s.store a v).ringRefresh p)
  else .ok (s.store a v)

end Sys2Proof.Machine
end

