-- ==== Sys2Proof/Machine/CalBeat.lean ====
section
/-! DEFINITION. Calibration tasks as they run beside patterns: a task's units and when they are due (R430), the bits that
show what runs (R432, R444), and TMU_LIN in calibration-allowed beats (R434). -/

namespace Sys2Proof.Machine

/-- The pass that runs in pack p. -/
def State.pass (s : State) (p : Nat) : Option AlignPass := Tab.get none s.passes p

/-- Replace it. -/
def State.setPass (s : State) (p : Nat) (a : Option AlignPass) : State :=
  { s with passes := Tab.put none s.passes p a }

/-- Show the tasks that run (RUNNING, R444) and the packs a task or a pass runs on (CAL_ACTIVE, R432). -/
def State.calRefresh (s : State) : State :=
  let running := (if (List.range 16).any (fun p => (s.pass p).isSome) then 1 else 0)
    + ((List.range 9).filter (fun k => k != 0 && s.calTasks.any (fun x => x.task == k))).foldl (fun a k => a + 2 ^ k) 0
  (s.set F.CAL_STATUS_RUNNING running).forEach (List.range 16) (fun p t =>
    t.setB (F.PK_STATUS_CAL_ACTIVE p) ((t.pass p).isSome
      || t.calTasks.any (fun x => x.units.any (fun u => calPack x.task u == some p))))

/-- Is a measurement running? -/
def State.tmuBusy (s : State) (t : Nat) : Bool := s.flag (F.TMU_STATUS_BUSY t)

/-- The diode of a unit's die. -/
def calDie (task u : Nat) : Nat :=
  match calPack task u with
  | some p => p / 4
  | none => if task = 0 then u / 128 else u

/-- The effective temperature of a die in 1/16 °C (R420). -/
def State.dieTemp (s : State) (i : Nat) : Int := s.getI (F.HK_TEMP_EFFECTIVE i)

/-- Is a TMU idle: BUSY 0 and TDR_OWNED 0? -/
def State.tmuIdle (s : State) (t : Nat) : Bool :=
  !s.flag (F.TMU_STATUS_BUSY t) && !s.flag (F.TMU_STATUS_TDR_OWNED t)

/-- Is a task due on a unit (R430)? -/
def State.calDue (s : State) (task u : Nat) : Bool :=
  match (s.calUnit task u).stamp with
  | none => true
  | some (tick, temp) =>
    (bit (s.get F.CAL_CTL_AUTO) (task - 1) && decide (s.get (F.CAL_INTERVAL task) * 400000000 ≤ s.time - tick))
      || decide (80 < (s.dieTemp (calDie task u) - signed 16 temp).natAbs)

/-- CAL_END commands complete once no task runs and no gap is open (R443). -/
def State.calEndSettle (s : State) : State :=
  if s.calTasks.isEmpty && s.calGap.isNone then
    ({ s with calEnds := [] } : State).forEach s.calEnds (fun h u => u.finish h .ok)
  else s

/-- Tasks in beats that have lost their last TMU end, and the commands that waited for them complete (R434, R443). -/
def State.linSettle (s : State) : State :=
  (({ s with calTasks := s.calTasks.filter (fun k => !k.beats || !k.units.isEmpty) } : State).calRefresh).calEndSettle

/-- Task 5 runs, or goes on, in calibration-allowed beats on TMUs of pack p; a free value decides whether it does, where
the rule lets it. -/
def State.linBegin (s : State) (p : Nat) : State :=
  let ready := (List.range 4).map (4 * p + ·) |>.filter (fun t => !s.tmuMuzzled t && s.tmuIdle t && s.calDue 5 t
    && !s.calTasks.any (fun k => k.task == 5 && k.units.contains t))
  if ready.isEmpty || s.calTasks.any (fun k => k.task == 5 && !k.beats) then s
  else
    let (b, s) := s.drawBool
    if !b then s
    else if s.calTasks.any (fun k => k.task == 5) then
      ({ s with calTasks := s.calTasks.map (fun k => if k.task = 5 then { k with units := k.units ++ ready } else k) } : State).calRefresh
    else ({ s with calTasks := s.calTasks ++ [⟨5, ready, none, true, s.time, false⟩] } : State).calRefresh

/-- Task 5 ends in the beats of pack p; what it has gathered is discarded. -/
def State.linEnd (s : State) (p : Nat) : State :=
  if s.calTasks.any (fun k => k.beats && k.units.any (fun t => t / 4 == p)) then
    let l := s.calTasks.map (fun k => if k.beats then { k with units := k.units.filter (fun t => t / 4 != p) } else k)
    ({ s with calTasks := l } : State).linSettle
  else s

/-- A pattern beat of pack p with its CAL_OK bit (R112, R434). -/
def State.calBeat (s : State) (p : Nat) (ok : Bool) : State := if ok then s.linBegin p else s.linEnd p

end Sys2Proof.Machine
end

