-- ==== Sys2Proof/Machine/Seq.lean ====
section
/-! DEFINITION. The pack sequencer: sequence words, beats and their edges, waits, holds, segments and
jumps, the streamer's buffer, and the ends of patterns (04_edge_timing.md, 05_pack_sequencer.md). -/

namespace Sys2Proof.Machine

/-! ## Timing sets (R90, R91, R109) -/

/-- The two words of an edge entry in a copy at window address `base` (R90). -/
def State.edgeWords (s : State) (base t c e : Nat) : Nat × Nat :=
  let a := base + 0x800 * t + 0x40 * c + 8 * e
  (s.rd a, s.rd (a + 4))

/-- TIME of an entry, 0.5 ps units. -/
def edgeTime (w : Nat × Nat) : Nat := w.1 + 2 ^ 32 * bits w.2 0 12

/-- EN of an entry. -/
def edgeEn (w : Nat × Nat) : Bool := bit w.2 12

/-- UI_COUNT of a D0 entry. -/
def edgeUi (w : Nat × Nat) : Nat := bits w.2 16 3

/-- The active copy of pack p. -/
def activeCopy (p : Nat) : Nat := (Region.tsetActive p).base

/-- The shadow copy of pack p. -/
def shadowCopy (p : Nat) : Nat := (Region.tsetShadow p).base

/-- The eight entries of a channel in a set of a copy. -/
def State.edges (s : State) (base t c : Nat) : List (Nat × Nat) := (List.range 8).map (fun e => s.edgeWords base t c e)

/-- Copy one window region or register range onto another of the same layout. -/
def State.copyRange (s : State) (src dst size : Nat) : State :=
  let kept := s.regs.filter (fun (x : Nat × Word) => !(decide (dst ≤ x.1) && decide (x.1 < dst + size)))
  let moved := s.regs.filter (fun (x : Nat × Word) => decide (src ≤ x.1) && decide (x.1 < src + size))
  ({ s with regs := kept } : State).forEach moved (fun x u => u.wr (x.1 - src + dst) x.2.toNat)

/-! ## Beats and their channels (R59 to R62, R71, R72, R88, R94 to R96) -/

/-- One byte of the format store: the code of stream byte b in entry f. -/
def State.fmtByte (s : State) (p f b : Nat) : Nat :=
  bits (s.rd ((Region.format p).base + 32 * f + 4 * (b / 4))) (8 * (b % 4)) 8

/-- The drive edges a DRIVE_FMT names, as a mask of D0 to D3 (R61). -/
def driveEdges (fmt n : Nat) : Nat :=
  match fmt % 8 with
  | 1 => 1
  | 2 => 1
  | 3 => 2 ^ n - 1
  | 4 => 3
  | 5 => 3
  | 6 => 7
  | _ => 0

/-- The strobes or limits a CMP_FMT names, as a mask of C0 to C3 in bits 4 to 7 (R62); a window with a
disabled limit is not judged (R92). DESIGN CHOICE: the enabled limit of such a window is no acting edge (assumption 180). -/
def compareEdges (fmt n en : Nat) : Nat :=
  match bits fmt 3 3 with
  | 1 => (2 ^ n - 1) * 16 &&& en
  | 2 => (2 ^ n - 1) * 16 &&& en
  | 4 => (2 ^ n - 1) * 16 &&& en
  | 5 => (2 ^ n - 1) * 16 &&& en
  | 3 => (if en &&& 0x30 = 0x30 then 0x30 else 0) + (if en &&& 0xC0 = 0xC0 then 0xC0 else 0)
  | _ => 0

/-- What a drive edge does to the driver (R61). -/
def driveAction (fmt data e : Nat) : Option Drive :=
  let put (b : Bool) : Option Drive := some (if b then .one else .zero)
  match fmt % 8 with
  | 1 => some .z
  | 2 => some .term
  | 3 => put (bit data e)
  | 4 => put (if e = 0 then bit data 0 else false)
  | 5 => put (if e = 0 then bit data 0 else true)
  | 6 => put (if e = 1 then bit data 0 else !bit data 0)
  | _ => none

/-- The other side of an enabled lane drives the complement (R71). -/
def Drive.compl : Drive → Drive
  | .one => .zero
  | .zero => .one
  | d => d

/-- Does a channel have acting edges: ROLE SITE or BCAST, neither muzzled nor in a PMU mode (R96), and the device
not safe (R81)? -/
def State.edgesAct (s : State) (n : Nat) : Bool :=
  (s.role n == 1 || s.role n == 2) && !s.chanMuzzled n && !s.safeState && s.pmuMode n == 0

/-- TC in use of a channel, the applied value whatever STALE says (R107); a lane is strobed with the even channel's (R88, R94). -/
def State.tcOf (s : State) (p c : Nat) : Nat :=
  s.get (F.TIM_CHA_CMP_TC_APPLIED p (if s.laneEnabled ((32 * p + c) / 2) then c / 2 * 2 else c))

/-- TD in use of a channel; on a lane of its P and its N side (R94). -/
def State.tdOf (s : State) (p c : Nat) : Nat × Nat :=
  let td (d : Nat) : Nat := s.get (F.TIM_CHA_DRV_TD_APPLIED p d)
  if s.laneEnabled ((32 * p + c) / 2) then (td (c / 2 * 2), td (c / 2 * 2 + 1)) else (td c, td c)

/-- One channel's part of a beat: entry f, set t, site-table index tab, the 32 stream bytes, and what a failed
transfer delivers in their place (R7). -/
def State.chanBeat (s : State) (p c f t tab : Nat) (bytes : List Nat) (recv : Option FeRecv) : ChanBeat :=
  let n := 32 * p + c
  let g := if s.laneEnabled (n / 2) then c / 2 * 2 else c
  let fmt := s.fmtByte p f (s.get (F.PK_CHMAP_SRC p g))
  let raw := bytes.getD (s.get (F.PK_CHMAP_SRC p c)) 0
  let data := raw ^^^ (if bit (s.rd (R.PK_XOR_DRV p tab)) c then 0x0F else 0)
    ^^^ (if bit (s.rd (R.PK_XOR_EXP p tab)) c then 0xF0 else 0)
  let got := recv.bind (fun r => r.chans.find? (fun x => x.1 == c))
  let fmt := match got.bind (fun _ => recv.bind (fun r => r.chans.find? (fun x => x.1 == g))) with
    | some x => x.2.2.toNat
    | none => fmt
  let data := match got with | some x => x.2.1.toNat | none => data
  let t := match recv.bind (·.tset) with | some x => x.toNat | none => t
  let ui := s.uiCount p t g
  let es := s.edges (activeCopy p) t c
  let en := maskOf ((List.range 8).filter (fun e => edgeEn (es.getD e (0, 0))))
  { fmt := fmt
    data := data
    n := ui
    times := es.map edgeTime
    acting := if s.edgesAct n then (driveEdges fmt ui &&& en) + compareEdges fmt ui en else 0
    td := s.tdOf p c
    tc := s.tcOf p c
    masked := bit fmt 7 || bit (s.rd (R.PK_MASK p tab)) c }

/-- The internal time in 0.5 ps units from which the match outcome of a beat is known (R118): 10 ns past
its latest MATCH strobe, or the end of the beat when it has none. One SEQp cycle is 1,250 units. -/
def knownAt (start period : Nat) (cs : List ChanBeat) : Nat :=
  let strobes := (List.range 32).flatMap (fun c =>
    let cb := cs.getD c {}
    if bits cb.fmt 3 3 = 5 then
      ((List.range 4).filter (fun u => bit cb.acting (4 + u))).map (fun u =>
        start * 1250 + 25000 + cb.times.getD (4 + u) 0 + cb.tc + 20000)
    else [])
  match strobes with
  | [] => (start + period) * 1250
  | x :: xs => xs.foldl max x

/-! ## Corrections (R105) -/

/-- Refresh TRIM_MOVING. -/
def State.trimRefresh (s : State) (p : Nat) : State :=
  s.setB (F.TIM_STATUS_TRIM_MOVING p) ((List.range 32).any (fun c =>
    s.get (F.TIM_CHA_DRV_TD_APPLIED p c) != s.get (F.TIM_CHA_DRV_TD_TARGET p c)
      || s.get (F.TIM_CHA_CMP_TC_APPLIED p c) != s.get (F.TIM_CHA_CMP_TC_TARGET p c)))

/-- One step of 0.5 ps toward a target. -/
def towards (target x : Nat) : Nat := if x < target then x + 1 else if target < x then x - 1 else x

/-- The vernier points of pack p in use move 0.5 ps toward their targets (R438). -/
def State.vernierStep (s : State) (p : Nat) : State :=
  { s with calUnits := s.calUnits.map (fun e =>
      if e.1 / 1024 = 2 ∧ e.1 % 1024 / 32 = p then
        (e.1, { e.2 with params := e.2.params.map (fun (q : Nat × CalParam) =>
          (q.1, { q.2 with applied := if q.2.applied < q.2.target then q.2.applied + 1
            else if q.2.target < q.2.applied then q.2.applied - 1 else q.2.applied })) })
      else e) }

/-- Every applied value of the pack that differs from its target moves 0.5 ps toward it. -/
def State.trimOnce (s : State) (p : Nat) : State :=
  ((s.vernierStep p).forEach (List.range 32) (fun c t =>
    (t.set (F.TIM_CHA_DRV_TD_APPLIED p c) (towards (t.get (F.TIM_CHA_DRV_TD_TARGET p c)) (t.get (F.TIM_CHA_DRV_TD_APPLIED p c)))).set
      (F.TIM_CHA_CMP_TC_APPLIED p c) (towards (t.get (F.TIM_CHA_CMP_TC_TARGET p c)) (t.get (F.TIM_CHA_CMP_TC_APPLIED p c))))).trimRefresh p

/-- Every applied value equals its target. -/
def State.trimAll (s : State) (p : Nat) : State :=
  (s.forEach (List.range 32) (fun c t =>
    (t.set (F.TIM_CHA_DRV_TD_APPLIED p c) (t.get (F.TIM_CHA_DRV_TD_TARGET p c))).set
      (F.TIM_CHA_CMP_TC_APPLIED p c) (t.get (F.TIM_CHA_CMP_TC_TARGET p c)))).trimRefresh p

/-- The trim step of the block of 4,096 beats that the next beat begins, once. -/
def State.trimDue (s : State) (p : Nat) : State :=
  let q := s.seq p
  if q.nextBeat ≠ 0 ∧ q.nextBeat % 4096 = 0 ∧ q.trimAt ≠ q.nextBeat then
    (s.trimOnce p).setSeq p { q with trimAt := q.nextBeat }
  else s

/-! ## The wrap of a timing-set swap (R368, R369) -/

/-- Remove a pack from every waiting TSET_SWAP, completing those with none left. -/
def State.swapDone (s : State) (p : Nat) : State :=
  let l := s.swapCmds.map (fun w => { w with left := w.left.filter (· != p) })
  let t := { s with swapCmds := l.filter (fun w => !w.left.isEmpty) }
  t.forEach (l.filter (fun w => w.left.isEmpty)) (fun w u => u.finish w.hdr .ok)

/-- The whole shadow copy, edge tables and period table, becomes the active copy. -/
def State.swapNow (s : State) (p : Nat) : State :=
  let t := (s.copyRange (shadowCopy p) (activeCopy p) 0x10000).copyRange (R.TIM_PER_SH_LO p 0) (R.TIM_PER_ACT_LO p 0) 0x100
  ({ t with tsetSwaps := Tab.put none t.tsetSwaps p none } : State).swapDone p

/-- May a pending swap take effect at the pack's next boundary: the pack idle, 256 SEQp cycles past the
checks, and with AT_PASS at the boundary at which a pass begins (R369)? -/
def State.swapReady (s : State) (p : Nat) : Bool :=
  match Tab.get none s.tsetSwaps p with
  | none => false
  | some w => !s.seqRun p || (decide (w.ready ≤ (s.seq p).boundary)
      && (!w.atPass || (s.seq p).passAt == (s.seq p).boundary))

/-- Take a swap whose boundary has come. -/
def State.swapDue (s : State) (p : Nat) : State := if s.swapReady p then s.swapNow p else s

/-! ## Commands that wait for packs -/

/-- Pack p leaves a PAT_PAUSE or PAT_RESUME that waits for it; one with no pack left completes OK. -/
def State.pauseSettle (s : State) (p : Nat) (resume : Bool) : State :=
  let l := s.pauses.map (fun w => if w.resume = resume then { w with left := w.left.filter (· != p) } else w)
  let t := { s with pauses := l.filter (fun w => !w.left.isEmpty) }
  t.forEach (l.filter (fun w => w.left.isEmpty)) (fun w u => u.finish w.hdr .ok)

/-- A PAT_PAUSE that waits for a pack whose pattern has ended completes with BAD_STATE (R130). -/
def State.pauseFail (s : State) (p : Nat) : State :=
  let hit := s.pauses.filter (fun w => !w.resume && w.left.contains p)
  let t := { s with pauses := s.pauses.filter (fun w => w.resume || !w.left.contains p) }
  t.forEach hit (fun w u => u.finish w.hdr .badState)

/-- The status of a finished PAT_JUMP: LATE_JUMP if any pack took it late, else the first failure in
pack order, else OK (R130). -/
def jumpStatus (j : JumpCmd) : Status :=
  if j.late then .lateJump
  else
    match (List.range 16).filterMap (fun p => (j.failed.find? (fun x => x.1 == p)).map (·.2)) with
    | [] => .ok
    | st :: _ => st

/-- Pack p's part of a PAT_JUMP ends. -/
def State.jumpSettle (s : State) (h : CmdHdr) (p : Nat) (late : Bool) (fail : Option Status) : State :=
  let l := s.jumpCmds.map (fun j => if sameCmd j.hdr h then
      { j with
        left := j.left.filter (· != p)
        late := j.late || late
        failed := match fail with | some st => j.failed ++ [(p, st)] | none => j.failed }
    else j)
  let t := { s with jumpCmds := l.filter (fun j => !j.left.isEmpty) }
  t.forEach (l.filter (fun j => j.left.isEmpty)) (fun j u => u.finish j.hdr (jumpStatus j))

/-! ## The streamer (R124, R126, R133) -/

/-- A segment entry. -/
def SeqState.ent (q : SeqState) (g : Nat) : SegEnt := q.segs.getD g ⟨0, 0, 0, 0, none, false⟩

/-- The segment that follows segment `g` of pass `n`, and its first record that no pinned head gives. -/
def SeqState.follow (q : SeqState) (n g : Nat) : Option (Nat × Nat) :=
  match (if n = q.pass then q.chosen else none) with
  | some c => c.map (fun x => (x, if q.jumped then min 512 (q.ent x).records else 0))
  | none => (q.ent g).next.map (fun x => (x, 0))

/-- Move a cursor on to the next record that exists; none after the last record of a segment whose
NEXT is END. Segments without stream records are passed over. DESIGN CHOICE: an endless cycle of them ends the cursor
(assumption 181). -/
def SeqState.settleCursor (q : SeqState) : Nat → Nat × Nat × Nat → Option (Nat × Nat × Nat)
  | 0, _ => none
  | f + 1, (n, g, i) =>
    if i < (q.ent g).records then some (n, g, i)
    else match q.follow n g with
      | none => none
      | some (x, j) => q.settleCursor f (n + 1, x, j)

/-- Enough fuel to pass over every segment once. -/
def SeqState.fuel (q : SeqState) : Nat := q.segs.length + 2

/-- The DRAM address of the record at the cursor. -/
def SeqState.cursorAddr (q : SeqState) : Option Nat :=
  q.cursor.map (fun c => q.dataBase + 32 * ((q.ent c.2.1).data + c.2.2))

/-- Store a sequencer state and show its buffer fill. -/
def State.putSeq (s : State) (p : Nat) (q : SeqState) : State :=
  (s.setSeq p q).set (F.SEQ_PREFETCH p) (min q.prefetch.length 0xFFFF)

/-- The streamer fetches the record at its cursor. -/
def State.fetchRecord (s : State) (p : Nat) : State :=
  let q := s.seq p
  match q.cursor, q.cursorAddr with
  | some (n, g, i), some a =>
    s.putSeq p { q with
      prefetch := q.prefetch ++ [(n, s.dramNat a 32)]
      cursor := q.settleCursor q.fuel (n, g, i + 1) }
  | _, _ => s

/-- The streamer fetches records as long as they lie in [a, a + n) and the buffer has room (R126). -/
def State.fetchRange (s : State) (p a n : Nat) : Nat → State
  | 0 => s
  | f + 1 =>
    match (s.seq p).cursorAddr with
    | none => s
    | some x =>
      if a ≤ x ∧ x < a + n ∧ (s.seq p).prefetch.length < 32768 then (s.fetchRecord p).fetchRange p a n f
      else s

/-! ## The end of a pattern (R98, R129, R132) -/

/-- The group a pack belongs to. -/
def State.groupOf (s : State) (p : Nat) : Option StartGroup := s.groups.find? (fun g => g.packs.contains p)

/-- A pack mask from a list. -/
def packMask (l : List Nat) : Nat := maskOf l

/-- A pack of a group has ended: with none left, whoever waits is answered. -/
def State.groupLeave (s : State) (p : Nat) : State :=
  let l := s.groups.map (fun g => { g with left := g.left.filter (· != p) })
  let t := { s with groups := l.filter (fun g => !g.left.isEmpty) }
  t.forEach (l.filter (fun g => g.left.isEmpty)) (fun g u =>
    u.answer g.owner (match g.ended with | some e => e.1 | none => .ok) 0 [])

/-- An end other than a normal one decides its group's status and applies the site changes of its row,
once (R132). -/
def State.groupEnd (s : State) (p : Nat) (st : Status) (reason : Nat) (cause : Option Nat) : State :=
  match s.groupOf p with
  | none => s
  | some g =>
    match g.ended with
    | some _ => s
    | none =>
      let t := { s with groups := s.groups.map (fun x =>
        if x.packs.contains p then { x with ended := some (st, reason) } else x) }
      match cause with
      | none => t
      | some c => t.untest (t.sitesOfGroup (packMask g.packs)) c

/-- The pattern of pack p ends with an END_REASON. -/
def State.endPack (s : State) (p reason : Nat) : State :=
  if !s.seqRun p then s
  else
    let q := s.seq p
    let t := s.lifeMark p 0x11 reason (q.nextBeat - 1) (q.lastStart / 4)
    let t := ((((((t.set (F.PK_STATUS_SEQ_RUN p) 0).set (F.PK_STATUS_SEQ_HOLD p) 0).set (F.SEQ_STATUS_WAITING p) 0).set
      (F.SEQ_STATUS_JUMP_PENDING p) 0).set (F.SEQ_STATUS_JUMP_LATCHED p) 0).set (F.SEQ_STATUS_END_REASON p) reason)
    let t := t.putSeq p { t.seq p with
      host := none
      taken := none
      wait := none
      idleAt := q.lastStart + 20 + 2 * (q.boundary - q.lastStart)
      holding := false
      prefetch := []
      cursor := none
      heads := []
      head := []
      cache := []
      cacheLevel := none }
    let t := t.forEach (q.taken.toList ++ q.host.toList) (fun h u => u.jumpSettle h.hdr p false (some .badState))
    let t := (((t.pauseFail p).pauseSettle p true).swapDue p).linEnd p
    (t.settleMarks p).groupLeave p

/-- An end other than normal: the group's status and sites first, then the pack. -/
def State.abortPack (s : State) (p : Nat) (st : Status) (reason : Nat) (cause : Option Nat) : State :=
  if s.seqRun p then (s.groupEnd p st reason cause).endPack p reason else s

/-- An underrun (R129). -/
def State.underrun (s : State) (p : Nat) : State :=
  let t := s.raiseOnce (F.PK_STATUS_UNDERRUN_SEEN p) (packSrc p 0) cMEMORY 0x01 (s.seq p).seg
  t.abortPack p .underrun 3 (some 6)

/-- An uncorrectable store error ends the pattern before the affected beat (R136). -/
def State.storeError (s : State) (p store index : Nat) : State :=
  s.raiseOnce (F.SEQ_STATUS_STORE_CHECK p) (packSrc p 0) cDATA 0x02 (store * 2 ^ 30 + index)

/-! ## Decision points and passes (R122 to R124) -/

/-- Show the pending request, or else the latched jump, in SEQ_JUMP and SEQ_STATUS. -/
def State.jumpRegs (s : State) (p : Nat) : State :=
  let q := s.seq p
  let t := s.setB (F.SEQ_STATUS_JUMP_PENDING p) q.host.isSome
  match q.host, q.latch with
  | some h, _ => (t.set (F.SEQ_JUMP_TARGET p) h.seg).set (F.SEQ_JUMP_SOURCE p) 0
  | none, some g => (t.set (F.SEQ_JUMP_TARGET p) g).set (F.SEQ_JUMP_SOURCE p) 1
  | none, none => t

/-- The decision point of the running pass (R123): the following segment is chosen, and the streamer
changes course when it is not NEXT (R126). -/
def State.decidePoint (s : State) (p : Nat) : State :=
  let q := s.seq p
  let dflt := (q.ent q.seg).next
  let (target, t, taken, latch) :=
    match q.host, q.latch with
    | some h, l =>
      let t := if h.late then s.set (F.SEQ_STATUS_LATE_JUMP p) 1 else s
      let t := if l.isSome then t.set (F.SEQ_STATUS_JMP_OVERRIDDEN p) 1 else t
      (some h.seg, t, some h, none)
    | none, some g => (some g, s, none, some g)
    | none, none => (dflt, s, none, none)
  let jumped := target != dflt
  let q := { q with chosen := some target, jumped := jumped, host := none, taken := taken, latch := latch }
  let q := if jumped then
      let kept := q.prefetch.filter (fun x => x.1 ≤ q.pass)
      let cur := match q.cursor with
        | some (n, g, i) => if n = q.pass then some (n, g, i) else none
        | none => none
      { q with
        prefetch := kept
        cursor := match cur with
          | some c => some c
          | none => q.settleCursor q.fuel (q.pass, q.seg, (q.ent q.seg).records) }
    else q
  ((t.putSeq p q).setB (F.SEQ_STATUS_JUMP_LATCHED p) jumped).jumpRegs p

/-- A pass of segment g begins. -/
def State.beginPass (s : State) (p g : Nat) (jumped : Bool) : State :=
  let q := s.seq p
  let h := if jumped then ((q.heads.find? (fun x => x.1 == g)).map (·.2)).getD [] else []
  let t := s.putSeq p { q with
    pass := q.pass + 1
    seg := g
    segBeat := 0
    passAt := q.boundary
    pc := (q.ent g).start
    chosen := none
    jumped := false
    latch := none
    head := h
    rptDone := 0
    back := false
    taken := none }
  let t := (((t.set (F.SEQ_STATUS_SEGMENT p) g).set (F.SEQ_SEG_BEAT p) 0).set (F.SEQ_STATUS_JUMP_LATCHED p) 0).jumpRegs p
  match q.taken with
  | some x => t.jumpSettle x.hdr p x.late none
  | none => t

/-- After the last beat of a word: a pass whose pattern beats are all executed ends (R122). -/
def State.passCheck (s : State) (p : Nat) : State :=
  let q := s.seq p
  if s.seqRun p && decide ((q.ent q.seg).beats ≤ q.segBeat) then
    match q.chosen.getD (q.ent q.seg).next with
    | none => s.endPack p 1
    | some g => s.beginPass p g q.jumped
  else s

/-! ## The block's own edges at the TMUs (R199) -/

/-- The sources whose edges a measurement of TMU t takes: START_SRC and STOP_SRC, in FREQ only STOP_SRC (R208). -/
def State.tmuSources (s : State) (t : Nat) : List Nat :=
  (if s.get (F.TMU_CTL_MODE t) = 1 then [] else [s.get (F.TMU_SRC_START_SRC t)]) ++ [s.get (F.TMU_SRC_STOP_SRC t)]

/-- An edge of one of the block's own sources occurs at TMU t: an armed TMU that names the source is to time it. -/
def State.ownEdge (s : State) (t src : Nat) : State :=
  let u : TmuState := Tab.get {} s.tmus t
  if u.phase = .armed ∧ (s.tmuSources t).contains src = true then
    { s with tmus := Tab.put {} s.tmus t { u with due := u.due ++ [src] } }
  else s

/-! ## Executing a beat -/

/-- Execute one beat at the pack's boundary: a swap or trim step that is due, the channels' parts, its
number and boundary, and the commands that waited for the pack to go on (R87, R105, R121, R369). DESIGN CHOICE: an
event in whose act tick a beat begins acts after the beat's start (assumption 174). -/
def State.emit (s : State) (p : Nat) (kind : BeatKind) (f t tab : Nat) (bytes : List Nat)
    (log : Option (Nat × Nat)) : State :=
  let s := (s.swapDue p).trimDue p
  let q := s.seq p
  let period := s.period p t
  let cs := (List.range 32).map (fun c => s.chanBeat p c f t tab bytes q.recv)
  let b : BeatRec := ⟨q.nextBeat, q.boundary, period, kind, log, knownAt q.boundary period cs, cs, false⟩
  let u := { s with time := max s.time (q.boundary / 4) }
  let u := u.setSeq p { q with
    nextBeat := q.nextBeat + 1
    boundary := q.boundary + period
    lastStart := q.boundary
    events := q.events.filter (fun e => decide (q.boundary < 4 * (e.2 + 1)))
    recv := none
    beats := q.beats ++ [b] }
  let u := (u.wr64 (R.SEQ_BEAT_LO p) q.nextBeat).set (F.PK_STATUS_TSET p) t
  let u := u.forEach (List.range 4) (fun j v =>
    let v := v.ownEdge (4 * p + j) 0x48
    if q.nextBeat = 0 then v.ownEdge (4 * p + j) 0x49 else v)
  let u := u.settleMarks p
  if u.flag (F.SEQ_CTL_PAUSE p) then u else u.pauseSettle p true

/-- The fields of a sequence word (R112). -/
def wOp (w : Nat) : Nat := bits w 59 5
def wApg (w : Nat) : Bool := bit w 56
def wHold (w : Nat) : Bool := bit w 55
def wCal (w : Nat) : Bool := bit w 54
def wMark (w : Nat) : Bool := bit w 53
def wTset (w : Nat) : Nat := bits w 48 5
def wTab (w : Nat) : Nat := bits w 40 8
def wFmt (w : Nat) : Nat := bits w 28 12

/-- The word at the pack's word address. -/
def State.seqWord (s : State) (p : Nat) : Nat := (Tab.get 0#64 (s.seq p).words (s.seq p).pc).toNat

/-- The 32 bytes of a record. -/
def recBytes (x : Nat) : List Nat := (List.range 32).map (fun i => bits x (8 * i) 8)

/-- Does the word's next beat take a record from the stream itself: not from the APG, not a repeat of a
shared record, and no cache supplies it? -/
def SeqState.needsStream (q : SeqState) (w : Nat) : Bool :=
  !wApg w && !(wOp w == 1 && bit w 24 && decide (0 < q.rptDone)) && q.cpos == q.cache.length && q.head.isEmpty

/-- Take the next record: from the loop cache behind its end, from the pinned head, or from the
prefetch buffer; an outermost loop's first pass writes it into the cache (R127). -/
def SeqState.takeRecord (q : SeqState) : Option (Nat × SeqState) :=
  if q.cpos < q.cache.length then some (q.cache.getD q.cpos 0, { q with cpos := q.cpos + 1 })
  else
    let keep (x : Nat) (q : SeqState) : Nat × SeqState :=
      if q.cacheLevel.isSome then (x, { q with cache := q.cache ++ [x], cpos := q.cpos + 1 }) else (x, q)
    match q.head with
    | x :: xs => some (keep x { q with head := xs })
    | [] =>
      match q.prefetch with
      | (n, x) :: xs => if n = q.pass then some (keep x { q with prefetch := xs }) else none
      | [] => none

/-- Is the sequencer replaying a later pass of a loop? -/
def SeqState.replaying (q : SeqState) : Bool := q.later.contains true

/-- Does a hold point hold (R128)? -/
def State.holds (s : State) (p w : Nat) : Bool :=
  let q := s.seq p
  wHold w && q.rptDone == 0 && !((wOp w == 1 && bits w 0 24 == 0) || (wOp w == 2 && bits w 0 20 == 0 && !q.back))
    && (s.flag (F.SEQ_CTL_PAUSE p)
      || (!q.replaying && q.cursor.isSome
        && (decide (q.prefetch.length < s.get (F.SEQ_HOLD_LOW p))
          || (q.needsStream w && (q.takeRecord).isNone))))

/-- The word the pack is to execute now, when a pattern runs, no MATCH or WWAIT is in progress and the
word's opcode is `op`. -/
def State.wordFor (s : State) (p op : Nat) : Option Nat :=
  if s.seqRun p && (s.seq p).wait.isNone && wOp (s.seqWord p) == op then some (s.seqWord p) else none

/-- The bytes and log point of a beat with DSRC APG: those of an APX instruction, or the presented set
of R140. -/
def State.apgBeat (s : State) (p w : Nat) : List Nat × Option (Nat × Nat) :=
  if wOp w = 0x0C then
    let i := s.apgInstr p (bits w 0 12)
    (s.apgBytes p i (bits i 18 8),
      if bit i 16 then some (s.get (F.APG_X_CUR p), s.get (F.APG_Y_CUR p)) else none)
  else (s.apgBytes p (s.apg p).last.toNat (s.get (F.APG_IDLE p)), none)

/-- One pattern beat of word w: the decision point if it is due, the hold end, the record or the APG's
bytes, the beat, and MARK on the word's first beat. None when the record it needs is missing. -/
def State.patternBeat (s : State) (p w : Nat) : Option State :=
  let s := if (s.seq p).segBeat + 128 = ((s.seq p).ent (s.seq p).seg).beats ∧ (s.seq p).chosen = none then s.decidePoint p else s
  let q := s.seq p
  let src : Option (List Nat × Option (Nat × Nat) × SeqState) :=
    if wApg w then
      let (l, g) := s.apgBeat p w
      some (l, g, q)
    else if wOp w = 1 ∧ bit w 24 = true ∧ 0 < q.rptDone then some (recBytes q.rptRec, none, q)
    else match q.takeRecord with
      | none => none
      | some (x, q) => some (recBytes x, none, { q with rptRec := x })
  match src with
  | none => none
  | some (bytes, log, q) =>
    let first := q.rptDone == 0
    let t := s.putSeq p { q with segBeat := q.segBeat + 1, holding := false }
    let t := if q.holding then (t.set (F.PK_STATUS_SEQ_HOLD p) 0).lifeMark p 0x13 0 q.nextBeat (q.boundary / 4) else t
    let t := if first && wMark w then t.pushTrigger p .seq (q.boundary / 4) (some q.nextBeat) else t
    let t := t.emit p .pattern (wFmt w) (wTset w) (wTab w) bytes log
    let t := ((t.set (F.SEQ_SEG_BEAT p) q.segBeat).setB (F.PK_STATUS_APG_SOURCE p) (wApg w)).calBeat p (wCal w)
    some (if wOp w = 0x0C then t.apgStep p (s.apgInstr p (bits w 0 12)) else t)

/-- A transfer of pack p on the front-end interface fails its check: FE_CHECK of the lowest channel it carries (R7,
R77). -/
def State.feCheck (s : State) (p : Nat) : State :=
  s.raiseOnce (F.CH_STATUS_FE_CHECK (32 * p)) (packSrc p 15) cDATA 0x10 (32 * p)

/-- What the check bits show (R7, R135 to R137) on a beat that reads format-store entry `fmt`: the state after the
report, and whether the pattern goes on to the beat, which is then driven and compared as read or received. DESIGN
CHOICE: a loop-cache record is indexed by the position in the running loop's part of the cache (assumption 142). -/
def State.seqCheck (s : State) (p fmt : Nat) (k : SeqChk) : State × Bool :=
  let asRead (r : FeRecv) : State := s.setSeq p { s.seq p with recv := some r }
  let q := s.seq p
  match k with
  | .good => (s, true)
  | .corrected => (s.bump (F.SEQ_CORR_CNT p), true)
  | .word => ((s.storeError p 0 q.pc).abortPack p .internal 7 (some 7), false)
  | .segment => ((s.storeError p 1 q.seg).abortPack p .internal 7 (some 7), false)
  | .format r => ((asRead { r with tset := none }).storeError p 2 fmt, true)
  | .cache r => ((asRead { r with tset := none }).storeError p 3 q.cpos, true)
  | .frontEnd r => ((asRead r).feCheck p, true)

/-- Execute a word of opcode `op` that is not held: the checks, then its beats and control by `act`. -/
def State.runWord (s : State) (p op : Nat) (k : SeqChk) (act : Nat → State → State) : State :=
  match s.wordFor p op with
  | none => s
  | some w =>
    if s.holds p w then s
    else
      let (t, go) := s.seqCheck p (wFmt w) k
      if go then act w t else t

/-- One pattern beat followed by control; an underrun when its record is missing. -/
def State.beatThen (s : State) (p w : Nat) (next : State → State) : State :=
  match s.patternBeat p w with
  | none => s.underrun p
  | some t => (next t).passCheck p

/-- Pass control to a word address. -/
def State.goTo (s : State) (p a : Nat) : State :=
  s.setSeq p { s.seq p with pc := a, rptDone := 0, back := false }

/-- Pass control to the next word. -/
def State.goOn (s : State) (p : Nat) : State := s.goTo p ((s.seq p).pc + 1)

/-- Does a Whistle line count as asserted at the pack's next boundary: has an event of it acted at a tick that ends by
then, and not been delivered at an earlier boundary (R195)? -/
def SeqState.lineAt (q : SeqState) (line : Nat) : Bool :=
  q.events.any (fun e => e.1 == line && decide (4 * (e.2 + 1) ≤ q.boundary))

/-- The condition of JMP and HALT at the beat's internal boundary (R116). -/
def State.seqCond (s : State) (p w : Nat) : Bool :=
  match bits w 0 3 with
  | 0 => true
  | 1 => s.flag (F.SEQ_STATUS_MATCH_TO p)
  | 2 => !s.flag (F.SEQ_STATUS_MATCH_TO p)
  | 3 => (s.seq p).lineAt (bits w 3 3)
  | 4 => !(s.seq p).lineAt (bits w 3 3)
  | 5 => s.flag (F.SEQ_CTL_FLAG p)
  | 6 => !s.flag (F.SEQ_CTL_FLAG p)
  | _ => false

/-- The first LPE of level k at or after word address a, within `fuel` words. -/
def findLpe (words : Tab Word64) (k : Nat) : Nat → Nat → Nat
  | 0, a => a
  | f + 1, a =>
    let w := (Tab.get 0#64 words a).toNat
    if wOp w = 3 ∧ bits w 0 2 = k then a else findLpe words k f (a + 1)

/-! ## Whistle slots (R193, R194) -/

/-- The node's number. -/
def State.whNode (s : State) : Nat := s.get F.WH_CTL_NODE

/-- Entry (L, i) of the slot table at a base (R193). -/
def State.slotEntry (s : State) (base l i : Nat) : Nat :=
  bits (s.rd (base + 64 * l + i / 4 * 4)) (8 * (i % 4)) 8

/-- May the node emit in slot i of line l (R194)? The fixed slots of WH0 are never event slots. -/
def State.slotUsable (s : State) (l i : Nat) : Bool :=
  let e := s.slotEntry 0x70600 l i
  !(l == 0 && decide (i < 6)) && (bits e 6 2 == 0 || (bits e 6 2 == 1 && bits e 0 6 == s.whNode))

/-- The start of the first usable slot of line l from slot start `a` on, within a frame. -/
def State.usableFrom (s : State) (l : Nat) : Nat → Nat → Option Nat
  | 0, _ => none
  | f + 1, a => if s.slotUsable l (a / 4 % 64) then some a else s.usableFrom l f (a + 4)

/-- The slot in which the registered request of a line goes out: the first usable one that starts at least 4 ticks after
registration; none while the node may use no slot of the line (R194). -/
def State.whSlot (s : State) (line : Nat) : Option Nat :=
  s.usableFrom line 64 ((Tab.get 0 s.whReqAt line + 4 + 3) / 4 * 4)

/-- The registered request of a line goes out in its slot: its event acts 40 ticks after the slot's start. -/
def State.whSend (s : State) (line a : Nat) : State :=
  { s with
    whReq := setBits s.whReq line 1 0
    whReqAt := Tab.put 0 s.whReqAt line 0
    whSent := s.whSent ++ [(line, a + 40)] }

/-- Register a request for an emission on a Whistle line, 1 to 3 ticks after the boundary or write at tick te; line 7
drives ALL-STOP. A request registered before the slot of the one that waits merges into it; one registered later is an
event of its own (R194, R196). -/
def State.whEmitReq (s : State) (line te : Nat) : State :=
  if line = 7 then { s with wh7 := true, wh7In := true }
  else
    let (x, t) := s.drawWord
    let at_ := te + 1 + x.toNat % 3
    let put (u : State) : State := { u with whReq := u.whReq ||| 2 ^ line, whReqAt := Tab.put 0 u.whReqAt line at_ }
    if !bit s.whReq line then put t
    else match s.whSlot line with
      | some a => if a ≤ at_ then put (t.whSend line a) else t.bump (F.WH_MERGE_CNT line)
      | none => t.bump (F.WH_MERGE_CNT line)

/-! ## The words -/

/-- SEQ_NOP (R115). -/
def execSeqNop (p : Pack) (k : SeqChk) (s : State) : Out :=
  .next (s.runWord p 0x00 k (fun w t => t.beatThen p w (fun u => u.goOn p)))

/-- n beats of an RPT word. -/
def State.rptBeats (p w : Nat) : Nat → State → State
  | 0, s => s
  | n + 1, s =>
    if s.seqRun p then
      match s.patternBeat p w with
      | none => s.underrun p
      | some t =>
        let q := t.seq p
        if q.rptDone + 1 < bits w 0 24 then State.rptBeats p w n (t.setSeq p { q with rptDone := q.rptDone + 1 })
        else (t.goOn p).passCheck p
    else s

/-- RPT (R115): `beats` of the COUNT beats, all that remain when it is not below them; COUNT 0 passes
control on with no beat. -/
def execRpt (p : Pack) (beats : Nat) (k : SeqChk) (s : State) : Out :=
  .next (s.runWord p 0x01 k (fun w t =>
    if bits w 0 24 = 0 then t.goOn p
    else State.rptBeats p w (min beats (bits w 0 24 - (t.seq p).rptDone)) t))

/-- LPB (R115, R127): loads its counter and opens the loop, or executes its beat again when control
comes back; COUNT 0 skips the body. -/
def execLpb (p : Pack) (k : SeqChk) (s : State) : Out :=
  .next (s.runWord p 0x02 k (fun w t =>
    let q := t.seq p
    let count := bits w 0 20
    let lvl := bits w 20 2
    if q.back then t.beatThen p w (fun u => u.goOn p)
    else if count = 0 then t.goTo p (findLpe q.words lvl 65536 (q.pc + 1) + 1)
    else
      let q' := { q with
        ctrs := q.ctrs.set lvl count
        lpbAt := q.lpbAt.set lvl q.pc
        posAt := q.posAt.set lvl q.cpos
        later := q.later.set lvl false
        cacheLevel := if q.cacheLevel.isNone && decide (2 ≤ count) then some lvl else q.cacheLevel }
      (t.setSeq p q').beatThen p w (fun u => u.goOn p)))

/-- LPE (R115, R127): after its beat a counter above 1 sends control back to the LPB; otherwise the loop
ends, and the outermost one discards its cache. -/
def execLpe (p : Pack) (k : SeqChk) (s : State) : Out :=
  .next (s.runWord p 0x03 k (fun w t =>
    let lvl := bits w 0 2
    t.beatThen p w (fun u =>
      let q := u.seq p
      if 1 < q.ctrs.getD lvl 0 then
        u.setSeq p { q with
          ctrs := q.ctrs.set lvl (q.ctrs.getD lvl 0 - 1)
          pc := q.lpbAt.getD lvl 0
          cpos := q.posAt.getD lvl 0
          later := q.later.set lvl true
          back := true }
      else
        let q := { q with later := q.later.set lvl false }
        let q := if q.cacheLevel = some lvl then { q with cacheLevel := none, cache := [], cpos := 0 } else q
        (u.setSeq p q).goOn p)))

/-- SEQ_CALL (R115). -/
def execSeqCall (p : Pack) (k : SeqChk) (s : State) : Out :=
  .next (s.runWord p 0x04 k (fun w t => t.beatThen p w (fun u =>
    (u.setSeq p { u.seq p with stack := ((u.seq p).pc + 1) :: (u.seq p).stack }).goTo p (bits w 0 16))))

/-- SEQ_RET (R115). -/
def execSeqRet (p : Pack) (k : SeqChk) (s : State) : Out :=
  .next (s.runWord p 0x05 k (fun w t => t.beatThen p w (fun u =>
    match (u.seq p).stack with
    | [] => u.goOn p
    | a :: l => (u.setSeq p { u.seq p with stack := l }).goTo p a)))

/-- JMP (R115, R116): a true condition latches the internal jump of the pass, once. -/
def execJmp (p : Pack) (k : SeqChk) (s : State) : Out :=
  .next (s.runWord p 0x06 k (fun w t =>
    let c := t.seqCond p w
    t.beatThen p w (fun u =>
      let q := u.seq p
      let u := if c && q.latch.isNone && q.chosen.isNone then
        (u.setSeq p { q with latch := some (bits w 6 10) }).jumpRegs p else u
      u.goOn p)))

/-- Start the wait of a MATCH or WWAIT whose pattern beat has been executed: its number, and its open
outcome. -/
def State.beginWait (s : State) (p w : Nat) : State :=
  let q := s.seq p
  match q.beats.getLast? with
  | none => s
  | some b => (s.setSeq p { q with
      wait := some ⟨w, b.num, 0, q.rptRec, [(b.num, b.known)], [], []⟩ }).wr (R.SEQ_WAIT_BEATS p) 0

/-- MATCH (R118): its pattern beat; the wait beats and its end are WAIT_BEAT's. -/
def execMatchWord (p : Pack) (k : SeqChk) (s : State) : Out :=
  .next (s.runWord p 0x07 k (fun w t =>
    match t.patternBeat p w with
    | none => t.underrun p
    | some u => u.beginWait p w))

/-- SEQ_HALT (R115). -/
def execSeqHalt (p : Pack) (k : SeqChk) (s : State) : Out :=
  .next (s.runWord p 0x08 k (fun w t =>
    let c := t.seqCond p w
    match t.patternBeat p w with
    | none => t.underrun p
    | some u => if c then u.endPack p 2 else (u.goOn p).passCheck p))

/-- WEMIT (R115): requests an event on its line at the beat's internal boundary. -/
def execWemit (p : Pack) (k : SeqChk) (s : State) : Out :=
  .next (s.runWord p 0x09 k (fun w t => t.beatThen p w (fun u => (u.whEmitReq (bits w 0 3) ((u.seq p).lastStart / 4)).goOn p)))

/-- WWAIT (R119): its pattern beat; events delivered from then on can end it. -/
def execWwait (p : Pack) (k : SeqChk) (s : State) : Out :=
  .next (s.runWord p 0x0A k (fun w t =>
    match t.patternBeat p w with
    | none => t.underrun p
    | some u => u.beginWait p w))

/-- CUE (R115, R384, R387): the cue goes to the PSM unless it is muzzled or crossing 4 still waits for
the acknowledgement of the cue before it, 33 SEQp cycles. -/
def execCue (p : Pack) (k : SeqChk) (s : State) : Out :=
  .next (s.runWord p 0x0B k (fun w t =>
    let at_ := (t.seq p).boundary
    let n := 6 * p + bits w 0 3
    t.beatThen p w (fun u =>
      let u := if u.psmMuzzled n then u
        else if at_ < Tab.get 0 u.cueAt n then u.crossOverrun 4 n
        else { u with cues := u.cues ++ [(n, bits w 3 5)], cueAt := Tab.put 0 u.cueAt n (at_ + 33) }
      u.goOn p)))

/-- APX (R115, R139): the APG supplies the bytes and then steps. -/
def execApx (p : Pack) (k : SeqChk) (s : State) : Out :=
  .next (s.runWord p 0x0C k (fun w t => t.beatThen p w (fun u => u.goOn p)))

/-! ## Waits (R118 to R120) -/

/-- The match outcome of a beat (R118): the sites that take part in it, and those whose result passes. -/
def State.matchOutcome (s : State) (p : Nat) (b : BeatRec) : List Nat × List Nat :=
  let res (c : Nat) : List (Option Bool) :=
    let cb := b.chans.getD c {}
    if bits cb.fmt 3 3 = 5 ∧ cb.masked = false ∧ s.edgesAct (32 * p + c) = true then
      ((List.range 4).filter (fun u => bit cb.acting (4 + u))).map (fun u =>
        match cb.results.getD u .unset with
        | .mtc f => some f
        | _ => none)
    else []
  let bcast := (List.range 32).flatMap (fun c => if s.get (F.PK_CHMAP_ROLE p c) = 2 then res c else [])
  let sites := (s.sitesOfPack p).filter (fun i => s.siteActive i)
  let of (i : Nat) := bcast ++ (List.range 32).flatMap (fun c =>
    if s.get (F.PK_CHMAP_ROLE p c) = 1 ∧ s.get (F.PK_CHMAP_SITE p c) = i then res c else [])
  let part := sites.filter (fun i => !(of i).isEmpty)
  (part, part.filter (fun i => (of i).all (fun r => r == some false)))

/-- Fold the outcomes known at the pack's boundary into a wait. -/
def State.foldOutcomes (s : State) (p : Nat) (w : WaitState) : WaitState :=
  let q := s.seq p
  let now := q.boundary * 1250
  let due := w.openBeats.filter (fun x => decide (x.2 ≤ now))
  let w := { w with openBeats := w.openBeats.filter (fun x => !decide (x.2 ≤ now)) }
  due.foldl (fun w x =>
    match q.beats.find? (fun b => b.num == x.1) with
    | none => w
    | some b =>
      let (part, pass) := s.matchOutcome p b
      { w with
        parts := part.foldl (fun l i => insertAsc i l) w.parts
        latched := pass.foldl (fun l i => insertAsc i l) w.latched }) w

/-- Is the match condition met (R118)? -/
def State.matchMet (s : State) (w : WaitState) : Bool :=
  let parts := w.parts.filter (fun i => s.siteActive i)
  if (w.openBeats.any (fun x => x.1 == w.b0)) then false
  else if parts.isEmpty then true
  else if bit w.word 20 then parts.any (fun i => w.latched.contains i)
  else parts.all (fun i => w.latched.contains i)

/-- The end of a MATCH or WWAIT: MATCH_TO, the TRIG_MATCH trigger, and control to the next word. -/
def State.endWait (s : State) (p : Nat) (timedOut : Bool) : State :=
  let q := s.seq p
  let t := (s.setB (F.SEQ_STATUS_MATCH_TO p) timedOut).set (F.SEQ_STATUS_WAITING p) 0
  let t := t.setSeq p { q with wait := none, beats := dropCaptured [] q.beats }
  (t.pushTrigger p (.matchEnd timedOut) (q.boundary / 4) (some q.nextBeat)).goOn p

/-- One wait beat: it repeats the word's format entry, set, table index and data (R118, R140). -/
def State.waitBeat (s : State) (p : Nat) (w : WaitState) (timeout : Nat) : State :=
  let bytes := if wApg w.word then s.apgBytes p (s.apg p).last.toNat (s.get (F.APG_IDLE p)) else recBytes w.data
  let t := (s.set (F.SEQ_STATUS_WAITING p) 1).emit p .wait (wFmt w.word) (wTset w.word) (wTab w.word) bytes none
  let q := t.seq p
  let w := { w with inserted := w.inserted + 1 }
  let w := match q.beats.getLast? with
    | some b => if w.inserted ≤ timeout ∧ wOp w.word = 7 then { w with openBeats := w.openBeats ++ [(b.num, b.known)] } else w
    | none => w
  (t.setSeq p { q with wait := some w }).bump ⟨R.SEQ_WAIT_BEATS p, 0, 32⟩

/-- A MATCH timeout counts one fail for every taking-part site that has not latched (R120). -/
def State.matchFails (s : State) (p : Nat) (w : WaitState) : State :=
  let last := (s.seq p).nextBeat - 1
  let sites := (w.parts.filter (fun i => s.siteActive i)).filter (fun i => !w.latched.contains i)
  s.setCap p { s.cap p with extraFail := (s.cap p).extraFail ++ sites.map (fun i => (i, last, w.b0)) }

/-- WAIT_BEAT (R118 to R120): at a boundary of a MATCH or WWAIT the known outcomes are evaluated; the
word ends met, ends by timeout, or inserts a wait beat. -/
def execWaitBeat (p : Pack) (k : SeqChk) (s : State) : Out :=
  .next (
    match (s.seq p).wait with
    | none => s
    | some w =>
      if !s.seqRun p then s
      else
        let (s, go) := s.seqCheck p (wFmt w.word) k
        if !go then s
        else
          let isMatch := wOp w.word == 7
          let timeout := if isMatch then bits w.word 0 20 else bits w.word 3 20
          let stop := if isMatch then bit w.word 21 else bit w.word 23
          let w := if isMatch then s.foldOutcomes p w else w
          let met := if isMatch then s.matchMet w else (s.seq p).lineAt (bits w.word 0 3)
          let expired := decide (timeout ≤ w.inserted) && (!isMatch || w.openBeats.isEmpty)
          let s := s.setSeq p { s.seq p with wait := some w }
          if met then (s.endWait p false).passCheck p
          else if expired then
            let s := if isMatch then s.matchFails p w else s
            let s := s.endWait p true
            if stop then s.abortPack p .timeout 4 none else s.passCheck p
          else s.waitBeat p w timeout)

/-- HOLD_BEAT (R128): a hold point that holds inserts one hold beat. -/
def execHoldBeat (p : Pack) (k : SeqChk) (s : State) : Out :=
  .next (
    if s.seqRun p && (s.seq p).wait.isNone && s.holds p (s.seqWord p) then
      let (s, go) := s.seqCheck p (s.get (F.SEQ_HOLD_CFG_HOLD_FMT p)) k
      if !go then s
      else
        let q := s.seq p
        let t := if q.holding then s
          else ((s.set (F.PK_STATUS_SEQ_HOLD p) 1).bump ⟨R.SEQ_HOLD_EVT p, 0, 32⟩).lifeMark p 0x12 0 q.nextBeat (q.boundary / 4)
        let t := (t.setSeq p { t.seq p with holding := true }).bump ⟨R.SEQ_HOLD_CNT p, 0, 32⟩
        let t := (t.emit p .hold (t.get (F.SEQ_HOLD_CFG_HOLD_FMT p)) (t.get (F.SEQ_HOLD_CFG_HOLD_TSET p)) 0
          (List.replicate 32 0) none).set (F.PK_STATUS_APG_SOURCE p) 0
        if t.flag (F.SEQ_CTL_PAUSE p) then t.pauseSettle p false else t
    else s)

/-- GROUP_STOP (R132): a pack stops because another pack of its group ended other than normally. -/
def execGroupStop (p : Pack) (s : State) : Out :=
  .next (
    match s.groupOf p with
    | some g =>
      (match g.ended with
       | some (_, r) => s.endPack p r
       | none => s)
    | none => s)

/-- TRIM_STEP (R105): while a pattern runs, the step of a block of 4,096 beats; while none runs, every
applied value takes its target. -/
def execTrimStep (p : Pack) (s : State) : Out :=
  .next (if s.seqRun p then s.trimDue p else s.trimAll p)

/-! ## Edges (R95 to R97) -/

/-- The channel, or for an enabled lane the lane, in a timing fault address (R104). -/
def State.timAddr (s : State) (n : Nat) : Nat := if s.laneEnabled (n / 2) then 0x80000000 + n / 2 else n

/-- A skipped edge is counted and reported (R96, R104). DESIGN CHOICE: on a lane the bit is that of the channel whose
entry placed the edge, here and in collideEdge (assumption 137). -/
def State.overrunEdge (s : State) (p c : Nat) : State :=
  let t := (s.set (F.TIM_STATUS_OVERRUN p) 1).bump (F.TIM_OVR_CNT p)
  t.raiseOnce (F.TIM_CHA_STAT_OVERRUN p c) (packSrc p 1) cTIMING 0x02 (s.timAddr (32 * p + c))

/-- A discarded drive edge is counted and reported (R97, R104). -/
def State.collideEdge (s : State) (p c : Nat) : State :=
  let t := (s.set (F.TIM_STATUS_COLLISION p) 1).bump (F.TIM_COLL_CNT p)
  t.raiseOnce (F.TIM_CHA_STAT_COLLISION p c) (packSrc p 1) cTIMING 0x01 (s.timAddr (32 * p + c))

/-- Is window w of a channel's part open: C2w has acted and C2w+1 has not (R62)? -/
def ChanBeat.windowOpen (cb : ChanBeat) (w : Nat) : Bool :=
  bits cb.fmt 3 3 == 3 && bit cb.acting (4 + 2 * w) && bit cb.acting (5 + 2 * w)
    && bit cb.acted (4 + 2 * w) && !bit cb.acted (5 + 2 * w)

/-- Is the result expected by a bit 0 at some moment: H for 1, L for 0? -/
def departs (expected : Bool) (rs : List (Bool × Bool)) : Bool := rs.any (fun r => !(if expected then r.1 else r.2))

/-- The open windows of a channel's part latch a departure (R62). -/
def ChanBeat.note (cb : ChanBeat) (rs : List (Bool × Bool)) : ChanBeat :=
  { cb with departed := maskOf ((List.range 2).filter (fun w =>
      bit cb.departed w || (cb.windowOpen w && departs (bit cb.data (4 + w)) rs))) }

/-- The windows of every beat that the comparators of pack channels `cs` judge follow a course of results. -/
def SeqState.noteAll (q : SeqState) (cs : List Nat) (rs : List (Bool × Bool)) : SeqState :=
  { q with beats := q.beats.map (fun b =>
      { b with chans := cs.foldl (fun l c => l.set c ((l.getD c {}).note rs)) b.chans }) }

/-- The pack channels that one comparator pair serves: both of an enabled lane (R72, R94). -/
def State.cmpGroup (s : State) (p c : Nat) : List Nat :=
  if s.laneEnabled ((32 * p + c) / 2) then [c / 2 * 2, c / 2 * 2 + 1] else [c]

/-- The result of a strobe or closing window limit with present results H and L, `got` when they are as received
over a failing transfer (R62, R7); a skipped one fails, or gives no value (R96). -/
def obsOf (cb : ChanBeat) (u : Nat) (r : Bool × Bool) (got skipped : Bool) : Obs :=
  let ex := bit cb.data (4 + u)
  match bits cb.fmt 3 3 with
  | 1 => .cmp (skipped || departs ex [r])
  | 2 => if ex then .cmp (skipped || r.1 || r.2) else .unset
  | 3 => .cmp (skipped || (if got then departs ex [r] else bit cb.departed u))
  | 4 => if skipped then .unset else .val r.1 r.2
  | 5 => .mtc (skipped || departs ex [r])
  | _ => .unset

/-- The slot an edge decides, if any: a strobe its own, a closing limit its window's. -/
def slotOf (fmt e : Nat) : Option Nat :=
  if e < 4 then none
  else if bits fmt 3 3 = 3 then (if e = 5 then some 0 else if e = 7 then some 1 else none)
  else some (e - 4)

/-- Replace one channel's part of beat `num`. -/
def SeqState.updBeat (q : SeqState) (num c : Nat) (cb : ChanBeat) : SeqState :=
  { q with beats := q.beats.map (fun b => if b.num = num then { b with chans := b.chans.set c cb } else b) }

/-- The driver takes an edge's state with the load switch of its beat (R61, R64), launched at internal time `tip` less
TD (R88); both sides of an enabled lane take every edge, each with its own TD (R94), and POLARITY swaps them (R73). -/
def State.driveEdge (s : State) (n : Nat) (d : Drive) (load : Bool) (tip : Nat) (td : Nat × Nat) : State :=
  let launch (s : State) (m : Nat) (d : Drive) (x : Nat) : State :=
    let c := s.chan m
    s.setChan m { c with
      drive := d
      repeats := c.drive == d
      loadOn := load
      launchedAt := (tip : Int) - x }
  if s.laneEnabled (n / 2) then
    let e := n / 2 * 2
    let (a, b) := if s.laneSwapped (n / 2) then (d.compl, d) else (d, d.compl)
    launch (launch s e a td.1) (e + 1) b td.2
  else launch s n d td.1

/-- Does a drive edge of the following beat fall at or before time x (0.5 ps units from the same
origin), or less than the spacing after it (R97)? -/
def State.crowded (s : State) (p c : Nat) (b1 : BeatRec) (x : Nat) : Bool :=
  let n := 32 * p + c
  let lane := s.laneEnabled (n / 2)
  let gap := if lane then 150 else 300
  (if lane then [c / 2 * 2, c / 2 * 2 + 1] else [c]).any (fun d =>
    let cb := b1.chans.getD d {}
    (List.range 4).any (fun e => bit cb.acting e && decide (b1.start * 1250 + cb.times.getD e 0 < x + gap)))

/-- May a drive edge of a beat act on the driver: no overcurrent protection, not before the beat from which the
channel acts again (R78, R81), and not in a beat numbered after the one in which its site's muzzle reached the pack
(R51)? -/
def State.driveAllowed (s : State) (n beat : Nat) : Bool :=
  !s.flag (F.CH_STATUS_DRV_PROTECT (s.governor n)) && decide ((s.chan (s.governor n)).actsFrom ≤ beat)
    && (!s.siteMuzzled n || (s.fenceBeat n).all (fun x => decide (beat ≤ x)))

/-- An acting edge of a beat: the comparators follow the pad, the windows open at it latch, and the edge gives its
result, is skipped, is discarded, or takes the driver on. A strobe samples at the boundary + 12.5 ns + TIME + TC (R88). -/
def State.edgeOf (s : State) (p c : Nat) (b : BeatRec) (edge : Nat) (pad : PadObs) : State :=
  let n := 32 * p + c
  let (rs, s) := s.comparePad n pad
  let s := if pad.got.isSome then s.feCheck p else s
  let q := (s.seq p).noteAll (s.cmpGroup p c) rs
  let cb := ((q.beats.find? (fun x => x.num == b.num)).getD b).chans.getD c {}
  let b1 := q.beats.find? (fun x => x.num == b.num + 1)
  let x := b.start * 1250 + cb.times.getD edge 0
  let skipped := match b1 with
    | some y => decide ((y.start + y.period) * 1250 ≤ x)
    | none => false
  let r := pad.got.getD (rs.getLastD (false, false))
  let done := { cb with
    acted := cb.acted ||| 2 ^ edge
    results := match slotOf cb.fmt edge with
      | some u => cb.results.set u (obsOf cb u r pad.got.isSome skipped)
      | none => cb.results }
  let t := s.setSeq p (q.updBeat b.num c (done.note [r]))
  if skipped then t.overrunEdge p c
  else if 4 ≤ edge then
    let g := s.governor n
    t.setChan g { t.chan g with sampledAt := x + 25000 + cb.tc }
  else
    let late := match b1 with | some y => s.crowded p c y x | none => false
    if late then t.collideEdge p c
    else if !t.driveAllowed n b.num then t
    else match driveAction cb.fmt cb.data edge with
      | some d => t.driveEdge n d (bit cb.fmt 6) (x + 25000) cb.td
      | none => t

/-- EDGE_ACT (R95 to R97): an acting edge of an executed beat acts; on a channel that has no acting edges any more it
does nothing. -/
def execEdgeAct (p : Pack) (c : Fin 32) (beat : Nat) (edge : Fin 8) (pad : PadObs) (s : State) : Out :=
  .next (
    let q := s.seq p
    match q.beats.find? (fun b => b.num == beat) with
    | none => s
    | some b =>
      let cb := b.chans.getD c {}
      if !bit cb.acting edge || bit cb.acted edge then s
      else if !s.edgesAct (32 * (p : Nat) + c) then
        s.setSeq p (q.updBeat beat c { cb with acted := cb.acted ||| 2 ^ (edge : Nat) })
      else s.edgeOf p c b edge pad)

end Sys2Proof.Machine
end

