-- ==== Sys2Proof/Machine/Pattern.lean ====
section
/-! DEFINITION. The pattern commands and the start of patterns: image checks and load, start groups,
stops, jumps, pauses and timing-set swaps (05_pack_sequencer.md, R130 to R134; R93, R369). -/

namespace Sys2Proof.Machine

/-! ## The pattern image (R133, R134) -/

/-- The header of an image, read from DRAM. -/
structure ImgHdr where
  magic : Nat
  w1 : Nat
  w2 : Nat
  w3 : Nat
  w4 : Nat
  w5 : Nat
  seqOff : Nat
  segOff : Nat
  fmtOff : Nat
  dataOff : Nat
  len : Nat
  crc : Nat
deriving DecidableEq, Repr

def ImgHdr.seqCount (h : ImgHdr) : Nat := h.w2 % 2 ^ 17
def ImgHdr.segCount (h : ImgHdr) : Nat := h.w3 % 2 ^ 11
def ImgHdr.fmtFirst (h : ImgHdr) : Nat := h.w4 % 2 ^ 12
def ImgHdr.fmtCount (h : ImgHdr) : Nat := bits h.w4 16 13

/-- Read the header at DRAM address a. -/
def State.imgHdr (s : State) (a : Nat) : ImgHdr :=
  ⟨s.dramWord a, s.dramWord (a + 4), s.dramWord (a + 8), s.dramWord (a + 12), s.dramWord (a + 16),
    s.dramWord (a + 20), s.dramNat (a + 24) 8, s.dramNat (a + 32) 8, s.dramNat (a + 40) 8, s.dramNat (a + 48) 8,
    s.dramWord (a + 56), s.dramWord (a + 60)⟩

/-- Check 4: MAGIC, VERSION and reserved header bits. -/
def ImgHdr.formOk (h : ImgHdr) : Bool :=
  h.magic == 0x49504451 && h.w1 == 1 && decide (h.w2 < 2 ^ 17) && decide (h.w3 < 2 ^ 11)
    && bits h.w4 12 4 == 0 && decide (h.w4 < 2 ^ 29) && h.w5 == 0

/-- The end of the data section: the next section above it, or the end of the image. -/
def ImgHdr.dataEnd (h : ImgHdr) : Nat :=
  ([h.seqOff, h.segOff, h.fmtOff].filter (fun o => decide (h.dataOff < o))).foldl min (64 * h.len)

/-- The sections as (offset, end). -/
def ImgHdr.sections (h : ImgHdr) : List (Nat × Nat) :=
  [(h.seqOff, h.seqOff + 8 * h.seqCount), (h.segOff, h.segOff + 32 * h.segCount),
   (h.fmtOff, h.fmtOff + 32 * h.fmtCount), (h.dataOff, h.dataEnd)]

/-- Do two sections overlap? DESIGN CHOICE: one of no length that lies strictly inside another does (assumption 141). -/
def overlap (a b : Nat × Nat) : Bool := decide (a.1 < b.2) && decide (b.1 < a.2)

/-- Does no element of a list overlap a later one? -/
def disjoint : List (Nat × Nat) → Bool
  | [] => true
  | x :: xs => xs.all (fun y => !overlap x y) && disjoint xs

/-- Check 5: counts and sections. -/
def ImgHdr.layoutOk (h : ImgHdr) : Bool :=
  decide (1 ≤ h.seqCount) && decide (h.seqCount ≤ 65536) && decide (1 ≤ h.segCount) && decide (h.segCount ≤ 1024)
    && decide (h.fmtCount ≤ 4096) && decide (h.fmtFirst + h.fmtCount ≤ 4096)
    && h.sections.all (fun x => x.1 % 64 == 0 && decide (x.1 ≤ x.2) && decide (x.2 ≤ 64 * h.len))
    && disjoint h.sections

/-- The image's bytes with IMAGE_CRC taken as 0. -/
def State.imgBytes (s : State) (a n : Nat) : List Nat :=
  (List.range n).map (fun i => if 60 ≤ i ∧ i < 64 then 0 else (s.dramByte (a + i)).toNat)

/-- The operand bits an opcode defines (R113). -/
def operandMask (op : Nat) : Nat :=
  match op with
  | 1 => 0x1FFFFFF
  | 2 => 0x3FFFFF
  | 3 => 0x3
  | 4 => 0xFFFF
  | 6 => 0xFFFF
  | 7 => 0x3FFFFF
  | 8 => 0x3F
  | 9 => 0x7
  | 10 => 0xFFFFFF
  | 11 => 0xFF
  | 12 => 0xFFF
  | _ => 0

/-- Is a sequence word free of reserved encodings, with targets in range (R114, check 7)? -/
def wordOk (seqCount segCount w : Nat) : Bool :=
  let op := wOp w
  let x := bits w 0 28
  decide (op ≤ 12) && bits w 57 2 == 0 && x &&& operandMask op == x
    && (op != 12 || wApg w) && (op != 1 || !bit w 24 || !wApg w)
    && (op != 11 || decide (bits w 0 3 < 6)) && ((op != 6 && op != 8) || bits w 0 3 != 7)
    && (op != 4 || decide (bits w 0 16 < seqCount)) && (op != 6 || decide (bits w 6 10 < segCount))

/-- A segment entry and whether its words are free of reserved values (R133, check 7). -/
def State.segAt (s : State) (segCount a : Nat) : SegEnt × Bool :=
  let w0 := s.dramWord a
  let w6 := s.dramWord (a + 24)
  let next := w6 % 2 ^ 11
  (⟨w0 % 2 ^ 16, s.dramWord (a + 4), s.dramNat (a + 8) 8, s.dramNat (a + 16) 8,
      if next = 0x7FF then none else some next, bit w6 16⟩,
    decide (w0 < 2 ^ 16) && (next == 0x7FF || decide (next < segCount)) && bits w6 11 5 == 0 && decide (w6 < 2 ^ 17)
      && s.dramWord (a + 28) == 0)

/-- Is a format code free of reserved formats (R63)? -/
def fmtOk (b : Nat) : Bool := b % 8 != 7 && decide (bits b 3 3 < 6)

/-! ## The walk of a segment (checks 8 and 9) -/

/-- The state of the walk: word address, pattern beats, records, open loops innermost first (level, LPB
address, counter, later pass, records at its start), the call stack (return, target, open loops), and
what it has found. -/
structure Walk where
  pc : Nat
  beats : Nat := 0
  recs : Nat := 0
  loops : List (Nat × Nat × Nat × Bool × Nat) := []
  stack : List (Nat × Nat × Nat) := []
  back : Bool := false
  bad8 : Bool := false
  bad9 : Bool := false
  isOver : Bool := false
deriving DecidableEq, Repr

/-- Is the walk in a later pass of a loop? -/
def Walk.replay (k : Walk) : Bool := k.loops.any (fun l => l.2.2.2.1)

/-- Count one beat of word w with its record. -/
def Walk.beat (k : Walk) (w : Nat) : Walk :=
  { k with beats := k.beats + 1, recs := k.recs + (if wApg w || k.replay then 0 else 1) }

/-- The outermost loop with COUNT 2 or more that is open has consumed its first pass: is it over the
loop capacity (R127)? -/
def Walk.capacity (k : Walk) (cap : Nat) (lpb : Nat × Nat × Nat × Bool × Nat) : Bool :=
  decide (cap < k.recs - lpb.2.2.2.2)

/-- The loops that were open where the subroutine being walked was called. -/
def Walk.depth (k : Walk) : Nat :=
  match k.stack with
  | [] => 0
  | x :: _ => x.2.2

/-- One word of the walk of a segment of `total` beats. Where the words end, a loop opened since the last
CALL has no matching LPE, and a last beat on an RPT inside a loop or a subroutine fails check 8 too. -/
def Walk.step (words : Tab Word64) (seqCount total cap : Nat) (k : Walk) : Walk :=
  if seqCount ≤ k.pc then { k with bad8 := k.bad8 || decide (k.depth < k.loops.length), bad9 := true, isOver := true }
  else
    let w := (Tab.get 0#64 words k.pc).toNat
    let go (k : Walk) : Walk := { k with pc := k.pc + 1, back := false }
    match wOp w with
    | 1 =>
      let n := bits w 0 24
      if n = 0 then go k
      else if total < k.beats + n then
        { k with bad8 := k.bad8 || !k.loops.isEmpty || !k.stack.isEmpty, bad9 := true, isOver := true }
      else
        let r := if wApg w || k.replay then 0 else if bit w 24 then 1 else n
        go { k with beats := k.beats + n, recs := k.recs + r }
    | 2 =>
      let lvl := bits w 20 2
      let n := bits w 0 20
      if k.back then go (k.beat w)
      else if lvl ≠ k.loops.length then { k with bad8 := true, isOver := true }
      else
        let e := findLpe words lvl 65536 (k.pc + 1)
        if n = 0 then
          if seqCount ≤ e then { k with bad8 := true, isOver := true } else { k with pc := e + 1, back := false }
        else
          let k' := { k with loops := (lvl, k.pc, n, false, k.recs) :: k.loops }
          go (k'.beat w)
    | 3 =>
      let lvl := bits w 0 2
      let k1 := k.beat w
      match k1.loops with
      | [] => { k with bad8 := true, isOver := true }
      | l :: ls =>
        if l.1 ≠ lvl ∨ ls.length < k.depth then { k with bad8 := true, isOver := true }
        else
          let outer := !l.2.2.2.1 && decide (2 ≤ l.2.2.1) && !ls.any (fun x => decide (2 ≤ x.2.2.1) || x.2.2.2.1)
          let k1 := if outer && k1.capacity cap l then { k1 with bad9 := true } else k1
          if 1 < l.2.2.1 then
            { k1 with pc := l.2.1, back := true, loops := (l.1, l.2.1, l.2.2.1 - 1, true, l.2.2.2.2) :: ls }
          else go { k1 with loops := ls }
    | 4 =>
      let k1 := k.beat w
      let t := bits w 0 16
      if 8 ≤ k.stack.length ∨ k.stack.any (fun x => x.2.1 == t) then { k with bad8 := true, isOver := true }
      else { k1 with stack := (k.pc + 1, t, k.loops.length) :: k.stack, pc := t, back := false }
    | 5 =>
      let k1 := k.beat w
      match k.stack with
      | [] => { k with bad8 := true, isOver := true }
      | (a, _, d) :: l =>
        if d ≠ k.loops.length then { k with bad8 := true, isOver := true }
        else { k1 with stack := l, pc := a, back := false }
    | 6 =>
      let late := decide (total < k.beats + 129)
      go { k.beat w with bad9 := k.bad9 || late }
    | _ => go (k.beat w)

/-- Walk until the segment's beats are executed or the walk is over. -/
def walkSeg (words : Tab Word64) (seqCount total cap : Nat) : Nat → Walk → Walk
  | 0, k => { k with bad9 := true }
  | f + 1, k =>
    if k.isOver then k
    else if total ≤ k.beats then { k with bad8 := k.bad8 || !k.loops.isEmpty || !k.stack.isEmpty }
    else walkSeg words seqCount total cap f (k.step words seqCount total cap)

/-- The result of the walk of a segment. -/
def walkOf (words : Tab Word64) (seqCount cap : Nat) (g : SegEnt) : Walk :=
  walkSeg words seqCount g.beats cap ((g.beats + 1) * 65537) { pc := g.start }

/-- A table of the nonzero words of a list, from key k on. -/
def tabFrom : Nat → List Word64 → Tab Word64
  | _, [] => []
  | k, w :: ws => if w = 0#64 then tabFrom (k + 1) ws else (k, w) :: tabFrom (k + 1) ws

/-- What PAT_LOAD finds in an image: a status that rejects it, or header, words and segments. -/
def State.checkImage (s : State) (a : Nat) : Except Status (ImgHdr × Tab Word64 × List SegEnt) :=
  if a % 64 ≠ 0 ∨ 2 ^ 35 < a + 64 then .error .badAddress
  else
    let h := s.imgHdr a
    if 2 ^ 35 < a + 64 * h.len then .error .badAddress
    else if s.touchesMuzzledPc a (max 64 (64 * h.len)) then .error .muzzled
    else if !h.formOk then .error .badOpcode
    else if !h.layoutOk then .error .badLength
    else if crc32c (s.imgBytes a (64 * h.len)) ≠ h.crc then .error .crcError
    else
      let ws := (List.range h.seqCount).map (fun i => BitVec.ofNat 64 (s.dramNat (a + h.seqOff + 8 * i) 8))
      let words := tabFrom 0 ws
      let ents := (List.range h.segCount).map (fun i => s.segAt h.segCount (a + h.segOff + 32 * i))
      let segs := ents.map (·.1)
      let fmts := (List.range (32 * h.fmtCount)).all (fun i => fmtOk (s.dramByte (a + h.fmtOff + i)).toNat)
      if !(ws.all (fun w => wordOk h.seqCount h.segCount w.toNat) && ents.all (·.2) && fmts) then .error .badOpcode
      else
        let pins := (segs.filter (·.pin)).length
        let cap := 65536 - 512 * pins
        let walks := segs.map (walkOf words h.seqCount cap)
        let jmps := ws.all (fun w => wOp w.toNat != 6 || (segs.getD (bits w.toNat 6 10) ⟨0, 0, 0, 0, none, false⟩).pin)
        if walks.any (·.bad8) || !jmps || decide (32 < pins) then .error .badState
        else
          let limit := (h.dataEnd - h.dataOff) / 32
          let ok := (segs.zip walks).all (fun x =>
            !x.2.bad9 && x.2.beats == x.1.beats && x.2.recs == x.1.records && x.1.beats % 64 == 0
              && decide (512 ≤ x.1.beats) && decide (x.1.data + x.1.records ≤ limit))
          if ok then .ok (h, words, segs) else .error .badLength

/-- Load a checked image into pack p. -/
def State.loadPack (s : State) (p a : Nat) (h : ImgHdr) (words : Tab Word64) (segs : List SegEnt) : State :=
  let keep := (s.seq p).words.filter (fun (x : Nat × Word64) => decide (h.seqCount ≤ x.1))
  let t := s.setSeq p { s.seq p with words := words ++ keep, segs := segs, dataBase := a + h.dataOff }
  let t := t.forEach (List.range (8 * h.fmtCount)) (fun i u =>
    u.wr ((Region.format p).base + 32 * h.fmtFirst + 4 * i) (s.dramWord (a + h.fmtOff + 4 * i)))
  let pins := (segs.filter (·.pin)).length
  ((((t.set (F.SEQ_STATUS_LOADED p) 1).set (F.SEQ_IMAGE_SEQ_COUNT p) h.seqCount).set (F.SEQ_IMAGE_SEG_COUNT p) h.segCount).set
    (F.SEQ_CACHE_LOOP_CAPACITY p) (65536 - 512 * pins)).set (F.SEQ_CACHE_PINNED p) pins

/-- Is a start waiting in pack p? -/
def State.startWaits (s : State) (p : Nat) : Bool := s.groups.any (fun g => g.packs.contains p && !g.running)

/-- PAT_LOAD (R130, R134). Under FREEZE it waits (R364). -/
def execPatLoad (h : CmdHdr) (pl : List Word) (s : State) : Out :=
  .next (s.cmd 0x30 h pl (fun s =>
    let ps := packsOf (word pl 0)
    let a := word pl 1 + 2 ^ 32 * word pl 2
    if ps.isEmpty then s.done h .ok
    else if ps.any (fun p => s.packMuzzled p) then s.done h .muzzled
    else if ps.any (fun p => s.seqRun p || s.startWaits p) then s.done h .busy
    else if bit s.fences 40 then s.done h .internal
    else if s.frozen then s.cmdAgain h
    else match s.checkImage a with
      | .error st => s.done h st
      | .ok (hd, words, segs) => (s.forEach ps (fun p t => t.loadPack p a hd words segs)).done h .ok))

/-! ## Starts (R131) -/

/-- The checks of a start, each over every named pack before the next. -/
def State.startCheck (s : State) (ps : List Nat) (seg : Nat) : Option Status :=
  if s.stopped then some .badState
  else if ps.any (fun p => s.packMuzzled p) then some .muzzled
  else if ps.any (fun p => !s.flag (F.SEQ_STATUS_LOADED p)) then some .badState
  else if ps.any (fun p => decide (s.get (F.SEQ_IMAGE_SEG_COUNT p) ≤ seg)) then some .badAddress
  else if ps.any (fun p => s.seqRun p || s.startWaits p) then some .busy
  else if ps.any (fun p => (List.range 32).any (fun c =>
      (s.role (32 * p + c) == 1 || s.role (32 * p + c) == 2) && s.pmuMode (32 * p + c) != 0)) then some .badState
  else none

/-- Form a start group: the streamers begin to fetch from the segment's first record. -/
def State.startGroup (s : State) (o : Owner) (ps : List Nat) (seg start : Nat) : State :=
  let t := s.forEach ps (fun p t =>
    let q := t.seq p
    let q := { q with
      pc := (q.ent seg).start
      ctrs := [0, 0, 0, 0]
      lpbAt := [0, 0, 0, 0]
      posAt := [0, 0, 0, 0]
      later := [false, false, false, false]
      stack := []
      cacheLevel := none
      cache := []
      cpos := 0
      head := []
      rptDone := 0
      rptRec := 0
      back := false
      pass := 0
      seg := seg
      segBeat := 0
      chosen := none
      jumped := false
      latch := none
      host := none
      taken := none
      wait := none
      nextBeat := 0
      trimAt := 0
      holding := false
      events := []
      prefetch := [] }
    t.putSeq p { q with cursor := q.settleCursor q.fuel (0, seg, 0) })
  ({ t with groups := t.groups ++ [{ owner := o, packs := ps, seg := seg, startTime := start, left := ps }] } : State).deferNote

/-- PAT_START (R131). -/
def execPatStart (h : CmdHdr) (pl : List Word) (s : State) : Out :=
  .next (s.cmd 0x31 h pl (fun s =>
    let ps := packsOf (word pl 0)
    if ps.isEmpty then s.done h .ok
    else match s.startCheck ps (word pl 1) with
      | some st => s.done h st
      | none => s.startGroup (.cmd h) ps (word pl 1) (word pl 2 + 2 ^ 32 * word pl 3)))

/-- Remove a waiting group and answer its owner. -/
def State.dropGroup (s : State) (g : StartGroup) (st : Status) : State :=
  let t := { s with groups := s.groups.filter (fun x => x != g) }
  let t := t.forEach g.packs (fun p u => (u.set (F.PK_STATUS_START_DEFERRED p) 0).putSeq p { u.seq p with prefetch := [], cursor := none })
  t.answer g.owner st 0 []

/-- Is pack p's prefetch buffer full, or does it hold every record up to an END (R131)? -/
def State.primed (s : State) (p : Nat) : Bool :=
  (s.seq p).cursor.isNone || decide (32768 ≤ (s.seq p).prefetch.length)

/-- The streamer's priming (R131): it reads on until pack p is primed, up to a record on a muzzled
pseudo-channel; under FREEZE it waits (R364). -/
def State.primeFill (s : State) (p : Nat) : Nat → State
  | 0 => s
  | f + 1 =>
    match (s.seq p).cursorAddr with
    | none => s
    | some a =>
      if (s.seq p).prefetch.length < 32768 ∧ s.frozen = false ∧ s.touchesMuzzledPc a 32 = false then (s.fetchRecord p).primeFill p f
      else s

/-- Can the pinned heads of pack p be loaded: does none lie on a pseudo-channel that gives the muzzle response (R131,
R361)? -/
def State.headsReady (s : State) (p : Nat) : Bool :=
  let q := s.seq p
  (List.range q.segs.length).all (fun g => !(q.ent g).pin
    || !s.frozen && !s.touchesMuzzledPc (q.dataBase + 32 * (q.ent g).data) (32 * min 512 (q.ent g).records))

/-- The records of every pinned head. -/
def State.pinnedHeads (s : State) (q : SeqState) : List (Nat × List Nat) :=
  ((List.range q.segs.length).filter (fun g => (q.ent g).pin)).map (fun g =>
    (g, (List.range (min 512 (q.ent g).records)).map (fun i => s.dramNat (q.dataBase + 32 * ((q.ent g).data + i)) 32)))

/-- An arm condition occurs: the TMU notes it when it waits for one of that ARM_MODE (R201). -/
def State.armEvent (s : State) (t mode : Nat) (line : Option Nat) : State :=
  let u := Tab.get {} s.tmus t
  if u.phase = .waiting ∧ s.get (F.TMU_CTL_ARM_MODE t) = mode
      ∧ (match line with | none => true | some l => s.get (F.TMU_CTL_ARM_LINE t) == l) = true then
    { s with tmus := Tab.put {} s.tmus t { u with armSeen := true } }
  else s

/-- Pack p begins beat 0 of a pattern on device-time tick T; a timing-set swap pending in the idle pack takes effect
before it (R369). -/
def State.beginPack (s : State) (p seg tick : Nat) : State :=
  let s := s.swapDue p
  let q := s.seq p
  let t := (s.trimAll p).captureStart p
  let t := t.putSeq p { q with
    heads := s.pinnedHeads q
    boundary := 4 * tick
    lastStart := 4 * tick
    passAt := 4 * tick }
  let t := t.forEach (List.range 32) (fun c u =>
    let n := 32 * p + c
    u.setChan n { u.chan n with
      drive := if u.flag (F.CH_CTL_IDLE_TERM n) then .term else .z
      repeats := false
      loadOn := false
      actsFrom := 0 })
  let t := ((((t.wr64 (R.SEQ_BEAT_LO p) 0).wr (R.SEQ_SEG_BEAT p) 0).wr (R.SEQ_HOLD_CNT p) 0).wr (R.SEQ_HOLD_EVT p) 0)
  let t := ((((t.set (F.SEQ_STATUS_MATCH_TO p) 0).set (F.SEQ_STATUS_SEGMENT p) seg).set (F.PK_STATUS_SEQ_RUN p) 1).set
    (F.PK_STATUS_START_DEFERRED p) 0)
  let t := t.forEach (List.range 4) (fun j u => u.armEvent (4 * p + j) 1 none)
  t.lifeMark p 0x10 0 0 tick

/-- PATTERN_BEGIN (R131): the pinned heads are loaded and the streamers have primed every pack; when no die defers, the packs of the group
begin on the first tick at or after START_TIME; a START_TIME that has passed ends the start. -/
def execPatternBegin (p : Pack) (s : State) : Out :=
  .next (
    match s.groups.find? (fun g => g.packs.contains (p : Nat) && !g.running) with
    | none => s
    | some g =>
      if g.startTime ≠ 0 ∧ g.startTime < s.time then
        s.dropGroup g (if g.deferred then .thermal else .timeout)
      else if s.flag F.HK_STATUS_DEFER then s.deferNote
      else
        let s := s.forEach g.packs (fun q u => u.primeFill q 32768)
        if g.packs.all (fun q => s.primed q && s.headsReady q) = false then s
        else
        let tick := if g.startTime = 0 then s.time + 1 else g.startTime
        let t := { s with time := tick, groups := s.groups.map (fun x => if x = g then { x with running := true } else x) }
        t.forEach g.packs (fun q u => u.beginPack q g.seg tick))

/-! ## Stops, jumps, pauses -/

/-- Set END_REASON of every pack of a list. -/
def State.setReasons (s : State) (ps : List Nat) (r : Nat) : State :=
  s.forEach ps (fun p t => t.set (F.SEQ_STATUS_END_REASON p) r)

/-- Cancel every waiting start that names a pack of the list (R132). -/
def State.cancelStarts (s : State) (ps : List Nat) (st : Status) (reason cause : Nat) : State :=
  s.forEach (s.groups.filter (fun g => !g.running && g.packs.any (fun p => ps.contains p))) (fun g t =>
    let t := (t.setReasons g.packs reason).untest (t.sitesOfGroup (packMask g.packs)) cause
    t.dropGroup g st)

/-- PAT_STOP (R130, R132). -/
def execPatStop (h : CmdHdr) (pl : List Word) (s : State) : Out :=
  .next (s.cmd 0x32 h pl (fun s =>
    let ps := packsOf (word pl 0)
    let t := s.cancelStarts ps .partialDone 5 9
    (t.forEach ps (fun p u => u.abortPack p .partialDone 5 (some 9))).done h .ok))

/-- Why a host jump request cannot be made on a pack (R125). -/
def State.jumpRefused (s : State) (p seg : Nat) : Option Status :=
  if !s.seqRun p then some .badState
  else if s.get (F.SEQ_IMAGE_SEG_COUNT p) ≤ seg then some .badAddress
  else if !((s.seq p).ent seg).pin then some .badState
  else if (s.seq p).host.isSome then some .busy
  else none

/-- A host jump request registers at the pack's next boundary: late when the running pass has chosen
already (R123). -/
def State.requestJump (s : State) (h : CmdHdr) (p seg : Nat) : State :=
  match s.jumpRefused p seg with
  | some st => s.jumpSettle h p false (some st)
  | none =>
    (s.setSeq p { s.seq p with host := some ⟨h, seg, (s.seq p).chosen.isSome⟩ }).jumpRegs p

/-- PAT_JUMP (R130): each named pack takes the request at its own decision point. -/
def execPatJump (h : CmdHdr) (pl : List Word) (s : State) : Out :=
  .next (s.cmd 0x33 h pl (fun s =>
    let ps := packsOf (word pl 0)
    if ps.isEmpty then s.done h .ok
    else
      let t := { s with jumpCmds := s.jumpCmds ++ [(⟨h, ps, false, []⟩ : JumpCmd)] }
      t.forEach ps (fun p u => u.requestJump h p (word pl 1))))

/-- PAT_PAUSE (R130). -/
def execPatPause (h : CmdHdr) (pl : List Word) (s : State) : Out :=
  .next (s.cmd 0x34 h pl (fun s =>
    let ps := packsOf (word pl 0)
    if ps.isEmpty then s.done h .ok
    else if ps.any (fun p => !s.seqRun p) then s.done h .badState
    else
      let t := s.forEach ps (fun p u => u.set (F.SEQ_CTL_PAUSE p) 1)
      let left := ps.filter (fun p => !(s.flag (F.SEQ_CTL_PAUSE p) && (s.seq p).holding))
      if left.isEmpty then t.done h .ok
      else { t with pauses := t.pauses ++ [(⟨h, false, left⟩ : PauseWait)] }))

/-- PAT_RESUME (R130). -/
def execPatResume (h : CmdHdr) (pl : List Word) (s : State) : Out :=
  .next (s.cmd 0x35 h pl (fun s =>
    let ps := packsOf (word pl 0)
    if ps.isEmpty then s.done h .ok
    else if ps.any (fun p => !(s.flag (F.SEQ_CTL_PAUSE p) && (s.seq p).holding)) then s.done h .badState
    else
      let t := s.forEach ps (fun p u => u.set (F.SEQ_CTL_PAUSE p) 0)
      { t with pauses := t.pauses ++ [(⟨h, true, ps⟩ : PauseWait)] }))

/-! ## Timing-set swaps (R93, R57, R369) -/

/-- PERIOD of set t in the shadow copy. -/
def State.shadowPeriod (s : State) (p t : Nat) : Nat :=
  s.rd (R.TIM_PER_SH_LO p t) + 2 ^ 32 * s.get (F.TIM_PER_SH_HI p t)

/-- Are the enabled times of a list in order, each at least `gap` after the one before? -/
def spaced (gap : Nat) : List Nat → Bool
  | [] => true
  | [_] => true
  | x :: y :: l => decide (x + gap ≤ y) && spaced gap (y :: l)

/-- The enabled times of entries, in order. -/
def enabledTimes (es : List (Nat × Nat)) : List Nat := (es.filter edgeEn).map edgeTime

/-- A check of R93 over all sets and channels. -/
def forSets (f : Nat → Nat → Bool) : Bool :=
  (List.range 32).all (fun t => (List.range 32).all (fun c => f t c))

/-- Reserved bits of one entry are 0, and UI_COUNT of a D0 entry is 1 to 4. -/
def entryOk (e : Nat) (w : Nat × Nat) : Bool :=
  bits w.2 13 3 == 0 && bits w.2 19 13 == 0
    && (if e = 0 then decide (1 ≤ edgeUi w) && decide (edgeUi w ≤ 4) else edgeUi w == 0)

/-- The checks of R93 row by row, then the swing check of R57, on the shadow copy of pack p. -/
def State.swapCheck (s : State) (p : Nat) : Option Status :=
  let sh := shadowCopy p
  if !(forSets (fun t c => (List.range 8).all (fun e => entryOk e (s.edgeWords sh t c e)))
      && (List.range 32).all (fun t => decide (s.shadowPeriod p t ≤ 2 ^ 32))) then some .badOpcode
  else if (List.range 32).any (fun t => s.shadowPeriod p t == 0) then some .badState
  else if !forSets (fun t c => (enabledTimes (s.edges sh t c)).all (fun x => decide (x < 2 * s.shadowPeriod p t * 1250))) then
    some .badState
  else if !forSets (fun t c => spaced 300 (enabledTimes ((s.edges sh t c).take 4))) then some .badState
  else if !forSets (fun t c => c % 2 == 1 || !s.laneEnabled ((32 * p + c) / 2)
      || spaced 150 (enabledTimes ((List.range 8).map (fun i => s.edgeWords sh t (c + i % 2) (i / 2))))) then some .badState
  else if !forSets (fun t c =>
      let es := s.edges sh t c
      let w (a b : Nat) := !edgeEn (es.getD a (0, 0)) || !edgeEn (es.getD b (0, 0))
        || decide (edgeTime (es.getD a (0, 0)) ≤ edgeTime (es.getD b (0, 0)))
      w 4 5 && w 6 7) then some .badState
  else if !forSets (fun t c =>
      let n := 32 * p + c
      let swing := (s.chan n).levels.getD 0 0 - (s.chan n).levels.getD 1 0
      let ui := edgeUi (s.edgeWords sh t c 0)
      decide (swing ≤ swingFor (s.shadowPeriod p t) ui)
        && (!s.evenOfLane n || decide (swing ≤ laneSwingFor (s.shadowPeriod p t) ui))) then some .badState
  else none

/-- The first failure of the swap checks in pack order. -/
def State.firstSwapFailure (s : State) : List Nat → Option Status
  | [] => none
  | p :: ps =>
    match s.swapCheck p with
    | some st => some st
    | none => s.firstSwapFailure ps

/-- TSET_SWAP (R369): the checks, then the swap is pending in every named pack. -/
def execTsetSwap (h : CmdHdr) (pl : List Word) (s : State) : Out :=
  .next (s.cmd 0x36 h pl (fun s =>
    let ps := packsOf (word pl 0)
    if ps.isEmpty then s.done h .ok
    else if ps.any (fun p => s.packMuzzled p) then s.done h .muzzled
    else if ps.any (fun p => (Tab.get none s.tsetSwaps p).isSome) then s.done h .busy
    else match s.firstSwapFailure ps with
      | some st => s.done h st
      | none =>
        let t := s.forEach ps (fun p u =>
          let w : TsetSwap := ⟨bit (word pl 1) 0, max (4 * s.time) (s.seq p).lastStart + 256⟩
          { u with tsetSwaps := Tab.put none u.tsetSwaps p (some w) })
        { t with swapCmds := t.swapCmds ++ [(⟨h, false, ps⟩ : PauseWait)] }))

/-- TSET_SWAP_WRAP (R369): a pending swap takes effect at the pack's wrap. -/
def execTsetSwapWrap (p : Pack) (s : State) : Out := .next (s.swapDue p)

/-- Are writes to the shadow copy of pack p refused because a swap is pending (R368)? -/
def State.swapPending (s : State) (p : Nat) : Bool := (Tab.get none s.tsetSwaps p).isSome

/-- A write of SEQ_CTL, SEQ_HOLD_CFG or SEQ_HOLD_LOW (R138). -/
def writeSeqPlain (p o v : Nat) (s : State) : Res :=
  let a := (Block.packUnit p 0).base + o
  if o = 0xC ∧ 32768 < v % 2 ^ 16 then .error .badOpcode else .ok (s.store a v)

/-- The targets of pack p's channels are their path values plus DRIFT_CORR; an idle pack takes them at once
(R105, R106). DESIGN CHOICE: a sum below 0 is held at 0 (assumption 140). -/
def State.setTargets (s : State) (p : Nat) : State :=
  let corr := s.getI (F.TIM_ALIGN_TEMP_DRIFT_CORR p)
  let t := s.forEach (List.range 32) (fun c u =>
    let v := Tab.get {} s.paths (32 * p + c)
    (u.set (F.TIM_CHA_DRV_TD_TARGET p c) ((v.td : Int) + corr).toNat).set (F.TIM_CHA_CMP_TC_TARGET p c)
      ((v.tc : Int) + corr).toNat)
  if s.seqRun p then t.trimRefresh p else t.trimAll p

/-- A write of a timing register (R108, R109). -/
def writeTimPlain (p o v : Nat) (s : State) : Res :=
  let a := (Block.packUnit p 1).base + o
  if o = 0x8 ∧ ¬ (17500 ≤ bits v 0 16 ∧ bits v 0 16 ≤ 30000) then .error .badOpcode
  else if o = 0xC ∧ bits v 16 16 < bits v 0 16 then .error .badOpcode
  else if 0x100 ≤ o ∧ o < 0x200 ∧ s.swapPending p = true then .error .busy
  else if o = 0 ∧ bit v 0 = false ∧ s.flag (F.TIM_CTL_DRIFT_EN p) = true then
    .ok (((s.store a v).set (F.TIM_ALIGN_TEMP_DRIFT_CORR p) 0).setTargets p)
  else .ok (s.store a v)

end Sys2Proof.Machine
end

