-- ==== Sys2Proof/Machine/Tmu.lean ====
section
/-! DEFINITION. The time-interval units (08_time_interval_units.md): configuration checks, the
measurement sequence, the times computed from codes, ends and results; and the shots that a
self-alignment pass takes with them (R100, R212). -/

namespace Sys2Proof.Machine

/-- The hidden state of TMU t. -/
def State.tmu (s : State) (t : Nat) : TmuState := Tab.get {} s.tmus t

/-- Replace it. -/
def State.setTmu (s : State) (t : Nat) (u : TmuState) : State := { s with tmus := Tab.put {} s.tmus t u }

/-! ## Times from codes (R206) -/

/-- 1,024 × lin(x): the linearity table applied to a code. -/
def State.lin1024 (s : State) (t x : Nat) : Int :=
  let i := min (x / 64) 63
  let l0 := s.getI (F.TMU_LIN t i)
  let l1 := s.getI (F.TMU_LIN t (i + 1))
  1024 * (x : Int) + 64 * l0 + (l1 - l0) * ((x : Int) - 64 * (i : Int))

/-- num / den rounded to the nearest integer, halves away from zero; a quotient by 0, which the spec does not state,
is free (assumption 105). -/
def roundAway (num den : Int) : Int :=
  let (n, d) := if den < 0 then (-num, -den) else (num, den)
  if d = 0 then Config.overZero n
  else if 0 ≤ n then (2 * n + d) / (2 * d) else -((2 * (-n) + d) / (2 * d))

/-- The interval from edge a to edge b in femtoseconds, both referred to the tip as their corrections
say, under calibration codes c1 and c2 (R206). -/
def State.interval (s : State) (t c1 c2 : Nat) (a b : Edge) : Int :=
  let d := s.lin1024 t c2 - s.lin1024 t c1
  let coarse : Int := ((b.k : Int) - (a.k : Int)) * 1250000 + (a.tip : Int) - (b.tip : Int)
  roundAway (coarse * d - 1250000 * (s.lin1024 t b.code - s.lin1024 t a.code)) d

/-- The same under the codes of the latest calibration. -/
def State.tmuInterval (s : State) (t : Nat) (a b : Edge) : Int :=
  s.interval t (s.get (F.TMU_CAL_C1 t)) (s.get (F.TMU_CAL_C2 t)) a b

/-- Does a calibration pass the check of R205? -/
def tmuCalOk (c1 c2 : Nat) : Bool :=
  decide (1700 ≤ c1) && decide (c1 ≤ 2300) && decide (c1 + 1700 ≤ c2) && decide (c2 ≤ c1 + 2300)

/-- The fault of a rejected calibration (R213). -/
def State.calRange (s : State) (t : Nat) : State :=
  s.raiseOnce (F.TMU_STATUS_CAL_RANGE t) (packSrc (t / 4) (5 + t % 4)) cANALOG 0x01 t

/-! ## Configuration (R200, R201, R208, R211) -/

/-- Is a source code assigned (R199)? -/
def tmuSrcOk (c : Nat) : Bool := decide (c < 0x47) || (decide (0x48 ≤ c) && decide (c ≤ 0x4D))

/-- May a source and edge be selected by TMU t (R200)? -/
def State.tmuSelOk (s : State) (t c : Nat) (falling : Bool) : Bool :=
  tmuSrcOk c && (decide (c < 0x40) || !falling)
    && !(decide (c < 0x40) && c % 2 == 1 && s.laneEnabled ((32 * (t / 4) + c % 32) / 2))

/-- The device channel of a channel source of TMU t. -/
def tmuChan (t c : Nat) : Option Nat := if c < 0x40 then some (32 * (t / 4) + c % 32) else none

/-- The channels a measurement of TMU t names. -/
def State.tmuChans (s : State) (t : Nat) : List Nat := (s.tmuSources t).filterMap (tmuChan t)

/-- Is an edge one of the start source, or of the stop source, of TMU t (R199)? -/
def State.isStart (s : State) (t : Nat) (e : TmuEdgeObs) : Bool :=
  e.src.toNat == s.get (F.TMU_SRC_START_SRC t) && e.falling == s.flag (F.TMU_SRC_START_EDGE t)
def State.isStop (s : State) (t : Nat) (e : TmuEdgeObs) : Bool :=
  e.src.toNat == s.get (F.TMU_SRC_STOP_SRC t) && e.falling == s.flag (F.TMU_SRC_STOP_EDGE t)

/-- The time in femtoseconds after the arm of an edge that the TMU makes itself: CALGEN A, CALGEN B, the arm
moment (R199). -/
def State.ownTime (s : State) (t src : Nat) : Option Nat :=
  match src with
  | 0x4A => some 20000000
  | 0x4B => some (20000000 + 156250 * s.get (F.TMU_CALGEN t))
  | 0x4D => some 0
  | _ => none

/-- Has an edge occurred as far as the block knows: a channel's comes from the pad, the 100 MHz reference always runs, and
another of the block's own sources must have an edge that is still to be timed, whose charge ends at the second
following clock edge? -/
def State.edgeOccurs (s : State) (t : Nat) (e : TmuEdgeObs) : Bool :=
  decide (e.src.toNat < 0x40) || e.src == 0x4C ||
    ((s.tmu t).due.contains e.src.toNat && (s.ownTime t e.src.toNat).all (fun x =>
      e.k == x / 1250000 + 1 || e.k == x / 1250000 + 2))

/-- A write of a TMU register other than TMU_GO, offset o of the TMU (R200, R201, R208, R211, R215). -/
def writeTmuPlain (t o v : Nat) (s : State) : Res :=
  let a := R.TMU_CTL t + o
  if o < 0x28 ∧ s.flag (F.TMU_STATUS_BUSY t) then .error .busy
  else if o = 0 ∧ (bits v 0 2 = 3 ∨ bits v 3 2 = 3 ∨ bits v 5 3 = 7 ∨ 16 < bits v 8 5) then .error .badOpcode
  else if o = 4 ∧ ¬ (s.tmuSelOk t (bits v 0 8) (bit v 8) && s.tmuSelOk t (bits v 16 8) (bit v 24)) = true then
    .error .badOpcode
  else .ok (s.store a v)

/-! ## Ends (R204, R210) -/

/-- The status of a measurement command by END code (R210). -/
def tmuStatus : Nat → Status
  | 1 => .ok
  | 2 => .timeout
  | 3 => .partialDone
  | 4 => .muzzled
  | 5 => .calRejected
  | _ => .internal

/-- The words of the result block, +0x040 to +0x0E4. -/
def State.tmuBlock (s : State) (t : Nat) : List Word :=
  (List.range 42).map (fun i => BitVec.ofNat 32 (s.rd (R.TMU_RES_HDR t + 4 * i)))

/-- The words of stop k: its interval, or all ones when it was not taken. -/
def State.putStops (s : State) (t : Nat) (l : List Int) : State :=
  s.forEach (List.range 16) (fun k u =>
    u.wr64 (R.TMU_STOP_LO t k) (match l[k]? with
      | some x => unsigned 64 x
      | none => 2 ^ 64 - 1))

/-- The 64-bit HISTOGRAM entry of an interval; all ones for a missing stop (R209). -/
def histEntry : Option Int → Nat
  | some x => unsigned 61 x
  | none => 2 ^ 64 - 1

/-- Capture writer p writes the next burst of a HISTOGRAM buffer, padded with all-ones entries (R209); nothing where the
burst lies on a muzzled pseudo-channel. -/
def State.histBurst (s : State) (t : Nat) (l : List Nat) : State :=
  let u := s.tmu t
  let a := 64 * (s.get (F.TMU_BUF_BASE t) + u.bursts)
  let w := if s.touchesMuzzledPc a 64 then s
    else s.forEach (List.range 8) (fun k w => w.putDramNat (a + 8 * k) 8 (l.getD k (2 ^ 64 - 1)))
  w.setTmu t { u with bursts := u.bursts + 1, entries := [] }

/-- An entry joins its burst, which goes out when it is full. -/
def State.histPut (s : State) (t x : Nat) : State :=
  let u := s.tmu t
  let l := u.entries ++ [x]
  if l.length < 8 then s.setTmu t { u with entries := l } else s.histBurst t l

/-- The last burst goes out padded. -/
def State.histFlush (s : State) (t : Nat) : State :=
  let l := (s.tmu t).entries
  if l.isEmpty then s else s.histBurst t l

/-- A measurement ends with a code and a command status: the result block is replaced, END and DONE are
set, BUSY clears, and whoever waits is answered. -/
def State.finishTmuAs (s : State) (t code : Nat) (st : Status) : State :=
  let u := s.tmu t
  let mode := s.get (F.TMU_CTL_MODE t)
  let seq := s.get (F.TMU_RES_TRL t)
  let ivs : List Int := match u.start with
    | some a => if mode = 1 then [] else u.stops.map (fun b => s.tmuInterval t a b)
    | none => []
  let tip := s.flag (F.TMU_CTL_TIP_REF t) && !(s.tmuChans t).isEmpty && u.start.isSome
    && (!ivs.isEmpty || (mode == 1 && u.last.isSome))
  let span : Int := match u.start, u.last with
    | some a, some b => if mode = 1 then s.tmuInterval t a b else 0
    | _, _ => 0
  let w := s.putStops t ivs
  let w := (((((w.set (F.TMU_RES_HDR_MEAS_SEQ t) (seq + 1)).set (F.TMU_RES_TRL t) (seq + 1)).set
    (F.TMU_RES_HDR_STOPS_SEEN t) ivs.length).set (F.TMU_RES_HDR_END t) code).setB (F.TMU_RES_HDR_TIP_APPLIED t) tip)
  let w := w.wr64 (R.TMU_START_DT_LO t) (match u.start with | some a => a.tick | none => 0)
  let w := (w.wr64 (R.TMU_COUNT_LO t) (if mode = 1 then u.count else if mode = 2 then u.done else 0))
  let w := (w.wr64 (R.TMU_SPAN_LO t) (if mode = 1 then unsigned 64 span else if mode = 2 then u.missing else 0))
  let w := w.wr64 (R.TMU_PERIOD_LO t) (if mode = 1 ∧ u.count ≠ 0 then unsigned 64 (roundAway span u.count) else 0)
  let w := (((w.set (F.TMU_STATUS_DONE t) 1).set (F.TMU_STATUS_BUSY t) 0).histFlush t).setTmu t {}
  match u.owner with
  | none => w
  | some o => w.answer o st 0 (w.tmuBlock t)

/-- A measurement ends with a code and the status R210 gives it. -/
def State.finishTmu (s : State) (t code : Nat) : State := s.finishTmuAs t code (tmuStatus code)

/-- End a running measurement at once. -/
def State.abortTmu (s : State) (t code : Nat) (st : Status) : State :=
  if s.tmuBusy t then s.finishTmuAs t code st else s

/-! ## Start (R200, R204, R209, R211) -/

/-- Why GO is refused, if it is. -/
def State.tmuGoRefused (s : State) (t : Nat) : Option Status :=
  let n := s.get (F.TMU_NREP t) * s.get (F.TMU_CTL_NSTOPS t)
  if s.tmuBusy t || s.flag (F.TMU_STATUS_TDR_OWNED t) then some .busy
  else if s.stopped then some .badState
  else if s.tmuMuzzled t || (s.tmuChans t).any (fun c => s.chanMuzzled c) then some .muzzled
  else if (s.tmuChans t).any (fun c => s.pmuMode c != 0) then some .badState
  else if s.get (F.TMU_CTL_MODE t) = 2 ∧ 64 * s.get (F.TMU_BUF_SIZE t) < 8 * n then some .badLength
  else if s.get (F.TMU_CTL_MODE t) = 2 ∧ 2 ^ 35 < 64 * (s.get (F.TMU_BUF_BASE t) + s.get (F.TMU_BUF_SIZE t)) then
    some .badAddress
  else none

/-- GO: BUSY, MEAS_SEQ and CLOSE_CNT; a TMU_LIN task on the TMU ends (R434); a HISTOGRAM of no
measurement ends at once (R208). MEAS_SEQ of the result block takes the new number at the end. -/
def State.tmuStart (s : State) (t : Nat) (o : Option Owner) : State :=
  let w := (s.set (F.TMU_STATUS_BUSY t) 1).wr (R.TMU_CLOSE_CNT t) 0
  let w := { w with calTasks := w.calTasks.map (fun (k : CalTask) => if k.task = 5 then { k with units := k.units.filter (· != t) } else k) }
  let w := if s.calTasks.isEmpty then w else w.linSettle
  let w := w.setTmu t { phase := .calibrating, owner := o }
  if s.get (F.TMU_CTL_MODE t) = 2 ∧ s.get (F.TMU_NREP t) = 0 then w.finishTmu t 1 else w

/-- A write of TMU_GO (R204, R210, R211). -/
def writeTmuGo (t v : Nat) (o : Option Owner) (s : State) : Res :=
  if bit v 0 then
    match s.tmuGoRefused t with
    | some st => .error st
    | none => .ok (s.tmuStart t o)
  else if bit v 1 then .ok (s.abortTmu t 3 .partialDone)
  else .ok s

/-- TMU_GO (R204): a write of TMU_GO. -/
def execTmuGo (_ : Origin) (t : TmuId) (value : Word) (s : State) : Out :=
  .next (s.respond (s.guarded (R.TMU_GO t) (writeTmuGo t value.toNat none)))

/-- TMU_ABORT_BIT (R210): a write of TMU_GO with ABORT. -/
def execTmuAbortBit (_ : Origin) (t : TmuId) (value : Word) (s : State) : Out :=
  .next (s.respond (s.guarded (R.TMU_GO t) (writeTmuGo t value.toNat none)))

/-! ## Shots of a pass (R100, R212) -/

/-- The channel TMU j of the pack measures now in a pass. -/
def AlignPass.current (a : AlignPass) (j : Nat) : Option Nat := (a.todo.getD j []).head?

/-- A shot of TMU j ends with a round trip in femtoseconds, or with no reflection; after SHOTS shots its
next channel follows. -/
def AlignPass.shot (a : AlignPass) (shots j : Nat) (r : Option Int) : AlignPass :=
  match a.current j with
  | none => a
  | some c =>
    let x := Tab.get {} a.shots c
    let x := match r with
      | some v => { x with n := x.n + 1, sum := x.sum + v }
      | none => { x with n := x.n + 1, noRef := true }
    { a with
      shots := Tab.put {} a.shots c x
      starts := Tab.put none a.starts j none
      cals := Tab.put none a.cals j none
      todo := if shots ≤ x.n then a.todo.set j ((a.todo.getD j []).drop 1) else a.todo }

/-- An edge of a shot of the channel the TMU measures (R100): its L result falling is the start, its H result rising at
least 200 ps later the stop that gives the round trip (R202, R212). -/
def State.passEdge (s : State) (p j : Nat) (a : AlignPass) (e : TmuEdgeObs) : State :=
  match Tab.get none a.cals j, a.current j with
  | none, _ => s
  | _, none => s
  | some (c1, c2), some c =>
    match Tab.get none a.starts j with
    | none =>
      if e.src.toNat ≠ 0x20 + c ∨ e.falling = false then s else s.setPass p (some { a with starts := Tab.put none a.starts j (some (e.k, e.code.toNat)) })
    | some (k, x) =>
      let r := s.interval (4 * p + j) c1 c2 ⟨k, x, 0, 0⟩ ⟨e.k, e.code.toNat, 0, 0⟩
      if e.src.toNat = c ∧ e.falling = false ∧ 200000 ≤ r then
        s.setPass p (some (a.shot (s.get (F.TIM_TDR_CFG_SHOTS p)) j (some r)))
      else s

/-! ## The measurement sequence -/

/-- TMU_CALIBRATION (R205): the codes are shown; an accepted calibration lets the TMU arm, a rejected one
ends the measurement and reports. A shot of a pass whose calibration is rejected has no reflection. -/
def execTmuCalibration (t : TmuId) (c1 c2 : BitVec 12) (s : State) : Out :=
  .next (
    let p := (t : Nat) / 4
    let j := (t : Nat) % 4
    let show_ (u : State) := (u.set (F.TMU_CAL_C1 t) c1.toNat).set (F.TMU_CAL_C2 t) c2.toNat
    if s.flag (F.TMU_STATUS_TDR_OWNED t) then
      match s.pass p with
      | none => s
      | some a =>
        if a.settled && (a.current j).isSome && (Tab.get none a.cals j).isNone then
          if tmuCalOk c1.toNat c2.toNat then
            (show_ s).setPass p (some { a with cals := Tab.put none a.cals j (some (c1.toNat, c2.toNat)) })
          else ((show_ s).calRange t).setPass p (some (a.shot (s.get (F.TIM_TDR_CFG_SHOTS p)) j none))
        else s
    else if (s.tmu t).phase = .calibrating then
      let w := show_ s
      if tmuCalOk c1.toNat c2.toNat then w.setTmu t { s.tmu t with phase := .waiting }
      else (w.calRange t).finishTmu t 5
    else s)

/-- TMU_ARM (R199, R201, R202): at the end of the calibration, or once the arm condition has occurred; the
later measurements of a HISTOGRAM arm at once (R208). The arm moment and the CALGEN edges that follow it are edges of
the TMU's own. -/
def execTmuArm (t : TmuId) (s : State) : Out :=
  .next (
    let u := s.tmu t
    if u.phase = .waiting ∧ (s.get (F.TMU_CTL_ARM_MODE t) = 0 ∨ u.armSeen = true ∨ 0 < u.done) then
      (s.setTmu t { u with phase := .armed, armSeen := false }).forEach [0x4A, 0x4B, 0x4D] (fun c w => w.ownEdge t c)
    else s)

/-- The tip correction of an edge: 500 × TC_APPLIED of its channel when TIP_REF is 1 (R206). -/
def State.tipOf (s : State) (t src : Nat) : Nat :=
  match tmuChan t src with
  | some n => if s.flag (F.TMU_CTL_TIP_REF t) then 500 * s.tcOf (n / 32) (n % 32) else 0
  | none => 0

/-- A qualifying edge of INTERVAL or HISTOGRAM (R202). -/
def State.takeEdge (s : State) (t : Nat) (u : TmuState) (e : TmuEdgeObs) : State :=
  match u.start with
  | none =>
    if !s.isStart t e then s
    else if u.startSkipped < s.get (F.TMU_SKIP_START_SKIP t) then
      s.setTmu t { u with startSkipped := u.startSkipped + 1 }
    else
      let a : Edge := ⟨e.k, e.code.toNat, e.tick.toNat, s.tipOf t (s.get (F.TMU_SRC_START_SRC t))⟩
      s.setTmu t { u with
        start := some a
        phase := if s.get (F.TMU_CTL_NSTOPS t) = 0 then .converting 1 else .armed }
  | some a =>
    if !s.isStop t e then s
    else
      let b : Edge := ⟨e.k, e.code.toNat, e.tick.toNat, s.tipOf t (s.get (F.TMU_SRC_STOP_SRC t))⟩
      let raw (x y : Edge) : Int := s.tmuInterval t { x with tip := 0 } { y with tip := 0 }
      let close := decide (raw a b < 200000) || (match u.stops.getLast? with
        | some c => decide (raw c b < 2500000)
        | none => false)
      if close then s.bump (F.TMU_CLOSE_CNT t)
      else if u.stopSkipped < s.get (F.TMU_SKIP_STOP_SKIP t) then s.setTmu t { u with stopSkipped := u.stopSkipped + 1 }
      else
        let stops := u.stops ++ [b]
        s.setTmu t { u with
          stops := stops
          phase := if s.get (F.TMU_CTL_NSTOPS t) ≤ stops.length then .converting 1 else .armed }

/-- A qualifying edge of FREQ (R208): edge 0 after START_SKIP edges, then every edge in the gate. -/
def State.freqEdge (s : State) (t : Nat) (u : TmuState) (e : TmuEdgeObs) : State :=
  let b : Edge := ⟨e.k, e.code.toNat, e.tick.toNat, s.tipOf t (s.get (F.TMU_SRC_STOP_SRC t))⟩
  if s.isStop t e then
    match u.start with
    | none =>
      if u.startSkipped < s.get (F.TMU_SKIP_START_SKIP t) then s.setTmu t { u with startSkipped := u.startSkipped + 1 }
      else s.setTmu t { u with start := some b }
    | some _ => s.setTmu t { u with count := u.count + 1, last := some b }
  else s

/-- TMU_EDGE (R199, R202, R208): an edge reaches an armed TMU, or a TMU that takes a shot of a pass. -/
def execTmuEdge (t : TmuId) (e : TmuEdgeObs) (s : State) : Out :=
  .next (
    let p := (t : Nat) / 4
    if s.flag (F.TMU_STATUS_TDR_OWNED t) then
      match s.pass p with
      | none => s
      | some a => s.passEdge p ((t : Nat) % 4) a e
    else
      let u := s.tmu t
      if u.phase = .armed ∧ s.edgeOccurs t e = true then
        let u := { u with due := u.due.erase e.src.toNat }
        let s := s.setTmu t u
        if s.get (F.TMU_CTL_MODE t) = 1 then s.freqEdge t u e else s.takeEdge t u e
      else s)

/-- TMU_TIMEOUT (R203, R208): the start or the last stop has not come by the end of period TIMEOUT; in
FREQ it applies to edge 0 only. -/
def execTmuTimeout (t : TmuId) (s : State) : Out :=
  .next (
    let u := s.tmu t
    if u.phase = .armed ∧ (s.get (F.TMU_CTL_MODE t) ≠ 1 ∨ u.start = none) then
      s.setTmu t { u with phase := .converting 2 }
    else s)

/-- FREQ_GATE_CLOSE (R208): the gate closes GATE coarse periods after edge 0. -/
def execFreqGateClose (t : TmuId) (s : State) : Out :=
  .next (
    let u := s.tmu t
    if u.phase = .armed ∧ s.get (F.TMU_CTL_MODE t) = 1 ∧ u.start ≠ none then
      s.setTmu t { u with phase := .converting 1 }
    else s)

/-- A HISTOGRAM measurement ends: its entries join their bursts, and the next follows until NREP are done (R208,
R209). -/
def State.histEnd (s : State) (t : Nat) (u : TmuState) : State :=
  let n := s.get (F.TMU_CTL_NSTOPS t)
  let base := 64 * s.get (F.TMU_BUF_BASE t)
  let ivs : List Int := match u.start with
    | some a => u.stops.map (fun b => s.tmuInterval t a b)
    | none => []
  if s.touchesMuzzledPc base (64 * s.get (F.TMU_BUF_SIZE t)) then s.finishTmu t 4
  else
    let w := s.forEach (List.range n) (fun k w => w.histPut t (histEntry ivs[k]?))
    let u' := { w.tmu t with
      done := u.done + 1
      missing := if ivs.length < n then u.missing + 1 else u.missing }
    if u'.done < s.get (F.TMU_NREP t) then
      w.setTmu t { u' with
        phase := .calibrating
        startSkipped := 0
        stopSkipped := 0
        start := none
        stops := []
        due := [] }
    else (w.setTmu t u').finishTmu t 1

/-- TMU_MEAS_END (R204, R209, R210): the conversions are done. -/
def execTmuMeasEnd (t : TmuId) (s : State) : Out :=
  .next (
    let u := s.tmu t
    match u.phase with
    | .converting c => if s.get (F.TMU_CTL_MODE t) = 2 then s.histEnd t u else s.finishTmu t c
    | _ => s)

/-! ## The commands -/

/-- The register images of TMU_MEASURE in order: TMU_CTL to TMU_CALGEN. -/
def tmuImages (t : Nat) (pl : List Word) : List (State → Res) :=
  (List.range 10).map (fun i => fun s => s.guarded (R.TMU_CTL t + 4 * i) (writeTmuPlain t (4 * i) (word pl (i + 1))))

/-- Write a TMU's configuration and GO on behalf of an owner (R310). -/
def State.tmuRun (s : State) (t : Nat) (pl : List Word) (o : Owner) : State × Option Status :=
  runWrites (tmuImages t pl ++ [fun u => u.guarded (R.TMU_GO t) (writeTmuGo t 1 (some o))]) s

/-- TMU_MEASURE (R310). -/
def execTmuMeasure (h : CmdHdr) (pl : List Word) (s : State) : Out :=
  .next (s.cmd 0x51 h pl (fun s =>
    if s.stopped then s.done h .badState
    else match s.tmuRun (word pl 0) pl (.cmd h) with
    | (t, some st) => t.done h st
    | (t, none) => t))

/-- TMU_ABORT (R310): completes at once; a running measurement ends ABORTED. -/
def execTmuAbort (h : CmdHdr) (pl : List Word) (s : State) : Out :=
  .next (s.cmd 0x52 h pl (fun s => (s.abortTmu (word pl 0) 3 .partialDone).done h .ok))

end Sys2Proof.Machine
end

