-- ==== Sys2Proof/Machine/Psm.lean ====
section
/-! DEFINITION. The precision source-measure channels: output stage, modes, ramps, protections, waveform
and sine, monitoring converter, measurement and snapshots (09_precision_source_measure.md). -/

namespace Sys2Proof.Machine

/-- The hidden state of device PSM n. -/
def State.psm (s : State) (n : Nat) : PsmState := Tab.get {} s.psms n

/-- Replace it. -/
def State.setPsm (s : State) (n : Nat) (u : PsmState) : State := { s with psms := Tab.put {} s.psms n u }

/-- MODE (R217): 0 OFF, 1 FV, 2 FI, 3 MV. -/
def State.psmMode (s : State) (n : Nat) : Nat := s.get (F.PSM_CTL_MODE n)

/-- RANGE (R218). -/
def State.psmRange (s : State) (n : Nat) : Nat := s.get (F.PSM_CTL_RANGE n)

/-- One voltage code in units of 1/131,072 µV (R218). -/
def State.psmUnit (s : State) (n : Nat) : Int := if s.flag (F.PSM_CTL_GAIN n) then 5000000 else 2500000

/-- LEVEL as a code. -/
def State.psmLevel (s : State) (n : Nat) : Int := s.getI (F.PSM_LEVEL n)

/-- The code the output follows under SOURCE DC: LEVEL, and in Rest the REST_LEVEL of a PSM kept on (R457). -/
def State.psmTarget (s : State) (n : Nat) : Int :=
  if s.get F.GLB_REST_STATE = 2 ∧ s.flag (F.PSM_CTL_REST_KEEP n) = true then s.getI (F.PSM_REST n) else s.psmLevel n

/-- Fault source of a PSM (R249). -/
def psmSrc (n : Nat) : Nat := packSrc (n / 6) (9 + n % 6)

/-- Raise a PSM fault once (R249). -/
def State.psmRaise (s : State) (n : Nat) (bit : Ref) (cls kind : Nat) : State :=
  s.raiseOnce bit (psmSrc n) cls kind n

/-! ## The DAC and the deglitcher (R227) -/

/-- How many of the low `k` bits of x are 1. -/
def popcount (x : Nat) : Nat → Nat
  | 0 => 0
  | k + 1 => x % 2 + popcount (x / 2) k

/-- Is a code transition held: do at least four of bits [17:10] change? -/
def deglitches (o n : Int) : Bool :=
  decide (4 ≤ popcount ((unsigned 18 o ^^^ unsigned 18 n) / 2 ^ 10) 8)

/-- Commanded codes, newest first, kept for the longest CHK_LAG. -/
def pruneHist (t : Nat) : List (Nat × Int) → List (Nat × Int)
  | [] => []
  | (a, c) :: l => if a + 26300 < t then [(a, c)] else (a, c) :: pruneHist t l

/-- Does the deglitcher hold the output now? -/
def State.psmHolds (s : State) (n : Nat) : Bool :=
  match (s.psm n).held with
  | some h => decide (s.time < h.2)
  | none => false

/-- The code the output follows: the held one during a hold. -/
def State.psmOutCode (s : State) (n : Nat) : Int :=
  match (s.psm n).held with
  | some h => if s.time < h.2 then h.1 else (s.psm n).dac
  | none => (s.psm n).dac

/-- Does BOOST step the regulated node of PSM n: for 1 ms from the task's beginning (R428)? -/
def State.boostSteps (s : State) (n : Nat) : Bool :=
  s.calTasks.any (fun k => k.task == 7 && k.units.contains n && decide (s.time < k.since + 400000))

/-- What PSM n forces in FV, in µV / 131,072: the DAC's code at the present GAIN, and 2 mV above it while BOOST steps it. -/
def State.psmForces (s : State) (n : Nat) : Int :=
  s.psmOutCode n * s.psmUnit n + (if s.boostSteps n then 2000 * 131072 else 0)

/-- Ball BSTj (R446, R492, R493). -/
inductive BstPin
  | pulledLow | drivenLow | gate
deriving DecidableEq, Repr

/-- How PSM 3j drives ball BSTj: pulled low through 100 kΩ without VAUX; the gate of the pass stage in RANGE 5 with the PSM on
(R246); driven low otherwise. -/
def State.bst (s : State) (j : Nat) : BstPin :=
  if s.vaux = false then .pulledLow
  else if s.dark = true ∨ (s.psm (3 * j)).stage = 0 ∨ s.psmRange (3 * j) ≠ 5 then .drivenLow
  else .gate

/-- A code reaches the DAC: a held transition keeps the output at its present value, which within a hold is the held
one (R227). -/
def State.psmDac (s : State) (n : Nat) (c : Int) : State :=
  let u := s.psm n
  if c = u.dac then s
  else s.setPsm n { u with
    dac := c
    held := if deglitches u.dac c then some (s.psmOutCode n, s.time + 12) else none
    hist := (s.time, c) :: pruneHist s.time u.hist }

/-- A code of the waveform or the sine reaches the DAC; the output takes it unless a ramp or
SHORT_PROTECT holds the output. -/
def State.psmOut (s : State) (n : Nat) (c : Int) : State :=
  let t := s.psmDac n c
  let u := t.psm n
  if u.ramp = .none ∧ u.stage ≠ 0 ∧ t.flag (F.PSM_STATUS_SHORT_PROTECT n) = false then
    t.setPsm n { u with pos := c * t.psmUnit n }
  else t

/-! ## SETTLED (R221) -/

/-- Does the quantity convert under MODE and MON_SEL (R239)? -/
def State.psmConverts (s : State) (n : Nat) (forced : Bool) : Bool :=
  match s.psmMode n with
  | 0 => false
  | 3 => !forced
  | _ =>
    match s.get (F.PSM_CTL_MON_SEL n) with
    | 0 => forced
    | 1 => !forced
    | _ => true

/-- Does calibration keep a PSM's converter from readings: in service for the task's first millisecond, else until it ends
(R429)? -/
def State.psmBlind (s : State) (n : Nat) : Bool :=
  s.calTasks.any (fun k => k.task == 4 && k.units.contains n && (s.psmMode n == 0 || decide (s.time < k.since + 400000)))

/-- Is the reading the one the converter makes next: under MON_SEL 2 the two quantities alternate (R239), and the
in-service calibration task leaves no reading to the PSM (R429)? -/
def State.psmTakes (s : State) (n : Nat) (forced : Bool) : Bool :=
  s.psmConverts n forced && !s.psmBlind n
    && (s.psmMode n == 3 || s.get (F.PSM_CTL_MON_SEL n) != 2 || forced != (s.psm n).monNext)

/-- Is a difference of codes within CHK_TOL? -/
def State.withinTol (s : State) (n : Nat) (a b : Int) : Bool := decide ((a - b).natAbs ≤ s.get (F.PSM_CHK_TOL n))

/-- SETTLED as R221 defines it. -/
def State.psmSettled (s : State) (n : Nat) : Bool :=
  let u := s.psm n
  decide (s.psmMode n = u.stage) && decide (u.ramp = .none)
    && (decide (u.stage = 0 ∨ u.stage = 3)
        || (!s.psmHolds n
            && (decide (s.get (F.PSM_CTL_MON_SEL n) = 1)
                || (decide (u.last4.length = 4) && u.last4.all (fun r => s.withinTol n r u.dac)))))

/-- Show SETTLED, and answer whoever waits for it. -/
def State.psmRefresh (s : State) (n : Nat) : State :=
  let ok := s.psmSettled n
  let t := s.setB (F.PSM_STATUS_SETTLED n) ok
  if ok then
    let u := t.psm n
    (t.setPsm n { u with waiters := [] }).forEach u.waiters (fun o x => x.answer o .ok 0 [])
  else t

/-- Answer whoever waits for SETTLED with a failure. -/
def State.psmWaitFail (s : State) (n : Nat) (which : Owner → Bool) (st : Status) : State :=
  let u := s.psm n
  (s.setPsm n { u with waiters := u.waiters.filter (fun o => !which o) }).forEach (u.waiters.filter which)
    (fun o x => x.answer o st 0 [])

/-! ## Modes and ramps (R220, R221, R225) -/

/-- In FV, move the output to a position with its code, in steps at SLEW; at once with SLEW 0. -/
def State.psmMove (s : State) (n : Nat) : State :=
  let u := s.psm n
  let pos := s.psmTarget n * s.psmUnit n
  if s.get (F.PSM_SLEW n) = 0 ∨ u.pos = pos then
    let t := s.psmDac n (s.psmTarget n)
    t.setPsm n { t.psm n with pos := pos, ramp := .none }
  else s.setPsm n { u with ramp := .slew }

/-- LEVEL has changed while SOURCE is DC. -/
def State.psmFollow (s : State) (n : Nat) : State :=
  let u := s.psm n
  (if u.stage = 1 then
    if (u.ramp = .none ∨ u.ramp = .slew) ∧ s.flag (F.PSM_STATUS_SHORT_PROTECT n) = false then s.psmMove n else s
   else if u.stage = 2 then s.psmDac n (s.psmTarget n)
   else s).psmRefresh n

/-- The switches close in mode m: FV from 0 V toward LEVEL, FI from 0 current to LEVEL, MV the sense path
only. -/
def State.psmBegin (s : State) (n m : Nat) : State :=
  let u := s.psm n
  let t := s.setPsm n { u with
    stage := m
    pos := 0
    dac := 0
    held := none
    ramp := .none
    last4 := []
    miss := 0
    monNext := false
    exemptTo := s.time + 40000
    hist := [(s.time, 0)] }
  if m = 1 then (if t.flag (F.PSM_STATUS_SHORT_PROTECT n) then t else t.psmMove n)
  else if m = 2 then t.psmDac n (t.psmTarget n)
  else t

/-- The switches open. After a safe ramp MODE becomes OFF; else a mode written during the return to OFF
begins. -/
def State.psmOpen (s : State) (n : Nat) : State :=
  let u := s.psm n
  let t := s.setPsm n { u with stage := 0, pos := 0, dac := 0, held := none, ramp := .none, last4 := [], miss := 0 }
  let t := (t.set (F.PSM_STATUS_SAFE_RAMP n) 0).set (F.PSM_STATUS_CLAMPING n) 0
  let t := if u.ramp = .safe then t.set (F.PSM_CTL_MODE n) 0 else t
  (if t.psmMode n = 0 ∨ t.dark = true then t else t.psmBegin n (t.psmMode n)).psmRefresh n

/-- A PSM in FI becomes FV at its present sense voltage, which the load decides: a free value. -/
def State.psmToFv (s : State) (n : Nat) : State :=
  let (w, t) := s.drawWord
  let c := signed 18 w.toNat
  let u := t.psm n
  t.setPsm n { u with stage := 1, pos := c * t.psmUnit n, dac := c, held := none, ramp := .none }

/-! ## Ends of a waveform, a sine, a measurement, a snapshot -/

/-- Remove the waveform: its arm, its start, its request and its stops are answered. -/
def State.waveDrop (s : State) (n : Nat) (st : Status) : State :=
  let u := s.psm n
  match u.wave with
  | none => s
  | some w =>
    let t := s.setPsm n { u with wave := none }
    let t := ((t.set (F.PSM_STATUS_WAVE_ARMED n) 0).set (F.PSM_STATUS_WAVE_RUN n) 0).set (F.PSM_STATUS_JUMP_PENDING n) 0
    let t := match w.arm with | some h => t.finish h st | none => t
    let t := match w.owner with | some h => t.finish h st | none => t
    let t := t.forEach (w.taken.toList ++ w.jump.toList) (fun j u =>
      match j.owner with | some h => u.finish h .badState | none => u)
    t.forEach w.stops (fun h x => x.finish h .ok)

/-- Drop the starts of a kind that wait for their time. -/
def State.timedDrop (s : State) (n : Nat) (which : Bool → Bool) (st : Status) : State :=
  let u := s.psm n
  (s.setPsm n { u with timed := u.timed.filter (fun t => !which t.sine) }).forEach
    (u.timed.filter (fun t => which t.sine)) (fun t x => x.finish t.hdr st)

/-- LEVEL takes the last code output and SOURCE becomes DC. -/
def State.psmHoldLast (s : State) (n : Nat) : State :=
  (s.setI (F.PSM_LEVEL n) (s.psm n).dac).set (F.PSM_STATUS_SOURCE n) 0

/-- A running waveform ends (R234): with its code shown; ends 1 to 3 hold the last code. -/
def State.waveEnd (s : State) (n reason : Nat) (st : Status) : State :=
  match (s.psm n).wave with
  | none => s
  | some w =>
    let t := if w.started || decide (4 ≤ reason) then s.set (F.PSM_WAVE_END_REASON n) reason else s
    let t := if w.started then
        if reason ≤ 3 then t.psmHoldLast n else t.set (F.PSM_STATUS_SOURCE n) 0
      else t
    (t.waveDrop n st).psmRefresh n

/-- The sine ends; LEVEL takes the last code if `keep`. -/
def State.sineEnd (s : State) (n : Nat) (keep : Bool) : State :=
  if s.flag (F.PSM_STATUS_SINE_RUN n) then
    let t := if keep then s.psmHoldLast n else s.set (F.PSM_STATUS_SOURCE n) 0
    let t := t.set (F.PSM_STATUS_SINE_RUN n) 0
    let u := t.psm n
    ((t.setPsm n { u with sineStop := false, sineWait := [] }).forEach u.sineWait (fun h x => x.finish h .ok)).psmRefresh n
  else s

/-- A measurement ends without a result. -/
def State.psmMeasDrop (s : State) (n : Nat) (st : Status) : State :=
  let u := s.psm n
  match u.meas with
  | none => s
  | some m =>
    let t := (s.setPsm n { u with meas := none }).set (F.PSM_STATUS_MEAS_BUSY n) 0
    match m.owner with
    | some o => t.answer o st 0 []
    | none => t

/-- Bytes of a slot. -/
def State.snapSlot (s : State) (n : Nat) : Nat := (64 + 4 * s.get (F.PSM_SNAP_LEN_LEN n) + 63) / 64 * 64

/-- DRAM address of slot i. -/
def State.snapAddr (s : State) (n i : Nat) : Nat := 64 * s.get (F.PSM_SNAP_BASE n) + i * s.snapSlot n

/-- The snapshots end; a slot whose trigger was accepted and that is not complete keeps COMMIT 0 (R244). -/
def State.snapDrop (s : State) (n : Nat) (st : Status) : State :=
  let u := s.psm n
  match u.snap with
  | none => s
  | some x =>
    let a := s.snapAddr n x.slot
    let t := if x.trig.isSome && !x.rearm && !s.touchesMuzzledPc a (s.snapSlot n) then s.putDramNat (a + 60) 4 0 else s
    ((t.setPsm n { u with snap := none }).set (F.PSM_STATUS_SNAP_ARMED n) 0).finish x.hdr st

/-- The safe ramp (R225) with the status and END_REASON of its cause. -/
def State.psmSafe (s : State) (n : Nat) (st : Status) (reason : Nat) : State :=
  let t := ((((s.waveEnd n reason st).timedDrop n (fun _ => true) st).sineEnd n false).snapDrop n st).psmMeasDrop n st
  match (t.psm n).stage with
  | 0 => t
  | 3 => ((t.set (F.PSM_CTL_MODE n) 0)).psmOpen n
  | m =>
    let t := if m = 2 then t.psmToFv n else t
    ((t.setPsm n { t.psm n with ramp := .safe }).set (F.PSM_STATUS_SAFE_RAMP n) 1).psmRefresh n

/-- The safe ramp with the end of everything that waits for the PSM. -/
def State.psmFence (s : State) (n : Nat) (st : Status) (reason : Nat) : State :=
  (s.psmSafe n st reason).psmWaitFail n (fun _ => true) st

/-- A waveform, armed or running, meets a muzzled pseudo-channel: it ends with END_REASON 4, and the safe ramp applies
(R234). -/
def State.waveRefused (s : State) (n : Nat) : State :=
  match (s.psm n).wave with
  | none => s
  | some _ => s.psmFence n .muzzled 4

/-- MODE returns to OFF (R220). A waveform or sine that runs ends as by its stop (DEDUCED,
assumption 20). -/
def State.psmOff (s : State) (n : Nat) : State :=
  let t := (s.waveEnd n 2 .partialDone).sineEnd n true
  let u := t.psm n
  if u.ramp = .safe ∨ u.ramp = .off then t
  else if u.stage = 1 ∨ u.stage = 2 then
    let t := if u.stage = 2 then t.psmToFv n else t
    if t.get (F.PSM_SLEW n) = 0 then t.psmOpen n
    else t.setPsm n { t.psm n with ramp := .off }
  else t.psmOpen n

/-! ## Configuration writes (R220, R221, R223, R226, R228, R237, R243, R246, R247, R251) -/

/-- Does a session hold a lock? -/
def State.holdsLock (s : State) (k ses : Nat) : Bool :=
  s.flag (F.SHP_LOCK_HELD k) && s.get (F.SHP_LOCK_OWNER k) == ses

/-- A waveform is armed or running, or being armed. -/
def State.waveBusy (s : State) (n : Nat) : Bool := (s.psm n).wave.isSome

/-- PSM_CTL (R217, R220, R251, R407). -/
def writePsmCtl (n v ses : Nat) (s : State) : Res :=
  let old := s.rd (R.PSM_CTL n)
  let m := old % 8
  let m' := v % 8
  let r := bits old 4 3
  let r' := bits v 4 3
  let off := m == 0 && m' == 0
  if 4 ≤ m' ∨ 6 ≤ r' ∨ bits v 8 2 = 3 then .error .badOpcode
  else if s.psmMuzzled n ∧ m ≠ m' then .error .muzzled
  else if (s.stopped || s.dark) ∧ m = 0 ∧ m' ≠ 0 then .error .badState
  else if m ≠ m' ∧ m ≠ 0 ∧ m' ≠ 0 then .error .badState
  else if bit old 3 ≠ bit v 3 ∧ ¬ off then .error .badState
  else if r ≠ r' ∧ (r = 5 ∨ r' = 5) ∧ ¬ off then .error .badState
  else if r' = 5 ∧ (n % 3 ≠ 0 ∨ m' = 2) then .error .badOpcode
  else if ((r ≠ r' ∧ r' = 5) ∨ (m ≠ m' ∧ r' = 5)) ∧ s.holdsLock (1 + n / 3) ses = false then .error .locked
  else if r' = 5 ∧ m' = 1 ∧ s.psmLevel n < 0 then .error .badOpcode
  else
    let t := s.store (R.PSM_CTL n) v
    if s.psmMuzzled n then .ok t
    else if m = 0 ∧ m' ≠ 0 then
      .ok ((if (t.psm n).stage = 0 ∧ t.taskOn 4 n = false then t.psmBegin n m' else t).psmRefresh n)
    else if m ≠ 0 ∧ m' = 0 then .ok ((t.psmOff n).psmRefresh n)
    else if r ≠ r' ∧ m ≠ 0 then
      .ok ((t.setPsm n { t.psm n with last4 := [], miss := 0, exemptTo := t.time + 40000 }).psmRefresh n)
    else .ok (t.psmRefresh n)

/-- PSM_LEVEL (R221). -/
def writePsmLevel (n v : Nat) (s : State) : Res :=
  if s.psmRange n = 5 ∧ s.psmMode n = 1 ∧ bit v 17 then .error .badOpcode
  else if s.get (F.PSM_STATUS_SOURCE n) ≠ 0 then .error .busy
  else
    let t := s.store (R.PSM_LEVEL n) v
    .ok (if s.psmMuzzled n then t else t.psmFollow n)

/-- A snapshot register image that the limits of R243 refuse. -/
def snapBad (o v : Nat) : Bool :=
  if o = 0x60 then decide (5 ≤ bits v 16 3) || decide (bits v 19 3 = 7)
  else if o = 0x64 then
    decide (65536 < bits v 0 17) || decide (4096 < bits v 17 13) || decide (bits v 0 17 < bits v 17 13)
  else if o = 0x68 then decide (v % 2 ^ 16 = 0)
  else false

/-- A register image outside its limits. -/
def State.psmBad (s : State) (n o v : Nat) : Bool :=
  if o = 0x0C then decide (32768 ≤ v % 2 ^ 16) || decide (32768 ≤ bits v 16 16)
  else if o = 0x10 then decide (s.getI (F.PSM_VCLAMP_HI n) < signed 18 v)
  else if o = 0x14 then decide (signed 18 v < s.getI (F.PSM_VCLAMP_LO n))
  else if o = 0x28 then decide (v % 2 ^ 24 < 16)
  else if o = 0x2C then
    decide (bits v 0 5 = 0) || decide (16 < bits v 0 5) || decide (bits v 8 5 = 0) || decide (16 < bits v 8 5)
  else if o = 0x34 then decide (64 < v % 2 ^ 7)
  else if o = 0x54 then
    decide (n % 3 = 0) && (decide (v % 2 ^ 10 < 50) || decide (320 < v % 2 ^ 10) || decide (4 ≤ bits v 10 3))
  else if 0x100 ≤ o ∧ o < 0x180 then decide (8 ≤ v % 16)
  else snapBad o v

/-- Is a register locked by what runs (R226, R251)? -/
def State.psmLocked (s : State) (n o : Nat) : Bool :=
  if o = 0x28 then s.waveBusy n || s.flag (F.PSM_STATUS_SINE_RUN n)
  else if o = 0x2C ∨ o = 0x30 ∨ o = 0x34 then s.waveBusy n
  else if o = 0x58 then (s.psm n).meas.isSome
  else if 0x60 ≤ o ∧ o ≤ 0x70 then (s.psm n).snap.isSome
  else false

/-- Any other configuration register of a PSM; `o` its offset from the PSM's base. -/
def writePsmPlain (n o v : Nat) (s : State) : Res :=
  let a := R.PSM_CTL n + o
  if s.psmBad n o v then .error .badOpcode
  else if s.psmLocked n o then .error .busy
  else if o = 0x54 ∧ n % 3 ≠ 0 then .ok s
  else .ok ((s.store a v).psmRefresh n)

/-- PSM_SINE_FTW_HI commits the 48-bit FTW (R236). -/
def writeFtwHi (n v : Nat) (s : State) : Res :=
  let t := s.store (R.PSM_SINE_FTW_HI n) v
  .ok (t.setPsm n { t.psm n with ftw := t.get (F.PSM_SINE_FTW_LO n) + 2 ^ 32 * t.get (F.PSM_SINE_FTW_HI n) })

/-- PSM_STATUS: a cleared SHORT ends SHORT_PROTECT and the output returns to LEVEL at SLEW (R224); a
cleared SENSE_OPEN ends SENSE_FALLBACK (R219). -/
def writePsmStatus (n v : Nat) (s : State) : Res :=
  let short := bit v 17 && s.flag (F.PSM_STATUS_SHORT n)
  let sense := bit v 19 && s.flag (F.PSM_STATUS_SENSE_OPEN n)
  let t := s.store (R.PSM_STATUS n) v
  let t := if sense then t.set (F.PSM_STATUS_SENSE_FALLBACK n) 0 else t
  if short ∧ t.flag (F.PSM_STATUS_SHORT_PROTECT n) then
    let t := t.set (F.PSM_STATUS_SHORT_PROTECT n) 0
    let u := t.psm n
    if u.stage = 1 ∧ (u.ramp = .none ∨ u.ramp = .short) then .ok ((t.psmMove n).psmRefresh n) else .ok t
  else .ok t

/-! ## Waveforms (R228 to R234) -/

/-- Segment g of a waveform. -/
def Wave.ent (w : Wave) (g : Nat) : WaveSeg := w.segs.getD g ⟨0, 0, none⟩

/-- The segment the reader goes on to after the pass of segment g. -/
def Wave.follow (w : Wave) (pass g : Nat) : Option Nat :=
  match (if pass = w.pass then w.chosen else none) with
  | some c => c
  | none => (w.ent g).next

/-- Output samples k whose stored position ⌊k × DOWN / UP⌋ is j (R230). -/
def outputsAt (up down j : Nat) : List Nat :=
  let lo := (j * up + down - 1) / down
  let hi := ((j + 1) * up + down - 1) / down
  (List.range (hi - lo)).map (lo + ·)

/-- The reader takes the stored sample at its cursor: its code where the filter is bypassed, else the
filter's results, which the spec does not compute: free values (assumption 5). -/
def State.waveFetch (s : State) (n : Nat) : State :=
  let u := s.psm n
  match u.wave with
  | none => s
  | some w =>
    match w.cursor with
    | none => s
    | some (p, g, j) =>
      let e := w.ent g
      let up := s.get (F.PSM_RESAMP_UP n)
      let down := s.get (F.PSM_RESAMP_DOWN n)
      let ks := outputsAt up down j
      let mk (c : Int) (k : Nat) : WaveEnt := ⟨p, j, decide (e.samples * up ≤ (k + 1) * down), c⟩
      let (new, t) := if up = down then (ks.map (mk (signed 18 (s.dramWord (e.addr + 4 * j)))), s)
        else (ks.map (fun k => mk (signed 18 (Config.freeWord (s.free + (k - ks.headD 0))).toNat) k),
              { s with free := s.free + ks.length })
      let cur := if j + 1 < e.samples then some (p, g, j + 1)
        else (w.follow p g).map (fun x => (p + 1, x, 0))
      t.setPsm n { u with wave := some { w with queue := w.queue ++ new, cursor := cur } }

/-- DRAM address of the sample the reader wants next. -/
def State.waveWants (s : State) (n : Nat) : Option Nat :=
  match (s.psm n).wave with
  | none => none
  | some w =>
    if w.queue.length < 4096 then w.cursor.map (fun c => (w.ent c.2.1).addr + 4 * c.2.2) else none

/-- The reader takes the samples of [a, a + len) that it wants next, in order. -/
def State.waveRange (s : State) (n a len : Nat) : Nat → State
  | 0 => s
  | f + 1 =>
    match s.waveWants n with
    | none => s
    | some x => if a ≤ x ∧ x < a + len then (s.waveFetch n).waveRange n a len f else s

/-- The reader fills the queue (R229), up to a sample on a muzzled pseudo-channel; under FREEZE it waits (R364). -/
def State.waveFill (s : State) (n : Nat) : Nat → State
  | 0 => s
  | f + 1 =>
    match s.waveWants n with
    | none => s
    | some x => if s.frozen || s.touchesMuzzledPc x 4 then s else (s.waveFetch n).waveFill n f

/-- Is the queue prefilled? -/
def State.wavePrefilled (s : State) (n : Nat) : Bool := (s.waveWants n).isNone && s.waveBusy n

/-- The waveform starts (R231). -/
def State.waveStart (s : State) (n : Nat) (h : Option CmdHdr) : State :=
  let u := s.psm n
  match u.wave with
  | none => s
  | some w =>
    let t := s.setPsm n { u with
      wave := some { w with started := true, owner := h }
      ramp := if u.ramp = .slew then .none else u.ramp }
    ((((t.set (F.PSM_STATUS_WAVE_ARMED n) 0).set (F.PSM_STATUS_WAVE_RUN n) 1).set (F.PSM_STATUS_SOURCE n) 1).set
      (F.PSM_WAVE_SEGMENT n) w.seg).set (F.PSM_WAVE_END_REASON n) 0

/-- The sine starts (R235, R236). -/
def State.sineStart (s : State) (n : Nat) : State :=
  let u := s.psm n
  let t := s.setPsm n { u with
    phase := s.get (F.PSM_SINE_PH0_LO n) + 2 ^ 32 * s.get (F.PSM_SINE_PH0_HI n)
    sineStop := false
    ramp := if u.ramp = .slew then .none else u.ramp }
  (t.set (F.PSM_STATUS_SINE_RUN n) 1).set (F.PSM_STATUS_SOURCE n) 2

/-- A jump request reaches the PSM (R232, R233): the status that refuses it, or the state with the
request registered at the next sample tick. One that finds the waveform armed but not started is late. -/
def State.waveJump (s : State) (n seg : Nat) (h : Option CmdHdr) : Res :=
  let u := s.psm n
  match u.wave with
  | none => .error .badState
  | some w =>
    if w.arm.isSome then .error .badState
    else if s.get (F.PSM_WF_COUNT n) ≤ seg then .error .badAddress
    else if w.jump.isSome then .error .busy
    else
      let t := s.setPsm n { u with wave := some { w with jump := some ⟨h, seg, false, !w.started⟩ } }
      let t := (t.set (F.PSM_STATUS_JUMP_PENDING n) 1).set (F.PSM_WAVE_JUMP_TARGET n) seg
      .ok (if w.started then t else t.set (F.PSM_STATUS_LATE_JUMP n) 1)

/-- A pending jump request is over. -/
def State.jumpOver (s : State) (n : Nat) (st : Status) : State :=
  let u := s.psm n
  match u.wave with
  | none => s
  | some w =>
    match w.jump with
    | none => s
    | some j =>
      let t := (s.setPsm n { u with wave := some { w with jump := none } }).set (F.PSM_STATUS_JUMP_PENDING n) 0
      match j.owner with
      | some h => t.done h st
      | none => t

/-- The request waits at the sample tick: it is registered, late when the decision point of the running
pass has gone by. -/
def State.jumpRegister (s : State) (n : Nat) : State :=
  let u := s.psm n
  match u.wave with
  | none => s
  | some w =>
    match w.jump with
    | none => s
    | some j =>
      if j.registered then s
      else
        let late := j.late || w.chosen.isSome
        let t := s.setPsm n { u with wave := some { w with jump := some { j with registered := true, late := late } } }
        if late then t.set (F.PSM_STATUS_LATE_JUMP n) 1 else t

/-- The decision point (R232). -/
def State.waveDecide (s : State) (n : Nat) : State :=
  let u := s.psm n
  match u.wave with
  | none => s
  | some w =>
    let followed := (w.ent w.seg).next
    let next := match w.jump with
      | some j => some j.seg
      | none => if w.stopEnd then none else followed
    let w := { w with chosen := some next, jump := none, taken := w.jump }
    let w := if next = followed then w
      else
        let q := w.queue.filter (fun e => e.pass == w.pass)
        let cur := match w.cursor with
          | some c => if c.1 = w.pass then some c else next.map (fun x => (w.pass + 1, x, 0))
          | none => if q.any (·.last) then next.map (fun x => (w.pass + 1, x, 0)) else none
        { w with queue := q, cursor := cur }
    (s.setPsm n { u with wave := some w }).set (F.PSM_STATUS_JUMP_PENDING n) 0

/-- The end of a pass (R232, R234). -/
def State.wavePassEnd (s : State) (n : Nat) : State :=
  let u := s.psm n
  match u.wave with
  | none => s
  | some w =>
    if w.stopEnd then s.waveEnd n 2 .partialDone
    else match w.chosen with
      | some (some g) =>
        let t := s.setPsm n { u with wave := some { w with pass := w.pass + 1, seg := g, chosen := none, taken := none } }
        let t := t.set (F.PSM_WAVE_SEGMENT n) g
        (match w.taken.bind (fun j => j.owner.map (fun h => (h, j.late))) with
         | some x => t.finish x.1 (if x.2 then .lateJump else .ok)
         | none => t)
      | _ => s.waveEnd n 1 .ok

/-- A sample tick of a running waveform. -/
def State.waveTick (s : State) (n : Nat) : State :=
  let t := s.jumpRegister n
  let u := t.psm n
  match u.wave with
  | none => s
  | some w =>
    match w.queue with
    | [] =>
      let t := t.psmRaise n (F.PSM_STATUS_UNDERRUN n) cMEMORY 0x10
      (t.waveEnd n 3 .underrun).untest (t.sitesOfPsm n) 6
    | e :: q =>
      let t := t.setPsm n { u with wave := some { w with queue := q } }
      let t := if (w.ent w.seg).samples ≤ e.samp + 32 ∧ w.chosen = none then t.waveDecide n else t
      let t := t.psmOut n e.code
      if w.stopNow then t.waveEnd n 2 .partialDone
      else if e.last then t.wavePassEnd n
      else t.psmRefresh n

/-! ## Sine (R235) -/

/-- Table entry a of PSM n, a signed 20-bit code. -/
def State.sineT (s : State) (n a : Nat) : Int := signed 20 (s.rd ((Region.sine n).base + 4 * (a % 4096)))

/-- The code before saturation at a phase. -/
def State.sineCode (s : State) (n phase : Nat) : Int :=
  let a := bits phase 36 12
  let f := bits phase 20 16
  let v := s.sineT n a + roundAway ((s.sineT n (a + 1) - s.sineT n a) * (f : Int)) 65536
  s.getI (F.PSM_SINE_OFFSET n) + roundAway ((s.get (F.PSM_SINE_AMPL n) : Int) * v) 524288

/-- A code limited to 18 bits. -/
def sat18 (c : Int) : Int := max (-131072) (min 131071 c)

/-- A sample tick of a running sine. -/
def State.sineTick (s : State) (n : Nat) : State :=
  let u := s.psm n
  let c := s.sineCode n u.phase
  let t := s.setPsm n { u with phase := (u.phase + u.ftw) % 2 ^ 48 }
  let t := if sat18 c = c then t else t.set (F.PSM_STATUS_SINE_SAT n) 1
  let t := t.psmOut n (sat18 c)
  if u.sineStop then t.sineEnd n true else t.psmRefresh n

/-! ## Measurement (R242) -/

/-- A measurement starts, for an owner or for nobody; SAMPLES 0 completes at once. -/
def State.psmMeasStart (s : State) (n : Nat) (o : Option Owner) : Res :=
  let forced := s.flag (F.PSM_MEAS_CFG_MEAS_QTY n)
  if s.psmMode n = 0 ∨ s.psmConverts n forced = false then .error .badState
  else if (s.psm n).meas.isSome then .error .busy
  else
    let t := s.set (F.PSM_MEAS_MEAN_VALID n) 0
    if s.get (F.PSM_MEAS_CFG_SAMPLES n) = 0 then
      .ok (match o with | some x => t.answer x .ok 0 [] | none => t)
    else
      .ok ((t.setPsm n { t.psm n with meas := some { owner := o, clamped := s.flag (F.PSM_STATUS_CLAMPING n) } }).set
        (F.PSM_STATUS_MEAS_BUSY n) 1)

/-- The readings of a measurement are complete. -/
def State.psmMeasDone (s : State) (n : Nat) (m : PsmMeas) : State :=
  let l := m.readings
  let lo := l.foldl min (l.headD 0)
  let hi := l.foldl max (l.headD 0)
  let t := (s.setPsm n { s.psm n with meas := none }).set (F.PSM_STATUS_MEAS_BUSY n) 0
  let t := ((t.setI (F.PSM_MEAS_MEAN_MEAN n) (meanHalfAway l)).setI (F.PSM_MEAS_MIN n) lo).setI (F.PSM_MEAS_MAX n) hi
  let t := ((t.set (F.PSM_MEAS_MEAN_VALID n) 1).setB (F.PSM_MEAS_MEAN_OVERRANGE n)
    (l.any (fun r => r == -131072 || r == 131071))).setB (F.PSM_MEAS_MEAN_CLAMPED n) m.clamped
  match m.owner with
  | some o => t.answer o .ok 0 []
  | none => t

/-- A reading goes to the measurement. -/
def State.psmMeasTake (s : State) (n : Nat) (forced : Bool) (r : Int) : State :=
  let u := s.psm n
  match u.meas with
  | none => s
  | some m =>
    if m.settled ∧ forced = s.flag (F.PSM_MEAS_CFG_MEAS_QTY n) then
      let m := { m with readings := m.readings ++ [r] }
      if s.get (F.PSM_MEAS_CFG_SAMPLES n) ≤ m.readings.length then s.psmMeasDone n m
      else s.setPsm n { u with meas := some m }
    else s

/-! ## Snapshots (R243 to R245) -/

/-- The header words of a slot but COMMIT. -/
def State.snapHead (s : State) (n : Nat) (x : Snap) (tick valid : Nat) : List Nat :=
  [0x534E5031,
   x.slot + n * 2 ^ 16 + s.get (F.PSM_SNAP_CFG_SNAP_QTY n) * 2 ^ 23,
   tick % 2 ^ 32, tick / 2 ^ 32 % 2 ^ 32,
   s.get (F.PSM_SNAP_LEN_LEN n),
   valid + s.get (F.PSM_SNAP_LEN_PRE n) * 2 ^ 16,
   min x.dead (2 ^ 32 - 1), min x.missed (2 ^ 32 - 1),
   s.get (F.PSM_SNAP_DIV n), 0, 0, 0, 0, 0, 0]

/-- The sample words of a slot. -/
def State.snapWords (s : State) (n : Nat) (x : Snap) (valid : Nat) : List Nat :=
  List.replicate (s.get (F.PSM_SNAP_LEN_PRE n) - valid) 0x80000000
    ++ (x.pre.drop (x.pre.length - valid)).map (unsigned 32) ++ x.data.map (unsigned 32)

/-- The slot is complete: written COMMIT last, unless it lies on a muzzled pseudo-channel; re-arm starts. -/
def State.snapWrite (s : State) (n : Nat) (x : Snap) : State :=
  match x.trig with
  | none => s
  | some (tick, valid) =>
    let a := s.snapAddr n x.slot
    let t := if s.touchesMuzzledPc a (s.snapSlot n) then s
      else ((s.putDramList a (s.snapHead n x tick valid ++ [0])).putDramList (a + 64)
        (s.snapWords n x valid)).putDramNat (a + 60) 4 0x5EA1ED02
    (t.setPsm n { t.psm n with snap := some { x with rearm := true } }).set (F.PSM_SNAP_DONE n) (x.slot + 1)

/-- A trigger of a source reaches the snapshots at a tick: accepted, or counted as missed. The first reading of
SNAP_QTY at or after an accepted one is kept, then every SNAP_DIV-th (R244, R245). -/
def State.snapTrigger (s : State) (n src tick : Nat) : State :=
  if s.get (F.PSM_SNAP_CFG_TRIG_SRC n) ≠ src then s
  else
    let u := s.psm n
    match u.snap with
    | none => s.bump (F.PSM_SNAP_MISSED n)
    | some x =>
      match x.trig with
      | some _ => (s.setPsm n { u with snap := some { x with missedNext := x.missedNext + 1 } }).bump (F.PSM_SNAP_MISSED n)
      | none =>
        let x := { x with
          trig := some (tick, min (s.get (F.PSM_SNAP_LEN_PRE n)) x.kept)
          skip := s.get (F.PSM_SNAP_DIV n) - 1 }
        if s.get (F.PSM_SNAP_LEN_LEN n) ≤ s.get (F.PSM_SNAP_LEN_PRE n) then s.snapWrite n x
        else s.setPsm n { u with snap := some x }

/-- A reading goes to the snapshots: every SNAP_DIV-th of SNAP_QTY is kept. -/
def State.snapTake (s : State) (n : Nat) (forced : Bool) (r : Int) : State :=
  let u := s.psm n
  match u.snap with
  | none => s
  | some x =>
    if x.rearm ∨ forced = s.flag (F.PSM_SNAP_CFG_SNAP_QTY n) then s
    else if x.skip + 1 < s.get (F.PSM_SNAP_DIV n) then s.setPsm n { u with snap := some { x with skip := x.skip + 1 } }
    else
      match x.trig with
      | none =>
        let pre := x.pre ++ [r]
        s.setPsm n { u with snap := some { x with skip := 0, kept := x.kept + 1, pre := pre.drop (pre.length - 4096) } }
      | some _ =>
        let x := { x with skip := 0, data := x.data ++ [r] }
        if s.get (F.PSM_SNAP_LEN_LEN n) - s.get (F.PSM_SNAP_LEN_PRE n) ≤ x.data.length then s.snapWrite n x
        else s.setPsm n { u with snap := some x }

/-- What the bits of PSM_GO start (R242, R244). -/
def State.psmGo (s : State) (n v : Nat) : Res :=
  let go (t : State) : State :=
    let t := if bit v 1 then t.snapTrigger n 0 t.time else t
    if bit v 2 then t.snapDrop n .partialDone else t
  if bit v 0 then (s.psmMeasStart n none).map go
  else .ok (go s)

/-- The unmuzzle: bits of PSM_GO written under the muzzle act now; a measurement that is refused now does not start
(R251). -/
def State.psmRelease (s : State) (n : Nat) : State :=
  let v := (s.psm n).goHeld
  if s.psmMuzzled n ∨ v = 0 then s
  else
    let t := s.setPsm n { s.psm n with goHeld := 0 }
    match t.psmGo n v with
    | .ok u => u
    | .error _ => match t.psmGo n (v / 2 * 2) with
      | .ok u => u
      | .error _ => t

/-! ## The monitoring converter (R239 to R241) -/

/-- The code commanded CHK_LAG nanoseconds before now. -/
def State.psmCommanded (s : State) (n : Nat) : Int :=
  match (s.psm n).hist.find? (fun h => decide (5 * h.1 + 2 * s.get (F.PSM_CHK_CFG_CHK_LAG n) ≤ 5 * s.time)) with
  | some h => h.2
  | none => (s.psm n).dac

/-- The window check of a forced reading (R240). An exempt reading is no miss. -/
def State.psmCheck (s : State) (n : Nat) (r : Int) (exempt : Bool) : State :=
  if s.flag (F.PSM_CHK_CFG_CHK_EN n) ∧ (s.psmMode n = 1 ∨ s.psmMode n = 2) then
    let u := s.psm n
    let miss := if exempt ∨ s.withinTol n r (s.psmCommanded n) then 0 else u.miss + 1
    let t := s.setPsm n { u with miss := miss }
    let c := s.get (F.PSM_CHK_CFG_CHK_COUNT n)
    if c ≠ 0 ∧ c ≤ miss then t.psmRaise n (F.PSM_STATUS_READBACK n) cANALOG 0x03 else t
  else s

/-- The threshold (R241). -/
def State.psmThreshold (s : State) (n : Nat) (forced : Bool) (r : Int) : State :=
  let u := s.psm n
  if s.flag (F.PSM_THR_THR_EN n) = false then s.setPsm n { u with thrPrev := none, thrReady := true }
  else if forced = s.flag (F.PSM_THR_THR_QTY n) then s
  else
    let sgn : Int := if s.flag (F.PSM_THR_THR_DIR n) then -1 else 1
    let d := sgn * (r - s.getI (F.PSM_THR_THR_LEVEL n))
    let before : Bool := match u.thrPrev with
      | some x => decide (sgn * (x - s.getI (F.PSM_THR_THR_LEVEL n)) < 0)
      | none => false
    let ready : Bool := u.thrReady || decide (d ≤ -(16 * (s.get (F.PSM_THR_HYST n) : Int)))
    if before ∧ 0 ≤ d ∧ ready then
      let t := s.setPsm n { u with thrPrev := some r, thrReady := false }
      (t.pushTrigger (n / 6) (.psm ⟨n % 6, Nat.mod_lt _ (by decide)⟩) (t.time + 40) none).snapTrigger n 3 t.time
    else s.setPsm n { u with thrPrev := some r, thrReady := ready }

/-- Is a forced reading exempt by what the PSM itself does (R240)? -/
def State.psmExempt (s : State) (n : Nat) : Bool :=
  let u := s.psm n
  s.psmHolds n || decide (u.ramp ≠ .none) || decide (s.time < u.exemptTo)

/-- A clamp acts, or none does: CLAMPING shows it, and a measurement that runs notes it (R223, R242). -/
def State.psmClamps (s : State) (n : Nat) (clamps : Bool) : State :=
  let t := s.setB (F.PSM_STATUS_CLAMPING n) clamps
  match (t.psm n).meas with
  | some m => t.setPsm n { t.psm n with meas := some { m with clamped := m.clamped || clamps } }
  | none => t

/-- A reading of a converted quantity, taken while a clamp acts or not. -/
def State.psmReading (s : State) (n : Nat) (forced : Bool) (r : Int) (clamps : Bool) : State :=
  let t := (if forced then s.setI (F.PSM_MON_F n) r else s.setI (F.PSM_MON_M n) r).psmClamps n clamps
  let t := t.setPsm n { t.psm n with monNext := forced }
  let t := if forced then
      let t := t.psmCheck n r (clamps || t.psmExempt n)
      t.setPsm n { t.psm n with last4 := ((t.psm n).last4 ++ [r]).drop (((t.psm n).last4.length + 1) - 4) }
    else t
  let t := t.psmThreshold n forced r
  ((t.snapTake n forced r).psmMeasTake n forced r).psmRefresh n

/-! ## Cues (R237, R238) -/

/-- What a cue does; a status for one that cannot take effect. -/
def State.cueEffect (s : State) (n act arg : Nat) : Res :=
  let running := match (s.psm n).wave with | some w => w.started | none => false
  match act with
  | 0 => .ok s
  | 1 =>
    if s.stopped ∨ s.flag (F.PSM_STATUS_WAVE_ARMED n) = false ∨ s.flag (F.PSM_STATUS_SINE_RUN n) then .error .badState
    else .ok ((s.waveStart n none).snapTrigger n 4 s.time)
  | 2 => s.waveJump n (arg % 64) none
  | 3 =>
    if running then
      match (s.psm n).wave with
      | some w => .ok (s.setPsm n { s.psm n with wave := some { w with stopNow := true } })
      | none => .error .badState
    else .error .badState
  | 4 =>
    if s.stopped ∨ s.waveBusy n ∨ s.flag (F.PSM_STATUS_SINE_RUN n) ∨ (s.psmMode n ≠ 1 ∧ s.psmMode n ≠ 2) then
      .error .busy
    else .ok ((s.sineStart n).snapTrigger n 4 s.time)
  | 5 =>
    if s.flag (F.PSM_STATUS_SINE_RUN n) then .ok (s.setPsm n { s.psm n with sineStop := true })
    else .error .badState
  | 6 =>
    if s.get (F.PSM_STATUS_SOURCE n) ≠ 0 ∨ (s.psmRange n = 5 ∧ s.psmMode n = 1 ∧ bit arg 17) then .error .busy
    else .ok ((s.set (F.PSM_LEVEL n) arg).psmFollow n)
  | 7 =>
    if s.get (F.PSM_SNAP_CFG_TRIG_SRC n) = 1 then .ok (s.snapTrigger n 1 s.time) else .error .badState
  | _ => .error .badOpcode

end Sys2Proof.Machine
end

