-- ==== Sys2Proof/Machine/PsmCmd.lean ====
section
/-! DEFINITION. The PSM rows: register writes, events of the output and the converter, and the commands
0x40 to 0x49 (09_precision_source_measure.md). -/

namespace Sys2Proof.Machine

/-! ## Register writes -/

/-- PSM_CTL_WRITE (R220). -/
def execPsmCtlWrite (o : Origin) (n : PsmId) (value : Word) (s : State) : Out :=
  .next (s.respond (s.guarded (R.PSM_CTL n) (writePsmCtl n value.toNat (originSession o))))

/-- PSM_LEVEL_WRITE (R221). -/
def execPsmLevelWrite (_ : Origin) (n : PsmId) (value : Word) (s : State) : Out :=
  .next (s.respond (s.guarded (R.PSM_LEVEL n) (writePsmLevel n value.toNat)))

/-- PSM_STATUS_CLEAR (R219, R224, R251). -/
def execPsmStatusClear (_ : Origin) (n : PsmId) (value : Word) (s : State) : Out :=
  .next (s.respond (s.guarded (R.PSM_STATUS n) (writePsmStatus n value.toNat)))

/-- PSM_SINE_FTW_HI (R236). -/
def execPsmSineFtwHi (_ : Origin) (n : PsmId) (value : Word) (s : State) : Out :=
  .next (s.respond (s.guarded (R.PSM_SINE_FTW_HI n) (writeFtwHi n value.toNat)))

/-- PSM_GO (R242, R244): a refused MEAS_GO rejects the write whole. On a muzzled PSM the bits wait for the unmuzzle
(R251). -/
def writePsmGo (n v : Nat) (s : State) : Res :=
  if s.psmMuzzled n then .ok (s.setPsm n { s.psm n with goHeld := (s.psm n).goHeld ||| v % 8 })
  else s.psmGo n v

/-- MEAS_GO (R242). -/
def execMeasGo (_ : Origin) (n : PsmId) (s : State) : Out :=
  .next (s.respond (s.guarded (R.PSM_GO n) (writePsmGo n 1)))

/-- SNAP_TRIG (R244). -/
def execSnapTrig (_ : Origin) (n : PsmId) (s : State) : Out :=
  .next (s.respond (s.guarded (R.PSM_GO n) (writePsmGo n 2)))

/-- SNAP_ABORT (R244). -/
def execSnapAbort (_ : Origin) (n : PsmId) (s : State) : Out :=
  .next (s.respond (s.guarded (R.PSM_GO n) (writePsmGo n 4)))

/-! ## The output -/

/-- Move a position toward a target by at most `d`. -/
def stepTo (x target d : Int) : Int :=
  if x < target then min target (x + d) else max target (x - d)

/-- One 100 ns step of a ramp toward a target: the new position and its code. -/
def State.rampStep (s : State) (n : Nat) (target d : Int) : State :=
  let u := s.psm n
  let pos := stepTo u.pos target d
  let t := s.psmDac n (roundAway pos (s.psmUnit n))
  t.setPsm n { t.psm n with pos := pos }

/-- The slew of one step: SLEW µV, all of the way with SLEW 0. -/
def State.slewStep (s : State) (n : Nat) : Int :=
  if s.get (F.PSM_SLEW n) = 0 then 2 ^ 60 else 131072 * (s.get (F.PSM_SLEW n) : Int)

/-- 1 V/ms in one 100 ns step, in units of 1/131,072 µV. -/
def safeStep : Int := 100 * 131072

/-- The end of a ramp. -/
def State.rampDone (s : State) (n : Nat) : State := (s.setPsm n { s.psm n with ramp := .none }).psmRefresh n

/-- PSM_SLEW_STEP (R220, R221, R224, R225): the next 100 ns step of a slew or ramp. -/
def execPsmSlewStep (n : PsmId) (s : State) : Out :=
  .next (
    let u := s.psm n
    match u.ramp with
    | .none => s
    | .slew =>
      let target := s.psmTarget n * s.psmUnit n
      let t := s.rampStep n target (s.slewStep n)
      if (t.psm n).pos = target then (t.psmDac n (t.psmTarget n)).rampDone n else t
    | .off =>
      let t := s.rampStep n 0 (if s.flag (F.PSM_STATUS_SHORT_PROTECT n) then safeStep else s.slewStep n)
      if (t.psm n).pos = 0 then t.psmOpen n else t
    | .short =>
      let t := s.rampStep n 0 safeStep
      if (t.psm n).pos = 0 then t.rampDone n else t
    | .safe =>
      if u.pos.natAbs ≤ 10000 * 131072 then s.psmOpen n
      else
        let t := s.rampStep n 0 safeStep
        if (t.psm n).pos.natAbs ≤ 10000 * 131072 then t.psmOpen n else t)

/-- SAFE_RAMP_END (R225): 6 ms after the ramp began the switches open. -/
def execSafeRampEnd (n : PsmId) (s : State) : Out :=
  .next (if (s.psm n).ramp = .safe then s.psmOpen n else s)

/-- PSM_SAMPLE_TICK (R226). -/
def execPsmSampleTick (n : PsmId) (s : State) : Out :=
  .next (
    if s.flag (F.PSM_STATUS_WAVE_RUN n) then s.waveTick n
    else if s.flag (F.PSM_STATUS_SINE_RUN n) then s.sineTick n
    else s)

/-- WAVE_PREFILLED (R229): the reader has filled the queue and the arm completes; segments on a muzzled
pseudo-channel end it (R9, R234), and under FREEZE it waits (R364). -/
def execWavePrefilled (n : PsmId) (s : State) : Out :=
  .next (
    match (s.psm n).wave with
    | none => s
    | some w =>
      match w.arm with
      | none => s
      | some h =>
        let t := s.waveFill n 70000
        if t.wavePrefilled n then
          match (t.psm n).wave with
          | none => t
          | some w => ((t.setPsm n { t.psm n with wave := some { w with arm := none } }).set (F.PSM_STATUS_WAVE_ARMED n) 1).done h .ok
        else if s.frozen then t else t.waveRefused n)

/-- PSM_CUE (R237, R238): a cue acts, or is ignored and counted. -/
def execPsmCue (n : PsmId) (cue : Fin 32) (s : State) : Out :=
  .next (
    let t := { s with cues := s.cues.erase (n.val, cue.val) }
    let r := if t.psmMuzzled n then .error Status.muzzled
      else t.cueEffect n (t.get (F.PSM_CUE_ACTION n cue)) (t.get (F.PSM_CUE_ARG n cue))
    match r with
    | .ok u => u
    | .error _ => (t.set (F.PSM_STATUS_CUE_IGNORED n) 1).bumpBy ⟨R.PSM_CUE_IGN_CNT n, 0, 32⟩ 1)

/-- PSM_ADC_READING (R239 to R245). -/
def execPsmAdcReading (n : PsmId) (measured : Bool) (code : BitVec 18) (clamps : Bool) (s : State) : Out :=
  .next (if s.psmTakes n (!measured) then s.psmReading n (!measured) code.toInt clamps else s)

/-- SNAP_REARM (R244): 64 ns after a slot; the last slot completes the command. -/
def execSnapRearm (n : PsmId) (s : State) : Out :=
  .next (
    let u := s.psm n
    match u.snap with
    | none => s
    | some x =>
      if !x.rearm then s
      else if s.get (F.PSM_SNAP_CFG_SNAP_COUNT n) ≤ x.slot + 1 then s.snapDrop n .ok
      else
        let tick := match x.trig with | some t => t.1 | none => s.time
        let y : Snap := { hdr := x.hdr, slot := x.slot + 1, missed := x.missedNext, dead := (s.time - tick) * 5 / 2 }
        s.setPsm n { u with snap := some y })

/-- CLAMP (R223): a clamp has acted for more than 10 µs. -/
def execClamp (n : PsmId) (s : State) : Out :=
  .next (
    let u := s.psm n
    if u.stage = 1 ∨ u.stage = 2 then
      (s.psmClamps n true).psmRaise n (F.PSM_STATUS_CLAMP n) cANALOG 0x01
    else s)

/-- SHORT (R224). -/
def execShort (n : PsmId) (s : State) : Out :=
  .next (
    let u := s.psm n
    if u.stage = 1 then
      let t := ((s.psmClamps n true).psmRaise n (F.PSM_STATUS_SHORT n) cANALOG 0x02).set (F.PSM_STATUS_SHORT_PROTECT n) 1
      (t.setPsm n { t.psm n with ramp := if u.ramp = .safe ∨ u.ramp = .off then u.ramp else .short }).psmRefresh n
    else s)

/-- SENSE_OPEN (R219). -/
def execSenseOpen (n : PsmId) (s : State) : Out :=
  .next (
    if (s.psm n).stage = 0 then s
    else (s.psmRaise n (F.PSM_STATUS_SENSE_OPEN n) cANALOG 0x04).set (F.PSM_STATUS_SENSE_FALLBACK n) 1)

/-- BOOST_RANGE (R246): the fault and the safe ramp. -/
def execBoostRange (n : PsmId) (s : State) : Out :=
  .next (
    if s.psmRange n = 5 ∧ (s.psm n).stage ≠ 0 then
      (s.psmRaise n (F.PSM_STATUS_BOOST_RANGE n) cANALOG 0x05).psmSafe n .internal 5
    else s)

/-- PSM_MEAS_SETTLED (R242): SETTLE_US has passed. -/
def execPsmMeasSettled (n : PsmId) (s : State) : Out :=
  .next (
    let u := s.psm n
    match u.meas with
    | some m => s.setPsm n { u with meas := some { m with settled := true } }
    | none => s)

/-- Is it a step of a run that waits? -/
def ofRun : Owner → Bool
  | .run _ _ => true
  | .cmd _ => false

/-- PSM_SET_LEVEL_TIMEOUT (R248, R334): the 100 ms of a wait for SETTLED have passed. A command's 100 ms begin
at the end of the ramp, a PSM_FORCE step's with the wait, so while the output still ramps only a step is
timed out. -/
def execPsmSetLevelTimeout (n : PsmId) (s : State) : Out :=
  .next (if (s.psm n).ramp = .none then (s.psmRefresh n).psmWaitFail n (fun _ => true) .timeout
    else s.psmWaitFail n ofRun .timeout)

/-! ## Commands (R248) -/

/-- The checks of a PSM command before its own: form, PSM number, muzzle. -/
def State.psmCmd (s : State) (op : Nat) (h : CmdHdr) (pl : List Word)
    (body : Nat → State → State) : Out :=
  .next (s.cmd op h pl (fun s =>
    let n := word pl 0
    if s.psmMuzzled n then s.done h .muzzled
    else body n s))

/-- PSM_SET_LEVEL (R221, R248). -/
def execPsmSetLevel (h : CmdHdr) (pl : List Word) (s : State) : Out :=
  s.psmCmd 0x40 h pl (fun n s =>
    match writePsmLevel n (word pl 1) s with
    | .error st => s.done h st
    | .ok t =>
      if t.psmMode n = 0 ∨ t.psmMode n = 3 then t.done h .ok
      else (t.setPsm n { t.psm n with waiters := (t.psm n).waiters ++ [.cmd h] }).psmRefresh n)

/-- Entry i of the waveform table (R228): the segment, whether its reserved bits are 0 and its NEXT is
below WF_COUNT. -/
def State.waveEntry (s : State) (base count i : Nat) : WaveSeg × Bool :=
  let a := base + 16 * i
  let w0 := s.dramWord a
  let w2 := s.dramWord (a + 8)
  let last := bit w2 6
  (⟨64 * (w0 % 2 ^ 29), s.dramWord (a + 4), if last then none else some (w2 % 64)⟩,
   decide (w0 / 2 ^ 29 = 0) && decide (w2 / 2 ^ 7 = 0) && decide (s.dramWord (a + 12) = 0)
     && (last || decide (w2 % 64 < count)))

/-- The checks of R229 in their order. -/
def State.waveArmCheck (s : State) (n seg : Nat) : Except Status (List WaveSeg) :=
  let count := s.get (F.PSM_WF_COUNT n)
  let base := 64 * s.get (F.PSM_WF_TAB n)
  let es := (List.range count).map (fun i => s.waveEntry base count i)
  if s.waveBusy n ∨ s.flag (F.PSM_STATUS_SINE_RUN n) then .error .busy
  else if s.psmMode n ≠ 1 ∧ s.psmMode n ≠ 2 then .error .badState
  else if count ≤ seg ∨ 2 ^ 35 < base + 16 * count then .error .badAddress
  else if es.any (fun e => !e.2) then .error .badOpcode
  else if es.any (fun e => e.1.samples % 64 != 0 || decide (e.1.samples < 256)) then .error .badLength
  else if es.any (fun e => decide (2 ^ 35 < e.1.addr + 4 * e.1.samples)) then .error .badAddress
  else if s.get (F.PSM_CLK n) * s.get (F.PSM_RESAMP_UP n) < 16 * s.get (F.PSM_RESAMP_DOWN n) then .error .badState
  else .ok (es.map (·.1))

/-- PSM_WAVE_ARM (R229). -/
def execPsmWaveArm (h : CmdHdr) (pl : List Word) (s : State) : Out :=
  s.psmCmd 0x41 h pl (fun n s =>
    match s.waveArmCheck n (word pl 1) with
    | .error st => s.done h st
    | .ok segs => s.setPsm n { s.psm n with
        wave := some { segs := segs, arm := some h, seg := word pl 1, cursor := some (0, word pl 1, 0) } })

/-- A timed start is registered, or has passed (R248). -/
def State.timeStart (s : State) (n : Nat) (sine : Bool) (h : CmdHdr) (start : Nat) : State :=
  if start ≠ 0 ∧ start < s.time then s.done h .timeout
  else s.setPsm n { s.psm n with timed := (s.psm n).timed ++ [⟨sine, h, start⟩] }

/-- PSM_WAVE_START (R231, R248). -/
def execPsmWaveStart (h : CmdHdr) (pl : List Word) (s : State) : Out :=
  s.psmCmd 0x42 h pl (fun n s =>
    if s.stopped ∨ s.flag (F.PSM_STATUS_WAVE_ARMED n) = false then s.done h .badState
    else s.timeStart n false h (word pl 1 + 2 ^ 32 * word pl 2))

/-- The start whose time comes first; of equal times the one that came first. -/
def firstTimed : List PsmTimed → Option PsmTimed
  | [] => none
  | x :: l => match firstTimed l with
    | none => some x
    | some y => some (if x.start ≤ y.start then x else y)

/-- PSM_TIMED_START (R248): the first tick at or after START_TIME of the start whose time comes first. -/
def execPsmTimedStart (n : PsmId) (s : State) : Out :=
  .next (
    let u := s.psm n
    match firstTimed u.timed with
    | none => s
    | some x =>
      let s := s.setPsm n { u with timed := u.timed.erase x }
      if x.start ≠ 0 ∧ x.start < s.time then s.finish x.hdr .timeout
      else
        let s := { s with time := if x.start = 0 then s.time + 1 else x.start }
        if x.sine then
          if s.waveBusy n ∨ s.flag (F.PSM_STATUS_SINE_RUN n) then s.finish x.hdr .busy
          else if s.psmMode n ≠ 1 ∧ s.psmMode n ≠ 2 then s.finish x.hdr .badState
          else ((s.sineStart n).snapTrigger n 4 s.time).finish x.hdr .ok
        else if s.flag (F.PSM_STATUS_WAVE_ARMED n) then (s.waveStart n (some x.hdr)).snapTrigger n 4 s.time
        else s.finish x.hdr .badState)

/-- PSM_WAVE_STOP (R234, R248). -/
def execPsmWaveStop (h : CmdHdr) (pl : List Word) (s : State) : Out :=
  s.psmCmd 0x43 h pl (fun n s =>
    if s.flag (F.PSM_STATUS_WAVE_RUN n) then
      let t := if bit (word pl 1) 0 then s.jumpOver n .badState else s
      let u := t.psm n
      match u.wave with
      | none => t.done h .ok
      | some w => t.setPsm n { u with wave := some { w with
          stops := w.stops ++ [h]
          stopNow := w.stopNow || !bit (word pl 1) 0
          stopEnd := w.stopEnd || bit (word pl 1) 0 } }
    else s.done h .ok)

/-- PSM_WAVE_JUMP (R232, R233). -/
def execPsmWaveJump (h : CmdHdr) (pl : List Word) (s : State) : Out :=
  s.psmCmd 0x44 h pl (fun n s =>
    match s.waveJump n (word pl 1) (some h) with
    | .error st => s.done h st
    | .ok t => t)

/-- PSM_SINE_START (R236, R248). -/
def execPsmSineStart (h : CmdHdr) (pl : List Word) (s : State) : Out :=
  s.psmCmd 0x45 h pl (fun n s =>
    if s.stopped then s.done h .badState
    else if s.waveBusy n ∨ s.flag (F.PSM_STATUS_SINE_RUN n) then s.done h .busy
    else if s.psmMode n ≠ 1 ∧ s.psmMode n ≠ 2 then s.done h .badState
    else s.timeStart n true h (word pl 1 + 2 ^ 32 * word pl 2))

/-- PSM_SINE_STOP (R236, R248). -/
def execPsmSineStop (h : CmdHdr) (pl : List Word) (s : State) : Out :=
  s.psmCmd 0x46 h pl (fun n s =>
    if s.flag (F.PSM_STATUS_SINE_RUN n) then
      s.setPsm n { s.psm n with sineStop := true, sineWait := (s.psm n).sineWait ++ [h] }
    else s.done h .ok)

/-- PSM_MEASURE (R242, R248). -/
def execPsmMeasure (h : CmdHdr) (pl : List Word) (s : State) : Out :=
  s.psmCmd 0x47 h pl (fun n s =>
    match s.psmMeasStart n (some (.cmd h)) with
    | .error st => s.done h st
    | .ok t => t)

/-- PSM_SNAP_ARM (R243). -/
def execPsmSnapArm (h : CmdHdr) (pl : List Word) (s : State) : Out :=
  s.psmCmd 0x48 h pl (fun n s =>
    let count := s.get (F.PSM_SNAP_CFG_SNAP_COUNT n)
    if (s.psm n).snap.isSome then s.done h .busy
    else if s.psmConverts n (!s.flag (F.PSM_SNAP_CFG_SNAP_QTY n)) = false
        ∨ (s.get (F.PSM_SNAP_CFG_TRIG_SRC n) = 3 ∧ s.flag (F.PSM_THR_THR_EN n) = false) then s.done h .badState
    else if 64 * s.get (F.PSM_SNAP_SIZE n) < count * s.snapSlot n then s.done h .badLength
    else if 2 ^ 35 < 64 * s.get (F.PSM_SNAP_BASE n) + 64 * s.get (F.PSM_SNAP_SIZE n) then s.done h .badAddress
    else if count = 0 then s.done h .ok
    else ((s.setPsm n { s.psm n with snap := some { hdr := h } }).set (F.PSM_STATUS_SNAP_ARMED n) 1).set (F.PSM_SNAP_DONE n) 0)

/-- PSM_SNAP_TRIG (R244, R248). -/
def execPsmSnapTrig (h : CmdHdr) (pl : List Word) (s : State) : Out :=
  s.psmCmd 0x49 h pl (fun n s => (s.snapTrigger n 0 s.time).done h .ok)

end Sys2Proof.Machine
end

