-- ==== Sys2Proof/Machine/AeCore.lean ====
section
/-! DEFINITION. The analysis engine cores: registers, the exposed pipeline, addressing, faults, and one
meaning per instruction (10_analysis_engine.md, R253 to R271, R278, R279). -/

namespace Sys2Proof.Machine

/-- The hidden state of core c. -/
def State.aec (s : State) (c : Nat) : AeCore := Tab.get {} s.aes c

/-- Replace it. -/
def State.setAec (s : State) (c : Nat) (k : AeCore) : State := { s with aes := Tab.put {} s.aes c k }

/-- Sixteen lanes of 0. -/
def lanes0 : List Int := List.replicate 16 0

def AeCore.getV (k : AeCore) (i : Nat) : List Int := Tab.get lanes0 k.v i
def AeCore.getA (k : AeCore) (i : Nat) : List Int := Tab.get lanes0 k.a i
def AeCore.getAN (k : AeCore) (i : Nat) : List Int := Tab.get lanes0 k.aNext i
def AeCore.getS (k : AeCore) (i : Nat) : Nat := Tab.get 0 k.s i
def AeCore.getP (k : AeCore) (i : Nat) : Nat := Tab.get 0 k.p i
def AeCore.getM (k : AeCore) (i : Nat) : Nat := Tab.get 0 k.m i
def AeCore.getX (k : AeCore) (i : Nat) : Nat := Tab.get 0 k.x i

/-- Width of a special register (R253): LC0, LC1, RC, ST, IPC, IST. -/
def aeSpecialW : Nat → Nat
  | 2 => 16
  | 3 => 4
  | 4 => 13
  | _ => 32

/-- Base address of a core's data memory and instruction memory windows. -/
def aeDmem (c : Nat) : Nat := (Region.aeDmem c).base
def aeImem (c : Nat) : Nat := (Region.aeImem c).base

/-- Is a write the result of a VMAC on accumulator i? -/
def AeWrite.vmacOn (i : Nat) : AeWrite → Bool
  | .a j _ true => j == i
  | _ => false

/-- A write takes effect. The next VMAC on an accumulator sees it too, but for the write of a VMAC after which another has
issued on it (R263, R264). -/
def State.aeApply (s : State) (c : Nat) (w : AeWrite) : State :=
  let k := s.aec c
  match w with
  | .v i l => s.setAec c { k with v := Tab.put lanes0 k.v i l }
  | .lane i j x => s.setAec c { k with v := Tab.put lanes0 k.v i ((k.getV i).set j x) }
  | .a i l seen => s.setAec c { k with
      a := Tab.put lanes0 k.a i l
      aNext := if seen && k.writes.any (fun x => x.2.vmacOn i) then k.aNext else Tab.put lanes0 k.aNext i l }
  | .s i x => s.setAec c { k with s := Tab.put 0 k.s i (x % 2 ^ 32) }
  | .p i x => s.setAec c { k with p := Tab.put 0 k.p i (x % 2 ^ 19) }
  | .m i lo w x => s.setAec c { k with m := Tab.put 0 k.m i (setBits (k.getM i) lo w x % 2 ^ 46) }
  | .x i v => s.setAec c { k with x := Tab.put 0 k.x i (v % 2 ^ aeSpecialW i) }
  | .flags mask => s.setAec c { k with x := Tab.put 0 k.x 3 (k.getX 3 ||| mask) }
  | .mem addr ws => s.forEach (List.range ws.length) (fun i t => t.wr (aeDmem c + addr + 4 * i) (ws.getD i 0))

/-- Keep the waiting writes in the order in which they take effect: by cycle, then by issue (R264). -/
def insertWrite (d : Nat) (w : AeWrite) : List (Nat × AeWrite) → List (Nat × AeWrite)
  | [] => [(d, w)]
  | (e, x) :: l => if d < e then (d, w) :: (e, x) :: l else (e, x) :: insertWrite d w l

/-- Issue a write that instructions issued `lat` cycles later and after see (R263). -/
def State.aeWrite (s : State) (c lat : Nat) (w : AeWrite) : State :=
  let k := s.aec c
  s.setAec c { k with writes := insertWrite (k.clock + lat) w k.writes }

/-- The writes that instructions issued in the present cycle see take effect. -/
def State.aeCommit (s : State) (c : Nat) : State :=
  let k := s.aec c
  let due := k.writes.filter (fun x => decide (x.1 ≤ k.clock))
  let t := s.setAec c { k with writes := k.writes.filter (fun x => decide (k.clock < x.1)) }
  t.forEach due (fun x u => u.aeApply c x.2)

/-- Every issued instruction writes its results. -/
def State.aeDrain (s : State) (c : Nat) : State :=
  let k := s.aec c
  (s.setAec c { k with writes := [] }).forEach k.writes (fun x u => u.aeApply c x.2)

/-- PC of a core. -/
def State.aePc (s : State) (c : Nat) : Nat := s.get (F.AE_PC c)

def State.setAePc (s : State) (c pc : Nat) : State := s.set (F.AE_PC c) pc

/-- The instruction word at an index. -/
def State.aeWord (s : State) (c i : Nat) : Nat := s.rd64 (aeImem c + 8 * (i % 8192))

/-! ## Halts and faults -/

/-- The core stops; AE_STATUS shows the sticky bits of ST. -/
def State.aeHalt (s : State) (c : Nat) : State :=
  let t := s.aeDrain c
  let st := (t.aec c).getX 3
  let t := t.setAec c { t.aec c with branch := none, rep := none, haltReq := false }
  ((((t.set (F.AE_STATUS_RUNNING c) 0).set (F.AE_STATUS_IN_REP c) 0).setB (F.AE_STATUS_OVF c) (bit st 1)).setB
    (F.AE_STATUS_SAT_OP c) (bit st 2)).setB (F.AE_STATUS_SAT_ST c) (bit st 3)

/-- Answer a library call. -/
def State.aeAnswer (s : State) (x : AeCall) (st : Status) (pl : List Word) : State := s.answer x.owner st 0 pl

/-- The library call of a core completes with a status and no result, and counts (R280). -/
def State.aeCallFail (s : State) (c : Nat) (st : Status) : State :=
  let k := s.aec c
  match k.call with
  | none => s
  | some x => (((s.setAec c { k with call := none }).set (F.AE_STATUS_CALL_BUSY c) 0).bumpBy
      ⟨R.AE_CALL_CNT c, 0, 32⟩ 1).aeAnswer x st []

/-- The address field of an execution or DMA fault (R278). -/
def State.aeAddr (s : State) (c : Nat) : Nat := c + 2 ^ 3 * s.aePc c

/-- An illegal operation (R258). -/
def State.aeIllegal (s : State) (c : Nat) : State :=
  ((s.aeHalt c).raiseOnce (F.AE_STATUS_ILLEGAL c) (0x120 + 4 * c) cPROTOCOL 0x01 (s.aeAddr c)).aeCallFail c .internal

/-- An uncorrectable error at a byte address of a core's memories (R278). -/
def State.aeMemCheck (s : State) (c addr : Nat) : State :=
  ((s.aeHalt c).raiseOnce (F.AE_STATUS_MEM_CHECK c) (0x121 + 4 * c) cMEMORY 0x01 (c + 2 ^ 3 * (addr % 2 ^ 19))).aeCallFail c .internal

/-- RESET of a core (R279): R253's state and AE_INT_PEND clear, both memories stay. -/
def State.aeResetCore (s : State) (c : Nat) (st : Status) : State :=
  let t := s.setAec c { s.aec c with writes := [] }
  let t := (t.aeHalt c).aeCallFail c st
  ((t.setAec c {}).setAePc c 0).set (F.AE_INT_PEND c) 0

/-- A core starts to issue at an index. -/
def State.aeStart (s : State) (c pc : Nat) : State :=
  let k := s.aec c
  let t := s.setAec c { k with clock := 0, writes := [], branch := none, rep := none, haltReq := false }
  ((t.setAePc c pc).set (F.AE_STATUS_RUNNING c) 1).wr64 (R.AE_CYCLE_LO c) 0

/-! ## Legal words (R256 to R258) -/

def aeClass (w : Nat) : Nat := bits w 60 4
def aeSat (w : Nat) : Bool := bit w 59

/-- Is an RSPEC a register? -/
def rspecOk (r : Nat) : Bool :=
  match r / 16 with
  | 0 => true
  | 1 => true
  | 2 => decide (r % 16 < 4)
  | 3 => decide (r % 16 < 8)
  | 4 => decide (r % 16 < 8)
  | 5 => decide (r % 16 < 6)
  | _ => false

/-- May MOV copy from one register file to the other (R257)? -/
def movPair (dst src lane : Nat) : Bool :=
  if dst = src then true
  else match dst, src with
    | 0, 3 => true
    | 3, 0 => true
    | 0, 4 => decide (lane < 2)
    | 4, 0 => decide (lane < 2)
    | 0, 5 => true
    | 5, 0 => true
    | 1, 2 => true
    | 2, 1 => true
    | _, _ => false

/-- Is a word free of reserved classes, codes, field values and bits? -/
def aeLegal (w : Nat) : Bool :=
  match aeClass w with
  | 0 =>
    let op := bits w 53 6
    decide (bits w 0 41 = 0)
      && (decide (op < 0x0C) || (decide (op = 0x0C) && decide (bits w 45 4 = 0)) || (decide (op = 0x3F) && decide (bits w 41 12 = 0)))
  | 1 =>
    let op := bits w 53 6
    decide (bits w 32 13 = 0)
      && (decide (op < 0x0C) || (decide (op = 0x0C) && decide (bits w 45 4 = 0))
          || (decide (op = 0x3F) && decide (bits w 0 53 = 0)))
  | 2 => decide (bits w 53 6 < 0x0F) && decide (bits w 0 32 = 0)
  | 3 => decide (bits w 57 2 < 3) && decide (bits w 0 38 = 0)
  | 4 =>
    let op := bits w 55 4
    decide (op < 7) && decide (bits w 19 13 = 0) && (!bit w 32 || decide (bits w 43 4 = 0))
      && (decide (op ≠ 6) || (decide (bits w 47 8 = 0) && decide (bits w 39 2 < 2) && decide (bits w 33 6 < 56)))
  | 5 =>
    let dst := bits w 49 7
    let src := bits w 42 7
    decide (bits w 0 38 = 0) && rspecOk dst && rspecOk src
      && (match bits w 56 3 with
          | 0 => movPair (dst / 16) (src / 16) (bits w 38 4)
          | 1 => decide (dst / 16 = 0) && decide (src / 16 = 1)
          | 2 => decide (dst / 16 = 1) && decide (src / 16 = 0)
          | _ => false)
  | 6 =>
    decide (bits w 55 4 < 9) && decide (bits w 13 33 = 0) && (decide (bits w 55 4 ≠ 1) || decide (bits w 48 3 < 4))
  | 7 => decide (bits w 16 42 = 0)
  | 8 => !bit w 0 || (decide (bits w 43 14 = 0) && decide (bits w 1 30 = 0))
  | _ => false

/-- May REP repeat the word (R266)? -/
def repeatable (w : Nat) : Bool :=
  match aeClass w with
  | 0 | 1 | 2 | 3 | 4 => true
  | 5 => !(bits w 56 3 == 0 && (bits w 49 7 == 0x53 || bits w 49 7 == 0x54 || bits w 49 7 == 0x55))
  | _ => false

/-! ## Issue -/

/-- Is the core at a boundary where an interrupt or HALT_REQ may be taken (R266, R268)? -/
def AeCore.boundary (k : AeCore) : Bool := k.branch.isNone && k.rep.isNone

/-- The cycle of an issue ends (R280). -/
def State.aeTick (s : State) (c : Nat) : State :=
  let k := s.aec c
  (s.setAec c { k with clock := k.clock + 1 }).wr64 (R.AE_CYCLE_LO c) ((s.rd64 (R.AE_CYCLE_LO c) + 1) % 2 ^ 64)

/-- One instruction has issued: the cycle ends, and the PC goes on through a REP or a branch's slots. -/
def State.aeNext (s : State) (c : Nat) : State :=
  let s := s.aeTick c
  let k := s.aec c
  let pc := s.aePc c
  let s :=
    match k.rep with
    | some n =>
      if n ≤ 1 then ((s.setAec c { k with rep := none }).set (F.AE_STATUS_IN_REP c) 0).setAePc c (pc + 1)
      else s.setAec c { k with rep := some (n - 1) }
    | none =>
      match k.branch with
      | none => s.setAePc c (pc + 1)
      | some (n, target) =>
        if 1 < n then (s.setAec c { k with branch := some (n - 1, target) }).setAePc c (pc + 1)
        else
          let s := s.setAec c { k with branch := none }
          match target with
          | some a => s.setAePc c a
          | none =>
            let s := s.aeCommit c
            let k := s.aec c
            (s.setAec c { k with x := Tab.put 0 k.x 3 (k.getX 5 % 16) }).setAePc c (k.getX 4)
  if (s.aec c).haltReq ∧ (s.aec c).boundary then s.aeHalt c else s

/-- An instruction row of core c: the word at PC issues if it is of the row's operation. A word that is no
legal operation where it stands halts the core (R258); an uncorrectable error in it does too (R278).
`act` is the operation, PC and cycle included; it answers none where the operation is illegal. -/
def State.aeIssue (s : State) (c : Nat) (chk : AeChk) (want : Nat → Bool) (act : Nat → State → Option State) : Out :=
  .next (
    if s.flag (F.AE_STATUS_RUNNING c) = false ∨ s.aeMuzzled c then s
    else
      let pc := s.aePc c
      let w := s.aeWord c pc
      let s := if chk = .corrected then s.bumpBy ⟨R.AE_CORR_CNT c, 0, 32⟩ 1 else s
      if chk = .fetch then s.aeMemCheck c (8 * pc)
      else if aeLegal w = false ∨ ((s.aec c).branch.isSome ∧ (aeClass w = 6 ∨ aeClass w = 7)) then s.aeIllegal c
      else if want w = false then s
      else
        match act w (s.aeCommit c) with
        | none => s.aeIllegal c
        | some t => t)

/-- A row whose operation takes one cycle and goes on to the next instruction. -/
def State.aeRow (s : State) (c : Nat) (chk : AeChk) (want : Nat → Bool) (act : Nat → State → Option State) : Out :=
  s.aeIssue c chk want (fun w t => (act w t).map (fun u => if u.flag (F.AE_STATUS_RUNNING c) then u.aeNext c else u))

/-! ## SCALAR and SIMM (R257) -/

/-- Does the word carry scalar operation `op`? -/
def isScalar (op w : Nat) : Bool := (aeClass w == 0 || aeClass w == 1) && bits w 53 6 == op

/-- A scalar operation on 32-bit values. -/
def State.aeScalar (s : State) (c : Nat) (chk : AeChk) (op : Nat) (f : Nat → Nat → Nat) : Out :=
  s.aeRow c chk (isScalar op) (fun w s =>
    let k := s.aec c
    let b := if aeClass w = 1 then bits w 0 32 else k.getS (bits w 41 4)
    some (s.aeWrite c 1 (.s (bits w 49 4) (f (k.getS (bits w 45 4)) b % 2 ^ 32))))

/-- 1 or 0. -/
def b2n (b : Bool) : Nat := if b then 1 else 0

def execScalarAdd (c : CoreId) (k : AeChk) (s : State) : Out := s.aeScalar c k 0x00 (fun a b => a + b)
def execScalarSub (c : CoreId) (k : AeChk) (s : State) : Out := s.aeScalar c k 0x01 (fun a b => a + 2 ^ 32 - b)
def execScalarAnd (c : CoreId) (k : AeChk) (s : State) : Out := s.aeScalar c k 0x02 (fun a b => a &&& b)
def execScalarOr (c : CoreId) (k : AeChk) (s : State) : Out := s.aeScalar c k 0x03 (fun a b => a ||| b)
def execScalarXor (c : CoreId) (k : AeChk) (s : State) : Out := s.aeScalar c k 0x04 (fun a b => a ^^^ b)
def execScalarShl (c : CoreId) (k : AeChk) (s : State) : Out := s.aeScalar c k 0x05 (fun a b => a * 2 ^ (b % 32))
def execScalarShr (c : CoreId) (k : AeChk) (s : State) : Out := s.aeScalar c k 0x06 (fun a b => a / 2 ^ (b % 32))
def execScalarSar (c : CoreId) (k : AeChk) (s : State) : Out :=
  s.aeScalar c k 0x07 (fun a b => unsigned 32 (signed 32 a / 2 ^ (b % 32)))
def execScalarMul (c : CoreId) (k : AeChk) (s : State) : Out := s.aeScalar c k 0x08 (fun a b => a * b)
def execScalarSeq (c : CoreId) (k : AeChk) (s : State) : Out := s.aeScalar c k 0x09 (fun a b => b2n (a == b))
def execScalarSlt (c : CoreId) (k : AeChk) (s : State) : Out :=
  s.aeScalar c k 0x0A (fun a b => b2n (decide (signed 32 a < signed 32 b)))
def execScalarSltu (c : CoreId) (k : AeChk) (s : State) : Out := s.aeScalar c k 0x0B (fun a b => b2n (decide (a < b)))
def execScalarLi (c : CoreId) (k : AeChk) (s : State) : Out := s.aeScalar c k 0x0C (fun _ b => b)
def execScalarNop (c : CoreId) (k : AeChk) (s : State) : Out := s.aeRow c k (isScalar 0x3F) (fun _ s => some s)

/-! ## VALU (R257, R259) -/

/-- The low n bits as a signed value. -/
def wrapI (n : Nat) (x : Int) : Int := signed n (unsigned n x)

/-- Limited to n bits signed. -/
def satI (n : Nat) (x : Int) : Int := max (-(2 ^ (n - 1) : Int)) (min (2 ^ (n - 1) - 1) x)

/-- The results of lanes under R259, and the ST bits they set; `ns` bits under SAT, `nw` bits wrapped. -/
def limitLanes (sat : Bool) (ns nw : Nat) (l : List Int) : List Int × Nat :=
  if sat then (l.map (satI ns), if l.any (fun x => satI ns x != x) then 4 else 0)
  else (l.map (wrapI nw), if l.any (fun x => wrapI nw x != x) then 2 else 0)

/-- Set sticky ST bits `lat` cycles on, if any. -/
def State.aeFlags (s : State) (c lat mask : Nat) : State := if mask = 0 then s else s.aeWrite c lat (.flags mask)

/-- Lane by lane. -/
def lanes3 (f : Int → Int → Int → Int) (a b d : List Int) : List Int :=
  (List.range 16).map (fun i => f (a.getD i 0) (b.getD i 0) (d.getD i 0))

/-- A vector operation with shift count. -/
def State.aeValu (s : State) (c : Nat) (chk : AeChk) (op : Nat) (f : Nat → Int → Int → Int → Int) : Out :=
  s.aeRow c chk (fun w => aeClass w == 2 && bits w 53 6 == op) (fun w s =>
    let k := s.aec c
    let l := lanes3 (f (bits w 32 5)) (k.getV (bits w 45 4)) (k.getV (bits w 41 4)) (k.getV (bits w 37 4))
    let r := limitLanes (aeSat w) 24 24 l
    some ((s.aeWrite c 2 (.v (bits w 49 4) r.1)).aeFlags c 2 r.2))

/-- A bitwise operation on 24-bit lanes. -/
def logic24 (f : Nat → Nat → Nat) (a b : Int) : Int := signed 24 (f (unsigned 24 a) (unsigned 24 b))

def execValuAdd (c : CoreId) (k : AeChk) (s : State) : Out := s.aeValu c k 0x00 (fun _ a b _ => a + b)
def execValuSub (c : CoreId) (k : AeChk) (s : State) : Out := s.aeValu c k 0x01 (fun _ a b _ => a - b)
def execValuNeg (c : CoreId) (k : AeChk) (s : State) : Out := s.aeValu c k 0x02 (fun _ a _ _ => -a)
def execValuAbs (c : CoreId) (k : AeChk) (s : State) : Out := s.aeValu c k 0x03 (fun _ a _ _ => if a < 0 then -a else a)
def execValuMin (c : CoreId) (k : AeChk) (s : State) : Out := s.aeValu c k 0x04 (fun _ a b _ => min a b)
def execValuMax (c : CoreId) (k : AeChk) (s : State) : Out := s.aeValu c k 0x05 (fun _ a b _ => max a b)
def execValuAnd (c : CoreId) (k : AeChk) (s : State) : Out :=
  s.aeValu c k 0x06 (fun _ a b _ => logic24 (fun x y => x &&& y) a b)
def execValuOr (c : CoreId) (k : AeChk) (s : State) : Out :=
  s.aeValu c k 0x07 (fun _ a b _ => logic24 (fun x y => x ||| y) a b)
def execValuXor (c : CoreId) (k : AeChk) (s : State) : Out :=
  s.aeValu c k 0x08 (fun _ a b _ => logic24 (fun x y => x ^^^ y) a b)
def execValuNot (c : CoreId) (k : AeChk) (s : State) : Out := s.aeValu c k 0x09 (fun _ a _ _ => -a - 1)
def execValuSar (c : CoreId) (k : AeChk) (s : State) : Out := s.aeValu c k 0x0A (fun sh a _ _ => a / 2 ^ sh)
def execValuShl (c : CoreId) (k : AeChk) (s : State) : Out := s.aeValu c k 0x0B (fun sh a _ _ => a * 2 ^ sh)
def execValuCmpeq (c : CoreId) (k : AeChk) (s : State) : Out := s.aeValu c k 0x0C (fun _ a b _ => if a = b then -1 else 0)
def execValuCmplt (c : CoreId) (k : AeChk) (s : State) : Out := s.aeValu c k 0x0D (fun _ a b _ => if a < b then -1 else 0)
def execValuSel (c : CoreId) (k : AeChk) (s : State) : Out := s.aeValu c k 0x0E (fun _ a b d => if d < 0 then a else b)

/-! ## Addressing (R254, R261, R262) -/

/-- The least e with n ≤ 2^e, up to a bound. -/
def ceilLog2 (n : Nat) : Nat → Nat
  | 0 => 0
  | f + 1 => if n ≤ 1 then 0 else 1 + ceilLog2 ((n + 1) / 2) f

/-- The low k bits of x in reverse order. -/
def revBits (x : Nat) : Nat → Nat
  | 0 => 0
  | k + 1 => (x % 2) * 2 ^ k + revBits (x / 2) k

/-- The address register after post-modify by M; none for a reserved mode or limits not met. -/
def postModify (p m : Nat) : Option Nat :=
  let inc := signed 19 m
  let len := bits m 27 19
  let k := bits m 22 5
  match bits m 20 2 with
  | 0 => some (unsigned 19 ((p : Int) + inc))
  | 1 =>
    let e := 2 ^ ceilLog2 len 20
    let b := p / e * e
    if len < 4 ∨ 0x80000 < b + len then none
    else some (b + (((p : Int) - b + inc) % (len : Int)).toNat)
  | 2 =>
    if k < 2 ∨ 19 < k then none
    else
      let r := (revBits p k + revBits (unsigned 19 inc) k) % 2 ^ k
      some (p / 2 ^ k * 2 ^ k + revBits r k)
  | _ => none

/-- Apply the post-modify of P n if asked for. -/
def State.aePost (s : State) (c n : Nat) (pm : Bool) : Option State :=
  if pm then
    match postModify ((s.aec c).getP n) ((s.aec c).getM n) with
    | none => none
    | some p => some (s.aeWrite c 1 (.p n p))
  else some s

/-- Is an access of `n` bytes at a multiple of `al` inside data memory? -/
def dmemOk (a n al : Nat) : Bool := decide (a % al = 0) && decide (a + n ≤ 0x80000)

/-- The data words of an access. -/
def State.aeLoad (s : State) (c a n : Nat) : List Nat := (List.range n).map (fun i => s.rd (aeDmem c + a + 4 * i))

/-- Sixteen lanes loaded from data memory. -/
def State.aeVec (s : State) (c a : Nat) : List Int := (s.aeLoad c a 16).map (signed 24)

/-- A word with bits [31:24] the sign extension of bit 23. -/
def storeWord (x : Int) : Nat := unsigned 32 (wrapI 24 x)

/-! ## VMAC (R255, R259) -/

/-- A multiply-accumulate, optionally with a vector load. -/
def State.aeVmac (s : State) (c : Nat) (chk : AeChk) (op : Nat) (f : Int → Int → Int → Int) : Out :=
  s.aeRow c chk (fun w => aeClass w == 3 && bits w 57 2 == op) (fun w s =>
    let k := s.aec c
    let n := bits w 55 2
    let r := limitLanes (aeSat w) 48 56 (lanes3 f (k.getV (bits w 51 4)) (k.getV (bits w 47 4)) (k.getAN n))
    let acc (t : State) : State :=
      let u := (t.aeWrite c 3 (.a n r.1 true)).aeFlags c 3 r.2
      u.setAec c { u.aec c with aNext := Tab.put lanes0 (u.aec c).aNext n r.1 }
    if bit w 46 then
      let pn := bits w 39 3
      let a := k.getP pn
      if dmemOk a 64 64 = false then none
      else if chk = .load then some (s.aeMemCheck c a)
      else (s.aePost c pn (bit w 38)).map (fun t => (acc t).aeWrite c 3 (.v (bits w 42 4) (s.aeVec c a)))
    else some (acc s))

def execVmacMul (c : CoreId) (k : AeChk) (s : State) : Out := s.aeVmac c k 0 (fun a b _ => a * b)
def execMac (c : CoreId) (k : AeChk) (s : State) : Out := s.aeVmac c k 1 (fun a b d => d + a * b)
def execMsu (c : CoreId) (k : AeChk) (s : State) : Out := s.aeVmac c k 2 (fun a b d => d - a * b)

/-! ## LDST (R254, R257, R260) -/

/-- A load or store: its size and alignment, and what it does at the address. -/
def State.aeLdst (s : State) (c : Nat) (chk : AeChk) (op : Nat) (isLoad : Bool) (size al : Nat → Nat)
    (act : Nat → Nat → State → State) : Out :=
  s.aeRow c chk (fun w => aeClass w == 4 && bits w 55 4 == op) (fun w s =>
    let pn := bits w 44 3
    let a := if bit w 32 then bits w 0 19 else (s.aec c).getP pn
    if dmemOk a (size w) (al w) = false then none
    else if isLoad ∧ chk = .load then some (s.aeMemCheck c a)
    else (s.aePost c pn (bit w 43 && !bit w 32)).map (act w a))

def execVld (c : CoreId) (k : AeChk) (s : State) : Out :=
  s.aeLdst c k 0 true (fun _ => 64) (fun _ => 64) (fun w a s => s.aeWrite c 3 (.v (bits w 51 4) (s.aeVec c a)))
def execVst (c : CoreId) (k : AeChk) (s : State) : Out :=
  s.aeLdst c k 1 false (fun _ => 64) (fun _ => 64) (fun w a s =>
    s.aeWrite c 2 (.mem a (((s.aec c).getV (bits w 51 4)).map storeWord)))
def execWld (c : CoreId) (k : AeChk) (s : State) : Out :=
  s.aeLdst c k 2 true (fun _ => 4) (fun _ => 4) (fun w a s =>
    s.aeWrite c 3 (.lane (bits w 51 4) (bits w 47 4) (signed 24 (s.rd (aeDmem c + a)))))
def execWst (c : CoreId) (k : AeChk) (s : State) : Out :=
  s.aeLdst c k 3 false (fun _ => 4) (fun _ => 4) (fun w a s =>
    s.aeWrite c 2 (.mem a [storeWord (((s.aec c).getV (bits w 51 4)).getD (bits w 47 4) 0)]))
def execSld (c : CoreId) (k : AeChk) (s : State) : Out :=
  s.aeLdst c k 4 true (fun _ => 4) (fun _ => 4) (fun w a s => s.aeWrite c 3 (.s (bits w 51 4) (s.rd (aeDmem c + a))))
def execSst (c : CoreId) (k : AeChk) (s : State) : Out :=
  s.aeLdst c k 5 false (fun _ => 4) (fun _ => 4) (fun w a s => s.aeWrite c 2 (.mem a [(s.aec c).getS (bits w 51 4)]))

/-- An accumulator lane shifted with rounding (R260). -/
def staShift (x : Int) (sh : Nat) : Int := if sh = 0 then x else (x + 2 ^ (sh - 1)) / 2 ^ sh

/-- STA (R260): FMT 0 stores 48 bits in 64, FMT 1 stores 24 bits in a word. -/
def execSta (c : CoreId) (k : AeChk) (s : State) : Out :=
  s.aeLdst c k 6 false (fun w => if bits w 39 2 = 0 then 128 else 64) (fun _ => 64) (fun w a s =>
    let l := ((s.aec c).getA (bits w 41 2)).map (fun x => staShift x (bits w 33 6))
    let n := if bits w 39 2 = 0 then 48 else 24
    let r := l.map (satI n)
    let ws := if n = 48 then r.flatMap (fun x => [unsigned 64 x % 2 ^ 32, unsigned 64 x / 2 ^ 32]) else r.map (unsigned 32)
    (s.aeWrite c 2 (.mem a ws)).aeFlags c 2 (if r = l then 0 else 8))

/-! ## MOVE (R257) -/

/-- The value of an S, P, M or special register. -/
def AeCore.scalarOf (k : AeCore) (file n lane : Nat) : Nat :=
  match file with
  | 0 => k.getS n
  | 3 => k.getP n
  | 4 => if lane = 0 then k.getM n % 2 ^ 32 else k.getM n / 2 ^ 32
  | _ => k.getX n

/-- The write of a MOV into register n of a file and its latency (R263; a destination without a listed
latency is seen by the next instruction, assumption 21). -/
def AeCore.mov (k : AeCore) (df dn sf sn lane : Nat) : List (Nat × AeWrite) :=
  match df, sf with
  | 1, 1 => [(1, .v dn (k.getV sn))]
  | 2, 2 => [(1, .a dn (k.getA sn) false)]
  | 1, 2 =>
    let l := k.getA sn
    let r := l.map (wrapI 24)
    (1, .v dn r) :: (if r = l then [] else [(1, .flags 2)])
  | 2, 1 => [(1, .a dn (k.getV sn) false)]
  | 4, 4 => [(3, .m dn 0 46 (k.getM sn))]
  | 4, _ => [(3, if lane = 0 then .m dn 0 32 (k.getS sn) else .m dn 32 14 (k.getS sn))]
  | 3, _ => [(1, .p dn (k.scalarOf sf sn lane))]
  | 5, _ => [(3, .x dn (k.scalarOf sf sn lane))]
  | _, _ => [(1, .s dn (k.scalarOf sf sn lane))]

/-- Is the word MOVE operation `op`? -/
def isMove (op w : Nat) : Bool := aeClass w == 5 && bits w 56 3 == op

def execMov (c : CoreId) (k : AeChk) (s : State) : Out :=
  s.aeRow c k (isMove 0) (fun w s =>
    some (s.forEach ((s.aec c).mov (bits w 53 3) (bits w 49 4) (bits w 46 3) (bits w 42 4) (bits w 38 4))
      (fun x t => t.aeWrite c x.1 x.2)))

def execLanex (c : CoreId) (k : AeChk) (s : State) : Out :=
  s.aeRow c k (isMove 1) (fun w s =>
    some (s.aeWrite c 1 (.s (bits w 49 4) (unsigned 32 (((s.aec c).getV (bits w 42 4)).getD (bits w 38 4) 0)))))

def execBcast (c : CoreId) (k : AeChk) (s : State) : Out :=
  s.aeRow c k (isMove 2) (fun w s =>
    some (s.aeWrite c 1 (.v (bits w 49 4) (List.replicate 16 (signed 24 ((s.aec c).getS (bits w 42 4)))))))

/-! ## FLOW (R257, R265, R268) -/

/-- Is the word FLOW operation `op`? -/
def isFlow (op w : Nat) : Bool := aeClass w == 6 && bits w 55 4 == op

/-- A branch: control passes to the target (none: RTI) after the branch and its two slots have issued. -/
def State.aeBranch (s : State) (c : Nat) (target : Option Nat) : State :=
  s.setAec c { s.aec c with branch := some (3, target) }

def execBr (c : CoreId) (k : AeChk) (s : State) : Out :=
  s.aeRow c k (isFlow 0) (fun w s => some (s.aeBranch c (some (bits w 0 13))))

/-- A branch that is not taken: its two slots issue all the same, and control goes on after them (R265). -/
def State.aeFall (s : State) (c : Nat) : State := s.aeBranch c (some ((s.aePc c + 3) % 8192))

/-- Does a scalar meet COND? -/
def aeCond (cond x : Nat) : Bool :=
  match cond with
  | 0 => decide (x = 0)
  | 1 => decide (x ≠ 0)
  | 2 => bit x 31
  | _ => !bit x 31

def execBrc (c : CoreId) (k : AeChk) (s : State) : Out :=
  s.aeRow c k (isFlow 1) (fun w s =>
    some (if aeCond (bits w 48 3) ((s.aec c).getS (bits w 51 4)) then s.aeBranch c (some (bits w 0 13)) else s.aeFall c))

def execCall (c : CoreId) (k : AeChk) (s : State) : Out :=
  s.aeRow c k (isFlow 2) (fun w s =>
    some ((s.aeWrite c 1 (.s 15 ((s.aePc c + 3) % 8192))).aeBranch c (some (bits w 0 13))))

def execRet (c : CoreId) (k : AeChk) (s : State) : Out :=
  s.aeRow c k (isFlow 3) (fun _ s => some (s.aeBranch c (some ((s.aec c).getS 15 % 2 ^ 13))))

def execRti (c : CoreId) (k : AeChk) (s : State) : Out :=
  s.aeRow c k (isFlow 4) (fun _ s => some (s.aeBranch c none))

def execDjnz (c : CoreId) (k : AeChk) (s : State) : Out :=
  s.aeRow c k (isFlow 5) (fun w s =>
    let i := b2n (bit w 47)
    let n := (s.aec c).getX i
    if n = 0 then some (s.aeFall c)
    else
      let t := s.aeWrite c 1 (.x i (n - 1))
      some (if n = 1 then t.aeFall c else t.aeBranch c (some (bits w 0 13))))

/-- Set a pending bit of AE_INT_PEND (R267). -/
def State.aePend (s : State) (c i : Nat) : State := s.set ⟨R.AE_INT_PEND c, i, 1⟩ 1

def execSwi (c : CoreId) (k : AeChk) (s : State) : Out :=
  s.aeRow c k (isFlow 6) (fun _ s => some (s.aePend c 3))

/-- A DMA channel of a core. -/
def AeCore.dma (k : AeCore) (ch : Nat) : Option AeDma := if ch = 0 then k.dma0 else k.dma1

def AeCore.setDma (k : AeCore) (ch : Nat) (d : Option AeDma) : AeCore :=
  if ch = 0 then { k with dma0 := d } else { k with dma1 := d }

/-- WAITDMA: while the channel runs the cycle passes and nothing issues. -/
def execWaitdma (c : CoreId) (k : AeChk) (s : State) : Out :=
  s.aeIssue c k (isFlow 7) (fun w s =>
    match (s.aec c).dma (b2n (bit w 46)) with
    | none => some (s.aeNext c)
    | some _ => some (s.setAec c { s.aec c with clock := (s.aec c).clock + 1 }))

def execHalt (c : CoreId) (k : AeChk) (s : State) : Out :=
  s.aeRow c k (isFlow 8) (fun _ s => some (((s.aeTick c).aeHalt c).setAePc c (s.aePc c + 1)))

/-! ## REP (R266) -/

def execRep (c : CoreId) (k : AeChk) (s : State) : Out :=
  s.aeIssue c k (fun w => aeClass w == 7) (fun w s =>
    let n := if bit w 58 then (s.aec c).getX 2 else bits w 0 16
    if repeatable (s.aeWord c (s.aePc c + 1)) = false then none
    else
      let t := s.aeNext c
      some (if n = 0 then t.setAePc c (t.aePc c + 1)
        else (t.setAec c { t.aec c with rep := some n }).set (F.AE_STATUS_IN_REP c) 1))

/-! ## DMA (R270, R271) -/

/-- The operands of a DMA instruction: DRAM byte address, data-memory address, length in 64-byte units. -/
def AeCore.dmaArgs (k : AeCore) (w : Nat) : Nat × Nat × Nat :=
  if bit w 0 then
    (64 * (k.getS (bits w 39 4) % 2 ^ 29), 64 * (k.getS (bits w 35 4) % 2 ^ 13), k.getS (bits w 31 4) % 2 ^ 14)
  else (64 * bits w 14 29, 64 * bits w 1 13, bits w 43 14)

/-- DMA_START: LEN_64 0 ends at once; a transfer outside its memories is refused (R270). -/
def execDmaStart (c : CoreId) (k : AeChk) (s : State) : Out :=
  s.aeRow c k (fun w => aeClass w == 8) (fun w s =>
    let ch := b2n (bit w 58)
    let core := s.aec c
    let (dram, loc, len) := core.dmaArgs w
    if (core.dma ch).isSome then none
    else if len = 0 then some (s.aePend c (1 + ch))
    else if 2 ^ 35 < dram + 64 * len ∨ 0x80000 < loc + 64 * len then
      some ((s.raiseOnce (F.AE_STATUS_DMA_ERR c) (0x122 + 4 * c) cMEMORY 0x01 (s.aeAddr c)).aePend c (1 + ch))
    else some (s.setAec c (core.setDma ch (some ⟨dram, loc, len, bit w 57⟩))))

/-- Move bursts until done or until one meets a muzzled pseudo-channel; true when one did. -/
def State.dmaBursts (s : State) (c : Nat) (d : AeDma) : Nat → State × Bool
  | 0 => (s, false)
  | n + 1 =>
    let i := d.len - (n + 1)
    let a := d.dram + 64 * i
    let l := aeDmem c + d.loc + 64 * i
    if s.touchesMuzzledPc a 64 then (s, true)
    else
      let t := if d.out then s.putDramList a ((List.range 16).map (fun j => s.rd (l + 4 * j)))
        else s.forEach (List.range 16) (fun j t => t.wr (l + 4 * j) (s.dramWord (a + 4 * j)))
      t.dmaBursts c d n

/-- AE_DMA_END: the transfer ends, and sets its pending bit. Under FREEZE it waits (R364). -/
def execAeDmaEnd (c : CoreId) (ch : Bool) (s : State) : Out :=
  .next (
    let i := b2n ch
    match (s.aec c).dma i with
    | none => s
    | some d =>
      if s.frozen then s else
      let (t, bad) := s.dmaBursts c d d.len
      let t := if bad then t.set (F.AE_STATUS_DMA_ERR c) 1 else t
      (t.setAec c ((t.aec c).setDma i none)).aePend c (1 + i))

/-! ## Interrupts (R267, R268) -/

/-- The lowest of n bits set in x. -/
def lowestBit (x n : Nat) : Option Nat := (List.range n).find? (fun i => bit x i)

/-- AE_INTERRUPT: the lowest pending enabled source is taken at a boundary while IE is 1; a MOVE to ST within its delay
slots has not changed IE yet (R263, R267). -/
def execAeInterrupt (c : CoreId) (s : State) : Out :=
  .next (
    if s.flag (F.AE_STATUS_RUNNING c) = false ∨ s.aeMuzzled c ∨ (s.aec c).boundary = false then s
    else
      let t := s.aeDrain c
      let k := t.aec c
      match lowestBit (t.rd (R.AE_INT_PEND c) &&& t.rd (R.AE_INT_EN c)) 4 with
      | none => s
      | some i =>
        if bit (((s.aeCommit c).aec c).getX 3) 0 then
          (t.setAec c { k with
            clock := k.clock + 4
            x := Tab.put 0 (Tab.put 0 (Tab.put 0 k.x 4 (t.aePc c)) 5 (k.getX 3)) 3 (setBits (k.getX 3) 0 1 0) }).setAePc c
            (t.get (F.AE_IVEC c) + 4 * i)
        else s)

end Sys2Proof.Machine
end

