-- ==== Sys2Proof/Machine/AeMath.lean ====
section
/-! DEFINITION. The figures of the AE library (R274, R275) over exact integers: means, deviations, the power
spectrum and its logarithms, each to the unit of its result. How the library rounds is open: a result that is not
exact is the number below it or the one above (a free value, assumption 33). -/

namespace Sys2Proof.Machine

/-- Draw n free words. -/
def State.drawWords (s : State) : Nat → List Nat × State
  | 0 => ([], s)
  | n + 1 =>
    let (w, t) := s.drawWord
    let (l, u) := t.drawWords n
    (w.toNat :: l, u)

/-- The greatest number from `r` to below r + 2^k that a property holds for, which holds up to it and not beyond. -/
def greatest (p : Nat → Bool) : Nat → Nat → Nat
  | 0, r => r
  | k + 1, r => greatest p k (if p (r + 2 ^ k) then r + 2 ^ k else r)

/-- ⌊√x⌋. -/
def isqrt (x : Nat) : Nat := greatest (fun r => decide (r * r ≤ x)) (x.log2 / 2 + 1) 0

/-- A result v ≤ x < v + 1: v where it is exact, else v or v + 1. -/
def State.rounds (s : State) (v : Int) (exact : Bool) : Int × State :=
  if exact then (v, s)
  else
    let (b, t) := s.drawBool
    (if b then v + 1 else v, t)

/-- The mean of a list in units of 1/k; a free word for no values. -/
def State.meanOf (s : State) (k : Nat) (l : List Int) : Int × State :=
  if l.isEmpty then
    let (w, t) := s.drawWords 2
    ((w.getD 0 0 + 2 ^ 32 * w.getD 1 0 : Nat), t)
  else
    let sum : Int := k * l.foldl (fun a x => a + x) 0
    s.rounds (sum / (l.length : Int)) (decide (sum % (l.length : Int) = 0))

/-- The root of the mean square about the mean of a list in units of 1/k; a free word for no values. -/
def State.deviationOf (s : State) (k : Nat) (l : List Int) : Int × State :=
  if l.isEmpty then
    let (w, t) := s.drawWords 2
    ((w.getD 0 0 + 2 ^ 32 * w.getD 1 0 : Nat), t)
  else
    let n := l.length
    let sum := l.foldl (fun a x => a + x) 0
    let q := ((n : Int) * l.foldl (fun a x => a + x * x) 0 - sum * sum).toNat * k ^ 2
    let r := isqrt (q / n ^ 2)
    s.rounds r (decide (r ^ 2 * n ^ 2 = q))

/-! ## The power spectrum (R274, R275) -/

/-- 1 in the fixed-point numbers of the spectrum. -/
def fftOne : Int := 2 ^ 192

/-- Cosine and sine of 2π / 2^k, by halving the angle. -/
def rootOf : Nat → Int × Int
  | 0 => (fftOne, 0)
  | 1 => (-fftOne, 0)
  | 2 => (0, fftOne)
  | k + 3 =>
    let c := (rootOf (k + 2)).1
    (isqrt (fftOne * (fftOne + c) / 2).toNat, isqrt (fftOne * (fftOne - c) / 2).toNat)

/-- Product of two complex fixed-point numbers. -/
def cmul (a b : Int × Int) : Int × Int := ((a.1 * b.1 - a.2 * b.2) / fftOne, (a.1 * b.2 + a.2 * b.1) / fftOne)

/-- n powers of w from z on. -/
def rootPowers (w : Int × Int) : Nat → Int × Int → List (Int × Int)
  | 0, _ => []
  | n + 1, z => z :: rootPowers w n (cmul z w)

/-- Weight n of a window over the cosines of 2πi / N: rectangular, Hann, four-term Blackman-Harris in their periodic
forms (PRESUMED, assumption 153). -/
def windowAt (kind : Nat) (cos : Nat → Int) (n : Nat) : Int :=
  match kind with
  | 0 => fftOne
  | 1 => (fftOne - cos n) / 2
  | _ => (35875 * fftOne - 48829 * cos n + 14128 * cos (2 * n) - 1168 * cos (3 * n)) / 100000

/-- Powers |X(b)|², b = 0 to N/2, of N = 2^k samples, in units of 1/fftOne². -/
def powers (kind : Nat) (l : List Int) : List Nat :=
  let n := l.length
  let roots := rootPowers (rootOf n.log2) n (fftOne, 0)
  let at_ (i : Nat) : Int × Int := roots.getD (i % n) (0, 0)
  let x := (List.range n).map (fun i => l.getD i 0 * windowAt kind (fun j => (at_ j).1) i)
  (List.range (n / 2 + 1)).map (fun b =>
    let re := (List.range n).foldl (fun a i => a + x.getD i 0 * (at_ (b * i)).1) 0 / fftOne
    let im := (List.range n).foldl (fun a i => a - x.getD i 0 * (at_ (b * i)).2) 0 / fftOne
    let p := (re * re + im * im).toNat
    if p < 2 ^ 192 then 0 else p)

/-- 10 log10 (a / b) in units of 1/1,024 dB, rounded down, for positive a and b. -/
def dbFloor (a b : Nat) : Int :=
  if b ≤ a then (greatest (fun v => decide (10 ^ v * b ^ 10240 ≤ a ^ 10240)) 20 0 : Nat)
  else -(1 + greatest (fun v => decide (10 ^ v * a ^ 10240 < b ^ 10240)) 20 0 : Nat)

/-- 10 log10 (a / b) as a dB value (R273). The spec states no result for a power of 0: a free word. -/
def State.dbOf (s : State) (a b : Nat) : Int × State :=
  if a = 0 ∨ b = 0 then
    let (w, t) := s.drawWord
    (w.toInt, t)
  else s.rounds (dbFloor a b) (decide (a = b))

/-- The dB values of several ratios. -/
def State.dbsOf (s : State) : List (Nat × Nat) → List Nat × State
  | [] => ([], s)
  | x :: l =>
    let (v, t) := s.dbOf x.1 x.2
    let (vs, u) := t.dbsOf l
    (unsigned 32 v :: vs, u)

/-- The power of full scale: the spec does not say which sine it is, nor how a window is normalised (a free value,
assumption 154). -/
def fullPower (kind n scale : Nat) : Nat := Config.fullScale kind n scale + 1

/-- Harmonic bins of bin m of n (R275), those dropped aside. -/
def harmonics (n m h : Nat) : List Nat :=
  ((List.range (h - 1)).map (fun i =>
    let b := ((i + 2) * m) % n
    if n / 2 < b then n - b else b)).filter (fun b => b != 0 && b != m)

/-- The figures of ADC_DYNAMIC over powers P(0) to P(N/2) (R275). -/
def State.dynamicOf (s : State) (p : List Nat) (n m h scale : Nat) : List Nat × State :=
  let hs := harmonics n m h
  let sig := p.getD m 0
  let d := (hs.map (fun b => p.getD b 0)).sum
  let bins := (List.range (n / 2)).map (· + 1)
  let noise := ((bins.filter (fun b => b != m && !hs.contains b)).map (fun b => p.getD b 0)).sum
  let top := ((bins.filter (fun b => b != m)).map (fun b => p.getD b 0)).foldl max 0
  let (l, t) := s.dbsOf [(sig, noise), (d, sig), (sig, noise + d), (sig, top)]
  let (e, t) := if sig = 0 ∨ noise + d = 0 then (let (w, u) := t.drawWord; (w.toInt, u))
    else t.rounds ((100 * dbFloor sig (noise + d) - 180224) / 602) false
  let (f, t) := t.dbsOf [(sig, fullPower 0 n scale)]
  (l ++ [unsigned 32 e] ++ f, t)

end Sys2Proof.Machine
end

