-- ==== Sys2Proof/Machine/AeCall.lean ====
section
/-! DEFINITION. AE core control writes and library calls (R272 to R281). -/

namespace Sys2Proof.Machine

/-! ## Submitting a call (R276, R277) -/

/-- Can the core take library calls at all? -/
def State.aeAble (s : State) (c : Nat) : Bool :=
  !s.aeMuzzled c && s.flag (F.AE_STATUS_LIB_INTACT c) && !s.flag (F.AE_CTL_USER c)

/-- Is it also idle? -/
def State.aeIdle (s : State) (c : Nat) : Bool :=
  s.aeAble c && !s.flag (F.AE_STATUS_RUNNING c) && (s.aec c).call.isNone

/-- The sites of a call: its SITE, and those a SITE_REDUCE ranges over. -/
def AeCall.sites (x : AeCall) : List Nat :=
  let w (i : Nat) := x.words.getD i 0
  sortAsc (bits (w 0) 16 10 :: (if w 0 % 256 = 5 then ((List.range (min (w 5) 1024)).map (w 4 + ·)).filter (· < 1024) else []))

/-- Sites need a core and none can take calls: they become untested and are marked by every muzzled core (R49, R276). -/
def State.aeNone (s : State) (sites : List Nat) : State :=
  (s.forEach ((List.range 8).filter (fun c => s.aeMuzzled c)) (fun c u => u.markSites (.ae c) sites 11)).untest sites 11

/-- No core can take calls: the call completes with MUZZLED. -/
def State.aeNoCore (s : State) (x : AeCall) : State := (s.aeNone x.sites).aeAnswer x .muzzled []

/-- Waiting calls that no core can take any more complete: one that names a core as R277 says, and every one with none able
at all with MUZZLED (R276). -/
def State.aeSettle (s : State) : State :=
  let gone (x : AeCall) : Bool := match x.core with
    | some c => !s.aeAble c
    | none => false
  let t := s.forEach (s.aeQueue.filter gone) (fun x u =>
    ({ u with aeQueue := u.aeQueue.erase x } : State).aeAnswer x
      (if x.core.any (fun c => s.aeMuzzled c) then .muzzled else .badState) [])
  if (List.range 8).any (fun c => s.aeAble c) then t
  else ({ t with aeQueue := [] } : State).forEach t.aeQueue (fun x u => u.aeNoCore x)

/-- Submit a call: it waits in the queue, or completes at once. -/
def State.aeSubmit (s : State) (x : AeCall) : State :=
  let early : Option Status :=
    match x.core with
    | some c =>
      if s.aeMuzzled c && (List.range 8).any (fun i => s.aeAble i) then some .muzzled
      else if s.aeMuzzled c then none
      else if s.aeAble c = false then some .badState
      else none
    | none => none
  match early with
  | some st => s.aeAnswer x st []
  | none =>
    if (List.range 8).any (fun c => s.aeAble c) = false then s.aeNoCore x
    else if 64 ≤ s.aeQueue.length then s.aeAnswer x .busy []
    else { s with aeQueue := s.aeQueue ++ [x] }

/-- AE_CALL (R277). -/
def execAeCall (h : CmdHdr) (pl : List Word) (s : State) : Out :=
  .next (s.cmd 0x5C h pl (fun s =>
    if s.stopped then s.done h .badState
    else s.aeSubmit ⟨.cmd h, (pl.take 16).map (·.toNat), if word pl 16 = 15 then none else some (word pl 16)⟩))

/-- The core a waiting call would go to: the lowest idle one, or the idle one it names. -/
def State.aeCoreFor (s : State) (x : AeCall) : Option Nat :=
  (List.range 8).find? (fun c => s.aeIdle c && (x.core == none || x.core == some c))

/-- AE_CALL_DISPATCH (R276): the first waiting call that a core can take is written to its mailbox. The library sets
AE_IVEC as it takes the call (R280), to a value of its own. -/
def execAeCallDispatch (s : State) : Out :=
  .next (
    if s.stopped then s
    else match s.aeQueue.find? (fun x => (s.aeCoreFor x).isSome) with
    | none => s
    | some x =>
      match s.aeCoreFor x with
      | none => s
      | some c =>
        let t := { s with aeQueue := s.aeQueue.erase x }
        let t := t.forEach (List.range 16) (fun i u => u.wr (R.AE_MBOX c i) (x.words.getD i 0))
        let (v, t) := t.drawWord
        let t := t.set (F.AE_IVEC c) (v.toNat % 2 ^ 13)
        let t := (t.setAec c { t.aec c with call := some x }).set (F.AE_STATUS_CALL_BUSY c) 1
        (t.set (F.AE_STATUS_RUNNING c) 1).aePend c 0)

/-! ## Control writes (R280) -/

/-- AE_CTL: a change of USER waits for the core to be idle; RESET, RUN and HALT_REQ act in that order. A core that becomes
USER leaves waiting calls to the others, or to none (R276). -/
def writeAeCtl (c v : Nat) (s : State) : Res :=
  let busy := s.flag (F.AE_STATUS_RUNNING c) || s.flag (F.AE_STATUS_CALL_BUSY c)
  let start := bit v 0 && bit v 1
  if busy ∧ bit v 1 ≠ s.flag (F.AE_CTL_USER c) then .error .busy
  else if start ∧ s.stopped then .error .badState
  else
    let t := s.store (R.AE_CTL c) (if bit v 1 then v else setBits v 0 1 (s.get (F.AE_CTL_RUN c)))
    let t := if bit v 3 then t.aeResetCore c .internal else t
    let t := if start ∧ t.flag (F.AE_STATUS_RUNNING c) = false then t.aeStart c (t.get (F.AE_CTL_START_PC c)) else t
    let t := if bit v 1 && !s.flag (F.AE_CTL_USER c) then t.aeSettle else t
    .ok (if bit v 2 ∧ t.flag (F.AE_STATUS_RUNNING c) then
        if (t.aec c).boundary then t.aeHalt c else t.setAec c { t.aec c with haltReq := true }
      else t)

/-- AE_RUN (R272, R280). -/
def execAeRun (_ : Origin) (c : CoreId) (value : Word) (s : State) : Out :=
  .next (s.respond (s.guarded (R.AE_CTL c) (writeAeCtl c value.toNat)))

/-- HALT_REQ (R266): the bit alone beside the present configuration. -/
def execHaltReq (_ : Origin) (c : CoreId) (s : State) : Out :=
  .next (s.respond (s.guarded (R.AE_CTL c) (writeAeCtl c (setBits (setBits (s.rd (R.AE_CTL c)) 0 1 0) 2 2 1))))

/-- AE_RESET (R279). -/
def execAeReset (_ : Origin) (c : CoreId) (s : State) : Out :=
  .next (s.respond (s.guarded (R.AE_CTL c) (writeAeCtl c (setBits (setBits (s.rd (R.AE_CTL c)) 0 1 0) 2 2 2))))

/-- AE_DOORBELL (R267). -/
def writeAeDoorbell (c v : Nat) (s : State) : Res := .ok (if bit v 0 then s.aePend c 3 else s)

def execAeDoorbell (_ : Origin) (c : CoreId) (value : Word) (s : State) : Out :=
  .next (s.respond (s.guarded (R.AE_DOORBELL c) (writeAeDoorbell c value.toNat)))

/-! ## What the library computes (R274, R275) -/

/-- Word i of a call. -/
def AeCall.w (x : AeCall) (i : Nat) : Nat := x.words.getD i 0

/-- A power of two from 64 to 65,536. -/
def fftSize (n : Nat) : Bool := (List.range 11).any (fun i => n == 64 * 2 ^ i)

/-- Input bytes and output bytes of a call. -/
def AeCall.areas (x : AeCall) : Nat × Nat :=
  match x.w 0 % 256 with
  | 1 => (4 * x.w 2, 0)
  | 2 => (4 * x.w 4, 4 * (x.w 4 / 2 + 1))
  | 3 => (4 * x.w 4, 0)
  | 4 => (8 * x.w 2, 4 * x.w 7)
  | _ => (4 * x.w 5 * x.w 6, 8 * x.w 5)

/-- Are the parameters of a call in range? -/
def AeCall.paramsOk (x : AeCall) : Bool :=
  match x.w 0 % 256 with
  | 1 => decide (1 ≤ x.w 2) && decide (x.w 2 ≤ 2 ^ 24)
  | 2 => fftSize (x.w 4) && decide (x.w 5 ≤ 2)
  | 3 => fftSize (x.w 4) && decide (2 ≤ x.w 6) && decide (x.w 6 ≤ 10)
  | 4 => decide (1 ≤ x.w 6) && decide (1 ≤ x.w 7) && decide (x.w 7 ≤ 4096)
  | _ =>
    decide (x.w 4 < 1024) && decide (1 ≤ x.w 5) && decide (x.w 5 ≤ 1024) && decide (1 ≤ x.w 6) && decide (x.w 6 ≤ 65536)

/-- The checks before any input is read. -/
def AeCall.check (x : AeCall) : Option Status :=
  if x.w 0 % 256 = 0 ∨ 5 < x.w 0 % 256 then some .badOpcode
  else if x.paramsOk = false then some .badLength
  else if 2 ^ 35 < 64 * x.w 1 + x.areas.1 ∨ (x.w 3 ≠ 0 ∧ 2 ^ 35 < 64 * x.w 3 + x.areas.2) then some .badAddress
  else if x.w 0 % 256 = 3 ∧ (x.w 5 % 2 = 0 ∨ x.w 4 ≤ 2 * x.w 5) then some .badState
  else none

/-- n input words. -/
def State.aeIn (s : State) (x : AeCall) (n : Nat) : List Nat := (List.range n).map (fun i => s.dramWord (64 * x.w 1 + 4 * i))

/-- STATS: counts, mean and deviation, least and greatest; free words where no value is used. -/
def State.aeStats (s : State) (x : AeCall) : List Nat × State :=
  let l := s.aeIn x (x.w 2)
  let used := (l.filter (fun v => v != 0x80000000)).map (signed 24)
  let (mean, t) := s.meanOf 256 used
  let (dev, t) := t.deviationOf 256 used
  let (f, t) := t.drawWords (if used.isEmpty then 2 else 0)
  ([used.length, l.length - used.length, unsigned 32 mean, unsigned 32 dev,
    unsigned 32 (used.foldl min (used.headD (f.getD 0 0))), unsigned 32 (used.foldl max (used.headD (f.getD 1 0)))], t)

/-- A time as two words, low word first (R273). -/
def twoWords (v : Int) : List Nat := [unsigned 64 v % 2 ^ 32, unsigned 64 v / 2 ^ 32]

/-- HISTOGRAM: entries used, missing, below and beyond, mean, rms about it, least and greatest, and the counts; free words
where no entry is used. -/
def State.aeHistogram (s : State) (x : AeCall) : List Nat × State :=
  let a := 64 * x.w 1
  let raw := (List.range (x.w 2)).map (fun i => s.dramNat (a + 8 * i) 8)
  let used := (raw.filter (fun v => v != 2 ^ 64 - 1)).map (signed 64)
  let origin := signed 64 (x.w 4 + 2 ^ 32 * x.w 5)
  let bin (v : Int) : Int := (v - origin) / (x.w 6 : Int)
  let (mean, t) := s.meanOf 1 used
  let (rms, t) := t.deviationOf 1 used
  let (f, t) := t.drawWords (if used.isEmpty then 4 else 0)
  let lo := used.foldl min (used.headD (f.getD 0 0 + 2 ^ 32 * f.getD 1 0))
  let hi := used.foldl max (used.headD (f.getD 2 0 + 2 ^ 32 * f.getD 3 0))
  let t := if x.w 3 = 0 then t
    else t.putDramList (64 * x.w 3) ((List.range (x.w 7)).map (fun (i : Nat) =>
      (used.filter (fun v => decide (bin v = (i : Int)))).length))
  ([used.length, raw.length - used.length, (used.filter (fun v => decide (v < origin))).length,
    (used.filter (fun v => decide ((x.w 7 : Int) ≤ bin v))).length]
    ++ twoWords mean ++ twoWords rms ++ twoWords lo ++ twoWords hi, t)

/-- One site of SITE_REDUCE: its mean, and whether the exact mean lies between LO and HI. -/
def State.aeSite (s : State) (x : AeCall) (j : Nat) : Nat × Bool × State :=
  let n := x.w 6
  let l := (List.range n).map (fun i => signed 24 (s.dramWord (64 * x.w 1 + 4 * (j * n + i))))
  let sum := l.foldl (· + ·) 0
  let ok := decide (signed 32 (x.w 7) * (n : Int) ≤ sum) && decide (sum ≤ signed 32 (x.w 8) * (n : Int))
  let (m, t) := s.meanOf 256 l
  (unsigned 32 m, ok, t)

/-- SITE_REDUCE: the sites passed and failed, the output words, and with TO_SLOT each site's mean in its
slot. -/
def State.aeReduce (s : State) (x : AeCall) : Nat → State × Nat × List (Nat × Nat)
  | 0 => (s, 0, [])
  | k + 1 =>
    let j := x.w 5 - (k + 1)
    let (m, ok, t) := s.aeSite x j
    let t := if x.w 3 = 0 then t else t.putDramList (64 * x.w 3 + 8 * j) [m, b2n ok]
    let (u, passed, means) := t.aeReduce x k
    (u, passed + b2n ok, (x.w 4 + j, m) :: means)

/-- The samples of SPECTRUM and ADC_DYNAMIC. -/
def State.aeSamples (s : State) (x : AeCall) : List Int := (s.aeIn x (x.w 4)).map (signed 24)

/-- SPECTRUM: the bin of the greatest power (of several, a free choice), its power, and the powers of all bins. -/
def State.aeSpectrum (s : State) (x : AeCall) : List Nat × State :=
  let p := powers (x.w 5) (s.aeSamples x)
  let full := fullPower (x.w 5) (x.w 4) 0
  let top := p.foldl max 0
  let peaks := (List.range p.length).filter (fun b => p.getD b 0 == top)
  let (w, t) := s.drawWord
  let (db, t) := t.dbsOf [(top, full)]
  let t := if x.w 3 = 0 then t
    else
      let (l, u) := t.dbsOf (p.map (fun v => (v, full)))
      u.putDramList (64 * x.w 3) l
  (peaks.getD (w.toNat % peaks.length) 0 :: db, t)

/-- ADC_DYNAMIC (R275). -/
def State.aeDynamic (s : State) (x : AeCall) : List Nat × State :=
  s.dynamicOf (powers 0 (s.aeSamples x)) (x.w 4) (x.w 5) (x.w 6) (x.w 7)

/-- Does an input value lie at an end of its code range (R273): 0 or FULL_SCALE for ADC_DYNAMIC, the 24-bit range
elsewhere (DEDUCED, assumption 155); TMU entries have none? -/
def State.aeAtEnd (s : State) (x : AeCall) : Bool :=
  let ends (l : List Nat) : Bool := (l.filter (fun v => v != 0x80000000)).any (fun v =>
    signed 24 v == 2 ^ 23 - 1 || signed 24 v == -(2 ^ 23))
  match x.w 0 % 256 with
  | 1 => ends (s.aeIn x (x.w 2))
  | 2 => ends (s.aeIn x (x.w 4))
  | 3 => (s.aeSamples x).any (fun v => v == 0 || v == signed 32 (x.w 7))
  | 4 => false
  | _ => ends (s.aeIn x (x.w 5 * x.w 6))

/-- The results of a call that ends with OK: words 1 on, and the sites whose slot takes a mean. -/
def State.aeResults (s : State) (x : AeCall) : List Nat × List (Nat × Nat) × State :=
  match x.w 0 % 256 with
  | 1 => let (l, t) := s.aeStats x; (l, [], t)
  | 2 => let (l, t) := s.aeSpectrum x; (l, [], t)
  | 3 => let (l, t) := s.aeDynamic x; (l, [], t)
  | 4 => let (l, t) := s.aeHistogram x; (l, [], t)
  | _ =>
    let (t, passed, means) := s.aeReduce x (x.w 5)
    ([passed, x.w 5 - passed], means, t)

/-- Status codes (R296). -/
def Status.code : Status → Nat
  | .ok => 0x00 | .badOpcode => 0x01 | .badLength => 0x02 | .badAddress => 0x03 | .partialDone => 0x04
  | .busy => 0x05 | .locked => 0x06 | .muzzled => 0x07 | .crcError => 0x08 | .restarted => 0x09
  | .timeout => 0x0A | .badState => 0x0B | .leaseLost => 0x0C | .underrun => 0x0D | .calRejected => 0x0E
  | .thermal => 0x0F | .lateJump => 0x10 | .internal => 0xFF

/-- Every status. -/
def Status.all : List Status :=
  [.ok, .badOpcode, .badLength, .badAddress, .partialDone, .busy, .locked, .muzzled, .crcError, .restarted,
   .timeout, .badState, .leaseLost, .underrun, .calRejected, .thermal, .lateJump, .internal]

/-- The status of a code; a code without one ends as INTERNAL. -/
def statusOf (n : Nat) : Status := (Status.all.find? (fun st => st.code == n)).getD .internal

/-- Shepherd copies a result into a measurement slot of a site. A flow's call stores only for the sites that still stand
at its step (R336, R342), and the run notes for which (R335). -/
def State.aePut (s : State) (o : Owner) (site k v : Nat) : State :=
  match o with
  | .cmd _ => s.putSlot site k v
  | .run id key =>
    match s.runById id with
    | none => s
    | some r =>
      match s.run r with
      | none => s
      | some x =>
        if x.standing.contains site && s.siteActive site && x.busy.any (fun b => b.2 == key) then
          (s.setRun r (some { x with stored := x.stored ++ [site] })).putSlot site k v
        else s

/-- The results of a call that go to slots (R273, R274). -/
def State.aeSlots (s : State) (x : AeCall) (res : List Nat) (means : List (Nat × Nat)) : State :=
  if bit (x.w 0) 8 = false then s
  else if x.w 0 % 256 = 5 then
    s.forEach (means.filter (fun m => m.1 < 1024)) (fun m t => t.aePut x.owner m.1 (bits (x.w 0) 9 3) m.2)
  else s.aePut x.owner (bits (x.w 0) 16 10) (bits (x.w 0) 9 3) (res.getD (bits (x.w 0) 12 4 - 1) 0)

/-- AE_CALL_END (R273 to R277): AE_RESULT0–15 change together, AE_STATUS takes the sticky bits of ST as the library leaves
them (R280), the call completes, slots are written, once no routine runs (R326). -/
def execAeCallEnd (c : CoreId) (r : CallObs) (s : State) : Out :=
  .next (
    let k := s.aec c
    match k.call with
    | none => s
    | some x =>
      if s.routine.isSome then s else
      let st := match x.check with | some st => st | none => statusOf r.status.toNat
      let q := if x.check.isSome then 0 else r.quality.toNat + 8 * b2n (s.aeAtEnd x)
      let (res, means, t) := if st = .ok then s.aeResults x else ([], [], s)
      let ws := (st.code + 2 ^ 8 * q) :: res
      let t := t.forEach (List.range 16) (fun i u => u.wr (R.AE_RESULT c i) (ws.getD i 0))
      let t := (t.setAec c { t.aec c with call := none }).set (F.AE_STATUS_CALL_BUSY c) 0
      let t := (t.set (F.AE_STATUS_RUNNING c) 0).bumpBy ⟨R.AE_CALL_CNT c, 0, 32⟩ 1
      let t := t.setAec c { t.aec c with x := Tab.put 0 (t.aec c).x 3 (setBits ((t.aec c).getX 3) 1 3 r.sticky.toNat) }
      let t := ((t.setB (F.AE_STATUS_OVF c) r.sticky[0]).setB (F.AE_STATUS_SAT_OP c) r.sticky[1]).setB
        (F.AE_STATUS_SAT_ST c) r.sticky[2]
      let t := if st = .ok then t.aeSlots x res means else t
      t.aeAnswer x st ((List.range 16).map (fun i => BitVec.ofNat 32 (ws.getD i 0))))

/-- CALL_TIMEOUT (R276): the core is reset and the call is not sent again. -/
def execCallTimeout (c : CoreId) (s : State) : Out :=
  .next (
    if (s.aec c).call.isSome then
      let t := s.aeResetCore c .timeout
      t.raiseOnce (F.AE_STATUS_CALL_TIMEOUT c) (0x120 + 4 * c) cWATCHDOG 0x02 (t.aeAddr c)
    else s)

/-! ## Muzzles and reactions (R276, R279) -/

/-- A channel of a muzzled core ends at the current burst: how many bursts it has moved by then is open (a free value),
and its pending bit is set like at every end (R270, R279). -/
def State.dmaCut (s : State) (c i : Nat) : State :=
  match (s.aec c).dma i with
  | none => s
  | some d =>
    let (w, t) := s.drawWord
    let n := w.toNat % (d.len + 1)
    let (t, bad) := t.dmaBursts c { d with len := n } n
    let t := if bad then t.set (F.AE_STATUS_DMA_ERR c) 1 else t
    (t.setAec c ((t.aec c).setDma i none)).aePend c (1 + i)

/-- A core is muzzled: it stops at once, its channels end, its call goes to the front of the queue for
another core, and calls that name it complete. -/
def State.aeMuzzle (s : State) (c : Nat) : State :=
  let k := s.aec c
  let t := (((s.aeHalt c).dmaCut c 0).dmaCut c 1).set (F.AE_STATUS_CALL_BUSY c) 0
  let t := t.setAec c { t.aec c with call := none }
  let t := t.set (F.AE_STATUS_MUZZLED c) 1
  (match k.call with
    | none => t
    | some x => { t with aeQueue := { x with core := none } :: t.aeQueue }).aeSettle

/-- A STOP or SAFE reaction: every core halts and every running call completes. -/
def State.aeStop (s : State) (st : Status) : State :=
  s.forEach (List.range 8) (fun c t => (if t.flag (F.AE_STATUS_RUNNING c) then t.aeHalt c else t).aeCallFail c st)

end Sys2Proof.Machine
end

