-- ==== Sys2Proof/Machine/Mram.lean ====
section
/-! DEFINITION. Durable records in MRAM (R370 to R372): whether a record is complete and valid, the
newest of two slots, and writing a record with its commit word last. -/

namespace Sys2Proof.Machine

/-- The commit word of a record of LENGTH n at an offset (R371). -/
def commitAt (base n : Nat) : Nat := base + 64 + n

/-- LENGTH of the record at an offset. -/
def State.recLength (s : State) (base : Nat) : Nat := s.mramNat (base + 8) 4

/-- Does the record at an offset carry its commit word, within its slot (R370, R371)? -/
def State.recCommitted (s : State) (base size commit : Nat) : Bool :=
  let n := s.recLength base
  decide (n % 4 = 0) && decide (n + 68 ≤ size) && s.mramNat (commitAt base n) 4 == commit

/-- The section types that a body may hold, by its record's MAGIC: the factory record and the live slots (R440); the other
records have no sections. -/
def sectionTypes (magic : Nat) : Option (List Nat) :=
  if magic = 0x46434131 then some [1, 2, 3, 4, 5, 6, 7, 8, 9, 10, 11, 12, 15]
  else if magic = 0x4C434131 then some [1, 2, 3, 4, 5, 6, 7, 8, 9, 10, 11]
  else none

/-- Are the types of the sections from offset a to `stop` among those of a list (R440)? -/
def State.typesOk (s : State) (l : List Nat) (stop : Nat) : Nat → Nat → Bool
  | 0, _ => true
  | n + 1, a =>
    if stop ≤ a then true
    else l.contains (s.mramNat a 4) && s.typesOk l stop n (a + 8 + s.mramNat (a + 4) 4)

/-- Does a committed record carry its MAGIC and its BODY_CRC, and sections that its record may hold (R371, R440)? -/
def State.recSound (s : State) (base magic : Nat) : Bool :=
  let n := s.recLength base
  s.mramNat base 4 == magic
    && s.mramNat (base + 12) 4 == crc32c ((Memory.getBytes s.mram (base + 64) n).map BitVec.toNat)
    && (sectionTypes magic).all (fun l => s.typesOk l (base + 64 + n) (n / 8 + 1) (base + 64))

/-- Is the record at an offset valid? -/
def State.recValid (s : State) (base size magic commit : Nat) : Bool :=
  s.recCommitted base size commit && s.recSound base magic

/-- Read a record: committed but unsound raises RECORD_BAD (R371). -/
def State.recRead (s : State) (base size magic commit : Nat) : Bool × State :=
  if s.recCommitted base size commit then
    if s.recSound base magic then (true, s)
    else (false, s.raiseOnce F.MRM_STATUS_RECORD_BAD 0x142 cMEMORY 0x02 (base / 64))
  else (false, s)

/-- Is write sequence x newer than y (R372)? -/
def seqNewer (x y : Nat) : Bool :=
  let d := (x + 2 ^ 32 - y % 2 ^ 32) % 2 ^ 32
  decide (1 ≤ d) && decide (d < 2 ^ 31)

/-- The newest valid slot of a two-slot record: its number and offset (R372). -/
def State.newestSlot (s : State) (a size magic commit : Nat) : Option (Nat × Nat) :=
  let b := a + size
  match s.recValid a size magic commit, s.recValid b size magic commit with
  | true, true => if seqNewer (s.mramNat (b + 4) 4) (s.mramNat (a + 4) 4) then some (1, b) else some (0, a)
  | true, false => some (0, a)
  | false, true => some (1, b)
  | false, false => none

/-- Write 32-bit words to MRAM at ascending offsets. -/
def State.putMramWords (s : State) (a : Nat) : List Nat → State
  | [] => s
  | w :: ws => (s.putMramNat a 4 w).putMramWords (a + 4) ws

/-- Write a record: commit word 0, body and header, commit word last (R370, R371); `head` holds header words 4
to 15, words left out being 0. -/
def State.recWriteAs (s : State) (base magic commit seq : Nat) (head body : List Nat) : State :=
  let n := 4 * body.length
  let t := s.putMramNat (commitAt base n) 4 0
  let t := t.putMramWords (base + 64) body
  let t := t.putMramWords base ([magic, seq, n, crcWords body] ++ head ++ List.replicate (12 - head.length) 0)
  t.putMramNat (commitAt base n) 4 commit

/-- Write a record whose header words 4 to 15 are 0. -/
def State.recWrite (s : State) (base magic commit seq : Nat) (body : List Nat) : State :=
  s.recWriteAs base magic commit seq [] body

/-- Write the slot that does not hold the newest valid record, and give its number (R372). -/
def State.slotWriteAs (s : State) (a size magic commit : Nat) (head body : List Nat) : State × Nat :=
  match s.newestSlot a size magic commit with
  | some (0, x) => (s.recWriteAs (a + size) magic commit ((s.mramNat (x + 4) 4 + 1) % 2 ^ 32) head body, 1)
  | some (_, x) => (s.recWriteAs a magic commit ((s.mramNat (x + 4) 4 + 1) % 2 ^ 32) head body, 0)
  | none => (s.recWriteAs a magic commit 1 head body, 0)

/-- Write the slot of a record whose header words 4 to 15 are 0. -/
def State.slotWrite (s : State) (a size magic commit : Nat) (body : List Nat) : State × Nat :=
  s.slotWriteAs a size magic commit [] body

end Sys2Proof.Machine
end

