-- ==== Sys2Proof/Machine/CalOps.lean ====
section
/-! DEFINITION. Self-alignment passes and calibration tasks as units of work: starting and dropping
them, when a task is due and allowed, and the course of a gap (R99, R100, R428 to R433). -/

namespace Sys2Proof.Machine

/-! ## Units and conditions (R428) -/

/-- The numbers of a task's units: channels, PSMs, TMUs, packs, booster PSMs, diodes. -/
def calUnitsOf (task : Nat) : List Nat :=
  match task with
  | 4 => List.range 96
  | 5 => List.range 64
  | 6 => List.range 16
  | 7 => (List.range 96).filter (fun n => n % 3 == 0)
  | 8 => List.range 5
  | _ => List.range 512

/-- The unit that repeated rejection muzzles (R437); GRAD has none. -/
def calMUnit (task u : Nat) : Option MUnit :=
  match task with
  | 4 => some (.psm u)
  | 5 => some (.tmu u)
  | 6 => some (.pack u)
  | 7 => some (.psm u)
  | 8 => none
  | _ => some (.channel u)

/-- Is the unit, or one that contains it, muzzled? -/
def State.calUnitMuzzled (s : State) (task u : Nat) : Bool :=
  match calMUnit task u with
  | some m => s.muzzledUnit m
  | none => false

/-- The conditions of a task on a unit (R428); a muzzled unit meets none. -/
def State.calMeets (s : State) (task u : Nat) : Bool :=
  !s.calUnitMuzzled task u &&
  (match task with
   | 1 => !s.seqRun (u / 32) && s.pmuMode u == 0
   | 2 => !s.seqRun (u / 32) && (List.range 4).all (fun j => s.tmuIdle (4 * (u / 32) + j))
   | 3 => !s.seqRun (u / 32) && s.pmuMode u == 0
   | 4 => s.psmMode u != 3
   | 5 => s.tmuIdle u
   | 6 => (List.range 16).all (fun p => !s.seqRun p)
   | 7 => s.psmRange u == 5 && s.psmMode u == 1 && s.get (F.PSM_STATUS_SOURCE u) == 0
            && s.flag (F.PSM_STATUS_SETTLED u)
   | 8 => s.get F.HK_STATUS_BROKEN == 0
   | _ => false)

/-- CAL_PK_DUE of a pack (R445): bit t for a task due on a unit of the pack; bit 0 follows AUTO_TDR. -/
def State.calDueMask (s : State) (p : Nat) : Nat :=
  s.get (F.TIM_CTL_AUTO_TDR p)
    + ((List.range 9).filter (fun k => k != 0 && (calUnitsOf k).any (fun u =>
        (match calPack k u with | some q => q == p | none => u == p / 4 || u == 4) && s.calDue k u))).foldl
          (fun a k => a + 2 ^ k) 0

/-- The time of a task in tenths of a microsecond (R428). -/
def calTime : Nat → Nat
  | 1 => 20000
  | 2 => 80000
  | 3 => 160000
  | 4 => 120000
  | 5 => 131072
  | 6 => 10000
  | 7 => 50000
  | _ => 0

/-- Does a task isolate pads? -/
def calIsolates (task : Nat) : Bool := task == 1 || task == 2 || task == 3

/-! ## Passes (R99, R100, R103) -/

/-- The channels a pass includes. -/
def State.passChans (s : State) (p : Nat) : List Nat :=
  (List.range 32).filter (fun c => s.role (32 * p + c) != 0 && s.role (32 * p + c) != 3 && !s.chanMuzzled (32 * p + c))

/-- The channels each TMU of the pack measures: channel c by TMU c mod 4, those of muzzled TMUs by the
lowest TMU that is not; none when all four are muzzled. -/
def State.passRounds (s : State) (p : Nat) (chans : List Nat) : Option (List (List Nat)) :=
  match (List.range 4).find? (fun j => !s.tmuMuzzled (4 * p + j)) with
  | none => none
  | some j0 =>
    let own (j : Nat) := chans.filter (fun c => c % 4 == j)
    let extra := (List.range 4).flatMap (fun j => if s.tmuMuzzled (4 * p + j) then own j else [])
    some ((List.range 4).map (fun j =>
      if s.tmuMuzzled (4 * p + j) then [] else own j ++ (if j = j0 then extra else [])))

/-- The length of a pass in tenths of a microsecond. -/
def State.passTime (s : State) (p : Nat) : Nat :=
  match s.passRounds p (s.passChans p) with
  | none => 0
  | some l => 400 + s.get (F.TIM_TDR_CFG_SHOTS p) * (l.foldl (fun m x => max m x.length) 0)

/-- A pass begins (step 1 of R100). -/
def State.passStart (s : State) (p : Nat) (contact : Bool) (o : PassOwner) : State :=
  let chans := s.passChans p
  match s.passRounds p chans with
  | none => s
  | some l =>
    let t := s.set (F.TIM_STATUS_TDR_BUSY p) 1
    let t := t.forEach (List.range 4) (fun j u =>
      if u.tmuMuzzled (4 * p + j) then u else u.set (F.TMU_STATUS_TDR_OWNED (4 * p + j)) 1)
    let t := if contact then
        let t := if Tab.get false t.contactRan p then t.set (F.TIM_STATUS_STALE p) 1 else t
        { t with contactRan := Tab.put false t.contactRan p true }
      else t
    (t.setPass p (some { contact, owner := o, chans, todo := l, temp := t.get (F.HK_TEMP_EFFECTIVE (p / 4)) })).calRefresh

/-- Does something in pack p keep a pass from starting: a pattern, a PMU measurement, a TMU measurement, or
another pass? -/
def State.passBlocked (s : State) (p : Nat) : Bool :=
  s.seqRun p || (List.range 32).any (fun c => s.pmuBusy (32 * p + c))
    || (List.range 4).any (fun j => !s.tmuMuzzled (4 * p + j) && s.tmuBusy (4 * p + j)) || (s.pass p).isSome

/-- The status of a finished ALIGN: the first failure in pack order, else OK. -/
def alignStatus (a : AlignCmd) : Status :=
  match (List.range 16).filterMap (fun p => (a.failed.find? (fun x => x.1 == p)).map (·.2)) with
  | [] => .ok
  | st :: _ => st

/-- Pack p's part of an ALIGN ends with a status. -/
def State.alignSettle (s : State) (h : CmdHdr) (p : Nat) (st : Status) : State :=
  let l := s.alignCmds.map (fun a => if sameCmd a.hdr h then
      { a with
        left := a.left.filter (· != p)
        failed := if st = .ok then a.failed else a.failed ++ [(p, st)] }
    else a)
  let t := { s with alignCmds := l.filter (fun a => !a.left.isEmpty) }
  t.forEach (l.filter (fun a => a.left.isEmpty)) (fun a u => u.finish a.hdr (alignStatus a))

/-! ## The course of a gap (R431) -/

/-- Does a task of the gap run? -/
def State.gapTaskRuns (s : State) : Bool := s.calTasks.any (fun k => k.owner.isNone && !k.beats)

/-- The gap closes with a status and its counts; AUTO_STORE may start a store (R442). -/
def State.gapClose (s : State) (g : CalGap) (st : Status) : State :=
  let t := ({ s with calGap := none } : State).set F.CAL_STATUS_GAP_OPEN 0
  let t := t.set F.CAL_STATUS_GAP_KIND 0
  let due := match t.lastStore with
    | none => true
    | some a => decide (t.get F.CAL_REST_STORE_MIN * 400000000 ≤ t.time - a)
  let t := if g.accepted && t.flag F.CAL_CTL_AUTO_STORE && due && t.calStore.isNone then
      ({ t with calStore := some none } : State).set F.CAL_STATUS_STORE_BUSY 1
    else t
  let t := match g.hdr with
    | some h => t.complete h st 0 [BitVec.ofNat 32 g.completed, BitVec.ofNat 32 g.rejected, BitVec.ofNat 32 g.deferred]
    | none => t
  t.calEndSettle

/-- The due units of a task that meet its conditions in the open gap; none where the task is not allowed
in it, or does not run automatically (AUTO, R444). -/
def State.gapUnits (s : State) (g : CalGap) (task : Nat) : List Nat :=
  if (g.noIso && calIsolates task) || (g.hdr.isNone && task == 7) || !bit (s.get F.CAL_CTL_AUTO) (task - 1) then []
  else (calUnitsOf task).filter (fun u => s.calDue task u && s.calMeets task u)

/-- The due units that a task of the gap skips, since they do not meet its conditions: they count as deferred and stay due
(R428). No payload gives their count; CAL_GAP's counts deferred tasks (R443). -/
def State.gapSkips (s : State) (g : CalGap) (task : Nat) : Nat :=
  if (g.noIso && calIsolates task) || (g.hdr.isNone && task == 7) || !bit (s.get F.CAL_CTL_AUTO) (task - 1) then 0
  else ((calUnitsOf task).filter (fun u => s.calDue task u && !s.calMeets task u)).length

/-- Shepherd goes on with the gap when nothing of it runs: the next task starts, is deferred or is
passed over, and after the last the gap ends. -/
def State.gapAdvance (s : State) : Nat → State
  | 0 => s
  | n + 1 =>
    match s.calGap with
    | none => s
    | some g =>
      if !g.passes.isEmpty || s.gapTaskRuns then s
      else
        match g.todo with
        | [] => s.gapClose g (if 0 < g.rejected ∨ g.refused = true then .calRejected else .ok)
        | k :: ks =>
          let units := s.gapUnits g k
          let g := { g with skipped := g.skipped + s.gapSkips g k }
          let set_ (g : CalGap) : State := { s with calGap := some g }
          if units.isEmpty || s.calTasks.any (fun x => x.task == k) then (set_ { g with todo := ks }).gapAdvance n
          else if g.elapsed + calTime k + 1000 ≤ 10 * g.length then
            let t := set_ { g with todo := ks, elapsed := g.elapsed + calTime k }
            ({ t with calTasks := t.calTasks ++ [⟨k, units, none, false, t.time, false⟩] } : State).calRefresh
          else
            let t := set_ { g with todo := ks, deferred := g.deferred + 1 }
            ({ t with calLate := t.calLate ++ [k] } : State).gapAdvance n

/-- Enough steps to pass over every task of a gap. -/
def gapFuel : Nat := 12

/-- A pass of pack p closes: TMUs released, levels back, and whoever waits learns its status. -/
def State.passEnd (s : State) (p : Nat) (st : Status) : State :=
  match s.pass p with
  | none => s
  | some a =>
    let t := (s.setPass p none).set (F.TIM_STATUS_TDR_BUSY p) 0
    let t := (t.forEach (List.range 4) (fun j u => u.set (F.TMU_STATUS_TDR_OWNED (4 * p + j)) 0)).calRefresh
    match a.owner with
    | .cmd h => t.alignSettle h p st
    | .gap =>
      match t.calGap with
      | none => t
      | some g => ({ t with calGap := some { g with passes := g.passes.filter (· != p) } } : State).gapAdvance gapFuel

/-! ## Ends without a result (R433) -/

/-- The PSMs that the full task leaves: a switch that stayed open for it closes where the PSM's MODE has left OFF meanwhile
(R429). -/
def State.psmUncal (s : State) (task : Nat) (units : List Nat) : State :=
  if task = 4 then
    s.forEach units (fun n u =>
      if (u.psm n).stage = 0 ∧ u.psmMode n ≠ 0 ∧ u.psmMuzzled n = false ∧ u.dark = false then
        (u.psmBegin n (u.psmMode n)).psmRefresh n
      else u)
  else s

/-- A running task is discarded; a CAL_RUN that waits for it completes with a status. -/
def State.taskDrop (s : State) (task : Nat) (st : Status) : State :=
  let (gone, kept) := s.calTasks.partition (fun k => k.task == task)
  (({ s with calTasks := kept } : State).calRefresh).forEach gone (fun k u =>
    let u := u.psmUncal task k.units
    match k.owner with
    | some h => u.finish h st
    | none => u)

/-- Every task and every pass that runs is discarded; the open gap, if any, is left with nothing running. -/
def State.calCut (s : State) (st : Status) : State :=
  let t : State := { s with calGap := none }
  let t := t.forEach s.calTasks (fun k u => u.taskDrop k.task st)
  let t := t.forEach (List.range 16) (fun p u => u.passEnd p st)
  { t with calGap := s.calGap.map (fun g => { g with passes := [] }) }

/-- A STOP or SAFE reaction ends every task and pass, and the open gap with them. -/
def State.calDropAll (s : State) (st : Status) : State :=
  let t := s.calCut st
  (match t.calGap with
   | some g => t.gapClose g st
   | none => t).calEndSettle

/-- Tasks left with no unit end: a CAL_RUN completes with PARTIAL (assumption 49), a gap goes on. -/
def State.taskSettle (s : State) : State :=
  let empty := s.calTasks.filter (fun k => k.units.isEmpty)
  if empty.isEmpty then s
  else ((s.forEach empty (fun k u => u.taskDrop k.task .partialDone)).gapAdvance gapFuel).calEndSettle

/-- After a muzzle: tasks leave muzzled units, passes leave muzzled channels and TMUs, and a pass of a
pack that is muzzled, or whose TMUs all are, ends with MUZZLED. -/
def State.calPrune (s : State) : State :=
  let t : State := { s with calTasks := s.calTasks.map (fun k =>
    let us := k.units.filter (fun u => !s.calUnitMuzzled k.task u)
    { k with units := us, cut := k.cut || decide (us.length < k.units.length) }) }
  ((t.forEach (List.range 16) (fun p u =>
    match u.pass p with
    | none => u
    | some a =>
      if u.packMuzzled p then u.passEnd p .muzzled
      else
        let rest := (a.todo.flatMap id).filter (fun c => !u.chanMuzzled (32 * p + c))
        match u.passRounds p rest with
        | none => u.passEnd p .muzzled
        | some l =>
          let same (j : Nat) : Bool := (a.todo.getD j []).head? == (l.getD j []).head?
          let keep (t : Tab (Option (Nat × Nat))) : Tab (Option (Nat × Nat)) :=
            t.filter (fun (e : Nat × Option (Nat × Nat)) => same e.1)
          u.setPass p (some { a with
            todo := l
            chans := a.chans.filter (fun c => !u.chanMuzzled (32 * p + c))
            cals := keep a.cals
            starts := keep a.starts }))).calRefresh).taskSettle

end Sys2Proof.Machine
end

