-- ==== Sys2Proof/Machine/FlowImg.lean ====
section
/-! DEFINITION. Flow images in the flow-table store: reading them (R331 to R335, R339, R340), and the
checks of FLOW_LOAD (R341). -/

namespace Sys2Proof.Machine

/-- The action of step i for a verdict: ACT and TARGET (R333). -/
def State.stepAction (s : State) (im i : Nat) (v : Verdict) : Nat × Nat :=
  let a := match v with
    | .pass => s.stepWord im i 1 % 2 ^ 16
    | .fail => s.stepWord im i 1 / 2 ^ 16
    | .marginal => s.stepWord im i 2 % 2 ^ 16
    | .noData => s.stepWord im i 2 / 2 ^ 16
  (a % 16, a / 16)

/-- The limit index of step i; none for 0xFFF. -/
def State.stepLimit (s : State) (im i : Nat) : Option Nat :=
  let l := s.stepWord im i 3 % 2 ^ 12
  if l = 0xFFF then none else some l

/-- The outcome of a value under limit l (R335). -/
def State.limitVerdict (s : State) (im l : Nat) (v : Option Nat) : Verdict :=
  match v with
  | none => .noData
  | some x =>
    let a := im + s.flowHead im 4 + 16 * l
    let x := signed 32 x
    let lo := signed 32 (s.flowWord a)
    let hi := signed 32 (s.flowWord (a + 4))
    let g : Int := s.flowWord (a + 8)
    let loEn := bit (s.flowWord (a + 12)) 0
    let hiEn := bit (s.flowWord (a + 12)) 1
    if (loEn && decide (x < lo)) || (hiEn && decide (hi < x)) then .fail
    else if (loEn && decide (x - lo < g)) || (hiEn && decide (hi - x < g)) then .marginal
    else .pass

/-- POSITIONS of MUX step i, and word w of position k (R339). -/
def State.muxCount (s : State) (im i : Nat) : Nat := bits (s.stepWord im i 3) 16 12
def State.muxWord (s : State) (im i k w : Nat) : Nat :=
  s.flowWord (im + s.flowHead im 6 + 16 * s.stepWord im i 4 + 16 * k + 4 * w)

/-- The sites MUX step i connects. -/
def State.muxSites (s : State) (im i : Nat) : List Nat :=
  (List.range (s.muxCount im i)).map (fun k => s.muxWord im i k 1 % 2 ^ 10)

/-- Does a flow reach a site through a card multiplexer (R43)? -/
def State.flowShares (s : State) (im site : Nat) : Bool :=
  (List.range (s.stepCount im)).any (fun i => s.stepKind im i == 8 && (s.muxSites im i).contains site)

/-- The isolation map entry of a site, if the flow has a map and the entry names a bit (R340). -/
def State.isoEntry (s : State) (im site : Nat) : Option Nat :=
  let o := s.flowHead im 5
  if o = 0 then none
  else
    let e := s.flowNat (im + o + 2 * site) 2
    if e = 0xFFFF then none else some e

/-! ## The checks of FLOW_LOAD (R341) -/

/-- Do two byte ranges meet? -/
def rangesMeet (a b : Nat × Nat) : Bool :=
  decide (0 < a.2) && decide (0 < b.2) && decide (a.1 < b.1 + b.2) && decide (b.1 < a.1 + a.2)

/-- Does no pair of a list of ranges meet? -/
def rangesApart : List (Nat × Nat) → Bool
  | [] => true
  | a :: l => l.all (fun b => !rangesMeet a b) && rangesApart l

/-- Order 4: the tables lie within the image and apart, as do the areas the steps name. -/
def State.flowLayoutOk (s : State) (im : Nat) : Bool :=
  let len := s.flowHead im 7
  let iso := s.flowHead im 5
  let aux := s.flowHead im 6
  let parts : List (Nat × Nat) := [(0, 64), (s.flowHead im 3, 32 * s.stepCount im), (s.flowHead im 4, 16 * s.limitCount im)]
    ++ (if iso = 0 then [] else [(iso, 2048)])
  decide (1 ≤ s.stepCount im) && decide (s.stepCount im ≤ 4095) && decide (s.limitCount im ≤ 4095)
    && parts.all (fun r => decide (r.1 + r.2 ≤ len)) && rangesApart parts && decide (aux ≤ len)
    && (List.range (s.stepCount im)).all (fun i =>
      match s.stepKind im i with
      | 5 => decide (aux + 64 * (s.stepWord im i 3 / 2 ^ 16) + 64 ≤ len)
      | 8 => decide (1 ≤ s.muxCount im i) && decide (s.muxCount im i ≤ 1024)
          && decide (aux + 16 * s.stepWord im i 4 + 16 * s.muxCount im i ≤ len)
      | _ => true)

/-- The bytes the IMAGE_CRC covers: word 14 and COMMIT taken as 0. -/
def State.flowCrc (s : State) (im : Nat) : Nat :=
  crc32c ((List.range (s.flowHead im 7)).map (fun o => if 56 ≤ o ∧ o < 64 then 0 else s.flowByte (im + o)))

/-- The four verdicts. -/
def Verdict.all : List Verdict := [.pass, .fail, .marginal, .noData]

/-- Order 6 for the call block of an AE step: reserved bits, and a KEY where one is needed (R3, R273). -/
def State.callFormOk (s : State) (im i : Nat) : Bool :=
  let a := im + s.flowHead im 6 + 64 * (s.stepWord im i 3 / 2 ^ 16)
  s.flowWord a / 2 ^ 26 == 0 && s.flowWord (a + 4) / 2 ^ 29 == 0 && s.flowWord (a + 12) / 2 ^ 29 == 0
    && !noKey (setBits (s.flowWord a) 8 1 1)

/-- Order 6: reserved bits, kinds and actions of step i, and a NEXT past the last step. The actions of an END are
ignored (R334). A GOTO past the last step is not among the checks (DEDUCED, assumption 126). -/
def State.stepFormOk (s : State) (im i : Nat) : Bool :=
  let k := s.stepKind im i
  decide (k ≤ 10) && bits (s.stepWord im i 0) 12 4 == 0
    && (k == 0 || Verdict.all.all (fun v =>
      let a := s.stepAction im i v
      decide (a.1 ≤ 5) && !(a.1 == 0 && decide (s.stepCount im ≤ i + 1))))
    && (k != 5 || s.callFormOk im i)
    && !(k == 8 && (List.range (s.muxCount im i)).any (fun j =>
      s.muxWord im i j 1 / 2 ^ 14 != 0 || s.muxWord im i j 3 / 2 ^ 6 != 0))

/-- Order 7: the direction of GOTO and RETEST, the place of MUX, the LIMIT indices. -/
def State.stepRulesOk (s : State) (im i : Nat) : Bool :=
  let k := s.stepKind im i
  Verdict.all.all (fun v =>
      let a := s.stepAction im i v
      k == 0 || !((a.1 == 1 && decide (a.2 ≤ i)) || (a.1 == 2 && decide (i < a.2))))
    && !(k == 8 && i + 1 == s.stepCount im)
    && (match s.stepLimit im i with
        | none => true
        | some l => decide (l < s.limitCount im))

/-- The status with which FLOW_LOAD refuses an image, if it does. -/
def State.flowRefused (s : State) (im : Nat) : Option Status :=
  let len := s.flowHead im 7
  let steps := List.range (s.stepCount im)
  if len < 64 ∨ len % 64 ≠ 0 then some .badLength
  else if 0x80000 < im + len then some .badAddress
  else if s.flowHead im 0 ≠ 0x464C5731 ∨ s.flowHead im 1 % 2 ^ 16 ≠ 1 ∨ s.flowHead im 1 / 2 ^ 24 ≠ 0
      ∨ bits (s.flowHead im 2) 13 3 ≠ 0 ∨ bits (s.flowHead im 2) 29 3 ≠ 0
      ∨ (List.range 6).any (fun i => s.flowHead im (8 + i) != 0) = true then some .badOpcode
  else if s.flowLayoutOk im = false then some .badLength
  else if s.flowCrc im ≠ s.flowHead im 14 then some .crcError
  else if steps.all (fun i => s.stepFormOk im i) = false then some .badOpcode
  else if s.flowHead im 15 ≠ 0x5EA1ED03 ∨ steps.all (fun i => s.stepRulesOk im i) = false then some .badState
  else none

end Sys2Proof.Machine
end

