-- ==== Sys2Proof/Machine/Shepherd.lean ====
section
/-! DEFINITION. Shepherd's microwords, commits and restarts (R320 to R329), and the locks with their
leashes (R344 to R348). The spec documents only the parts of a nanoword on which the commit rule rests,
so the effect of a command is its own row's; a microword moves the routine. -/

namespace Sys2Proof.Machine

/-! ## Microwords (R320 to R329) -/

/-- Fault source of Shepherd. -/
def shpSrc : Nat := 0x180

/-- The microword at a control-store address. -/
def State.microWord (s : State) (a : Nat) : Nat := s.rd (Region.control.base + 4 * (a % 65536))

/-- WCLASS of a nanoword: bits [159:158] (R321). -/
def State.wclass (s : State) (i : Nat) : Nat := bits (s.rd (Region.nano.base + 32 * (i % 4096) + 16)) 30 2

/-- A routine begins for a command at an entry that the image decides: a free value (R320). One that runs is abandoned
for it, and waits (R326). Without an image the command receiver carries commands out in hardware, by no routine (R325). -/
def State.routineBegin (s : State) (h : CmdHdr) : State :=
  if !s.flag F.SHP_STATUS_IMAGE_OK then s else
  let t : State := { s with parked := s.routine.toList ++ s.parked }
  let (w, t) := t.drawWord
  let a := w.toNat % 65536
  { t with routine := some { hdr := h, entry := a, pc := a } }

/-- No routine runs any more: the contexts and completions that waited are written, and an abandoned routine restarts
(R326, R327). -/
def State.routineOver (s : State) : State :=
  let t := ({ s with routine := none } : State).siteDrain.endsDrain
  match t.parked with
  | [] => t
  | x :: l => ({ t with parked := l } : State).routineAgain x

/-- The running routine stops, and its command completes with INTERNAL and runs no further routine. -/
def State.routineFail (s : State) (x : Routine) : State :=
  ({ s with chains := s.chains.filter (fun c => !sameCmd c.hdr x.hdr) } : State).routineOver.done x.hdr .internal

/-- One microword of the running routine: an uncorrectable store error stops the routine (R349); a word of
another form leaves the state to its own row. -/
def State.microRow (s : State) (form : Nat) (ue : Bool) (act : Routine → Nat → State) : Out :=
  .next (
    match s.routine with
    | none => s
    | some x =>
      if !s.coreUp then s
      else if ue then
        (s.raiseOnce F.SHP_STATUS_STORE_CHECK shpSrc cMEMORY 0x04 x.pc).routineFail x
      else
        let w := s.microWord x.pc
        if bits w 30 2 = form then act x w else s)

/-- The routine goes on at an address. -/
def State.microGo (s : State) (x : Routine) (a : Nat) : State :=
  { s with routine := some { x with pc := a % 65536 } }

/-- MICRO_NANO (R320, R322): an ORDINARY nanoword before COMMIT makes no write, reports and fails the
command. -/
def execMicroNano (ue : Bool) (s : State) : Out :=
  s.microRow 0 ue (fun x w =>
    if s.wclass (w % 2 ^ 12) = 2 ∧ x.committed = false then
      (s.raiseOnce F.SHP_STATUS_ORDER_FAULT shpSrc cPROTOCOL 0x02 x.pc).routineFail x
    else s.microGo x (x.pc + 1))

/-- MICRO_BRANCH (R320): what the conditions are is not documented, so whether COND holds is a free value. -/
def execMicroBranch (ue : Bool) (s : State) : Out :=
  s.microRow 1 ue (fun x w =>
    let (b, t) := s.drawBool
    t.microGo x (if b then w % 2 ^ 16 else x.pc + 1))

/-- MICRO_COMMIT (R320, R322). -/
def execMicroCommit (ue : Bool) (s : State) : Out :=
  s.microRow 2 ue (fun x _ => s.microGo { x with committed := true } (x.pc + 1))

/-- MICRO_END (R320): the routine ends. -/
def execMicroEnd (ue : Bool) (s : State) : Out :=
  s.microRow 3 ue (fun _ _ => s.routineOver)

/-- ROUTINE_RESTART (R326, R327): a routine before its COMMIT that is not protected is abandoned and
restarts from its first microword; the start after the seventh abandonment is protected. -/
def execRoutineRestart (s : State) : Out :=
  .next (
    match s.routine with
    | none => s
    | some x =>
      if x.committed || x.shielded || !s.coreUp then s else s.routineAgain x)

/-- ROUTINE_OVERRUN (R329): the routine has not ended 2,048 cycles after its COMMIT, or 16,384 cycles after
a protected start. -/
def execRoutineOverrun (s : State) : Out :=
  .next (
    match s.routine with
    | none => s
    | some x =>
      if (x.committed || x.shielded) && s.coreUp then
        (s.raiseOnce F.SHP_STATUS_OVERRUN shpSrc cWATCHDOG 0x03 x.pc).routineFail x
      else s)

/-! ## Locks (R344 to R348) -/

/-- Is a lock held with its leash run out: did the last tick find no millisecond left (R346)? Its length is then
marked with bit 16, above the longest leash. From a warm start until the first port is UP no leash runs out (R348). -/
def State.leashOut (s : State) (r : Nat) : Bool :=
  s.flag (F.SHP_LOCK_HELD r) && bit (Tab.get 0 s.leashLen r) 16 && !s.leashFrozen

/-- GPIO outputs go to their safe pattern (R474). -/
def State.gpioSafe (s : State) : State :=
  (s.set F.GPIO_DIR (s.get F.GPIO_SAFE_SAFE_DIR)).set F.GPIO_OUT (s.get F.GPIO_SAFE_SAFE_OUT)

/-- SWITCH_MATRIX is lost: a MUX step of a run of the session opens no further position, its maps are
restored, and the ACTIVE sites it reaches through the multiplexer become UNTESTED with CAUSE 12 (R48). The
step then ends, and a site no position connects takes its NO_DATA action (R339). -/
def State.muxLost (s : State) (ses : Nat) : State :=
  s.forEach (List.range 16) (fun r t =>
    match t.run r with
    | none => t
    | some x =>
      match x.mux with
      | none => t
      | some (m, _) =>
      if x.hdr.session.toNat = ses then
        let t := t.untest ((s.muxSites x.image m).filter (fun i => x.members.any (fun m => m.1 == i))) 12
        match t.run r with
        | none => t
        | some y => (t.setRun r (some { y with
            mux := some (m, s.muxCount x.image m)
            muxSite := none
            saved := []
            step := none
            standing := []
            busy := []
            results := [] })).forEach y.saved (fun w u => u.wr w.1 w.2)
      else t)

/-- The safe condition of a resource (R344), and the commands of the session that relied on it. -/
def State.lockSafe (s : State) (r ses : Nat) : State :=
  if r = 0 then s.gpioSafe.muxLost ses
  else if r < 33 then
    let n := 3 * (r - 1)
    if s.psmRange n = 5 then
      (s.psmSafe n .leaseLost 5).psmWaitFail n (fun o => match o with
        | .cmd h => h.session.toNat == ses
        | .run _ _ => true) .leaseLost
    else s
  else if r = 33 then s.set F.WH_CTL_MASTER 0
  else s

/-- A lock is lost (R347): safe condition, DIRTY, free, LEASH_LOST. -/
def State.lockLose (s : State) (r : Nat) : State :=
  if s.flag (F.SHP_LOCK_HELD r) then
    let t := s.lockSafe r (s.get (F.SHP_LOCK_OWNER r))
    let t := (((((t.set (F.SHP_LOCK_DIRTY r) 1).set (F.SHP_LOCK_HELD r) 0).set (F.SHP_LOCK_BY_RUN r) 0).set
      (F.SHP_LOCK_REMAIN_MS r) 0).set (F.SHP_LOCK_OWNER r) 0)
    ({ t with lockRun := Tab.put none t.lockRun r none } : State).raise shpSrc cPROTOCOL 0x05 r
  else s

/-- Grant or renew a lock for a session with a leash length. -/
def State.lockGrant (s : State) (r ses len : Nat) : State :=
  let t := (((s.set (F.SHP_LOCK_OWNER r) ses).set (F.SHP_LOCK_HELD r) 1).set (F.SHP_LOCK_DIRTY r) 0).set
    (F.SHP_LOCK_REMAIN_MS r) len
  { t with leashLen := Tab.put 0 t.leashLen r len }

end Sys2Proof.Machine
end

