-- ==== Sys2Proof/Machine/Lock.lean ====
section
/-! DEFINITION. The lock commands, the leash tick and the expiry of a leash (R345 to R347). -/

namespace Sys2Proof.Machine

/-- A lock command: RESOURCE and its own check; a lock whose leash has run out is lost first (R346). -/
def State.lockCmd (s : State) (op : Nat) (h : CmdHdr) (pl : List Word) 
    (body : Nat → State → State) : Out :=
  .next (s.cmd op h pl (fun s =>
      let r := word pl 0
      body r (if s.leashOut r then s.lockLose r else s)))

/-- LOCK_ACQUIRE (R345). -/
def execLockAcquire (h : CmdHdr) (pl : List Word) (s : State) : Out :=
  s.lockCmd 0x70 h pl (fun r s =>
    let ses := h.session.toNat
    let len := if word pl 1 = 0 then s.get F.SHP_LEASH_DEFAULT else word pl 1
    if s.flag (F.SHP_LOCK_HELD r) then
      if s.get (F.SHP_LOCK_OWNER r) = ses then (s.lockGrant r ses len).complete h .ok 0 [] else s.done h .locked
    else (s.lockGrant r ses len).complete h .ok (s.get (F.SHP_LOCK_DIRTY r)) [])

/-- LOCK_RENEW (R345, R346). -/
def execLockRenew (h : CmdHdr) (pl : List Word) (s : State) : Out :=
  s.lockCmd 0x71 h pl (fun r s =>
    if s.holdsLock r h.session.toNat then
      (s.set (F.SHP_LOCK_REMAIN_MS r) (Tab.get 0 s.leashLen r)).done h .ok
    else s.done h .leaseLost)

/-- LOCK_RELEASE (R345). -/
def execLockRelease (h : CmdHdr) (pl : List Word) (s : State) : Out :=
  s.lockCmd 0x72 h pl (fun r s =>
    if s.flag (F.SHP_LOCK_HELD r) = false then s.done h .ok
    else if s.get (F.SHP_LOCK_OWNER r) = h.session.toNat then (s.lockFree r).done h .ok
    else s.done h .locked)

/-- LOCK_STATUS (R345). -/
def execLockStatus (h : CmdHdr) (pl : List Word) (s : State) : Out :=
  s.lockCmd 0x73 h pl (fun r s => s.complete h .ok 0 [BitVec.ofNat 32 (s.rd (R.SHP_LOCK r))])

/-- Has the holding session a renewal of lock r in flight, admitted and not carried out yet (R346)? -/
def State.renewalDue (s : State) (r : Nat) : Bool :=
  s.inflight.any (fun e => (e.opcode == 0x70 || e.opcode == 0x71) && word e.payload 0 == r
    && e.hdr.session.toNat == s.get (F.SHP_LOCK_OWNER r) && !e.suppressed)

/-- LEASH_TICK (R346): at each 1 ms tick of HKO every held leash runs down by 1 ms, and a lock Shepherd holds
for a run is renewed. A leash granted between two ticks still has its last part of a millisecond at the tick that
brings REMAIN_MS to 0, and is found run out at the next, unless a renewal admitted before it waits. Leashes stand still in Rest, while the core is down, and after a warm start until
the first port is UP (R348, R458). -/
def execLeashTick (s : State) : Out :=
  .next (
    if !s.coreUp || 2 ≤ s.get F.GLB_REST_STATE || s.leashFrozen then s
    else s.forEach (List.range 64) (fun r t =>
      if t.flag (F.SHP_LOCK_HELD r) then
        if t.flag (F.SHP_LOCK_BY_RUN r) then t.set (F.SHP_LOCK_REMAIN_MS r) (Tab.get 0 t.leashLen r)
        else if t.get (F.SHP_LOCK_REMAIN_MS r) = 0 ∧ t.renewalDue r = true then t
        else if t.get (F.SHP_LOCK_REMAIN_MS r) = 0 then
          { t with leashLen := Tab.put 0 t.leashLen r (setBits (Tab.get 0 t.leashLen r) 16 1 1) }
        else t.set (F.SHP_LOCK_REMAIN_MS r) (t.get (F.SHP_LOCK_REMAIN_MS r) - 1)
      else t))

/-- LEASH_EXPIRY (R347): a lock whose leash has run out is lost, once no routine runs that may not be abandoned (R326). -/
def execLeashExpiry (r : Fin 64) (s : State) : Out :=
  .next (if s.coreUp && s.leashOut r && !s.routineHolds then (s.lockLose r).preempt else s)

end Sys2Proof.Machine
end

