-- ==== Sys2Proof/Machine/Flow.lean ====
section
/-! DEFINITION. Flows and runs: carrying out the steps of a run, taking the results of their work, and the
actions of the sites (R333 to R340). -/

namespace Sys2Proof.Machine

/-! ## Sites of a run (R333, R338, R340) -/

/-- BIN := the step's BIN if the site is not binned. -/
def State.binSite (s : State) (site bin : Nat) : State :=
  if s.get (F.SHP_SITE_CTL_BIN site) = 0 then (s.set (F.SHP_SITE_CTL_BIN site) bin).ctxTouch site else s

/-- The site's position becomes step i. -/
def State.moveSite (s : State) (r site i : Nat) : State :=
  match s.run r with
  | none => s
  | some x =>
    ((s.setRun r (some { x with members := x.members.map (fun m => if m.1 = site then (site, i) else m) })).set
      (F.SHP_SITE_FLOW_FLOW_STEP site) i).ctxTouch site

/-- Shepherd opens an isolation switch: the image bit is set and the chain shifted (R340, R475). -/
def State.isoOpen (s : State) (e : Nat) : State :=
  if 1024 ≤ e then s
  else
    let t := s.set (⟨R.GPIO_ISO_IMG (e / 32), e % 32, 1⟩ : Ref) 1
    if t.flag F.GPIO_ISO_ISO_EN then
      if t.flag F.GPIO_ISO_BUSY then { t with isoAgain := true } else t.set F.GPIO_ISO_BUSY 1
    else t

/-- A site becomes MUZZLED, and its switch opens by the isolation map of the image given (R340, R51). -/
def State.muzzleSite (s : State) (site : Nat) (im : Option Nat) : State :=
  let t :=
    if s.siteActive site then s.leaveActive site 4 0
    else ((s.set (F.SHP_SITE_CTL_STATE site) 4).set (F.SHP_SITE_CTL_CAUSE site) 0).ctxTouch site
  let t := if s.siteState site = 4 then t else t.fenceSite site
  match im with
  | none => t
  | some a =>
    match s.isoEntry a site with
    | none => t
    | some e => t.isoOpen e

/-- A site takes an action of step i of its run (R333). -/
def State.takeAction (s : State) (r im i site : Nat) (v : Verdict) : State :=
  let (act, target) := s.stepAction im i v
  let bin := s.stepWord im i 0 / 2 ^ 16
  let stop (t : State) : State := (t.binSite site bin).leaveActive site 2 0
  match act with
  | 0 => s.moveSite r site (i + 1)
  | 1 => s.moveSite r site target
  | 2 =>
    let n := s.get (F.SHP_SITE_FLOW_RETEST_COUNT site)
    if n < s.retestMax im then
      let t := ((s.set (F.SHP_SITE_FLOW_RETEST_COUNT site) (n + 1)).set (F.SHP_SITE_CTL_BIN site) 0).set (F.SHP_SITE_MEAS site) 0
      (t.forEach (List.range 8) (fun k u => { u with slots := Tab.put none u.slots (8 * site + k) none })).moveSite r site target
    else stop s
  | 3 => stop s
  | 4 => (s.binSite site bin).moveSite r site (i + 1)
  | _ => (if bin = 0 then s else s.binSite site bin).muzzleSite site (some im)

/-! ## Beginning a step (R336) -/

/-- The lowest step at which an ACTIVE site stands, and the sites standing there. -/
def Run.lowest (x : Run) : Option (Nat × List Nat) :=
  match x.members with
  | [] => none
  | m :: ms =>
    let i := ms.foldl (fun a b => min a b.2) m.2
    some (i, sortAsc ((x.members.filter (fun b => b.2 == i)).map (·.1)))

/-- The step the run carries out next: the following step for the site a MUX position has connected, else
the lowest step. -/
def Run.nextStep (x : Run) : Option (Nat × List Nat) :=
  if x.step.isSome then none
  else match x.mux with
    | some (m, _) => x.muxSite.map (fun i => (m + 1, [i]))
    | none => x.lowest

/-- A row begins a step of its kind: binned sites that skip take the PASS action; the sites left, if any,
stand at the step while `start` begins its work, once `ready` holds. A site that a GOTO or a BIN_CONTINUE has led past the
last step stands at no step, and its run waits (assumption 176). -/
def State.stepRow (s : State) (r kind : Nat) (ready : State → Run → Nat → List Nat → Bool)
    (start : State → Run → Nat → List Nat → State) : State :=
  match s.run r with
  | none => s
  | some x =>
    match x.nextStep with
    | none => s
    | some (i, sites) =>
      if !s.coreUp || s.stepKind x.image i != kind || decide (s.stepCount x.image ≤ i) then s
      else
        let skips (j : Nat) : Bool := kind != 0 && bit (s.stepWord x.image i 0) 8 && s.get (F.SHP_SITE_CTL_BIN j) != 0
        let rest := sites.filter (fun j => !skips j)
        let t := (s.setRun r (some { x with muxSite := none })).forEach (sites.filter skips)
          (fun j u => u.takeAction r x.image i j .pass)
        match t.run r with
        | none => t
        | some y =>
          if rest.isEmpty then t
          else if ready t y i rest then
            let y := { y with
              step := some i
              standing := rest
              todo := rest
              busy := []
              verdicts := []
              results := []
              stored := [] }
            start (t.setRun r (some y)) y i rest
          else s

/-- No step is being carried out any more. -/
def State.stepOver (s : State) (r : Nat) : State :=
  match s.run r with
  | none => s
  | some x => s.setRun r (some { x with
      step := none
      standing := []
      todo := []
      busy := []
      verdicts := []
      results := []
      stored := [] })

/-- Change run r. -/
def State.editRun (s : State) (r : Nat) (f : Run → Run) : State :=
  match s.run r with
  | none => s
  | some x => s.setRun r (some (f x))

/-- Note verdicts of sites; none is left to be served. -/
def State.judge (s : State) (r : Nat) (l : List (Nat × Verdict)) : State :=
  s.editRun r (fun x => { x with verdicts := x.verdicts ++ l })

/-- Every site of the step has been taken in hand. -/
def State.allServed (s : State) (r : Nat) : State := s.editRun r (fun x => { x with todo := [] })

/-- Always ready. -/
def readyNow : State → Run → Nat → List Nat → Bool := fun _ _ _ _ => true

/-! ## Units of a step (R334) -/

/-- The ROLE SITE channel of a site whose SRC is a byte. -/
def State.siteChannel (s : State) (site byte : Nat) : Option Nat :=
  (List.range 512).find? (fun n => s.role n == 1 && s.get (F.PK_CHMAP_SITE (n / 32) (n % 32)) == site
    && s.get (F.PK_CHMAP_SRC (n / 32) (n % 32)) == byte)

/-- The device PSMs n of the packs whose enabled range holds a site of the list. -/
def State.stepPsms (s : State) (k : Nat) (sites : List Nat) : List Nat :=
  if 6 ≤ k then []
  else ((List.range 16).map (fun p => 6 * p + k)).filter (fun n => (s.sitesOfPsm n).any (fun i => sites.contains i))

/-- The verdict of a stored value: by the step's limit, PASS without one (R335). -/
def State.valueVerdict (s : State) (im i v : Nat) : Verdict :=
  match s.stepLimit im i with
  | none => .pass
  | some l => s.limitVerdict im l (some v)

/-- SLOT of step i. -/
def State.stepSlot (s : State) (im i : Nat) : Nat := bits (s.stepWord im i 0) 9 3

/-- A value of a measurement slot, none while it is not valid. -/
def State.slotValue (s : State) (site k : Nat) : Option Nat :=
  if bit (s.rd (R.SHP_SITE_MEAS site)) k then Tab.get none s.slots (8 * site + k) else none

/-! ## The steps -/

/-- END_STEP (R334). -/
def execEndStep (run : Fin 16) (s : State) : Out :=
  .next (s.stepRow run 0 readyNow (fun t x i sites =>
    (t.forEach sites (fun j u => (u.binSite j (t.stepWord x.image i 0 / 2 ^ 16)).leaveActive j 2 0)).stepOver run))

/-- PATTERN_STEP (R334, R337). -/
def execPatternStep (run : Fin 16) (s : State) : Out :=
  .next (
    let packs (t : State) (x : Run) (i : Nat) := packsOf (t.stepWord x.image i 4 % 2 ^ 16)
    let seg (t : State) (x : Run) (i : Nat) := bits (t.stepWord x.image i 4) 16 10
    s.stepRow run 1
      (fun t x i _ => decide (t.startCheck (packs t x i) (seg t x i) ≠ some .busy))
      (fun t x i _ =>
        let t := t.allServed run
        let o : Owner := .run x.id 0
        let t := t.editRun run (fun y => { y with busy := [(1024, 0)] })
        if (packs t x i).isEmpty then t.answer o .ok 0 []
        else match t.startCheck (packs t x i) (seg t x i) with
          | some st => t.answer o st 0 []
          | none => t.startGroup o (packs t x i) (seg t x i) 0))

/-- The PMU measurement of one site's channel. -/
def State.pmuServe (s : State) (r : Nat) (x : Run) (i site : Nat) : State :=
  match s.siteChannel site (bits (s.stepWord x.image i 3) 16 5) with
  | none => s.judge r [(site, .noData)]
  | some n =>
    let w (k : Nat) := s.stepWord x.image i k
    let ctl := setBits (w 4) 8 1 0
    let ws : List (State → Res) :=
      [fun t => t.guarded (R.CH_PMU_CTL n) (writePmuCtl n ctl),
       fun t => t.guarded (R.CH_PMU_FORCE n) (writePmuForce n (w 5)),
       fun t => t.guarded (R.CH_PMU_CLAMP n) (writePmuClamp n (w 6)),
       fun t => t.guarded (R.CH_PMU_MEAS n) (fun u => .ok (u.store (R.CH_PMU_MEAS n) (w 7))),
       fun t => t.guarded (R.CH_PMU_CTL n) (writePmuCtl n (setBits ctl 8 1 1))]
    match runWrites ws s with
    | (t, some _) => (t.set (F.CH_PMU_CTL_MODE n) 0).judge r [(site, .noData)]
    | (t, none) =>
      let t := t.editRun r (fun y => { y with busy := y.busy ++ [(site, n)] })
      if t.pmuBusy n then t.setChan n { t.chan n with pmuOwner := some (.run x.id n) }
      else t.answer (.run x.id n) .partialDone 0 []

/-- PMU_STEP (R334): ready when no pattern and no PMU measurement runs on the channels. -/
def execPmuStep (run : Fin 16) (s : State) : Out :=
  .next (s.stepRow run 2
    (fun t x i sites => sites.all (fun j =>
      match t.siteChannel j (bits (t.stepWord x.image i 3) 16 5) with
      | none => true
      | some n => !t.seqRun (n / 32) && !t.pmuBusy n))
    (fun t x i sites => (t.forEach sites (fun j u => u.pmuServe run x i j)).allServed run))

/-- One PSM is set up for a PSM_FORCE step and waits for SETTLED. -/
def State.psmServe (s : State) (r : Nat) (x : Run) (i n : Nat) : State :=
  let w (k : Nat) := s.stepWord x.image i k
  let ses := x.hdr.session.toNat
  let off (v : Nat) := setBits v 0 3 0
  let differs := s.psmMode n != w 4 % 8
  let first : List (State → Res) :=
    [fun t => writePsmStatus n 0x70000 t,
     fun t => t.guarded (R.PSM_SLEW n) (writePsmPlain n 0x08 (w 7 % 2 ^ 16)),
     fun t => t.guarded (R.PSM_CLAMP n) (writePsmPlain n 0x0C (w 6))]
  let throughOff : List (State → Res) :=
    if differs then
      [fun t => t.guarded (R.PSM_CTL n) (writePsmCtl n (off (t.rd (R.PSM_CTL n))) ses),
       fun t => t.guarded (R.PSM_CTL n) (writePsmCtl n (off (w 4)) ses)]
    else []
  let last : List (State → Res) :=
    [fun t => t.guarded (R.PSM_LEVEL n) (writePsmLevel n (w 5)),
     fun t => t.guarded (R.PSM_CTL n) (writePsmCtl n (w 4) ses)]
  let ws := first ++ throughOff ++ last
  let (t, bad) := runWrites ws s
  let t := t.editRun r (fun y => { y with busy := y.busy ++ [(n, 1)] })
  match bad with
  | some st => t.answer (.run x.id n) st 0 []
  | none => (t.setPsm n { t.psm n with waiters := (t.psm n).waiters ++ [.run x.id n] }).psmRefresh n

/-- PSM_FORCE_STEP (R334): ready when no other step waits or measures on the PSMs. A site whose PSM is
muzzled becomes UNTESTED (R49). -/
def execPsmForceStep (run : Fin 16) (s : State) : Out :=
  .next (
    let psms (t : State) (x : Run) (i : Nat) (sites : List Nat) := t.stepPsms (bits (t.stepWord x.image i 3) 16 3) sites
    s.stepRow run 3
      (fun t x i sites => (psms t x i sites).all (fun n => (t.psm n).waiters.isEmpty && (t.psm n).meas.isNone))
      (fun t x i sites =>
        let l := psms t x i sites
        let gone := sites.filter (fun j => l.any (fun n => t.psmMuzzled n && (t.sitesOfPsm n).contains j))
        let t := (t.allServed run).untest gone 2
        t.forEach (l.filter (fun n => !t.psmMuzzled n)) (fun n u => u.psmServe run x i n)))

/-- An idle TMU of pack p that may measure. -/
def State.idleTmu (s : State) (p : Nat) : Option Nat :=
  ((List.range 4).map (fun j => 4 * p + j)).find? (fun t => s.tmuIdle t && !s.tmuMuzzled t)

/-- The TMU images of a step for a start and a stop channel of one pack. -/
def State.tmuStepImages (s : State) (x : Run) (i t a b : Nat) : List Word :=
  let w (k : Nat) := s.stepWord x.image i k
  let src := a % 32 + bits (w 3) 26 1 * 2 ^ 8 + b % 32 * 2 ^ 16 + bits (w 3) 27 1 * 2 ^ 24
  ([t, w 4, src, w 5, w 6, w 7 % 2 ^ 8] : List Nat).map (BitVec.ofNat 32)

/-- Sites still to be served take the idle TMUs of their packs in ascending order; where every TMU of the
pack is muzzled the site becomes UNTESTED (R49). -/
def State.tmuServe (s : State) (r : Nat) (x : Run) (i site : Nat) : State :=
  let w3 := s.stepWord x.image i 3
  let drop (t : State) : State := t.editRun r (fun y => { y with todo := y.todo.filter (· != site) })
  match s.siteChannel site (bits w3 16 5), s.siteChannel site (bits w3 21 5) with
  | some a, some b =>
    if a / 32 ≠ b / 32 then (drop s).judge r [(site, .noData)]
    else if (List.range 4).all (fun j => s.tmuMuzzled (4 * (a / 32) + j)) then s.untest [site] 3
    else
      match s.idleTmu (a / 32) with
      | none => s
      | some t =>
        let im : List (State → Res) := (tmuImages t (s.tmuStepImages x i t a b)).take 5
        let go : State → Res := fun u => u.guarded (R.TMU_GO t) (writeTmuGo t 1 (some (.run x.id t)))
        match runWrites (im ++ [go]) s with
        | (u, some _) => (drop u).judge r [(site, .noData)]
        | (u, none) => (drop u).editRun r (fun y => { y with busy := y.busy ++ [(site, t)] })
  | _, _ => (drop s).judge r [(site, .noData)]

/-- TMU_STEP (R334). -/
def execTmuStep (run : Fin 16) (s : State) : Out :=
  .next (s.stepRow run 4 readyNow (fun t x i sites => t.forEach sites (fun j u => u.tmuServe run x i j)))

/-- The call of an AE step: the block's words with SITE, TO_SLOT and SLOT filled in. -/
def State.aeBlock (s : State) (x : Run) (i site key : Nat) : AeCall :=
  let a := x.image + s.flowHead x.image 6 + 64 * (s.stepWord x.image i 3 / 2 ^ 16)
  let w0 := setBits (setBits (setBits (s.flowWord a) 8 1 1) 9 3 (s.stepSlot x.image i)) 16 10 site
  { owner := .run x.id key, words := w0 :: (List.range 15).map (fun k => s.flowWord (a + 4 + 4 * k)), core := none }

/-- AE_STEP (R334): one call per site, or one for all; with no core available the sites become UNTESTED
(R49). -/
def execAeStep (run : Fin 16) (s : State) : Out :=
  .next (s.stepRow run 5 readyNow (fun t x i sites =>
    let t := t.allServed run
    if (List.range 8).any (fun c => t.aeAble c) = false then t.aeNone sites
    else if bit (t.stepWord x.image i 4) 0 then
      t.forEach sites (fun j u =>
        (u.editRun run (fun y => { y with busy := y.busy ++ [(j, 1024 + j)] })).aeSubmit (t.aeBlock x i j (1024 + j)))
    else (t.editRun run (fun y => { y with busy := [(1024, 4096)] })).aeSubmit (t.aeBlock x i (sites.headD 0) 4096)))

/-- LIMIT_STEP (R334, R335). -/
def execLimitStep (run : Fin 16) (s : State) : Out :=
  .next (s.stepRow run 6 readyNow (fun t x i sites =>
    (t.allServed run).judge run (sites.map (fun j =>
      (j, match t.stepLimit x.image i with
          | none => .noData
          | some l => t.limitVerdict x.image l (t.slotValue j (t.stepSlot x.image i)))))))

/-- The verdict of a CONTACT step for a site (R334). -/
def State.contactVerdict (s : State) (site : Nat) : Verdict :=
  let codes := ((List.range 512).filter (fun n => s.role n == 1 && s.get (F.PK_CHMAP_SITE (n / 32) (n % 32)) == site)).map
    (fun n => s.get (F.TIM_CHA_STAT_CONTACT (n / 32) (n % 32)))
  if codes.contains 0 then .noData else if codes.all (· == 1) then .pass else .fail

/-- CONTACT_STEP (R334). -/
def execContactStep (run : Fin 16) (s : State) : Out :=
  .next (s.stepRow run 7 readyNow (fun t _ _ sites =>
    (t.allServed run).judge run (sites.map (fun j => (j, t.contactVerdict j)))))

/-- WAIT_STEP (R334): the step's end comes with FLOW_STEP_END. -/
def execWaitStep (run : Fin 16) (s : State) : Out :=
  .next (s.stepRow run 9 readyNow (fun t _ _ sites => (t.allServed run).judge run (sites.map (fun j => (j, .pass)))))

/-- A repair request of one site; a full queue leaves the site to be served later. -/
def State.repairServe (s : State) (r : Nat) (x : Run) (i site : Nat) : State :=
  let p := s.stepWord x.image i 4 % 16
  let w3 := s.stepWord x.image i 3
  let v := site + bits w3 16 1 * 2 ^ 10 + 2 ^ 11 + bits w3 17 1 * 2 ^ 12 + bits w3 18 1 * 2 ^ 13
  let drop (t : State) : State := t.editRun r (fun y => { y with todo := y.todo.filter (· != site) })
  match s.guarded (R.RA_REQ p) (writeRaReq p v) with
  | .ok t =>
    let g := t.apg p
    let t := t.setApg p { g with queue := g.queue.dropLast ++ (g.queue.getLast?.map (fun q => { q with run := some x.id })).toList }
    (drop t).editRun r (fun y => { y with busy := y.busy ++ [(site, p)] })
  | .error .busy => s
  | .error _ => (drop s).judge r [(site, .noData)]

/-- REPAIR_STEP (R334). -/
def execRepairStep (run : Fin 16) (s : State) : Out :=
  .next (s.stepRow run 10 readyNow (fun t x i sites => t.forEach sites (fun j u => u.repairServe run x i j)))

/-! ## The MUX step (R47, R339) -/

/-- Rewrite a map word once saved. -/
def State.mapWrite (s : State) (r a v : Nat) : State :=
  let t := s.editRun r (fun x => if x.saved.any (fun w => w.1 == a) then x else { x with saved := x.saved ++ [(a, s.rd a)] })
  t.wr a v

/-- Switch position k of MUX step m: the GPIO pattern, then the maps. -/
def State.muxSwitch (s : State) (r : Nat) (im m k : Nat) : State :=
  let w0 := s.muxWord im m k 0
  let w1 := s.muxWord im m k 1
  let mask := w0 / 2 ^ 16
  let site := w1 % 2 ^ 10
  let p := bits w1 10 4
  let out := s.get F.GPIO_OUT
  let t := s.set F.GPIO_OUT ((out &&& (0xFFFF - mask)) ||| (w0 % 2 ^ 16 &&& mask))
  let t := t.forEach (List.range 32) (fun c u =>
    if bit (s.muxWord im m k 2) c then u.mapWrite r (R.PK_CHMAP p c) (setBits (u.rd (R.PK_CHMAP p c)) 0 10 site) else u)
  t.forEach (List.range 6) (fun n u =>
    if bit (s.muxWord im m k 3) n then
      u.mapWrite r (R.PK_PSMMAP p n) (setBits (setBits (u.rd (R.PK_PSMMAP p n)) 0 10 site) 10 10 site)
    else u)

/-- The packs and the PSMs that position k of MUX step m involves: those it rewrites, and those of the following step for
the site connected (R47, R339). -/
def State.muxUnits (s : State) (im m k : Nat) : List Nat × List Nat :=
  let w1 := s.muxWord im m k 1
  let p := bits w1 10 4
  let site := w1 % 2 ^ 10
  let w (x : Nat) := s.stepWord im (m + 1) x
  let own := ((List.range 6).filter (fun n => bit (s.muxWord im m k 3) n)).map (fun n => 6 * p + n)
  let chan (lo : Nat) : List Nat := ((s.siteChannel site (bits (w 3) lo 5)).toList).map (fun n => n / 32)
  match s.stepKind im (m + 1) with
  | 1 => (p :: packsOf (w 4 % 2 ^ 16), own)
  | 2 => (p :: chan 16, own)
  | 3 => ([p], own ++ s.stepPsms (bits (w 3) 16 3) [site])
  | 4 => (p :: (chan 16 ++ chan 21), own)
  | _ => ([p], own)

/-- May Shepherd switch position k: no pattern runs on a pack that it involves, and the PSMs that it involves have
settled (R47)? -/
def State.muxReady (s : State) (im m k : Nat) : Bool :=
  let u := s.muxUnits im m k
  u.1.all (fun p => !s.seqRun p) && u.2.all (fun n => s.psmSettled n)

/-- Shepherd takes the switch-matrix lock for a run; none while another session holds it. A lock the session
holds already stays its own afterwards. -/
def State.muxLock (s : State) (r ses : Nat) : Option State :=
  let s := if s.leashOut 0 then s.lockLose 0 else s
  if s.flag (F.SHP_LOCK_HELD 0) then
    if s.get (F.SHP_LOCK_OWNER 0) = ses ∧ (Tab.get none s.lockRun 0).isNone then
      some { s.set (F.SHP_LOCK_BY_RUN 0) 1 with lockRun := Tab.put none s.lockRun 0 (some (r + 16)) }
    else none
  else
    let t := (s.lockGrant 0 ses (s.get F.SHP_LEASH_DEFAULT)).set (F.SHP_LOCK_BY_RUN 0) 1
    some { t with lockRun := Tab.put none t.lockRun 0 (some r) }

/-- Shepherd gives the switch-matrix lock back. -/
def State.muxUnlock (s : State) (r : Nat) : State :=
  if Tab.get none s.lockRun 0 = some r then s.lockFree 0
  else if Tab.get none s.lockRun 0 = some (r + 16) then
    { s.set (F.SHP_LOCK_BY_RUN 0) 0 with lockRun := Tab.put none s.lockRun 0 none }
  else s

/-- The MUX step ends: maps restored, lock given back, and the sites no position connected take its NO_DATA
action. -/
def State.muxEnd (s : State) (r : Nat) (x : Run) (m : Nat) : State :=
  let t := (s.setRun r (some { x with
    mux := none
    muxSite := none
    muxTodo := []
    saved := [] })).forEach x.saved (fun w u => u.wr w.1 w.2)
  (t.muxUnlock r).forEach (x.muxTodo.filter (fun i => x.members.contains (i, m)))
    (fun i u => u.takeAction r x.image m i .noData)

/-- MUX_STEP (R339): takes the lock, then switches position after position; after the last the step ends. A
MUX step that follows another gives its site no result. A site whose position needs a muzzled PSM becomes UNTESTED
(R49). -/
def execMuxStep (run : Fin 16) (s : State) : Out :=
  .next (
    match s.run run with
    | none => s
    | some x =>
      match x.mux with
      | none =>
        s.stepRow run 8 readyNow (fun t y i sites =>
          match t.muxLock run y.hdr.session.toNat with
          | none => s
          | some u => (u.stepOver run).editRun run (fun z => { z with mux := some (i, 0), muxTodo := sites }))
      | some (m, k) =>
        if x.step.isSome || !s.coreUp then s
        else if x.muxSite.isSome then
          s.stepRow run 8 readyNow (fun t _ _ sites =>
            (t.allServed run).judge run (sites.map (fun j => (j, .noData))))
        else if k < s.muxCount x.image m then
          if s.muxReady x.image m k then
            let site := s.muxWord x.image m k 1 % 2 ^ 10
            let needs := (s.muxUnits x.image m k).2.any (fun n => s.psmMuzzled n)
            let s := if needs && x.members.contains (site, m) then s.untest [site] 2 else s
            if (s.run run).isNone then s
            else (s.muxSwitch run x.image m k).editRun run (fun y => { y with
              mux := some (m, k + 1)
              muxSite := if y.muxTodo.contains site && y.members.contains (site, m) then some site else none
              muxTodo := y.muxTodo.filter (· != site) })
          else s
        else s.muxEnd run x m)

/-! ## The end of a step (R335, R337) -/

/-- Fold the capture state of a site into its context, and its outcome (R337). -/
def State.foldSite (s : State) (packs : List Nat) (site : Nat) : State × Verdict :=
  let slots := packs.flatMap (fun p => ((List.range 32).filter (fun c =>
    s.flag (F.CAP_SITE_INFO_SLOT_VALID p c) && s.get (F.CAP_SITE_INFO_SITE p c) == site)).map (fun c => (p, c)))
  let v := if slots.any (fun x => s.rd (R.CAP_SITE_FAILS x.1 x.2) != 0) then Verdict.fail
    else if slots.any (fun x => bit (s.cap x.1).sawPass x.2) then .pass else .noData
  ((s.foldFails packs site).ctxTouch site, v)

/-- The answer of a PATTERN step's start (R337). -/
def State.patternResult (s : State) (r : Nat) (x : Run) (i : Nat) (st : Status) : State :=
  let packs := packsOf (s.stepWord x.image i 4 % 2 ^ 16)
  s.forEach (x.standing.filter (fun j => s.siteActive j)) (fun j t =>
    let (u, v) := t.foldSite packs j
    u.judge r [(j, if st = .ok ∨ st = .timeout then v else .noData)])

/-- A value of a site goes to the step's slot and is judged. -/
def State.storeResult (s : State) (r : Nat) (x : Run) (i site v : Nat) : State :=
  (s.putSlot site (s.stepSlot x.image i) v).judge r [(site, s.valueVerdict x.image i v)]

/-- The answer of a site's PMU measurement; MODE returns to OFF (R68). -/
def State.pmuResult (s : State) (r : Nat) (x : Run) (i n : Nat) (st : Status) : State :=
  let t := s.set (F.CH_PMU_CTL_MODE n) 0
  t.forEach ((x.busy.filter (fun b => b.2 == n && x.standing.contains b.1)).map (·.1)) (fun j u =>
    if st = .ok ∧ s.flag (F.CH_PMU_RESULT_VALID n) = true then
      u.storeResult r x i j (unsigned 32 (s.getI (F.CH_PMU_RESULT_RESULT n)))
    else u.judge r [(j, .noData)])

/-- The answer of a PSM: SETTLED starts its measurement; the end of that gives the value (R334). -/
def State.psmResult (s : State) (r : Nat) (x : Run) (i n : Nat) (st : Status) : State :=
  let sites := x.standing.filter (fun j => (s.sitesOfPsm n).contains j)
  let give (t : State) (v : Verdict) : State := t.judge r (sites.map (fun j => (j, v)))
  if x.busy.contains (n, 1) ∧ st = .ok then
    match s.psmMeasStart n (some (.run x.id n)) with
    | .ok t => t.editRun r (fun y => { y with busy := y.busy ++ [(n, 2)] })
    | .error _ => give s (if s.flag (F.PSM_STATUS_SHORT n) then .fail else .noData)
  else if s.flag (F.PSM_STATUS_SHORT n) then give s .fail
  else if st = .ok ∧ s.flag (F.PSM_MEAS_MEAN_VALID n) = true then
    s.forEach sites (fun j u => u.storeResult r x i j (unsigned 32 (s.getI (F.PSM_MEAS_MEAN_MEAN n))))
  else give s .noData

/-- A number of femtoseconds over 2^SHIFT, saturated to 32 bits. -/
def shiftSat (v : Int) (sh : Nat) : Nat :=
  unsigned 32 (max (-(2 ^ 31 : Int)) (min (2 ^ 31 - 1 : Int) (v / (2 ^ sh : Int))))

/-- The answer of a site's TMU measurement. -/
def State.tmuResult (s : State) (r : Nat) (x : Run) (i t : Nat) (st : Status) : State :=
  s.forEach ((x.busy.filter (fun b => b.2 == t && x.standing.contains b.1)).map (·.1)) (fun j u =>
    if st = .ok ∧ 0 < s.get (F.TMU_RES_HDR_STOPS_SEEN t) then
      u.storeResult r x i j (shiftSat (signed 64 (s.rd64 (R.TMU_STOP_LO t 0))) (bits (s.stepWord x.image i 7) 8 6))
    else u.judge r [(j, .noData)])

/-- The answer of an AE call; its slots are written already (R273, R274), and a site for which it stored nothing has no
result (R335). -/
def State.aeStepResult (s : State) (r : Nat) (x : Run) (i key : Nat) (st : Status) : State :=
  let sites := if key = 4096 then x.standing else x.standing.filter (fun j => 1024 + j == key)
  s.judge r (sites.map (fun j => (j,
    if st = .ok ∧ x.stored.contains j = true then
      match s.slotValue j (s.stepSlot x.image i) with
      | some v => s.valueVerdict x.image i v
      | none => .noData
    else .noData)))

/-- The answers the run keeps are taken one after another. -/
def State.takeResults (s : State) (r : Nat) : Nat → State
  | 0 => s
  | f + 1 =>
    match s.run r with
    | none => s
    | some x =>
      match x.step, x.results with
      | some i, (key, st, _) :: rest =>
        let kind := s.stepKind x.image i
        let y := { x with results := rest, busy := x.busy.filter (fun b => if kind = 3 then b.1 != key else b.2 != key) }
        let t := s.setRun r (some y)
        let t := match kind with
          | 1 => t.patternResult r x i st
          | 2 => t.pmuResult r x i key st
          | 3 => t.psmResult r x i key st
          | 4 => t.tmuResult r x i key st
          | 5 => t.aeStepResult r x i key st
          | _ => t
        t.takeResults r f
      | _, _ => s

/-- The outcome of a site from its verdicts: the worst of them; NO_DATA where there is none. -/
def worstVerdict (l : List Verdict) : Verdict :=
  if l.contains .fail then .fail
  else if l.isEmpty || l.contains .noData then .noData
  else if l.contains .marginal then .marginal else .pass

/-- FLOW_STEP_END (R335 to R337), once no routine runs (R326): the answers are taken; sites still to be served are; once all work has
ended each standing site takes its outcome's action. -/
def execFlowStepEnd (run : Fin 16) (s : State) : Out :=
  .next (
    let t := s.takeResults run 4096
    match t.run run with
    | none => t
    | some x =>
      match x.step with
      | none => t
      | some i =>
        if !t.coreUp || t.routine.isSome then s
        else if !x.todo.isEmpty then
          t.forEach x.todo (fun j u => match t.stepKind x.image i with
            | 4 => u.tmuServe run x i j
            | 10 => u.repairServe run x i j
            | _ => u)
        else if !x.busy.isEmpty && !x.standing.isEmpty then t
        else
          (t.stepOver run).forEach x.standing (fun j u =>
            u.takeAction run x.image i j (worstVerdict ((x.verdicts.filter (fun v => v.1 == j)).map (·.2)))))

end Sys2Proof.Machine
end

