-- ==== Sys2Proof/Machine/FlowCmd.lean ====
section
/-! DEFINITION. The commands of the sites and flows group (R340 to R343). -/

namespace Sys2Proof.Machine

/-- FLOW_LOAD (R341, R342). -/
def execFlowLoad (h : CmdHdr) (pl : List Word) (s : State) : Out :=
  .next (s.cmd 0x20 h pl (fun s =>
    let f := word pl 0
    if s.flag (F.SHP_FLOW_LOADED f) then s.done h .busy
    else match s.flowRefused (64 * word pl 1) with
      | some st => s.done h st
      | none => ((s.set (F.SHP_FLOW_LOADED f) 1).set (F.SHP_FLOW_OFFSET f) (word pl 1)).done h .ok))

/-- Does a run use flow f? -/
def State.flowInUse (s : State) (f : Nat) : Bool :=
  (List.range 16).any (fun r => match s.run r with
    | some x => x.flow == f
    | none => false)

/-- FLOW_UNLOAD (R340, R342): sites that last ran the flow remember it no more. -/
def execFlowUnload (h : CmdHdr) (pl : List Word) (s : State) : Out :=
  .next (s.cmd 0x21 h pl (fun s =>
    let f := word pl 0
    if s.flowInUse f then s.done h .busy
    else
      let t := s.set (F.SHP_FLOW_LOADED f) 0
      ({ t with lastFlow := t.lastFlow.filter (fun e => match e.2 with
          | some x => x.1 != f
          | none => true) } : State).done h .ok))

/-- The sites of a range. -/
def siteRange (first count : Nat) : List Nat := (List.range count).map (first + ·)

/-- A site of a flow start's range that is not MUZZLED starts afresh: ACTIVE, or UNTESTED with its mark's
cause (R34, R343, R43). -/
def State.startSite (s : State) (f im site : Nat) : State :=
  let mark := s.markOf site
  let shared := if s.flowShares im site then 8 else 0
  let t := s.wr (R.SHP_SITE_CTL site) (shared + (if mark = 0 then 1 else 3 + 16 * (mark % 16)))
  let t := ((((t.wr (R.SHP_SITE_FFB_LO site) 0).wr (R.SHP_SITE_FFB_HI site) 0).wr (R.SHP_SITE_FAILS site) 0).wr
    (R.SHP_SITE_FLOW site) 0).wr (R.SHP_SITE_MEAS site) 0
  let t := t.forEach (List.range 8) (fun k u => { u with slots := Tab.put none u.slots (8 * site + k) none })
  let t := { t with
    marks := t.marks.filter (fun x => x.site != site || s.markHolds x)
    siteStops := t.siteStops.filter (fun (x : SiteStop) => x.site != site) }
  let t := if mark = 0 then { t with lastFlow := Tab.put none t.lastFlow site (some (f, im)) } else t
  t.ctxTouch site

/-- FLOW_START (R343). -/
def execFlowStart (h : CmdHdr) (pl : List Word) (s : State) : Out :=
  .next (s.cmd 0x22 h pl (fun s =>
    let f := word pl 0
    let first := word pl 1
    let count := word pl 2
    let sites := siteRange first count
    if count = 0 then s.done h .ok
    else if s.stopped || !s.flag (F.SHP_FLOW_LOADED f) then s.done h .badState
    else if sites.any (fun i => s.siteActive i) then s.done h .busy
    else match (List.range 16).find? (fun r => (s.run r).isNone) with
      | none => s.done h .busy
      | some r =>
        let im := 64 * s.get (F.SHP_FLOW_OFFSET f)
        let t := s.forEach (sites.filter (fun i => s.siteState i != 4)) (fun i u => u.startSite f im i)
        let act := sites.filter (fun i => t.siteActive i)
        let x : Run :=
          { id := t.runSerial
            flow := f
            image := im
            hdr := h
            first := first
            count := count
            members := act.map (fun i => (i, 0))
            anyActive := !act.isEmpty }
        (({ t with runSerial := t.runSerial + 1 } : State).setRun r (some x)).settleRun r))

/-- The work of a run's step is stopped (FLOW_ABORT, R342). -/
def State.stopStep (s : State) (r : Nat) (x : Run) (i : Nat) : State :=
  let mine (o : Owner) : Bool := match o with
    | .run id _ => id == x.id
    | .cmd _ => false
  let t := match s.stepKind x.image i with
    | 1 =>
      let (waiting, running) := (s.groups.filter (fun (g : StartGroup) => mine g.owner)).partition (fun (g : StartGroup) => !g.running)
      let packs := packsOf (s.stepWord x.image i 4 % 2 ^ 16)
      let s := if waiting.isEmpty then s.forEach (x.standing.filter (fun j => s.siteActive j)) (fun j u => (u.foldFails packs j).stopSite packs j) else s
      let t := s.forEach waiting (fun (g : StartGroup) u => (u.setReasons g.packs 5).dropGroup g .partialDone)
      t.forEach (running.flatMap (fun (g : StartGroup) => g.packs)) (fun p u => u.abortPack p .partialDone 5 none)
    | 2 => s.forEach x.busy (fun b u => (u.pmuAbort b.2 .partialDone).set (F.CH_PMU_CTL_MODE b.2) 0)
    | 3 => s.forEach x.busy (fun b u =>
        let q := u.psm b.1
        let u := u.setPsm b.1 { q with waiters := q.waiters.filter (fun o => !mine o) }
        match q.meas with
        | some m => (match m.owner with
          | some o => if mine o then u.psmMeasDrop b.1 .partialDone else u
          | none => u)
        | none => u)
    | 4 => s.forEach x.busy (fun b u => u.abortTmu b.2 3 .partialDone)
    | 5 => ({ s with aeQueue := s.aeQueue.filter (fun c => !mine c.owner) } : State).forEach (List.range 8) (fun c u =>
        match (u.aec c).call with
        | some k => if mine k.owner then u.aeResetCore c .partialDone else u
        | none => u)
    | _ => s
  t.stepOver r

/-- FLOW_ABORT (R342): a step at which every site is aborted is stopped, and the fails counted by then stay in their
contexts (R37); at any other the aborted sites are parked from now on. -/
def execFlowAbort (h : CmdHdr) (pl : List Word) (s : State) : Out :=
  .next (s.cmd 0x23 h pl (fun s =>
    let sites := siteRange (word pl 0) (word pl 1)
    let t := s.forEach (List.range 16) (fun r u =>
      match u.run r with
      | none => u
      | some x =>
        match x.step with
        | none => u
        | some i =>
          if !x.standing.isEmpty && x.standing.all (fun j => sites.contains j) then u.stopStep r x i
          else u.setRun r (some { x with standing := x.standing.filter (fun j => !sites.contains j) }))
    let t := t.repairDrop (sites.filter (fun j => t.siteActive j))
    (t.untest sites 9).done h .ok))

/-- The 16 words of SITE_READ for one site (R342). -/
def State.siteWords (s : State) (i : Nat) : List Word :=
  (List.range 8).map (fun w => BitVec.ofNat 32 (s.rd (0x88000 + 0x20 * i + 4 * w)))
    ++ (List.range 8).map (fun k => BitVec.ofNat 32 ((s.slotValue i k).getD 0))

/-- SITE_READ (R342). -/
def execSiteRead (h : CmdHdr) (pl : List Word) (s : State) : Out :=
  .next (s.cmd 0x24 h pl (fun s => s.complete h .ok 0 ((siteRange (word pl 0) (word pl 1)).flatMap (fun i => s.siteWords i))))

/-- SITE_CLEAR (R34, R342). -/
def execSiteClear (h : CmdHdr) (pl : List Word) (s : State) : Out :=
  .next (s.cmd 0x25 h pl (fun s =>
    let sites := siteRange (word pl 0) (word pl 1)
    if sites.any (fun i => s.siteActive i) then s.done h .busy
    else (s.forEach sites (fun i u => u.clearSite i)).done h .ok))

/-- SITE_MUZZLE (R340, R342): by the isolation map of the flow last run on the site. -/
def execSiteMuzzle (h : CmdHdr) (pl : List Word) (s : State) : Out :=
  .next (s.cmd 0x26 h pl (fun s =>
    let i := word pl 0
    (s.muzzleSite i ((Tab.get none s.lastFlow i).map (·.2))).done h .ok))

end Sys2Proof.Machine
end

