-- ==== Sys2Proof/Machine/Muzzle.lean ====
section
/-! DEFINITION. Muzzling and unmuzzling units: what a muzzle ends, which sites it reaches, the status
bits that show it, and what a release gives back (R8, R9, R49, R406, R413). -/

namespace Sys2Proof.Machine

/-! ## What a muzzle ends -/

/-- A channel's driver, load and PMU go off and its measurement ends (R81); so does a TMU measurement that names it
(R210). -/
def State.chanFence (s : State) (n : Nat) : State :=
  let s := s.forEach (List.range 4) (fun j t =>
    let i := 4 * (n / 32) + j
    if (t.tmuChans i).contains n then t.abortTmu i 4 .muzzled else t)
  let t := s.pmuAbort n .muzzled
  let t := if t.get (F.CH_PMU_CTL_MODE n) = 0 then t else t.set (F.CH_PMU_CTL_MODE n) 0
  t.letGo n

/-- The pattern of pack p, or its waiting start, ends with MUZZLED (R132). -/
def State.patternFence (s : State) (p : Nat) : State :=
  match s.groupOf p with
  | none => s
  | some g =>
    if g.running then s.abortPack p .muzzled 6 none
    else (s.setReasons g.packs 6).dropGroup g .muzzled

/-- A pack and everything it holds. -/
def State.packFence (s : State) (p : Nat) : State :=
  (((s.patternFence p).forEach (List.range 32) (fun c t => t.chanFence (32 * p + c))).forEach (List.range 6)
    (fun n t => t.psmFence (6 * p + n) .muzzled 4)).forEach (List.range 4)
    (fun j t => t.abortTmu (4 * p + j) 4 .muzzled)

/-- Does pseudo-channel q hold a byte of [a, a + n)? -/
def State.pcHolds (s : State) (q a n : Nat) : Bool :=
  decide (0 < n) &&
    (if s.interleaved then
      decide (16384 ≤ n)
        || (List.range ((a + n - 1) / 256 + 1 - a / 256)).any (fun i => s.dramPc (256 * (a / 256 + i)) == q)
    else decide (a / 2 ^ 30 ≤ q) && decide (q ≤ (a + n - 1) / 2 ^ 30))

/-- Does the pattern stream of pack p have data on pseudo-channel q? -/
def State.streamOn (s : State) (p q : Nat) : Bool :=
  let x := s.seq p
  (s.groupOf p).isSome
    && x.segs.any (fun (g : SegEnt) => s.pcHolds q (x.dataBase + 32 * g.data) (32 * g.records))

/-- Does the waveform of PSM n? -/
def State.waveOn (s : State) (n q : Nat) : Bool :=
  match (s.psm n).wave with
  | none => false
  | some w => w.segs.any (fun (g : WaveSeg) => s.pcHolds q g.addr (4 * g.samples))

/-- Does the enabled capture ring of pack p? -/
def State.ringOnPc (s : State) (p q : Nat) : Bool :=
  s.ringOn p && s.pcHolds q (64 * s.get (F.CAP_RING_BASE p)) (32 * s.ringCap p)

/-- Does the buffer of a HISTOGRAM that TMU t measures lie on pseudo-channel q? -/
def State.histOn (s : State) (t q : Nat) : Bool :=
  s.get (F.TMU_CTL_MODE t) == 2
    && s.pcHolds q (64 * s.get (F.TMU_BUF_BASE t)) (64 * s.get (F.TMU_BUF_SIZE t))

/-- Streams, waveforms and HISTOGRAM measurements with data on a muzzled pseudo-channel end (R9, R210), a waveform with the
safe ramp (R234); a ring writes no more. -/
def State.pcFence (s : State) (q : Nat) : State :=
  let s := s.forEach (List.range 16) (fun p t => if t.streamOn p q then t.patternFence p else t)
  let s := s.forEach (List.range 96) (fun n t => if t.waveOn n q then t.waveRefused n else t)
  s.forEach (List.range 64) (fun i t => if t.histOn i q then t.abortTmu i 4 .muzzled else t)

/-- What a unit's muzzle ends. -/
def State.unitFence (s : State) : MUnit → State
  | .channel n => s.chanFence n
  | .lane k => (s.chanFence (2 * k)).chanFence (2 * k + 1)
  | .psm n => s.psmFence n .muzzled 4
  | .tmu t => s.abortTmu t 4 .muzzled
  | .pack p => s.packFence p
  | .pfe k => s.forEach (List.range 4) (fun j t => t.packFence (4 * k + j))
  | .ae c => s.aeMuzzle c
  | .pc q => s.pcFence q
  | .linkLane _ => s

/-! ## Which sites it reaches (R49) -/

/-- The sites of runs whose TMU step measures through TMU t. -/
def State.sitesOfTmu (s : State) (t : Nat) : List Nat :=
  (List.range 16).flatMap (fun r => match s.run r with
    | none => []
    | some x => match x.step with
      | none => []
      | some i => if s.stepKind x.image i = 4 then x.busy.filterMap (fun b => if b.2 = t then some b.1 else none) else [])

/-- The sites of every stream, waveform and ring with data on pseudo-channel q. -/
def State.sitesOfPc (s : State) (q : Nat) : List Nat :=
  let streams := (List.range 16).flatMap (fun p =>
    if s.streamOn p q then (match s.groupOf p with
      | some g => s.sitesOfGroup (packMask g.packs)
      | none => []) else [])
  let waves := (List.range 96).flatMap (fun n => if s.waveOn n q then s.sitesOfPsm n else [])
  let rings := (List.range 16).flatMap (fun p => if s.ringOnPc p q then s.sitesOfPack p else [])
  sortAsc (streams ++ waves ++ rings)

/-- The sites of runs that stand at an AE step. -/
def State.sitesOfAeSteps (s : State) : List Nat :=
  sortAsc ((List.range 16).flatMap (fun r => match s.run r with
    | none => []
    | some x => match x.step with
      | none => []
      | some i => if s.stepKind x.image i = 5 then x.standing else []))

/-- The sites a unit's muzzle reaches, with the cause of its row; those of an AE core only when no other is available. -/
def State.muzzleSites (s : State) (u : MUnit) : List Nat × Nat :=
  match u with
  | .tmu t => (s.sitesOfTmu t, 3)
  | .pc q => (s.sitesOfPc q, 5)
  | .ae _ => (if (List.range 8).any (fun c => s.aeAble c) then [] else s.sitesOfAeSteps, 11)
  | _ => s.sitesOfUnit u

/-! ## The bits that show it (R31, R32, R406) -/

/-- The packs a unit lies in. -/
def packsOfUnit : MUnit → List Nat
  | .channel n => [n / 32]
  | .lane k => [k / 16]
  | .psm n => [n / 6]
  | .tmu t => [t / 4]
  | .pack p => [p]
  | .pfe k => (List.range 4).map (4 * k + ·)
  | _ => []

/-- The muzzle bits of pack p. -/
def State.packBits (s : State) (p : Nat) : State :=
  let t := s.forEach (List.range 32) (fun c u => u.setB (F.CH_STATUS_MUZZLED (32 * p + c)) (s.chanMuzzled (32 * p + c)))
  let t := t.forEach (List.range 16) (fun l u => u.setB (F.CH_LANE_MUZZLED p l) (s.laneMuzzled (16 * p + l)))
  let t := t.forEach (List.range 6) (fun n u => u.setB (F.PSM_STATUS_MUZZLED (6 * p + n)) (s.psmMuzzled (6 * p + n)))
  let t := t.forEach (List.range 4) (fun j u => u.setB (F.TMU_STATUS_MUZZLED (4 * p + j)) (s.tmuMuzzled (4 * p + j)))
  (((t.setB (F.PK_STATUS_MUZZLED p) (s.packMuzzled p)).setB (F.PK_STATUS_CH_MUZZLED p)
    ((List.range 32).any (fun c => s.chanMuzzled (32 * p + c)))).setB (F.PK_STATUS_PSM_MUZZLED p)
    ((List.range 6).any (fun n => s.psmMuzzled (6 * p + n)))).setB (F.PK_STATUS_TMU_MUZZLED p)
    ((List.range 4).any (fun j => s.tmuMuzzled (4 * p + j)))

/-- GLB_AVAIL and CLK_SEQ_ON, and the muzzle bits of cores and pseudo-channels. -/
def State.deviceBits (s : State) : State :=
  let packs := maskOf ((List.range 16).filter (fun p => !s.packMuzzled p))
  let t := (s.set F.GLB_AVAIL_PACK_AVAIL packs).set F.CLK_SEQ_ON packs
  let t := t.set F.GLB_AVAIL_AE_AVAIL (maskOf ((List.range 8).filter (fun c => !s.aeMuzzled c)))
  let t := t.set F.GLB_AVAIL_PFE_AVAIL (maskOf ((List.range 4).filter (fun k => !s.muzzledSelf (.pfe k))))
  let t := t.set F.GLB_AVAIL_DRAM_AVAIL (maskOf ((List.range 2).filter (fun d =>
    (List.range 16).any (fun c => !s.pcMuzzled (16 * d + c)))))
  let t := t.forEach (List.range 8) (fun c u => u.setB (F.AE_STATUS_MUZZLED c) (s.aeMuzzled c))
  t.forEach (List.range 2) (fun d u => u.set (F.DRM_PC_MUZZLED d)
    (maskOf ((List.range 16).filter (fun c => s.pcMuzzled (16 * d + c)))))

/-- All bits that a change of these units' muzzles shows in. -/
def State.muzzleBits (s : State) (us : List MUnit) : State :=
  (s.deviceBits).forEach (sortAsc (us.flatMap packsOfUnit)) (fun p t => t.packBits p)

/-! ## Muzzling -/

/-- The units a muzzle of `u` records: the unit, and the lane of a channel of an enabled lane (R398). -/
def State.muzzleSet (s : State) (u : MUnit) : List MUnit :=
  match u with
  | .channel n => if s.laneEnabled (n / 2) then [u, .lane (n / 2)] else [u]
  | _ => [u]

/-- Muzzle units, each with its cause, in one cycle, together with further site changes of that cycle
(R35, R406). -/
def State.muzzleAll (s : State) (l : List (MUnit × List FaultMsg)) (sites : List (List Nat × Nat)) : State :=
  let all := l.flatMap (fun (x : MUnit × List FaultMsg) => (s.muzzleSet x.1).map (fun u => (u, x.2)))
  let fresh := (all.map (fun (x : MUnit × List FaultMsg) => x.1)).filter (fun u => !s.muzzledUnit u)
  let t := s.forEach all (fun (x : MUnit × List FaultMsg) u => u.addMuzzle x.1 x.2)
  let reach := fresh.map (fun u => (u, t.muzzleSites u))
  let t := t.forEach reach (fun (x : MUnit × List Nat × Nat) u => u.markSites x.1 x.2.1 x.2.2)
  let t := t.reactSites (reach.map (fun (x : MUnit × List Nat × Nat) => x.2) ++ sites)
  if fresh.isEmpty then t
  else ((t.forEach fresh (fun m u => u.unitFence m)).calPrune).muzzleBits fresh

/-- Muzzle one unit. -/
def State.muzzle (s : State) (u : MUnit) (cause : List FaultMsg) : State := s.muzzleAll [(u, cause)] []

/-! ## Rejection counts (R436, R437, R445) -/

/-- Show REJECT_RUN of a task's unit. -/
def State.showRejects (s : State) (task u v : Nat) : State :=
  match task with
  | 0 => s.set (F.TIM_CHA_STAT_REJECT_RUN (u / 32) (u % 32)) v
  | 1 => s.set (F.CAL_CH_REJ_LEVEL_RUN (u / 32) (u % 32)) v
  | 2 => s.set (F.CAL_CH_REJ_VERN_RUN (u / 32) (u % 32)) v
  | 3 => s.set (F.CAL_CH_REJ_PMU_RUN (u / 32) (u % 32)) v
  | 4 => s.set (F.CAL_PSM_REJ_PSM_RUN (u / 6) (u % 6)) v
  | 5 => s.set (F.CAL_TMU_REJ (u / 4) (u % 4)) v
  | 7 => s.set (F.CAL_PSM_REJ_BOOST_RUN (u / 6) (u % 6)) v
  | _ => s

/-- Set REJECT_RUN of a task's unit. -/
def State.setRejects (s : State) (task u v : Nat) : State :=
  (s.setCalUnit task u { s.calUnit task u with rejects := v }).showRejects task u v

/-- Mark every P of a task's unit FIRST; its stored values stay. -/
def State.calFirst (s : State) (task u : Nat) : State :=
  if task = 0 then { s with paths := Tab.put {} s.paths u { Tab.get {} s.paths u with first := true } }
  else
    let x := s.calUnit task u
    let l : Tab CalParam := x.params.map (fun (e : Nat × CalParam) => (e.1, { e.2 with first := true }))
    s.setCalUnit task u { x with params := l.filter (fun (e : Nat × CalParam) => decide (e.2 ≠ {})) }

/-- The tasks and units whose repeated rejection muzzles a unit (R437). -/
def calTasksOf : MUnit → List (Nat × Nat)
  | .channel n => [(0, n), (1, n), (2, n), (3, n)]
  | .psm n => [(4, n), (7, n)]
  | .tmu t => [(5, t)]
  | .pack p => [(6, p)]
  | _ => []

/-! ## Unmuzzling (R413) -/

/-- Is u the unit v, or part of it? -/
def unitWithin (u v : MUnit) : Bool :=
  u == v ||
    (match v, u with
     | .lane k, .channel n => n / 2 == k
     | .pack p, .channel n => n / 32 == p
     | .pack p, .lane k => k / 16 == p
     | .pack p, .psm n => n / 6 == p
     | .pack p, .tmu t => t / 4 == p
     | .pfe f, .channel n => n / 128 == f
     | .pfe f, .lane k => k / 64 == f
     | .pfe f, .psm n => n / 24 == f
     | .pfe f, .tmu t => t / 16 == f
     | .pfe f, .pack p => p / 4 == f
     | _, _ => false)

/-- The requesters of a unit's fences (R365, R366). -/
def fencesOf : MUnit → List Nat
  | .pack p => [p, 16 + p]
  | .pfe k => (List.range 4).flatMap (fun j => [4 * k + j, 16 + 4 * k + j])
  | .ae c => [32 + c]
  | _ => []

/-- A channel leaves a muzzle: its comparators start anew (R506), and in a running pattern it drives from the next
beat; until then it stays at high impedance (R81). -/
def State.chanRelease (s : State) (n : Nat) : State :=
  let t := (s.cmpStart n).letGo n
  if t.seqRun (n / 32) then t.setChan n { t.chan n with actsFrom := (t.seq (n / 32)).nextBeat } else t

/-- A muzzle record is released: its channels leave the muzzle, a lane whose end waited ends (R86), a pseudo-channel
counts anew, and a unit that rejected calibration muzzled starts its checks anew. -/
def State.releaseOne (s : State) (m : Muzzle) : State :=
  let t := match m.unit with
    | .channel n => s.chanRelease n
    | .lane k => ((s.chanRelease (2 * k)).chanRelease (2 * k + 1)).laneSettle k
    | .pack p => s.forEach (List.range 32) (fun c u => u.chanRelease (32 * p + c))
    | .pfe k => s.forEach (List.range 128) (fun c u => u.chanRelease (128 * k + c))
    | .psm n => s.psmRelease n
    | .pc q => { s with ueCount := Tab.put 0 s.ueCount q 0 }
    | _ => s
  t.forEach (calTasksOf m.unit) (fun (x : Nat × Nat) u => (u.setRejects x.1 x.2 0).calFirst x.1 x.2)

/-- Release a unit and everything it contains, except units the self-test muzzled. -/
def State.release (s : State) (u : MUnit) : State :=
  let (gone, kept) := s.muzzles.partition (fun (m : Muzzle) => unitWithin m.unit u && (!m.selfTest || m.unit == u))
  let t : State := { s with muzzles := kept, marks := s.marks.filter (fun (m : SiteMark) =>
    !(unitWithin m.unit u && !kept.any (fun (k : Muzzle) => k.unit == m.unit))) }
  let t := t.forEach gone (fun m x => x.releaseOne m)
  let t := t.forEach (fencesOf u) (fun r x =>
    if bit x.fences r then ({ x with fences := setBits x.fences r 1 0 } : State).set (F.MPA_REQ_FENCED r) 0 else x)
  t.muzzleBits [u]

end Sys2Proof.Machine
end

