-- ==== Sys2Proof/Machine/Cal.lean ====
section
/-! DEFINITION. Self-alignment and self-calibration: the factory and live records, the plausibility check,
the ALIGN and calibration commands, and the ends of passes, tasks and stores (R99 to R103, R428 to R444). -/

namespace Sys2Proof.Machine

/-! ## The calibration records (R440) -/

/-- The factory record and its size, MAGIC and commit (R356, R440). -/
def factBase : Nat := 0
def factSize : Nat := 0x100000
def factMagic : Nat := 0x46434131
def factCommit : Nat := 0x5EA1ED05

/-- The live slots. -/
def liveBase : Nat := 0x100000
def liveSize : Nat := 0x200000
def liveMagic : Nat := 0x4C434131
def liveCommit : Nat := 0x5EA1ED06

/-- The offset of a section's content, walking the sections from offset a to `stop`. -/
def State.sectionFrom (s : State) (ty stop : Nat) : Nat → Nat → Option Nat
  | 0, _ => none
  | n + 1, a =>
    if stop ≤ a then none
    else if s.mramNat a 4 = ty then some (a + 8)
    else s.sectionFrom ty stop n (a + 8 + s.mramNat (a + 4) 4)

/-- The offset of a section of the record at `base`. -/
def State.section_ (s : State) (base ty : Nat) : Option Nat :=
  s.sectionFrom ty (base + 64 + s.recLength base) 16 (base + 64)

/-- A signed 32-bit word of MRAM. -/
def State.mramInt (s : State) (a : Nat) : Int := signed 32 (s.mramNat a 4)

/-- Word k of entry i of section 12 of the factory record: DRV_INT, CMP_INT, COEF. -/
def State.factChan (s : State) (i k : Nat) : Int :=
  match s.section_ factBase 12 with
  | none => 0
  | some a => s.mramInt (a + 12 * i + 4 * k)

/-- The section type of a task's parameters. -/
def calType (task : Nat) : Nat :=
  match task with
  | 0 => 2 | 1 => 1 | 2 => 3 | 3 => 4 | 4 => 5 | 5 => 6 | 6 => 7 | 7 => 8 | _ => 9

/-- Entries and parameters per entry of types 1 to 9. -/
def typeUnits (ty : Nat) : Nat := [0, 512, 512, 512, 512, 96, 64, 16, 32, 5].getD ty 0
def typeParams (ty : Nat) : Nat := [0, 16, 4, 512, 10, 28, 65, 1, 8, 1].getD ty 0

/-- The entry of a task's unit: booster PSMs are every third. -/
def typeEntry (task u : Nat) : Nat := if task = 7 then u / 3 else u

/-- A and D of parameter k of a type as R437 lists them for the present stepping. DESIGN CHOICE: offsets count in codes of what
they trim, gains in millionths of the nominal (assumption 43). -/
def stdWindow (ty k : Nat) : Int × Int :=
  match ty with
  | 1 => if k < 12 then (if k % 2 = 0 then (250, 25) else (10000, 500)) else if k < 14 then (312, 37) else (33, 3)
  | 3 => (20, 3)
  | 4 => if k % 2 = 0 then (20000, 1000) else (163, 16)
  | 5 => if k % 2 = 0 then (5000, 100) else if k % 14 / 2 = 1 then (52, 2) else (104, 5)
  | 6 => (64, 8)
  | 7 => (16, 2)
  | 8 => (500000, 100000)
  | 9 => (160, 32)
  | _ => (0, 0)

/-- N, A and D of a parameter: entry `idx` of section 15 of the factory record; without one, N is 0 and the windows are
R437's. -/
def State.factWindow (s : State) (task u k : Nat) : Int × Int × Int :=
  let ty := calType task
  let idx := ((List.range ty).map (fun t => typeUnits t * typeParams t)).foldl (· + ·) 0
    + typeEntry task u * typeParams ty + k
  match s.section_ factBase 15 with
  | none => (0, stdWindow ty k)
  | some a => (s.mramInt (a + 12 * idx), s.mramInt (a + 12 * idx + 4), s.mramInt (a + 12 * idx + 8))

/-! ## Rejection (R436, R437) -/

/-- A rejection of a task's unit; the third in a row muzzles it. -/
def State.calReject (s : State) (task u : Nat) : State :=
  let run := if task = 0 then s.get (F.TIM_CHA_STAT_REJECT_RUN (u / 32) (u % 32)) else (s.calUnit task u).rejects
  let t := s.setRejects task u (min (run + 1) 3)
  if run = 2 then
    match calMUnit task u with
    | none => t
    | some m =>
      (t.muzzle m [⟨0x000, cDATA, 0x03, unitAddr m, s.time % 2 ^ 15⟩]).raise 0x000 cDATA 0x03 (unitAddr m)
  else t

/-! ## Passes (R99 to R103) -/

/-- The round trip of a channel in 0.5 ps units; 0xFFFF with a shot that recorded no reflection. DESIGN CHOICE: a
larger mean is held at 0xFFFE (assumption 138). -/
def Shots.roundTrip (x : Shots) : Nat :=
  if x.noRef || x.n == 0 then 0xFFFF
  else min 0xFFFE ((2 * x.sum + 500 * (x.n : Int)) / (1000 * (x.n : Int))).toNat

/-- R101 for device channel n: the state after it, and whether the results are accepted. DESIGN CHOICE: DRV_INT and CMP_INT
count in 0.5 ps (assumption 179). -/
def State.openResult (s : State) (n rt : Nat) : State × Bool :=
  let p := n / 32
  let c := n % 32
  let td := ((rt : Int) + 2 * s.factChan n 0 + 1) / 2
  let tc := ((rt : Int) + 2 * s.factChan n 1 + 1) / 2
  let v := Tab.get {} s.paths n
  let near (x : Int) (old : Nat) : Bool := v.first || decide ((x - (old : Int)).natAbs ≤ 50)
  let t := s.set (F.TIM_CHA_RT_OPEN_RT p c) rt
  if rt ≠ 0xFFFF ∧ 100 ≤ rt ∧ td ≤ 25000 ∧ tc ≤ 25000 ∧ near td v.td ∧ near tc v.tc then
    let t : State := { t with paths := Tab.put {} t.paths n ⟨td.toNat, tc.toNat, false⟩ }
    let t := t.setCalUnit 0 n { t.calUnit 0 n with stamp := some (s.time, s.get (F.HK_TEMP_EFFECTIVE (n / 128))) }
    ((t.set (F.TIM_CHA_STAT_REJECTED p c) 0).setRejects 0 n 0, true)
  else
    (((t.set (F.TIM_CHA_STAT_REJECTED p c) 1).set (F.TIM_STATUS_CAL_REJECT p) 1).calReject 0 n, false)

/-- R102 for device channel n. -/
def State.contactResult (s : State) (n rt : Nat) : State :=
  let p := n / 32
  let c := n % 32
  let d : Int := (rt : Int) - (s.get (F.TIM_CHA_RT_OPEN_RT p c) : Int)
  let code := if rt = 0xFFFF then 4
    else if d < (s.get (F.TIM_CONTACT_CFG_CONTACT_MIN p) : Int) then 2
    else if (s.get (F.TIM_CONTACT_CFG_CONTACT_MAX p) : Int) < d then 3
    else 1
  (s.set (F.TIM_CHA_RT_CONTACT_RT p c) rt).set (F.TIM_CHA_STAT_CONTACT p c) code

/-- The OPEN evaluation of the channels of a pass: accepted and rejected counts. -/
def State.openChans (s : State) (p : Nat) (a : AlignPass) : List Nat → State × Nat × Nat
  | [] => (s, 0, 0)
  | c :: cs =>
    let (t, ok) := s.openResult (32 * p + c) (Shots.roundTrip (Tab.get {} a.shots c))
    let (u, x, y) := t.openChans p a cs
    if ok then (u, x + 1, y) else (u, x, y + 1)

/-- Count an OPEN pass's results in the gap it ran for. -/
def State.gapCount (s : State) (a : AlignPass) (ok bad : Nat) : State :=
  match a.owner, s.calGap with
  | .gap, some g => { s with calGap := some { g with rejected := g.rejected + bad, accepted := g.accepted || decide (0 < ok) } }
  | _, _ => s

/-- While FACT_BAD is 1 a gap reports CAL_REJECTED and counts no rejected unit (R441). -/
def State.gapRefuse (s : State) : State := { s with calGap := s.calGap.map (fun g => { g with refused := true }) }

/-- A pass is evaluated and ends (steps 4 to 6 of R100). -/
def State.passEval (s : State) (p : Nat) (a : AlignPass) : State :=
  if a.contact then
    (s.forEach a.chans (fun c t => t.contactResult (32 * p + c) (Shots.roundTrip (Tab.get {} a.shots c)))).passEnd p .ok
  else
    let s : State := { s with contactRan := Tab.put false s.contactRan p false }
    if s.flag F.CAL_STATUS_FACT_BAD then (if a.owner = .gap then s.gapRefuse else s).passEnd p .calRejected
    else
      let (t, ok, bad) := s.openChans p a a.chans
      let t := if 0 < ok then t.set (F.TIM_ALIGN_TEMP_TEMP_AT_ALIGN p) a.temp else t
      let t := if bad = 0 then t.set (F.TIM_STATUS_STALE p) 0 else t
      ((t.setTargets p).gapCount a ok bad).passEnd p (if bad = 0 then .ok else .calRejected)

/-- TDR_PASS_END (R100). -/
def execTdrPassEnd (p : Pack) (s : State) : Out :=
  .next (
    match s.pass p with
    | none => s
    | some a => if a.settled && a.todo.all (fun l => l.isEmpty) then s.passEval p a else s)

/-- TDR_LEVELS_SETTLED (R100 step 2); a pass of the gap that waited for its pack begins when the pack is
free (R99). -/
def execTdrLevelsSettled (p : Pack) (s : State) : Out :=
  .next (
    match s.pass p with
    | some a => s.setPass p (some { a with settled := true })
    | none =>
      match s.calGap with
      | none => s
      | some g =>
        if g.passes.contains p.val && !s.passBlocked p then
          (match s.passRounds p (s.passChans p) with
           | none => ({ s with calGap := some { g with passes := g.passes.filter (· != p.val) } } : State).gapAdvance gapFuel
           | some _ => s.passStart p (g.kind == 1) .gap)
        else s)

/-- TDR_SHOT_TIMEOUT (R100): the shot of the TMU that measures channel c records no reflection. -/
def execTdrShotTimeout (p : Pack) (c : Fin 32) (s : State) : Out :=
  .next (
    match s.pass p with
    | none => s
    | some a =>
      if a.settled then
        (match (List.range 4).find? (fun j => a.current j == some c.val) with
         | none => s
         | some j => s.setPass p (some (a.shot (s.get (F.TIM_TDR_CFG_SHOTS p)) j none)))
      else s)

/-- ALIGN (R99, R100, R310). DESIGN CHOICE: a pack whose TMUs are all muzzled answers MUZZLED with SHOTS 0 too
(assumption 139). -/
def execAlign (h : CmdHdr) (pl : List Word) (s : State) : Out :=
  .next (s.cmd 0x60 h pl (fun s =>
    let ps := packsOf (word pl 0)
    if ps.isEmpty then s.done h .ok
    else if s.stopped then s.done h .badState
    else if ps.any (fun p => s.passBlocked p) then s.done h .busy
    else
      let t : State := { s with alignCmds := s.alignCmds ++ [⟨h, ps, []⟩] }
      t.forEach ps (fun p u =>
        if u.packMuzzled p || (u.passRounds p (u.passChans p)).isNone then u.alignSettle h p .muzzled
        else if u.get (F.TIM_TDR_CFG_SHOTS p) = 0 then u.alignSettle h p .ok
        else u.passStart p (word pl 1 == 1) (.cmd h))))

/-! ## Results of a task (R436, R438) -/

/-- Do a unit's results pass their checks? -/
def State.resultsOk (s : State) (task u : Nat) (l : List CalResult) : Bool :=
  let x := s.calUnit task u
  l.all (fun r =>
    let (n, a, d) := s.factWindow task u r.param
    let p := Tab.get {} x.params r.param
    decide ((r.value - n).natAbs ≤ a.toNat) && (p.first || decide ((r.value - p.prev).natAbs ≤ d.toNat)))

/-- Is a parameter of the PSM task one of the DAC, which come before those of the monitoring converter, and is it a gain?
DEDUCED from the 28 words of R440 type 5: gain and offset at GAIN 0 and 1 and in ranges 0 to 4, of one converter and
then the other (assumption 170). -/
def psmDacParam (k : Nat) : Bool := decide (k < 14)
def psmGainParam (k : Nat) : Bool := k % 2 == 0

/-- Does a task calibrate a parameter on a unit? The in-service PSM task leaves out the DAC gain (R429). -/
def State.calibrates (s : State) (task u k : Nat) : Bool :=
  !(task == 4 && s.psmMode u != 0 && psmDacParam k && psmGainParam k)

/-- Is a trim of the task's unit in use, so that it moves step by step (R438)? The monitoring converter takes its gain and
offset from the next reading, and of a PSM's DAC words only those of the present GAIN or RANGE reach the output. -/
def State.trimInUse (s : State) (task u k : Nat) : Bool :=
  match task with
  | 1 => s.seqRun (u / 32)
  | 2 => s.seqRun (u / 32)
  | 4 => psmDacParam k && (if s.psmMode u = 1 then k / 2 == s.get (F.PSM_CTL_GAIN u)
      else s.psmMode u == 2 && k / 2 == 2 + s.psmRange u)
  | 7 => s.psmMode u != 0
  | _ => false

/-- A parameter that has a register takes its target there. -/
def State.calRegister (s : State) (task u k : Nat) (v : Int) : State :=
  match task with
  | 5 => s.setI (F.TMU_LIN u k) v
  | 6 => s.set (F.CLK_SEQ_PHASE u) (unsigned 6 v)
  | 8 => s.setI (F.HK_GRAD u) v
  | _ => s

/-- A trim step that changes a level is noted for the level monitor (R79, R439). -/
def State.trimNote (s : State) (task u k : Nat) (moved : Bool) : State :=
  match (if task = 1 ∧ moved = true then trimLevel k else none) with
  | some i => s.setChan u { s.chan u with trimmedAt := (s.chan u).trimmedAt.set i (some s.time) }
  | none => s

/-- A unit's results are accepted. -/
def State.calAccept (s : State) (task u : Nat) (l : List CalResult) : State :=
  let x := s.calUnit task u
  let use (k : Nat) : Bool := s.trimInUse task u k
  let ps := l.foldl (fun (t : Tab CalParam) (r : CalResult) =>
    let old := Tab.get {} t r.param
    Tab.put {} t r.param ⟨r.value, if use r.param then old.applied else r.value, r.value, false⟩) x.params
  let t := s.setCalUnit task u
    { x with params := ps, stamp := some (s.time, s.get (F.HK_TEMP_EFFECTIVE (calDie task u))) }
  let t := t.forEach l (fun r w => w.trimNote task u r.param
    (!use r.param && decide ((Tab.get {} x.params r.param).applied ≠ r.value)))
  (t.forEach l (fun r w => w.calRegister task u r.param r.value)).setRejects task u 0

/-- The results of every unit: accepted and rejected counts. -/
def State.calResults (s : State) (task : Nat) (rs : List CalResult) : List Nat → State × Nat × Nat
  | [] => (s, 0, 0)
  | u :: us =>
    let l := rs.filter (fun r => r.unit == u && s.calibrates task u r.param)
    if l.isEmpty then s.calResults task rs us
    else if s.resultsOk task u l then
      let (t, x, y) := (s.calAccept task u l).calResults task rs us
      (t, x + 1, y)
    else
      let (t, x, y) := (s.calReject task u).calResults task rs us
      (t, x, y + 1)

/-- The results of GRAD: of each diode the mean of its last 64 offsets from the mean of its neighbours, that is, of GRAD and the
residual r of R420 at each reading; a diode without a reading has none. -/
def State.gradResults (s : State) : List CalResult :=
  (List.range 5).filterMap (fun i =>
    match Tab.get [] s.gradHist i with
    | [] => none
    | l => some ⟨i, 0, roundAway (l.foldl (· + ·) 0) (12 * l.length)⟩)

/-- CAL_TASK_END (R431, R436, R441). GRAD uses readings already taken, not the row's results (R428). -/
def execCalTaskEnd (task : Fin 9) (results : List CalResult) (s : State) : Out :=
  .next (
    match s.calTasks.find? (fun k => k.task == task.val) with
    | none => s
    | some k =>
      let on (u : Nat) : Bool := !k.beats || results.any (fun r => r.unit == u)
      let k := { k with units := k.units.filter on }
      let t := ({ s with calTasks := (s.calTasks.map (fun x =>
        if x.task = task.val then { x with units := x.units.filter (fun u => !on u) } else x)).filter (fun x =>
          x.task != task.val || !x.units.isEmpty) } : State)
      let bad := s.flag F.CAL_STATUS_FACT_BAD
      let (t, ok, rej) := if bad then (t, 0, 0)
        else t.calResults task (if task.val = 8 then s.gradResults else results) k.units
      let t := (t.calRefresh).psmUncal task k.units
      match k.owner with
      | some h =>
        (t.finish h (if bad || decide (0 < rej) then .calRejected else if k.cut then .partialDone else .ok)).calEndSettle
      | none =>
        match (if k.beats then none else t.calGap) with
        | none => t.calEndSettle
        | some g => ({ t with calGap := some { g with
            completed := g.completed + 1
            rejected := g.rejected + rej
            accepted := g.accepted || decide (0 < ok)
            refused := g.refused || bad } } : State).gapAdvance gapFuel)

/-- How far a gain in millionths moves while what it scales, c codes from zero, moves one code. -/
def gainStep (c : Nat) : Nat := max 1 (1000000 / max c 1)

/-- How far a parameter in use moves in one step, in its own units: an offset by one code of what it trims, a gain by what
moves the level or the output by one code of 80 µV or one LSB (R438). DESIGN CHOICE: code 15,000 is a level's zero
(assumption 43). -/
def State.trimStep (s : State) (task u k : Nat) : Nat :=
  match task with
  | 1 => if k < 12 ∧ k % 2 = 1 then gainStep (((s.chan u).levels.getD (k / 2) 15000 : Int) - 15000).natAbs else 1
  | 4 => if psmGainParam k then gainStep (s.psmOutCode u).natAbs else 1
  | _ => 1

/-- The parameters of the same level or output that move before parameter k, one step of the level or output at a time
(assumption 43). -/
def trimBefore (task k : Nat) : List Nat :=
  match task with
  | 1 => if k < 12 then (if k % 2 = 1 then [k - 1] else []) else if k = 12 then [6, 7] else if k = 13 then [8, 9] else []
  | 4 => if psmGainParam k then [] else [k - 1]
  | _ => []

/-- The applied value of a parameter after TRIM_MOVE: in use one step nearer to the target, but a vernier point moves at the
beats of R105 and a parameter that another of its level precedes waits; else the target. -/
def State.trimMoved (s : State) (task u k : Nat) : Int :=
  let get (j : Nat) : CalParam := Tab.get {} (s.calUnit task u).params j
  let p := get k
  if s.trimInUse task u k = false then p.target
  else if task = 2 ∨ (trimBefore task k).any (fun j => (get j).applied != (get j).target) = true then p.applied
  else stepTo p.applied p.target (s.trimStep task u k)

/-- TRIM_MOVE (R438): one step toward the target while in use, else all of the way. It is no apply and leaves PENDING as
it is (R76). -/
def execTrimMove (task : Fin 9) (unit param : Nat) (s : State) : Out :=
  .next (
    let x := s.calUnit task unit
    let p := Tab.get {} x.params param
    let v := s.trimMoved task unit param
    (s.setCalUnit task unit { x with params := Tab.put {} x.params param { p with applied := v } }).trimNote task unit param
      (decide (v ≠ p.applied)))

/-! ## The calibration commands (R431, R442, R443) -/

/-- A gap opens. -/
def State.gapOpen (s : State) (h : Option CmdHdr) (kind : Nat) (noIso : Bool) (length : Nat) : State :=
  let ps := if kind = 2 then [] else (List.range 16).filter (fun p =>
    s.flag (F.TIM_CTL_AUTO_TDR p) && !s.packMuzzled p && (s.passRounds p (s.passChans p)).isSome
      && s.get (F.TIM_TDR_CFG_SHOTS p) != 0)
  let todo := s.calLate ++ [1, 2, 3, 4, 5, 6, 7, 8].filter (fun k => !s.calLate.contains k)
  let g : CalGap :=
    { hdr := h
      kind := kind
      noIso := noIso
      length := length
      elapsed := ps.foldl (fun m p => max m (s.passTime p)) 0
      passes := ps
      todo := todo }
  let t := (({ s with calGap := some g, calLate := [] } : State).set F.CAL_STATUS_GAP_OPEN 1).set F.CAL_STATUS_GAP_KIND kind
  (t.forEach ps (fun p u => if u.passBlocked p then u else u.passStart p (kind == 1) .gap)).gapAdvance gapFuel

/-- CAL_GAP (R431, R443). -/
def execCalGap (h : CmdHdr) (pl : List Word) (s : State) : Out :=
  .next (s.cmd 0x61 h pl (fun s =>
      if s.calGap.isSome then s.done h .busy
      else if s.stopped then s.done h .badState
      else s.gapOpen (some h) (word pl 0 % 4) (bit (word pl 0) 2) (word pl 1)))

/-- CAL_END (R443): the tasks of the open gap not yet started are deferred. -/
def execCalEnd (h : CmdHdr) (pl : List Word) (s : State) : Out :=
  .next (s.cmd 0x62 h pl (fun s =>
    let t := match s.calGap with
      | none => s
      | some g =>
        let late := g.todo.filter (fun k => !(s.gapUnits g k).isEmpty)
        ({ s with
          calGap := some { g with todo := [], deferred := g.deferred + late.length }
          calLate := s.calLate ++ late } : State)
    (({ t with calEnds := t.calEnds ++ [h] } : State).gapAdvance gapFuel).calEndSettle))

/-- CAL_RUN (R432, R443). -/
def execCalRun (h : CmdHdr) (pl : List Word) (s : State) : Out :=
  .next (s.cmd 0x63 h pl (fun s =>
      let k := word pl 0
      let units := (calUnitsOf k).filter (fun u => !s.calUnitMuzzled k u && (match calPack k u with
        | some p => bit (word pl 1) p
        | none => word pl 1 != 0))
      if units.isEmpty then s.done h (if s.flag F.CAL_STATUS_FACT_BAD then .calRejected else .ok)
      else if s.calTasks.any (fun x => x.task == k) || units.any (fun u => !s.calMeets k u) then s.done h .busy
      else ({ s with calTasks := s.calTasks ++ [⟨k, units, some h, false, s.time, false⟩] } : State).calRefresh))

/-- CAL_STORE (R442, R443). -/
def execCalStore (h : CmdHdr) (pl : List Word) (s : State) : Out :=
  .next (s.cmd 0x64 h pl (fun s =>
    if s.calStore.isSome then s.done h .busy
    else ({ s with calStore := some (some h) } : State).set F.CAL_STATUS_STORE_BUSY 1))

/-- CAL_FORGET (R443). -/
def execCalForget (h : CmdHdr) (pl : List Word) (s : State) : Out :=
  .next (s.cmd 0x65 h pl (fun s =>
    let named (k u : Nat) : Bool := match calPack k u with
      | some p => bit (word pl 1) p
      | none => if k = 0 then bit (word pl 1) (u / 32) else if u < 4 then bits (word pl 1) (4 * u) 4 != 0 else word pl 1 != 0
    (s.forEach ((List.range 9).filter (fun k => bit (word pl 0) k)) (fun k t =>
      t.forEach ((calUnitsOf k).filter (named k)) (fun u x => x.calFirst k u))).done h .ok))

/-- CAL_ABORT (R433, R443): the tasks that run end, and an open gap goes on with its next task. -/
def execCalAbort (h : CmdHdr) (pl : List Word) (s : State) : Out :=
  .next (s.cmd 0x66 h pl (fun s => (((s.calCut .partialDone).gapAdvance gapFuel).calEndSettle).done h .ok))

/-! ## The calibration store (R440, R442) -/

/-- Target and FIRST of a parameter as the record holds them. -/
def State.storedParam (s : State) (task u k : Nat) : Nat := unsigned 32 (Tab.get {} (s.calUnit task u).params k).target

/-- The words of a unit's entry in a section. -/
def State.entryWords (s : State) (task u : Nat) : List Nat :=
  let x := s.calUnit task u
  let first := if (List.range (typeParams (calType task))).all (fun k => (Tab.get {} x.params k).first) then 1 else 0
  match task with
  | 0 =>
    let v := Tab.get {} s.paths u
    [if v.first then 1 else 0, v.td, v.tc, s.get (F.TIM_CHA_RT_OPEN_RT (u / 32) (u % 32)), s.get (F.TIM_ALIGN_TEMP_TEMP_AT_ALIGN (u / 32))]
  | 2 => first :: (List.range 256).map (fun i => s.storedParam task u (2 * i) % 2 ^ 16 + 2 ^ 16 * (s.storedParam task u (2 * i + 1) % 2 ^ 16))
  | _ => first :: (List.range (typeParams (calType task))).map (fun k => s.storedParam task u k)

/-- A section with its two header words. -/
def sectionWords (ty : Nat) (ws : List Nat) : List Nat := [ty, 4 * ws.length] ++ ws

/-- The latest accepted result of a task on a pack: time and temperature; with none since the cold start, what the live slot
held. -/
def State.packStamp (s : State) (p task : Nat) : Nat × Nat :=
  let l := ((calUnitsOf task).filter (fun u => if task = 0 then u / 32 == p else match calPack task u with
    | some q => q == p
    | none => true)).filterMap (fun u => (s.calUnit task u).stamp)
  match l with
  | [] => Tab.get (0, 0) s.calAges (9 * p + task)
  | x :: xs => xs.foldl (fun m y => if m.1 ≤ y.1 then y else m) x

/-- The body of a live slot. -/
def State.liveBody (s : State) : List Nat :=
  let ages := (List.range 16).flatMap (fun p => (List.range 9).map (fun k => s.packStamp p k))
  ([1, 0, 2, 3, 4, 5, 6, 7, 8].flatMap (fun k => sectionWords (calType k) ((calUnitsOf k).flatMap (fun u => s.entryWords k u))))
    ++ sectionWords 10 (ages.flatMap (fun x => [0, x.1 % 2 ^ 32, x.1 / 2 ^ 32]))
    ++ sectionWords 11 (ages.flatMap (fun x => [0, x.2]))

/-- CAL_STORE_DONE (R442): the slot is written, or stays invalid after an MRAM error. -/
def execCalStoreDone (ok : Bool) (s : State) : Out :=
  .next (
    match s.calStore with
    | none => s
    | some o =>
      let t := ({ s with calStore := none } : State).set F.CAL_STATUS_STORE_BUSY 0
      let t := if ok then
          let (u, slot) := t.slotWrite liveBase liveSize liveMagic liveCommit t.liveBody
          ({ u with lastStore := some u.time } : State).set F.CAL_STATUS_LIVE_SLOT slot
        else
          let a := match t.newestSlot liveBase liveSize liveMagic liveCommit with
            | some (0, _) => liveBase + liveSize
            | _ => liveBase
          (t.putMramNat (commitAt a (t.recLength a)) 4 0).set F.CAL_STATUS_STORE_ERR 1
      match o with
      | some h => t.done h (if ok then .ok else .internal)
      | none => t)

/-! ## Loading at a cold start (R441) -/

/-- Parameter k of a unit's entry of a live slot at `a`, the entry's first word being its FIRST flag. -/
def State.liveParam (s : State) (task a k : Nat) : Int :=
  if task = 2 then signed 16 (s.mramNat (a + 4 + 2 * k) 2) else s.mramInt (a + 4 + 4 * k)

/-- The words of an entry of a live section, FIRST included. -/
def liveWords (ty : Nat) : Nat := if ty = 3 then 257 else typeParams ty + 1

/-- A unit's parameters from a live slot, or from N marked FIRST. -/
def State.loadUnit (s : State) (live : Option Nat) (task u : Nat) : State :=
  let ty := calType task
  let src : Option Nat := match live with
    | none => none
    | some b => (s.section_ b ty).map (fun a => a + 4 * liveWords ty * typeEntry task u)
  let first := match src with
    | some a => s.mramNat a 4 != 0
    | none => true
  let value (k : Nat) : Int := match src with
    | some a => s.liveParam task a k
    | none => (s.factWindow task u k).1
  if task = 0 then
    let t : State := { s with paths := Tab.put {} s.paths u ⟨(value 0).toNat, (value 1).toNat, first⟩ }
    match src with
    | some _ => (t.set (F.TIM_CHA_RT_OPEN_RT (u / 32) (u % 32)) (value 2).toNat).setI (F.TIM_ALIGN_TEMP_TEMP_AT_ALIGN (u / 32)) (value 3)
    | none => t
  else
    let ks := List.range (typeParams ty)
    let t := s.setCalUnit task u
      { params := ks.foldl (fun (x : Tab CalParam) k => Tab.put {} x k ⟨value k, value k, value k, first⟩) [] }
    if task = 8 ∧ src = none then t else t.forEach ks (fun k x => x.calRegister task u k (value k))

/-- The ages of a live slot at `b`: entry i of its sections 10 and 11, each behind its FIRST word (R440). -/
def State.loadAges (s : State) (b : Nat) : State :=
  match s.section_ b 10, s.section_ b 11 with
  | some x, some y => { s with calAges := (List.range 144).foldl (fun (l : Tab (Nat × Nat)) i =>
      Tab.put (0, 0) l i (s.mramNat (x + 12 * i + 4) 8, s.mramNat (y + 8 * i + 4) 4)) [] }
  | _, _ => s

/-- Cold-start step 9: the factory record, then the newest valid live slot (R441). -/
def State.calLoad (s : State) : State :=
  let (ok, t) := s.recRead factBase factSize factMagic factCommit
  if ok then
    let live := t.newestSlot liveBase liveSize liveMagic liveCommit
    let t := match live with
      | some (i, b) => (t.set F.CAL_STATUS_LIVE_SLOT i).loadAges b
      | none => t.set F.CAL_STATUS_LIVE_NONE 1
    let t := t.forEach (List.range 9) (fun k u => u.forEach (calUnitsOf k) (fun n x => x.loadUnit (live.map (·.2)) k n))
    t.forEach (List.range 16) (fun p u =>
      (u.setI (F.TIM_DRIFT_COEF p) (u.factChan (128 * (p / 4)) 2)).setTargets p)
  else t.set F.CAL_STATUS_FACT_BAD 1

end Sys2Proof.Machine
end

