-- ==== Sys2Proof/Machine/Fault.lean ====
section
/-! DEFINITION. The fault collector (15_faults_and_thermal.md): severities, escalation, recording, the
reactions, and the checks of a clear. -/

namespace Sys2Proof.Machine

/-! ## Units and severities (R398 to R402) -/

/-- The device channel or lane a pack message's ADDRESS names. -/
def addrUnit (a : Nat) : MUnit := if 2 ^ 31 ≤ a then .lane (a % 256) else .channel (a % 512)

/-- The unit a MUZZLE on a message of pack p, unit u of R397, muzzles. -/
def packUnitOf (p u : Nat) (m : FaultMsg) : MUnit :=
  if u = 1 then (if m.kind = 3 then .pack p else addrUnit m.addr)
  else if u < 5 then .pack p
  else if u < 9 then .tmu (4 * p + (u - 5))
  else if u < 15 then .psm (6 * p + (u - 9))
  else if m.kind = 0x10 then .pfe (p / 4)
  else addrUnit m.addr

/-- The unit that a MUZZLE on a message muzzles (R398). -/
def State.faultUnit (s : State) (m : FaultMsg) : Option MUnit :=
  if 0x20 ≤ m.src ∧ m.src < 0x120 then some (packUnitOf ((m.src - 0x20) / 16) ((m.src - 0x20) % 16) m)
  else if 4 ≤ m.src ∧ m.src < 8 then some (.pfe (m.src - 4))
  else if 0x120 ≤ m.src ∧ m.src < 0x140 then some (.ae ((m.src - 0x120) / 4))
  else if m.src = 0x140 ∨ m.src = 0x141 then
    (if m.kind = 1 then some (.pc (s.dramPc (64 * m.addr))) else if m.kind = 2 then some (.pc (m.addr % 32)) else none)
  else if (m.src = 0x160 ∨ m.src = 0x161) ∧ m.kind = 1 then some (.linkLane (4 * (m.src - 0x160) + m.addr % 4))
  else if m.src = 0x163 ∧ m.kind = 2 then some (.linkLane (8 + m.addr % 2))
  else none

/-- The floor of a kind (R401), with DRAM_TEMP_STOP (R422) and MSP_SAFE (R477). -/
def faultFloor (m : FaultMsg) : Nat :=
  if m.src = 0x001 then (match m.kind with | 3 => 3 | 4 => 4 | 7 => 3 | _ => 0)
  else if m.src = 0x002 then 4
  else if m.src = 0x003 then (match m.kind with | 1 => 3 | 2 => 4 | _ => 0)
  else if 4 ≤ m.src ∧ m.src < 8 then (if m.kind = 1 then 2 else 0)
  else if m.src = 0x140 ∨ m.src = 0x141 then (if m.kind = 2 then 2 else 0)
  else if m.src = 0x162 ∧ m.kind = 4 then 4
  else if m.src = 0x170 ∧ m.kind = 6 then 3
  else if m.src = 0x183 ∧ m.kind = 2 then 4
  else 0

/-- FLT_SEV of a source; 5 to 7 are never stored (R425). -/
def State.sevOf (s : State) (src : Nat) : Nat := min (s.get ⟨R.FLT_SEV (src / 8), 4 * (src % 8), 3⟩) 4

/-- The programmed severity with its floor; NOTE for HOST_MUZZLE (R402). -/
def State.progSev (s : State) (m : FaultMsg) : Nat :=
  if m.src = 0 ∧ m.kind = 2 then 0 else max (s.sevOf m.src) (faultFloor m)

/-- A judged message: severity taken, programmed severity, escalated, message. -/
structure Judged where
  taken : Nat
  prog : Nat
  esc : Bool
  msg : FaultMsg
deriving DecidableEq, Repr

/-- The severity a message takes (R402). The watchdog's holder counts as a unit: its fence is up already. -/
def State.judgeMsg (s : State) (m : FaultMsg) : Judged :=
  let p := s.progSev m
  let esc := Tab.get 0 s.fltPend m.cls != 0
  let v := if esc then min (p + 1) 4 else p
  let v := if v = 2 ∧ s.faultUnit m = none ∧ m.src ≠ 0x182 then 1 else v
  ⟨v, p, esc, m⟩

/-- Recording order: descending severity taken, ascending source, ascending kind. -/
def judgedBefore (a b : Judged) : Bool :=
  decide (b.taken < a.taken) || (a.taken == b.taken &&
    (decide (a.msg.src < b.msg.src) || (a.msg.src == b.msg.src &&
      decide (a.msg.cls * 32 + a.msg.kind < b.msg.cls * 32 + b.msg.kind))))

/-- Insert a judged message behind every one that does not come after it. -/
def insertJudged (x : Judged) : List Judged → List Judged
  | [] => [x]
  | y :: ys => if judgedBefore x y then x :: y :: ys else y :: insertJudged x ys

/-! ## Recording (R403, R405, R415) -/

/-- Is ALERT_N driven low (R405)? -/
def State.alertLow (s : State) : Bool :=
  decide (s.get F.FLT_PENDING &&& s.get F.FLT_ALERT_MASK ≠ 0) || s.devState != 0 || decide (s.get F.HK_STATUS_BROKEN ≠ 0)

/-- Write the fault history ring, at most 100 entries in a second of HKO time (R415). -/
def State.histWrite (s : State) (info w : Nat) : State :=
  if s.histCount < 100 then
    let (k, q) := s.histNext
    let t := s.recWrite (0x1700000 + 128 * k) 0x46484531 0x5EA1ED09 q
      [w % 2 ^ 32, w / 2 ^ 32, s.time % 2 ^ 32, s.time / 2 ^ 32 % 2 ^ 32, info, 0, 0, 0]
    { t with histCount := s.histCount + 1, histNext := ((k + 1) % 65536, (q + 1) % 2 ^ 32) }
  else ({ s with histDrops := s.histDrops + 1 } : State).bump F.FLT_HIST_DROP

/-- Record a message: first fault, log, counts, history and event. -/
def State.recordMsg (s : State) (j : Judged) : State :=
  let w := j.msg.word
  let info := j.taken + j.prog * 2 ^ 3 + (if j.esc then 2 ^ 6 else 0)
  let t := if s.flag F.FLT_STATUS_FIRST_VALID then s
    else (((s.wr64 R.FLT_FIRST_LO w).wr R.FLT_FIRST_INFO info).wr64 R.FLT_FIRST_TIME_LO s.time).set F.FLT_STATUS_FIRST_VALID 1
  let k := t.get F.FLT_LOG_IDX
  let a := 0x11000 + 16 * k
  let t := (((t.wr64 a w).wr (a + 8) info).wr (a + 12) s.time).set F.FLT_LOG_IDX ((k + 1) % 64)
  let t := t.bump F.FLT_MSG_CNT
  let t : State := { t with fltPend := Tab.put 0 t.fltPend j.msg.cls (min (Tab.get 0 t.fltPend j.msg.cls + 1) 65535) }
  let t := t.set ⟨R.FLT_PENDING, j.msg.cls % 8, 1⟩ 1
  let t := if 1 ≤ j.taken ∨ (j.msg.src = 8 ∧ j.msg.kind = 2) then t.histWrite info w else t
  if 1 ≤ j.taken then t.pushEvent (w % 2 ^ 32) (w / 2 ^ 32) j.taken 0 else t

/-! ## Reactions (R407, R408) -/

/-- A pack's pattern or waiting start ends with a reaction's status (R132). -/
def State.patternHalt (s : State) (p : Nat) (st : Status) : State :=
  match s.groupOf p with
  | none => s
  | some g =>
    if g.running then
      let b := (s.seq p).nextBeat
      let t := s.abortPack p st 7 none
      t.forEach (List.range 32) (fun c u =>
        u.setChan (32 * p + c) { u.chan (32 * p + c) with drive := .z, repeats := false, loadOn := false, actsFrom := b })
    else (s.setReasons g.packs 7).dropGroup g st

/-- A channel's PMU goes OFF and its measurement ends. -/
def State.pmuHalt (s : State) (n : Nat) (st : Status) : State :=
  let t := s.pmuAbort n st
  if t.get (F.CH_PMU_CTL_MODE n) = 0 then t else (t.set (F.CH_PMU_CTL_MODE n) 0).cmpStart n

/-- Complete every running command of an opcode with OK. -/
def State.doneAll (s : State) (op : Nat) : State :=
  s.forEach (s.inflight.filter (fun e => e.opcode == op && e.phase == .running)) (fun e t => t.done e.hdr .ok)

/-- A reaction during Rest entry ends the entry (R457), and with it the wake that waits for its end (R459). -/
def State.restHalt (s : State) (st : Status) : State :=
  if s.get F.GLB_REST_STATE = 1 then
    let t := ({ s with restWake := false } : State).set F.GLB_REST_STATE 0
    let t := match t.inflight.find? (fun e => e.opcode == 0x82 && e.phase == .running) with
      | some e => t.done e.hdr st
      | none => t
    t.doneAll 0x83
  else s

/-- The STOP reaction on the core (R407), sites aside. -/
def State.stopReaction (s : State) (st : Status) : State :=
  let t := s.forEach (List.range 16) (fun p u => u.patternHalt p st)
  let t := t.forEach (List.range 512) (fun n u => u.pmuHalt n st)
  let t := t.forEach (List.range 96) (fun n u => u.psmFence n st 5)
  let t := t.forEach (List.range 64) (fun i u => u.abortTmu i 6 st)
  (((t.aeStop st).calDropAll st).restHalt st)

/-- ALL-STOP leaves on a STOP or SAFE reaction while ALLSTOP_OUT is 1 (R196), but not from a TRIPPED device (R416). -/
def State.allstopOut (s : State) : State :=
  if s.flag F.WH_CTL_ALLSTOP_OUT && !s.tripped then { s with wh7 := true, wh7In := true } else s

/-- The reaction of a severity of STOP (3) or SAFE (4) with its causes; the core takes part while it
runs (R417). -/
def State.react (s : State) (sev : Nat) (st : Status) (causes : List FaultMsg) : State :=
  let t := if s.coreUp then s.stopReaction st else s
  let t := t.allstopOut
  let t := if sev = 4 then t.gpioSafe else t
  let t := t.set F.FLT_STATUS_STATE (max s.devState (sev - 2))
  { t with condCauses := t.condCauses ++ causes }

/-- What outlives the core and the registers: MRAM, the queue of the model, the TAP, the card's latches, the
rate count of the fault history. -/
def State.blank (s : State) : State :=
  { State.reset with
    pending := s.pending
    mram := s.mram
    free := s.free
    resp := s.resp
    respData := s.respData
    histCount := s.histCount
    histDrops := s.histDrops
    histNext := s.histNext
    wh7In := s.wh7In
    wh7Armed := s.wh7Armed
    isoOut := s.isoOut
    tapIr := s.tapIr
    mspReply := s.mspReply
    mspCount := s.mspCount
    mspSdo := s.mspSdo
    vaux := s.vaux
    pwrgood := s.pwrgood }

/-- A pseudo-channel fails the retraining of a warm start or of a Rest exit (R374, R450): it is muzzled, and its stack reports
PC_FAIL, whose status bit one message sets for the stack (R375). -/
def State.pcRetrainFail (s : State) (q : Nat) : State :=
  ((s.addMuzzle (.pc q) [⟨0x140 + q / 16, cMEMORY, 2, q, s.time % 2 ^ 15⟩]).muzzleBits [.pc q]).raiseOnce
    (F.DRM_STATUS_PC_FAIL (q / 16)) (0x140 + q / 16) cMEMORY 2 q

/-- Is an address one of the always-alive window's (R472)? -/
def aliveReg (a : Nat) : Bool := decide (a < 0x30000) || (decide (0x71000 ≤ a) && decide (a < 0x72000)) || decide (0x90000 ≤ a)
  && decide (a < 0xA0000)

/-- What TRIPPED loses: all that the always-alive domain does not hold (R423, R453). The registers of the always-alive window
stay, and the fault collector and housekeeping with them. -/
def State.tripLost (s : State) : State :=
  let t : State := { s.blank with
    regs := s.regs.filter (fun e => aliveReg e.1)
    faultIn := s.faultIn
    fltPend := s.fltPend
    condCauses := s.condCauses
    hkFired := s.hkFired
    hkMiss := s.hkMiss
    hkRound := s.hkRound
    hkCompat := s.hkCompat
    coreUp := false }
  ((t.deviceBits).set F.SHP_STATUS_IMAGE_OK 0).set F.GLB_START_START_OK 0

/-- TEMP_TRIP after the core has stopped (R423): the device is TRIPPED, and drives WH7 no more (R416). -/
def State.tripCheck (s : State) : State :=
  if s.devState = 2 ∧ s.flag F.HK_STATUS_TRIP = true ∧ s.flag (F.DRM_STATUS_SELF_REFRESH 0) = true ∧ s.coreUp = false then
    s.tripLost.set F.FLT_STATUS_STATE 3
  else s

/-- Does a source send its messages of one FAB cycle in ascending channel order: the timing unit and the channel
front end of a pack (R80, R104)? -/
def channelOrdered (src : Nat) : Bool :=
  decide (0x20 ≤ src) && decide (src < 0x120) && ((src - 0x20) % 16 == 1 || (src - 0x20) % 16 == 15)

/-- The place of a message in that order: its channel, a lane's even one, then its kind. -/
def FaultMsg.chanKey (m : FaultMsg) : Nat :=
  (if 2 ^ 31 ≤ m.addr then 2 * (m.addr % 256) else m.addr % 512) * 32 + m.kind

/-- Place a message in the order in which its unit sends it. -/
def insertSent (m : FaultMsg) : List FaultMsg → List FaultMsg
  | [] => [m]
  | x :: xs =>
    if channelOrdered m.src && x.src == m.src && x.time == m.time && decide (m.chanKey < x.chanKey) then m :: x :: xs
    else x :: insertSent m xs

/-- The messages that reach the collector in this FAB cycle, and those that follow: a channel front end sends one
message in each (R80). -/
def sentNow (ms : List FaultMsg) : List FaultMsg × List FaultMsg :=
  (ms.foldl (fun l m => insertSent m l) []).foldl (fun (x : List FaultMsg × List FaultMsg) m =>
    if channelOrdered m.src && m.src % 16 == 15 && x.1.any (fun y => y.src == m.src) then (x.1, x.2 ++ [m])
    else (x.1 ++ [m], x.2)) ([], [])

/-- The unit that a judged message muzzles: at MUZZLE the one of R398; the loss of a PFE die muzzles it whatever its
severity (R8). -/
def State.muzzledBy (s : State) (j : Judged) : Option MUnit :=
  if j.taken = 2 then s.faultUnit j.msg
  else if 4 ≤ j.msg.src ∧ j.msg.src < 8 ∧ j.msg.kind = 1 ∧ 2 < j.taken then some (.pfe (j.msg.src - 4))
  else none

/-- FAULT_RECORD (R402): the messages of one FAB cycle. -/
def execFaultRecord (s : State) : Out :=
  .next (
    let (now, later) := sentNow s.faultIn
    let js := now.foldl (fun l m => insertJudged (s.judgeMsg m) l) []
    let t := ({ s with faultIn := later } : State).forEach js (fun j u => u.recordMsg j)
    let stops := js.filter (fun j => decide (3 ≤ j.taken))
    let thermal := stops.all (fun j => j.msg.cls == cTHERMAL)
    let sites := if stops.isEmpty || !s.coreUp then [] else [(t.activeSites, if thermal then 8 else 7)]
    let units := js.filterMap (fun j => (s.muzzledBy j).map (fun u => (u, [j.msg])))
    let t := if units.isEmpty && sites.isEmpty then t else t.muzzleAll units sites
    let t := if stops.isEmpty then t
      else t.react (stops.foldl (fun m j => max m j.taken) 3) (if thermal then .thermal else .internal) (stops.map (·.msg))
    t.tripCheck)

/-- SAFE_CORE_STOP (R408 step 3): the core domains stop and DRAM enters self-refresh; a tripped device
becomes TRIPPED. -/
def execSafeCoreStop (s : State) : Out :=
  .next (
    if s.devState = 2 then
      let t := (s.coreStop).forEach (List.range 2) (fun d u => u.set (F.DRM_STATUS_SELF_REFRESH d) 1)
      t.tripCheck
    else s)

/-- HISTORY_LOST (R415, R424): an HKO second ends. -/
def execHistoryLost (s : State) : Out :=
  .next (
    let t : State := { s with histCount := 0, histDrops := 0 }
    if s.histDrops = 0 then t else t.raiseOnce F.FLT_STATUS_HIST_DROP 0x000 cMEMORY 0x01 s.histDrops)

/-- A write of FLT_PENDING acknowledges classes (R404). -/
def writeFltPending (v : Nat) (s : State) : Res :=
  .ok (s.forEach ((List.range 8).filter (fun c => bit v c)) (fun c t =>
    ({ t with fltPend := Tab.put 0 t.fltPend c 0 } : State).set ⟨R.FLT_PENDING, c, 1⟩ 0))

/-- FLT_PENDING_ACK (R404). -/
def execFltPendingAck (_ : Origin) (value : Word) (s : State) : Out :=
  .next (s.respond (writeFltPending value.toNat s))

/-! ## The checks of a clear (R409, R505) -/

/-- The channel of a pack message's ADDRESS: the even one of a lane (R71). -/
def addrChan (a : Nat) : Nat := match addrUnit a with | .lane k => 2 * k | .channel n => n | _ => 0

/-- The status bits of a pack message (R77, R104, R137, R159, R181, R213, R249). -/
def packFaultBits (p u : Nat) (m : FaultMsg) : List Ref :=
  let n := addrChan m.addr
  let both (f : Nat → Ref) : List Ref := if 2 ^ 31 ≤ m.addr then [f (n % 32), f (n % 32 + 1)] else [f (n % 32)]
  match u, m.kind with
  | 0, 1 => [F.PK_STATUS_UNDERRUN_SEEN p]
  | 0, 2 => [F.SEQ_STATUS_STORE_CHECK p]
  | 1, 1 => both (F.TIM_CHA_STAT_COLLISION p)
  | 1, 2 => both (F.TIM_CHA_STAT_OVERRUN p)
  | 1, 3 => [F.TIM_STATUS_DRIFT_ALARM p]
  | 2, 1 => [F.CAP_STATUS_LOST p]
  | 2, 2 => [F.CAP_STATUS_MARK_LOST p]
  | 3, 1 => [F.APG_STATUS_BM_LOST p]
  | 3, 2 => [F.APG_STATUS_BM_BUSY_DROP p]
  | 4, 1 => [F.RA_STATUS_READ_ERR p]
  | 15, 0x10 => [F.CH_STATUS_FE_CHECK n]
  | 15, k => if 1 ≤ k ∧ k ≤ 5 then [⟨R.CH_STATUS n, k - 1, 1⟩] else []
  | u, k =>
    if 5 ≤ u ∧ u < 9 then [F.TMU_STATUS_CAL_RANGE (4 * p + (u - 5))]
    else if 9 ≤ u ∧ u < 15 then
      (let x := 6 * p + (u - 9)
       if k = 0x10 then [F.PSM_STATUS_UNDERRUN x] else if 1 ≤ k ∧ k ≤ 5 then [⟨R.PSM_STATUS x, 15 + k, 1⟩] else [])
    else []

/-- The status bits of a message in its unit; none for a kind that has none. PFE_AVAIL is 0 as long as the
muzzle itself holds, so it does not stand in the way of the release. -/
def faultBits (m : FaultMsg) : List Ref :=
  if 0x20 ≤ m.src ∧ m.src < 0x120 then packFaultBits ((m.src - 0x20) / 16) ((m.src - 0x20) % 16) m
  else if 0x120 ≤ m.src ∧ m.src < 0x140 then
    let c := (m.src - 0x120) / 4
    (match (m.src - 0x120) % 4, m.kind with
     | 0, 1 => [F.AE_STATUS_ILLEGAL c]
     | 0, 2 => [F.AE_STATUS_CALL_TIMEOUT c]
     | 1, 1 => [F.AE_STATUS_MEM_CHECK c]
     | 2, 1 => [F.AE_STATUS_DMA_ERR c]
     | _, _ => [])
  else
    match m.src, m.kind with
    | 0x000, 1 => [F.FLT_STATUS_HIST_DROP]
    | 0x001, 1 => [F.HK_STATUS_WARN_ACTIVE]
    | 0x001, 2 => [F.HK_STATUS_DEFER]
    | 0x001, 3 => [F.HK_STATUS_STOP_ACTIVE]
    | 0x001, 4 => [F.HK_STATUS_TRIP]
    | 0x001, 5 => [⟨R.HK_STATUS, m.addr % 8, 1⟩]
    | 0x001, 6 => [⟨R.HK_STATUS, 10 + m.addr % 2, 1⟩]
    | 0x001, 7 => [⟨R.HK_STATUS, 12 + m.addr % 2, 1⟩]
    | 0x003, 1 => [F.CLK_STATUS_REF_LOST_SEEN]
    | 0x003, 2 => [F.CLK_STATUS_UNLOCK_SEEN]
    | 0x003, 3 => [F.CLK_STATUS_UNLOCK_SEEN]
    | 0x003, 4 => [F.CLK_STATUS_HKO_RANGE]
    | 0x003, 5 => [⟨R.CLK_OVR, m.addr % 32, 1⟩]
    | 0x003, 6 => [⟨R.CLK_JUMP, m.addr % 32, 1⟩]
    | 0x140, 1 => [F.DRM_STATUS_UE_SEEN 0]
    | 0x140, 2 => [F.DRM_STATUS_PC_FAIL 0]
    | 0x141, 1 => [F.DRM_STATUS_UE_SEEN 1]
    | 0x141, 2 => [F.DRM_STATUS_PC_FAIL 1]
    | 0x142, 1 => [F.MRM_STATUS_UE_SEEN]
    | 0x142, 2 => [F.MRM_STATUS_RECORD_BAD]
    | 0x160, k => if 1 ≤ k ∧ k ≤ 4 then [⟨R.LNK_STATUS 0, 23 + k, 1⟩] else []
    | 0x161, k => if 1 ≤ k ∧ k ≤ 4 then [⟨R.LNK_STATUS 1, 23 + k, 1⟩] else []
    | 0x162, k => if 1 ≤ k ∧ k ≤ 4 then [⟨R.LNK_RX_STATUS, k - 1, 1⟩] else []
    | 0x163, k => if 1 ≤ k ∧ k ≤ 4 then [⟨R.TWN_STATUS, 7 + k, 1⟩] else []
    | 0x170, 1 => [F.WH_STATUS_SYNC_LOST]
    | 0x170, 2 => [F.WH_STATUS_TIME_SLIP]
    | 0x170, 3 => [F.WH_STATUS_MASTER_CONFLICT]
    | 0x170, 4 => [F.WH_STATUS_WHS_LOST]
    | 0x170, 5 => [F.WH_STATUS_ECHO_MISS]
    | 0x170, 6 => [F.WH_STATUS_ALLSTOP_SEEN]
    | 0x180, 1 => [if m.addr % 2 = 0 then F.SHP_STATUS_AUTH_FAIL_A else F.SHP_STATUS_AUTH_FAIL_B]
    | 0x180, 2 => [F.SHP_STATUS_ORDER_FAULT]
    | 0x180, 3 => [F.SHP_STATUS_OVERRUN]
    | 0x180, 4 => [F.SHP_STATUS_STORE_CHECK]
    | 0x182, 1 => [F.MPA_STATUS_WDOG_BITE]
    | 0x183, 1 => [F.MSP_ALIVE_BAD_FRAME]
    | _, _ => []

/-- Is the condition of a lasting kind detected at the moment of the clear (R505)? What only the pads,
supplies and loads decide is a free value. Of a PSM, CLAMPING shows whether a clamp acts (R223), SHORT needs that and FV
(R224), BOOST_RANGE needs RANGE 5 and FV (R246). -/
def State.faultLasts (s : State) (m : FaultMsg) : Bool × State :=
  if 0x20 ≤ m.src ∧ m.src < 0x120 then
    let p := (m.src - 0x20) / 16
    let u := (m.src - 0x20) % 16
    if u = 15 then
      let n := addrChan m.addr
      (match m.kind with
       | 2 => s.drawBool
       | 4 => if s.pmuMode n = 1 ∨ s.pmuMode n = 2 then s.drawBool else (false, s)
       | 5 => if s.loadOn n then s.drawBool else (false, s)
       | _ => (false, s))
    else if 9 ≤ u then
      let n := 6 * p + (u - 9)
      (match m.kind with
       | 1 => (decide (s.psmMode n ≠ 0) && s.flag (F.PSM_STATUS_CLAMPING n), s)
       | 2 => if s.psmMode n = 1 ∧ s.flag (F.PSM_STATUS_CLAMPING n) = true then s.drawBool else (false, s)
       | 4 => if s.psmMode n = 1 ∨ s.psmMode n = 2 then s.drawBool else (false, s)
       | 5 => if s.psmMode n = 1 ∧ s.get (F.PSM_CTL_RANGE n) = 5 then s.drawBool else (false, s)
       | _ => (false, s))
    else (false, s)
  else
    let hot (lim : Int) : Bool := decide (16 * (lim - 3) ≤ s.dieTemp (m.addr % 8))
    let stack (lim : Int) : Bool := decide (lim - 3 ≤ s.getI (F.DRM_STATUS_TEMP (m.addr % 2)))
    match m.src, m.kind with
    | 0x001, 1 => (hot 100, s)
    | 0x001, 2 => (hot 110, s)
    | 0x001, 3 => (hot 115, s)
    | 0x001, 4 => (hot 125, s)
    | 0x001, 6 => (stack 95, s)
    | 0x001, 7 => (stack 105, s)
    | 0x002, 1 => s.drawBool
    | 0x003, 1 => (!s.flag F.CLK_STATUS_REF_OK, s)
    | 0x003, 2 => (!s.flag F.CLK_STATUS_ROOT_LOCK, s)
    | 0x003, 3 => (!bit (s.get F.CLK_STATUS_DRM_LOCK) (m.addr % 2), s)
    | 0x003, 4 => (!s.flag F.CLK_STATUS_HKO_OK, s)
    | 0x160, 2 => (s.get (F.LNK_STATUS_STATE 0) == 0, s)
    | 0x161, 2 => (s.get (F.LNK_STATUS_STATE 1) == 0, s)
    | 0x163, 1 => (decide (2 ≤ s.get F.TWN_STATUS_STATE), s)
    | 0x170, 1 => (s.get F.WH_STATUS_STATE == 4, s)
    | 0x170, 4 => (!s.flag F.CLK_STATUS_WHS_OK, s)
    | 0x170, 6 => (s.wh7In, s)
    | src, 1 => if 4 ≤ src ∧ src < 8 then s.drawBool else (false, s)
    | _, _ => (false, s)

/-- The messages of a list whose condition lasts. -/
def State.lasting (s : State) : List FaultMsg → List FaultMsg × State
  | [] => ([], s)
  | m :: ms =>
    let (b, t) := s.faultLasts m
    let (l, u) := t.lasting ms
    (if b then m :: l else l, u)

/-- The messages of a list by SOURCE, KIND and ADDRESS, each once: what a re-raise repeats (R409). -/
def oncePerUnit (ms : List FaultMsg) : List FaultMsg :=
  ms.foldl (fun l m =>
    if l.any (fun x => x.src == m.src && x.cls == m.cls && x.kind == m.kind && x.addr == m.addr) then l
    else l ++ [m]) []

/-- The three checks of R409 over the messages that caused a condition: passed or not, and the state with
whatever the failed check re-raises. -/
def State.clearCheck (s : State) (ms : List FaultMsg) : Bool × State :=
  let again (l : List FaultMsg) (t : State) : State := t.forEach l (fun m u => u.raise m.src m.cls m.kind m.addr)
  if ms.any (fun m => Tab.get 0 s.fltPend m.cls != 0) then (false, s)
  else
    match (oncePerUnit ms).filter (fun m => (faultBits m).any (fun b => s.flag b)) with
    | x :: xs => (false, again (x :: xs) s)
    | [] =>
      let (l, t) := s.lasting (oncePerUnit ms)
      if l.isEmpty then (true, t) else (false, again l t)

/-! ## Clears and muzzles by software (R410, R411, R413, R414) -/

/-- A write of FLT_CLEAR over the link: CLEAR_SAFE is ignored; a rejected CLEAR_STOP rejects the write, and
what it re-raises is raised nevertheless. -/
def writeFltClear (v : Nat) (s : State) : State :=
  let first (t : State) : State := if bit v 2 then t.set F.FLT_STATUS_FIRST_VALID 0 else t
  if bit v 0 && s.devState == 1 then
    match s.clearCheck s.condCauses with
    | (true, t) => { first ({ t with condCauses := [] }.set F.FLT_STATUS_STATE 0) with resp := .ok }
    | (false, t) => { t with resp := .badState }
  else { first s with resp := .ok }

/-- CLEAR_STOP (R410). -/
def execClearStop (_ : Origin) (s : State) : Out := .next (writeFltClear 1 s)

/-- CLEAR_FIRST (R403). -/
def execClearFirst (_ : Origin) (s : State) : Out := .next (writeFltClear 4 s)

/-- A write of FLT_UNMUZZLE (R413). -/
def writeFltUnmuzzle (v : Nat) (s : State) : State :=
  match unitOf (bits v 0 4) (bits v 8 12) with
  | .error st => { s with resp := st }
  | .ok u =>
    if s.muzzles.any (fun (m : Muzzle) => m.unit != u && unitWithin u m.unit) then { s with resp := .badState }
    else
      match s.muzzles.find? (fun m => m.unit == u) with
      | none => { s with resp := .ok }
      | some m =>
        if m.selfTest then { s with resp := .badState }
        else match s.clearCheck m.causes with
          | (true, t) => { t.release u with resp := .ok }
          | (false, t) => { t with resp := .badState }

/-- FLT_UNMUZZLE (R413). -/
def execFltUnmuzzle (_ : Origin) (value : Word) (s : State) : Out := .next (writeFltUnmuzzle value.toNat s)

/-- A write of FLT_MUZZLE (R414). -/
def writeFltMuzzle (v : Nat) (s : State) : Res :=
  match unitOf (bits v 0 4) (bits v 8 12) with
  | .error st => .error st
  | .ok u =>
    let a := bits v 0 4 + bits v 8 12 * 2 ^ 8
    .ok ((s.muzzle u [⟨0x000, cPROTOCOL, 0x02, a, s.time % 2 ^ 15⟩]).raise 0x000 cPROTOCOL 0x02 a)

/-- FLT_MUZZLE (R414). -/
def execFltMuzzle (_ : Origin) (value : Word) (s : State) : Out := .next (s.respond (writeFltMuzzle value.toNat s))

/-- A write of FLT_SEV: severities 5 to 7 are refused (R425). -/
def writeFltSev (a v : Nat) (s : State) : Res :=
  if (List.range 8).any (fun i => decide (4 < bits v (4 * i) 3)) then .error .badOpcode else .ok (s.store a v)

end Sys2Proof.Machine
end

