-- ==== Sys2Proof/Machine/Whistle.lean ====
section
/-! DEFINITION. The Whistle interface (07_capture_and_whistle.md, R184 to R198): device time and frames,
synchronisation, events, the slot table and ALL-STOP. -/

namespace Sys2Proof.Machine

/-! ## Registers and faults -/

/-- DRAINED: frozen, or the group's clock absent (R391, R392). -/
def State.grpDrain (s : State) : State :=
  s.set F.CLK_GRP_STATUS_DRAINED
    (s.get F.CLK_GRP_CTL_FREEZE ||| (63 - s.get F.CLK_GRP_STATUS_CLOCK_PRESENT))

/-- Group g's clock appears or goes. -/
def State.grpClock (s : State) (g : Nat) (on : Bool) : State :=
  (s.setB ⟨R.CLK_GRP_STATUS, 16 + g, 1⟩ on).grpDrain

/-- Is the node the master? -/
def State.whMaster (s : State) : Bool := s.flag F.WH_CTL_MASTER

/-- The synchronisation state (R191). -/
def State.whState (s : State) : Nat := s.get F.WH_STATUS_STATE

/-- A Whistle fault (R197). -/
def State.whRaise (s : State) (bit : Ref) (cls kind : Nat) : State := s.raiseOnce bit 0x170 cls kind s.whNode

/-- The fixed and reserved entries of a table word read 0: slots 0 to 5 of WH0, and WH7. -/
def slotMask (k : Nat) : Nat := if k = 0 then 0 else if k = 1 then 0xFFFF0000 else if 112 ≤ k then 0 else 0xFFFFFFFF

/-! ## Device time (R191) -/

/-- Move a tick by a change of device time. -/
def moveTick (d : Int) (x : Nat) : Nat := ((x : Int) + d).toNat

/-- The beats of a pack, and the instant at which its channels go idle, keep their place when device time changes. -/
def SeqState.shift (q : SeqState) (d : Int) : SeqState :=
  let m := moveTick (4 * d)
  let k := moveTick (20 * 250 * d)
  { q with
    boundary := m q.boundary
    lastStart := m q.lastStart
    passAt := m q.passAt
    idleAt := m q.idleAt
    events := q.events.map (fun e => (e.1, moveTick d e.2))
    wait := q.wait.map (fun w => { w with openBeats := w.openBeats.map (fun b => (b.1, k b.2)) })
    beats := q.beats.map (fun b => { b with start := m b.start, known := k b.known }) }

/-- Set device time. What the model keeps as an instant to come, or as an interval's start, moves with
it; recorded times stay. -/
def State.jumpTime (s : State) (v : Nat) : State :=
  let d : Int := (v : Int) - s.time
  let m := moveTick d
  let t := ({ s with time := v } : State).forEach (List.range 16) (fun p u =>
    let c := u.cap p
    (if u.seqRun p || decide (0 < (u.seq p).idleAt) then u.setSeq p ((u.seq p).shift d) else u).setCap p { c with
      fullSince := c.fullSince.map m
      iv := c.iv.map (fun x => { x with start := m x.start, stop := x.stop.map m }) })
  let t := t.forEach (List.range 96) (fun n u =>
    let x := u.psm n
    u.setPsm n { x with
      held := x.held.map (fun h => (h.1, m h.2))
      exemptTo := m x.exemptTo
      hist := x.hist.map (fun h => (m h.1, h.2)) })
  let t := t.forEach (List.range 512) (fun n u =>
    let x := u.chan n
    u.setChan n { x with
      changedAt := x.changedAt.map (·.map m)
      trimmedAt := x.trimmedAt.map (·.map m) })
  { t with
    whNext := (v / 256 + 1) * 256
    strobeAt := t.strobeAt.map (fun (x : Nat × Option Nat) => (x.1, x.2.map m))
    cueAt := (List.range 96).foldl (fun l n => Tab.put 0 l n (moveTick (4 * d) (Tab.get 0 t.cueAt n))) []
    whReqAt := (List.range 7).foldl (fun l i => Tab.put 0 l i (m (Tab.get 0 t.whReqAt i))) []
    whSent := t.whSent.map (fun e => (e.1, m e.2)) }

/-- Enter ACQUIRE: the node measures and reads its TIME word anew. -/
def State.whAcquire (s : State) : State :=
  let y : SyncState := { s.sync with
    accepted := 0
    word := 0
    got := 0
    full := none
    timeSet := false }
  { s.set F.WH_STATUS_STATE 2 with sync := y }

/-! ## Frames -/

/-- A request of a line is looked at as if registered at a tick or later. -/
def State.whMove (s : State) (line tick : Nat) : State :=
  { s with whReqAt := Tab.put 0 s.whReqAt line (max (Tab.get 0 s.whReqAt line) tick) }

/-- The slot table or the node number changes at a tick: a request whose slot came before it is sent there, one whose slot
would come later takes a slot that starts from then on, and one that had no usable slot one that starts at least 4 ticks
later (R194). -/
def State.whKeep (s t : State) (tick : Nat) : State :=
  t.forEach ((List.range 7).filter (fun i => bit s.whReq i)) (fun i u =>
    match s.whSlot i with
    | none => u.whMove i tick
    | some a => if a < tick then u.whSend i a else u.whMove i (tick - 4))

/-- The pending swap is due at a frame start: the shadow table becomes active. -/
def State.whSwapDue (s : State) (tick : Nat) : State :=
  match s.whSwap with
  | none => s
  | some at_ =>
    if at_ ≤ tick then
      let t := s.forEach (List.range 128) (fun i u => u.wr (R.WH_SLOT_ACT i) (u.rd (R.WH_SLOT_SH i)))
      s.whKeep { t.set F.WH_STATUS_SWAP_PENDING 0 with whSwap := none } tick
    else s

/-- Device time jumps: crossing 5 sees a discontinuity and shows it in CLK_JUMP; CROSS_JUMP is not raised where a
synchronisation state makes the change (R191, R386). -/
def State.timeJump (s : State) (v : Nat) (sync : Bool) : State :=
  if v = s.time then s
  else
    let t := s.jumpTime v
    if sync then t.set ⟨R.CLK_JUMP, 5, 1⟩ 1 else t.crossJump 5 0

/-- Superframe start: the master takes a committed time; a node in ACQUIRE takes the complete TIME word
plus 16,384. -/
def State.superframe (s : State) : State :=
  let t : State := { s with whSet := none }
  match s.whMaster, s.whSet with
  | true, some v => t.timeJump v false
  | true, none => t
  | false, _ =>
    match s.whState == 2 && !s.sync.timeSet, s.sync.full with
    | true, some w =>
      let u := t.timeJump ((w + 16384) % 2 ^ 64) true
      { u with sync := { u.sync with timeSet := true, full := none, got := 0, word := 0 } }
    | _, _ => t

/-- WHISTLE_FRAME_START (R187, R189, R193): the next frame begins. The master drives FRAME, and TIME by the bit of the
frame, and watches the TIME slot while it drives 0. -/
def execWhistleFrameStart (timeSlotSeen : Bool) (s : State) : Out :=
  .next (
    if s.coreUp then
      let tick := max s.whNext (s.time / 256 * 256)
      let t : State := { s with time := max s.time tick, whNext := tick + 256 }
      let t := t.whSwapDue tick
      let t := if tick % 16384 = 0 then t.superframe else t
      let drives := bit (t.time / 16384 * 16384) (tick / 256 % 64)
      let t : State := { t with sync := { t.sync with
        frameOut := t.whMaster
        timeOut := t.whMaster && drives
        echoOut := false } }
      if t.whMaster && timeSlotSeen && !drives then t.whRaise F.WH_STATUS_MASTER_CONFLICT cLINK 3 else t
    else s)

/-- ECHO_LAUNCH (R190): the node's echo slot; `rt` is the round trip in ps, none without an answer. The
delay is rounded down to a picosecond. -/
def execEchoLaunch (rt : Option Nat) (s : State) : Out :=
  .next (
    if s.coreUp && !s.whMaster && (s.whState == 2 || s.whState == 3) then
      let s : State := { s with sync := { s.sync with echoOut := true } }
      match rt.filter (fun x => decide (8000 ≤ x) && decide (x ≤ 20000)) with
      | some x =>
        let l := (x :: s.sync.rts).take 16
        let d := (l.foldl (· + ·) 0 - 8000 * l.length) / (2 * l.length)
        { s.set F.WH_DELAY_DELAY d with sync := { s.sync with rts := l, accepted := s.sync.accepted + 1, misses := 0 } }
      | none =>
        let n := s.sync.misses + 1
        let t : State := { s with sync := { s.sync with misses := n } }
        if n % 4 = 0 then t.whRaise F.WH_STATUS_ECHO_MISS cLINK 5 else t
    else s)

/-- ECHO_ANSWER (R189): the master answers a launch: it drives a pulse in the ECHO slots of the frame, 8 ns after the
launch. -/
def execEchoAnswer (s : State) : Out :=
  .next (if s.coreUp && s.whMaster then { s with sync := { s.sync with echoOut := true } } else s)

/-- One bit of the TIME word: the word is complete when the 64 frames of one superframe have been read. -/
def State.timeBit (s : State) (b : Bool) : State :=
  let j := s.time / 256 % 64
  let y := s.sync
  if j = 0 then { s with sync := { y with word := (if b then 1 else 0), got := 1, full := none } }
  else if y.got = j then
    let w := y.word + (if b then 2 ^ j else 0)
    { s with sync := { y with word := w, got := j + 1, full := if j = 63 then some w else none } }
  else { s with sync := { y with got := 0, full := none } }

/-- The phase error of a FRAME pulse in ps; one that does not fit its field shows a free value. -/
def State.showPhase (s : State) (e : Int) : State :=
  if -32768 ≤ e ∧ e ≤ 32767 then s.setI F.WH_DELAY_PHASE_ERR e
  else
    let (x, t) := s.drawWord
    t.set F.WH_DELAY_PHASE_ERR x.toNat

/-- A node that steps its phase, in LOCKED or in ACQUIRE once its time is set, shifts TTB by one step toward zero error
when the error exceeds 20 ps (R190, R191). -/
def State.phaseStep (s : State) (e : Int) : State :=
  if s.whState = 3 ∨ (s.whState = 2 ∧ s.sync.timeSet = true) then
    { s with sync := { s.sync with
        phase := s.sync.phase + (if 20 < e then 1 else if e < -20 then -1 else 0) } }
  else s

/-- FRAME_PULSE_RECEIVE (R190, R191): the phase error and the step it makes, the TIME bit of the frame, and the moves between
states that they make. While group WHIS is frozen the phase is held (R391). -/
def execFramePulseReceive (phaseErr : Int) (timeBit : Bool) (s : State) : Out :=
  .next (
    if s.coreUp && !s.whMaster && s.whState != 0 then
      let t := if s.whState = 1 ∨ s.whState = 4 then s.whAcquire else s
      let t := t.timeBit timeBit
      if s.grpShut 3 then t
      else
        let t := (t.showPhase phaseErr).phaseStep phaseErr
        if t.whState = 3 then
          let slipped := match t.sync.full with
            | some w => w != t.time / 16384 * 16384
            | none => false
          if slipped || decide (2000 < phaseErr.natAbs) then (t.whRaise F.WH_STATUS_TIME_SLIP cLINK 2).whAcquire else t
        else if t.whState = 2 ∧ 16 ≤ t.sync.accepted ∧ t.sync.timeSet = true ∧ phaseErr.natAbs ≤ 100 then
          { t.set F.WH_STATUS_STATE 3 with sync := { t.sync with wasLocked := true } }
        else t
    else s)

/-- SYNC_LOST (R191): no FRAME pulse for four frames. -/
def execSyncLost (s : State) : Out :=
  .next (
    if s.coreUp && !s.whMaster then
      if s.whState = 3 then (s.set F.WH_STATUS_STATE 4).whRaise F.WH_STATUS_SYNC_LOST cLINK 1
      else if s.whState = 2 ∧ s.sync.wasLocked = false then s.set F.WH_STATUS_STATE 1
      else s
    else s)

/-- The presence of WH_CLK as measured, whether or not the core runs (R394). -/
def State.whsSeen (s : State) (on : Bool) : State :=
  ((s.grpClock 3 on).setB F.CLK_STATUS_WHS_OK on).setB F.CLK_STATUS_TTB_FROM_ROOT (!on)

/-- WHS_LOST (R191, R394): WH_CLK absent for 1 µs. A fenced group's presence pulse does not reach the synchronisation
(R391). -/
def execWhsLost (s : State) : Out :=
  .next (
    let t := s.whsSeen false
    if s.coreUp && !bit (s.get F.CLK_GRP_CTL_MUZZLE) 3 then (t.set F.WH_STATUS_STATE 0).whRaise F.WH_STATUS_WHS_LOST cLINK 4
    else t)

/-- WH_CLK_RETURN (R191, R388): the node leaves NO_CLOCK. -/
def execWhClkReturn (s : State) : Out :=
  .next (
    let t := s.whsSeen true
    if s.coreUp && !bit (s.get F.CLK_GRP_CTL_MUZZLE) 3 && s.whState == 0 then
      let t := t.set F.WH_STATUS_STATE (if s.whMaster then 3 else 1)
      { t with sync := { t.sync with wasLocked := s.whMaster } }
    else t)

/-! ## Register writes -/

/-- A write of WH_CTL (R189). -/
def writeWhCtl (v ses : Nat) (s : State) : Res :=
  if bit v 0 && !s.whMaster then
    if s.holdsLock 33 ses then
      let t := s.store R.WH_CTL v
      if s.whState = 0 then .ok t
      else .ok { t.set F.WH_STATUS_STATE 3 with sync := { t.sync with wasLocked := true } }
    else .error .locked
  else .ok (s.whKeep (s.store R.WH_CTL v) s.time)

/-- A write of WH_TIME_SET_HI (R189). -/
def writeWhTimeHi (v : Nat) (s : State) : Res :=
  if s.whMaster then .ok { s.store R.WH_TIME_SET_HI v with whSet := some (s.rd R.WH_TIME_SET_LO + 2 ^ 32 * v) }
  else .error .badState

/-- Does the shadow slot table hold KIND 3 anywhere? -/
def State.slotBad (s : State) : Bool :=
  (List.range 7).any (fun l => (List.range 64).any (fun i => bits (s.slotEntry 0x70400 l i) 6 2 == 3))

/-- A write of WH_SWAP_HI (R193, R368). -/
def writeWhSwapHi (v : Nat) (s : State) : Res :=
  if s.flag F.WH_STATUS_SWAP_PENDING then .error .busy
  else if s.slotBad then .error .badOpcode
  else .ok { (s.store R.WH_SWAP_HI v).set F.WH_STATUS_SWAP_PENDING 1 with whSwap := some (s.rd R.WH_SWAP_LO + 2 ^ 32 * v) }

/-- A write of a word of the shadow slot table. -/
def writeWhSlot (a v : Nat) (s : State) : Res :=
  if s.flag F.WH_STATUS_SWAP_PENDING then .error .busy else .ok (s.wr a (v &&& slotMask ((a - 0x70400) / 4)))

/-- A write of WH_EMIT (R194). -/
def writeWhEmit (v : Nat) (s : State) : Res :=
  .ok (s.forEach ((List.range 7).filter (fun l => bit v l)) (fun l t => t.whEmitReq l t.time))

/-- A write of WH_ALLSTOP (R196); a TRIPPED device drives nothing (R416). -/
def writeWhAllstop (v : Nat) (s : State) : Res :=
  .ok (if bit v 0 && !s.tripped then { s with wh7 := true, wh7In := true } else s)

/-- WH_MASTER_WRITE (R189). -/
def execWhMasterWrite (o : Origin) (value : Word) (s : State) : Out :=
  .next (s.respond (writeWhCtl value.toNat (originSession o) s))

/-- WH_TIME_SET_HI (R189). -/
def execWhTimeSetHi (_ : Origin) (value : Word) (s : State) : Out :=
  .next (s.respond (writeWhTimeHi value.toNat s))

/-- WH_SWAP_HI (R193). -/
def execWhSwapHi (_ : Origin) (value : Word) (s : State) : Out :=
  .next (s.respond (writeWhSwapHi value.toNat s))

/-- WH_EMIT (R194). -/
def execWhEmit (_ : Origin) (value : Word) (s : State) : Out :=
  .next (s.respond (writeWhEmit value.toNat s))

/-- WH_ALLSTOP (R196). -/
def execWhAllstop (_ : Origin) (value : Word) (s : State) : Out :=
  .next (s.respond (writeWhAllstop value.toNat s))

/-! ## Events -/

/-- WHISTLE_EVENT_SEND (R194): the registered request of a line goes out in its first usable slot that
starts at least 4 ticks after registration; it is kept while the node may use no slot of the line. -/
def execWhistleEventSend (line : Fin 7) (s : State) : Out :=
  .next (
    if s.coreUp && bit s.whReq line then
      match s.whSlot line with
      | none => s
      | some a => ({ s with time := max s.time a } : State).whSend line a
    else s)

/-- Does crossing 6 drop an act strobe of a tick towards PSC (0) or MCK (1): is the acknowledgement of an earlier one, 3 TTB
cycles and 3 cycles of PSC or MCK, not back yet (R384, R387)? The strobes of one tick are one event. -/
def State.strobeLost (s : State) (d tick : Nat) : Bool :=
  match Tab.get none s.strobeAt d with
  | none => false
  | some a => decide (a < tick) && decide (tick < a + (if d = 0 then 11 else 5))

/-- An act strobe of a tick crosses to PSC or MCK, or is dropped and reported. -/
def State.strobe (s : State) (d tick : Nat) : State :=
  if s.strobeLost d tick then s.crossOverrun 6 0 else { s with strobeAt := Tab.put none s.strobeAt d (some tick) }

/-- An event acts: counted, delivered to the packs, to capture, and over crossing 6 to the TMUs and to the snapshots. -/
def State.whAct (s : State) (line : Fin 7) (tick : Nat) : State :=
  let l := line.val
  let t := ((s.bump (F.WH_EVT_CNT l)).strobe 0 tick).strobe 1 tick
  let t := t.forEach (List.range 16) (fun p u =>
    let v := if u.seqRun p then u.setSeq p { u.seq p with events := (u.seq p).events ++ [(l, tick)] } else u
    v.pushTrigger p (.whistle line) tick none)
  let t := t.forEach (if s.strobeLost 1 tick then [] else List.range 64) (fun i u =>
    (u.armEvent i 2 (some l)).ownEdge i (0x40 + l))
  t.forEach (if s.strobeLost 0 tick then [] else List.range 96) (fun n u =>
    if u.get (F.PSM_SNAP_CFG_TRIG_LINE n) = l then u.snapTrigger n 2 tick else u)

/-- WHISTLE_EVENT_ACT (R194, R195): the next event of the line acts, at its act tick if the device sent it,
else at the present tick. -/
def execWhistleEventAct (line : Fin 7) (s : State) : Out :=
  .next (
    if s.coreUp then
      match s.whSent.find? (fun e => e.1 == line.val) with
      | some e =>
        let t : State := { s with time := max s.time e.2, whSent := s.whSent.erase e }
        t.whAct line e.2
      | none => s.whAct line s.time
    else s)

/-! ## ALL-STOP (R196) -/

/-- ALLSTOP: an assertion of WH7 is detected, armed once until it is re-armed. With ALLSTOP_IN the
always-alive domain takes the reaction itself and raises ALLSTOP; with ALLSTOP_IN 0 nothing follows. A TRIPPED device detects none
(R416). -/
def execAllstop (s : State) : Out :=
  .next (
    let t : State := { s with wh7In := true }
    if s.wh7Armed && !s.tripped then
      let t : State := { t with wh7Armed := false }
      if s.flag F.WH_CTL_ALLSTOP_IN then
        let m : FaultMsg := ⟨0x170, cPROTOCOL, 6, s.whNode, s.time % 2 ^ 15⟩
        let t := if s.coreUp then t.muzzleAll [] [(t.activeSites, 7)] else t
        let t := t.react (max 3 (s.sevOf 0x170)) .internal [m]
        (t.whRaise F.WH_STATUS_ALLSTOP_SEEN cPROTOCOL 6).tripCheck
      else t
    else t)

/-- ALLSTOP_RELEASE: after 10 µs the device releases WH7. -/
def execAllstopRelease (s : State) : Out := .next { s with wh7 := false }

/-- ALLSTOP_REARM: WH7 has been released for 1 µs. -/
def execAllstopRearm (s : State) : Out :=
  .next (if s.wh7 then s else { s with wh7In := false, wh7Armed := true })

end Sys2Proof.Machine
end

