-- ==== Sys2Proof/Machine/Mpa.lean ====
section
/-! DEFINITION. Memory and arbitration (13_memory_and_arbitration.md): the pseudo-channel arbiters, the grant
watchdog, the class and egress table swaps, MRAM copies and the patrol scrub. -/

namespace Sys2Proof.Machine

/-! ## Arbitration (R359 to R363) -/

/-- The class of requester r in the active table. -/
def State.mpaClass (s : State) (r : Nat) : Nat := bits (s.rd (R.MPA_CLASS_ACT (r / 16))) (2 * (r % 16)) 2

/-- k[r,q]. -/
def State.backOff (s : State) (r q : Nat) : Nat := Tab.get 0 s.mpaK (32 * r + q)

/-- Set k[r,q]; K_MAX shows the largest over the pseudo-channels. -/
def State.setBackOff (s : State) (r q k : Nat) : State :=
  let t : State := { s with mpaK := Tab.put 0 s.mpaK (32 * r + q) k }
  t.set (F.MPA_REQ_K_MAX r) ((List.range 32).foldl (fun m i => max m (t.backOff r i)) 0)

/-- The transaction in its data phase on pseudo-channel q. -/
def State.holderOf (s : State) (q : Nat) : Option MpaHold := Tab.get none s.mpaHold q

/-- The granted transaction that waits for its data phase on q. -/
def State.waiterOf (s : State) (q : Nat) : Option MpaReq := Tab.get none s.mpaWait q

/-- DRAINED: 1 while FREEZE is 1 and no pseudo-channel has a transaction granted or in its data phase (R364). -/
def State.mpaDrain (s : State) : State :=
  s.setB F.MPA_STATUS_DRAINED (s.flag F.MPA_CTL && (List.range 32).all (fun q => (s.holderOf q).isNone && (s.waiterOf q).isNone))

/-- HOLDING of a requester. -/
def State.showHolding (s : State) (r : Nat) : State :=
  s.setB (F.MPA_REQ_HOLDING r) ((List.range 32).any (fun i => (s.holderOf i).any (fun h => h.req.requester.val == r)))

/-- A data phase begins on q, or none runs there any more: HOLDING of the old and the new holder. -/
def State.setHolder (s : State) (q : Nat) (h : Option MpaHold) : State :=
  let t : State := { s with mpaHold := Tab.put none s.mpaHold q h }
  (t.forEach ((s.holderOf q).toList ++ h.toList) (fun x u => u.showHolding x.req.requester)).mpaDrain

/-- A granted transaction waits on q, or none does any more. -/
def State.setWaiter (s : State) (q : Nat) (x : Option MpaReq) : State :=
  ({ s with mpaWait := Tab.put none s.mpaWait q x } : State).mpaDrain

/-- The holder of q releases its grant, or loses it: the granted transaction that waits begins its data phase (R360). -/
def State.mpaRelease (s : State) (q : Nat) : State :=
  match s.waiterOf q with
  | none => s.setHolder q none
  | some x => (s.setWaiter q none).setHolder q (some { req := x })

/-- The distance of requester r after the one last granted, counted upward from 0 to 43. -/
def turn (last r : Nat) : Nat := (r + 44 - last % 44) % 44

/-- The winner among requests (R361): lowest class, then first in turn. -/
def State.mpaWinner (s : State) (q : Nat) : List MpaReq → Option MpaReq
  | [] => none
  | x :: xs =>
    match s.mpaWinner q xs with
    | none => some x
    | some y =>
      let cx := s.mpaClass x.requester
      let cy := s.mpaClass y.requester
      let last := Tab.get 0 s.mpaLast (4 * q + cx)
      if cx < cy ∨ (cx = cy ∧ turn last x.requester ≤ turn last y.requester) then some x else some y

/-- Does a waveform of streamer p wait for a sample on q, and in which burst range (R13)? -/
def State.waveFetches (s : State) (p q : Nat) : List Nat :=
  (List.range 6).filterMap (fun i => match s.waveWants (6 * p + i) with
    | some a => if s.dramPc a = q then some a else none
    | none => none)

/-- Is a request one the arbiter of q takes: for q, of 1 to 4 bursts within a granule, of a requester that
is not fenced, and of a streamer for waveform samples when one of its waveforms waits for a sample there (R13)? -/
def State.mpaValid (s : State) (q : Nat) (x : MpaReq) : Bool :=
  decide (x.addr < 2 ^ 35) && decide (s.dramPc x.addr = q) && decide (1 ≤ x.bursts)
    && decide (x.addr % 64 = 0) && decide (x.addr % 256 + 64 * x.bursts ≤ 256) && !bit s.fences x.requester
    && (decide (16 ≤ x.requester.val) || (s.waveFetches x.requester q).isEmpty
      || (s.waveFetches x.requester q).any (fun a => decide (x.addr ≤ a) && decide (a < x.addr + 64 * x.bursts)))

/-- A memory command of port x's host DMA that has not run and covers an address. -/
def State.dmaCmd (s : State) (port : Bool) (a : Nat) : Option CmdHdr :=
  (s.inflight.find? (fun e => (e.opcode == 0x10 || e.opcode == 0x13) && e.hdr.port == port
    && (let b := word e.payload 0 + 2 ^ 32 * (word e.payload 1 % 8)
        let n := (if e.opcode = 0x10 then 4 else 64) * word e.payload 2
        decide (b / 64 * 64 ≤ a) && decide (a < b + n)))).map (·.hdr)

/-- The bytes of a repair record in DRAM (R157). -/
def State.repairSize (s : State) (a : Nat) : Nat :=
  let w := s.dramWord (a + 8)
  (64 + w % 128 * (16 + 4 * (bits w 16 7 + bits w 23 9)) + 63) / 64 * 64

/-- The twin mirror reads a burst that is uncorrectable: the repair record that holds it cannot be sent (R373, R462). -/
def State.mirrorUe (s : State) (a : Nat) : State :=
  { s with mirrorQ := s.mirrorQ.map (fun m =>
      let b := 64 * s.get (F.SHP_SITE_REPAIR m.site)
      if m.item == 2 && !m.sent && decide (b ≤ a) && decide (a < b + s.repairSize b) then { m with bad := true } else m) }

/-- What burst i of a transaction moves: a streamer takes the samples it waits for, and then the records (R13); a burst
that cannot be read correctly counts, and the memory command that reads it ends with INTERNAL (R373). -/
def State.mpaBurst (s : State) (x : MpaReq) (i : Nat) : State :=
  let r := x.requester.val
  let a := x.addr + 64 * i
  let t := if r < 16 then
      (s.forEach (List.range 6) (fun i u => u.waveRange (6 * r + i) a 64 16)).fetchRange r a 64 2
    else s
  if bit x.ue i then
    let t := t.dramUe a
    if r = 41 ∨ r = 42 then
      match t.dmaCmd (r == 42) a with
      | some h => { t with ueHit := t.ueHit ++ [h] }
      | none => t
    else if r = 43 then t.mirrorUe a
    else t
  else t

/-- n bursts move on q, those of the holder and after its last, which releases the grant, those of the transaction that
waited (R360). -/
def State.mpaSend (s : State) (q : Nat) : Nat → State
  | 0 => s
  | n + 1 =>
    match s.holderOf q with
    | none => s
    | some h =>
      let t := s.mpaBurst h.req h.moved
      (if h.moved + 1 < h.req.bursts then t.setHolder q (some { h with moved := h.moved + 1 }) else t.mpaRelease q).mpaSend q n

/-- A swap of the class table takes effect: the shadow becomes the active table (R367, R368). -/
def State.classWrap (s : State) : State :=
  match s.classSwap with
  | none => s
  | some _ => ({ s with classSwap := none } : State).forEach (List.range 3) (fun w u =>
      u.wr (R.MPA_CLASS_ACT w) (u.rd (R.MPA_CLASS_SH w)))

/-- A swap requested in an earlier tick has passed its wrap, the next FAB cycle (R367). -/
def State.classSettle (s : State) : State :=
  if s.classSwap.any (fun t => decide (t < s.time)) then s.classWrap else s

/-- A muzzle response to a streamer (R9, R361): its pattern or waveform with data there ends. -/
def State.mpaRefuse (s : State) (q : Nat) (x : MpaReq) : State :=
  let p := x.requester.val
  if p < 16 then
    let t := if s.streamOn p q then s.patternFence p else s
    t.forEach (List.range 6) (fun i u => if u.waveOn (6 * p + i) q then u.waveRefused (6 * p + i) else u)
  else s

/-- One arbitration phase among the requests that the arbiter of q takes (R360 to R362): the winner's data phase begins,
or waits for the holder's last burst. -/
def State.mpaPhase (s : State) (q : Nat) (l : List MpaReq) : State :=
  match s.mpaWinner q l with
  | none => s
  | some w =>
    let c := s.mpaClass w.requester
    let t : State := { s with mpaLast := Tab.put 0 s.mpaLast (4 * q + c) (w.requester + 1) }
    let t := t.forEach l (fun x u =>
      if x.requester = w.requester then u.setBackOff x.requester q 0
      else u.setBackOff x.requester q (min (u.backOff x.requester q + 1) 10))
    if (t.holderOf q).isNone then t.setHolder q (some { req := w }) else t.setWaiter q (some w)

/-- MPA_ARBITRATION (R360 to R362): `sent` bursts have moved on q since the row before. Requests for a pseudo-channel that
gives the muzzle response are answered with it; else a phase follows unless a granted transaction waits. A phase under
FREEZE grants nothing and changes no k. -/
def execMpaArbitration (q : Fin 32) (reqs : MpaObs) (s : State) : Out :=
  .next (
    if !s.coreUp then s
    else
      let s := s.classWrap.mpaSend q reqs.sent
      let l := reqs.reqs.filter (fun x => s.mpaValid q x)
      if s.pcClosed q then s.forEach l (fun x t => t.mpaRefuse q x)
      else if (s.waiterOf q).isSome then s
      else if s.flag F.MPA_CTL then s
      else s.mpaPhase q l)

/-! ## The grant watchdog (R365) -/

/-- The fence of a holder. -/
def State.fence (s : State) (r : Nat) (m : FaultMsg) : State :=
  let t := ({ s with fences := s.fences ||| 2 ^ r } : State).set (F.MPA_REQ_FENCED r) 1
  if r < 32 then t.muzzle (.pack (r % 16)) [m]
  else if r < 40 then t.muzzle (.ae (r - 32)) [m]
  else t

/-- GRANT_HELD (R365): the holder's data phase on q has reached LIMIT; its bursts moved stay moved, and the rest of the
transaction moves nothing. -/
def execGrantHeld (q : Fin 32) (s : State) : Out :=
  .next (
    match s.holderOf q with
    | none => s
    | some h =>
      let r := h.req.requester
      let a := r + q.val * 2 ^ 6
      ((s.mpaRelease q).fence r ⟨0x182, cWATCHDOG, 1, a, s.time % 2 ^ 15⟩).raiseOnce F.MPA_STATUS_WDOG_BITE 0x182
        cWATCHDOG 1 a)

/-- A write of MPA_CTL (R364). -/
def writeMpaCtl (v : Nat) (s : State) : Res := .ok (s.store R.MPA_CTL v).mpaDrain

/-- MPA_FREEZE (R364). -/
def execMpaFreeze (_ : Origin) (value : Word) (s : State) : Out :=
  .next (s.respond (writeMpaCtl value.toNat s))

/-- A write of MPA_WDOG (R376). -/
def writeMpaWdog (v : Nat) (s : State) : Res :=
  if v % 2 ^ 24 < 256 then .error .badOpcode else .ok (s.store R.MPA_WDOG v)

/-! ## Table swaps (R367, R368) -/

/-- The shadow and active egress tables of a port. -/
def slotSh (port : Nat) : Nat := if port = 0 then R.LNK_A_SLOT_SH 0 else R.LNK_B_SLOT_SH 0
def slotAct (port : Nat) : Nat := if port = 0 then R.LNK_A_SLOT_ACT 0 else R.LNK_B_SLOT_ACT 0

/-- SWAP_PENDING of a port. -/
def slotPend (port : Nat) : Ref := if port = 0 then F.LNK_RX_STATUS_SWAP_PENDING_A else F.LNK_RX_STATUS_SWAP_PENDING_B

/-- Does the shadow egress table of a port hold a reserved class or bit (R311)? -/
def State.egressBad (s : State) (port : Nat) : Bool :=
  (List.range 16).any (fun i => (wordBytes (s.rd (slotSh port + 4 * i))).any (fun b => decide (0x14 ≤ b)))

/-- The wrap of a port's egress table: the shadow becomes active. -/
def State.egressWrap (s : State) (port : Nat) : State :=
  (s.forEach (List.range 16) (fun i t => t.wr (slotAct port + 4 * i) (t.rd (slotSh port + 4 * i)))).set (slotPend port) 0

/-- The status that refuses a swap request of a port's egress table. -/
def State.egressRefused (s : State) (port : Nat) : Option Status :=
  if s.flag (slotPend port) then some .busy else if s.egressBad port then some .badOpcode else none

/-- A swap of a port's egress table becomes pending, or is made at once while the port is neither UP nor
REST. -/
def State.egressSwap (s : State) (port : Nat) : State :=
  let t := s.set (slotPend port) 1
  if s.get (F.LNK_STATUS_STATE port) = 2 ∨ s.get (F.LNK_STATUS_STATE port) = 3 then t else t.egressWrap port

/-- A write of MPA_SWAP (R367, R368, R376): a swap of the class table is pending until the next FAB cycle. -/
def writeMpaSwap (v : Nat) (s : State) : Res :=
  let s := s.classSettle
  let ports := (List.range 2).filter (fun x => bit v (1 + x))
  if bit v 0 && s.classSwap.isSome then .error .busy
  else
    match ports.filterMap (fun x => s.egressRefused x) with
    | st :: _ => .error st
    | [] =>
      let t := if bit v 0 then { s with classSwap := some s.time } else s
      .ok (t.forEach ports (fun x u => u.egressSwap x))

/-- A write of the shadow class table: refused while a swap of it is pending (R368). -/
def writeClassSh (a v : Nat) (s : State) : Res :=
  let s := s.classSettle
  if s.classSwap.isSome then .error .busy
  else .ok (s.store a (if a = R.MPA_CLASS_SH 2 then v % 2 ^ 24 else v))

/-- A write of a word of a shadow egress table. -/
def writeEgressSh (a v : Nat) (s : State) : Res :=
  if s.flag (slotPend ((a - 0x40400) / 128)) then .error .busy else .ok (s.store a v)

/-- MPA_CLASS_SWAP (R367). -/
def execMpaClassSwap (_ : Origin) (s : State) : Out := .next (s.respond (writeMpaSwap 1 s))

/-- EGRESS_SLOT_SWAP (R367, R311). -/
def execEgressSlotSwap (_ : Origin) (port : Fin 2) (s : State) : Out :=
  .next (s.respond (writeMpaSwap (2 * (port + 1)) s))

/-! ## MRAM copies (R357, R358) -/

/-- The ranges of a copy in bytes: DRAM, MRAM, length. -/
def State.mrmRange (s : State) : Nat × Nat × Nat :=
  (64 * s.get F.MRM_DRAM, 64 * s.get F.MRM_OFFSET, 64 * s.get F.MRM_LEN)

/-- May the host write an MRAM range (R356)? -/
def mramWritable (o n : Nat) : Bool :=
  let within (a z : Nat) : Bool := decide (a ≤ o) && decide (o + n ≤ z)
  within 0x500000 0x600000 || within 0x600000 0x700000 || within 0x2000000 0x4000000

/-- The word a copy into MRAM holds back: the slot's commit word where the range has it, else its last. -/
def heldWord (o n : Nat) : Nat :=
  let c := if 0x500000 ≤ o ∧ o < 0x600000 then 0x5680FC else 0x6680FC
  if o < 0x700000 ∧ o ≤ c ∧ c < o + n then c else o + n - 4

/-- A write of MRM_CTL (R357). -/
def writeMrmCtl (v : Nat) (s : State) : Res :=
  if s.flag F.MRM_STATUS_BUSY then .error .busy
  else
    let t := s.store R.MRM_CTL v
    let (d, o, n) := s.mrmRange
    if !bit v 0 then .ok t
    else if n = 0 then .ok (t.set F.MRM_STATUS_DONE 1)
    else if 2 ^ 35 < d + n ∨ 2 ^ 26 < o + n then .error .badAddress
    else if bit v 1 && !mramWritable o n then .error .badAddress
    else if s.touchesMuzzledPc d n then .error .muzzled
    else if bit s.fences 40 then .error .internal
    else
      let t := t.set F.MRM_STATUS_BUSY 1
      .ok (if bit v 1 then t.putMramNat (heldWord o n) 4 0 else t)

/-- A write of another register of the MRAM store (R378). -/
def writeMrmPlain (a v : Nat) (s : State) : Res :=
  if s.flag F.MRM_STATUS_BUSY && (a == R.MRM_DRAM || a == R.MRM_OFFSET || a == R.MRM_LEN) then .error .busy
  else .ok (s.store a v)

/-- MRAM_COPY_GO (R357). -/
def execMramCopyGo (_ : Origin) (value : Word) (s : State) : Out :=
  .next (s.respond (writeMrmCtl value.toNat s))

/-- The copy has moved the first n bytes of its range in ascending order, all but the held word (R358). -/
def State.copyPart (s : State) (k : Nat) : State :=
  let (d, o, _) := s.mrmRange
  if s.flag F.MRM_CTL_DIR then
    let t := s.putMram o (s.dramBytes d k)
    if heldWord o (s.mrmRange).2.2 < o + k then t.putMramNat (heldWord o (s.mrmRange).2.2) 4 0 else t
  else s.putDram d (Memory.getBytes s.mram o k)

/-- A copy that ends before its time has moved a part of its range; how much is left open. -/
def State.copyCut (s : State) : State :=
  if s.flag F.MRM_STATUS_BUSY then
    let (x, t) := s.drawWord
    t.copyPart (64 * (x.toNat % (t.get F.MRM_LEN + 1)))
  else s

/-- MRAM_COPY_DONE (R358): the copy's data has moved, its held word last. The bursts `bad` of the range that could not be
read correctly are copied as read. Under FREEZE the copy waits (R364). A copy whose DRAM range has been muzzled meanwhile, or whose requester is fenced (R365),
ends where it was and sets ERR. -/
def execMramCopyDone (bad : List Nat) (s : State) : Out :=
  .next (
    if s.flag F.MRM_STATUS_BUSY && s.coreUp then
      let (d, o, n) := s.mrmRange
      let out := s.flag F.MRM_CTL_DIR
      if s.touchesMuzzledPc d n || bit s.fences 40 then
        ((s.copyCut.set F.MRM_STATUS_BUSY 0).set F.MRM_STATUS_DONE 1).set F.MRM_STATUS_ERR 1
      else if s.frozen then s
      else
        let t := (s.set F.MRM_STATUS_BUSY 0).set F.MRM_STATUS_DONE 1
        let t := if out then t.putMram o (t.dramBytes d n) else t.putDram d (Memory.getBytes t.mram o n)
        t.forEach (bad.filter (fun i => decide (64 * i < n))) (fun i u =>
          let u := u.set F.MRM_STATUS_ERR 1
          if out then u.dramUe (d + 64 * i) else u.raiseOnce F.MRM_STATUS_UE_SEEN 0x142 cMEMORY 0x01 (o / 64 + i))
    else s)

/-- PATROL_SCRUB (R373): the scrub finds an error in the 64-byte unit at `addr` (in units of 64 bytes):
corrected and counted, or uncorrectable. -/
def execPatrolScrub (mram : Bool) (addr : Nat) (uncorrectable : Bool) (s : State) : Out :=
  .next (
    if !s.coreUp then s
    else if mram then
      if uncorrectable then s.raiseOnce F.MRM_STATUS_UE_SEEN 0x142 cMEMORY 0x01 (addr % 2 ^ 20) else s.bump F.MRM_CE_CNT
    else
      let a := 64 * (addr % 2 ^ 29)
      if uncorrectable then s.dramUe a else s.bump (F.DRM_CE_CNT (s.dramPc a / 16)))

end Sys2Proof.Machine
end

