-- ==== Sys2Proof/Machine/Clock.lean ====
section
/-! DEFINITION. Clocks and crossings (14_clocks_and_crossings.md): the reference and PLL monitors and the reset
groups. -/

namespace Sys2Proof.Machine

/-- REF_LOST (R380, R393): no REFCLK edge for 1 µs. -/
def execRefLost (s : State) : Out :=
  .next ((s.set F.CLK_STATUS_REF_OK 0).raiseOnce F.CLK_STATUS_REF_LOST_SEEN 0x003 cTIMING 0x01 0)

/-- REFCLK_RETURN (R380): the keepalive PLL has its reference again. -/
def execRefclkReturn (s : State) : Out := .next (s.set F.CLK_STATUS_REF_OK 1)

/-- ROOT_UNLOCK (R380, R393): every domain the root PLL feeds stops. -/
def execRootUnlock (s : State) : Out :=
  .next (((s.set F.CLK_STATUS_ROOT_LOCK 0).coreStop).raiseOnce F.CLK_STATUS_UNLOCK_SEEN 0x003 cTIMING 0x02 0)

/-- DRM_UNLOCK (R380): stack d takes no transaction. -/
def execDrmUnlock (d : Fin 2) (s : State) : Out :=
  .next ((s.set ⟨R.CLK_STATUS, 2 + d, 1⟩ 0).raiseOnce F.CLK_STATUS_UNLOCK_SEEN 0x003 cTIMING 0x03 d)

/-- DRM_PLL_RELOCK (R380). -/
def execDrmPllRelock (d : Fin 2) (s : State) : Out := .next (s.set ⟨R.CLK_STATUS, 2 + d, 1⟩ 1)

/-- HKO_RANGE (R380): the 1 ms comparison measures HKO in kHz; outside 50 MHz ± 10 % it is reported. -/
def execHkoRange (khz : Nat) (s : State) : Out :=
  .next (
    if 45000 ≤ khz ∧ khz ≤ 55000 then s.set F.CLK_STATUS_HKO_OK 1
    else (s.set F.CLK_STATUS_HKO_OK 0).raiseOnce F.CLK_STATUS_HKO_RANGE 0x003 cTIMING 0x04 khz)

/-! ## Reset groups (R388 to R392) -/

/-- A reset of group g restarts the write pointers of its receive FIFOs: each lane that has run since the reset before
sees a pointer jump, which is not raised while the group is muzzled (R386, R389, R392). The other groups have LEVEL and
PULSE crossings alone, whose destinations keep their last values. -/
def State.grpFlush (s : State) (g : Nat) : State :=
  if 2 < g then s
  else
    let p := Tab.get {} s.ports g
    let t : State := { s with ports := Tab.put {} s.ports g { p with ran := 0 } }
    if bit (s.get F.CLK_GRP_CTL_MUZZLE) g then t
    else t.forEach ((List.range 4).filter (fun i => bit p.ran i)) (fun i u =>
      if g < 2 then u.crossJump 9 (4 * g + i) else u.crossJump 11 i)

/-- Group g resets by the host procedure: IN_RESET for 1 µs; a group without its clock discards the
entries it holds, whose number is left open; the TAP returns to IDCODE. Where the same write clears MUZZLE, the FIFO
crossings report the jump (R386). -/
def State.grpReset (s : State) (g : Nat) : State :=
  let t := s.set ⟨R.CLK_GRP_STATUS, 8 + g, 1⟩ 1
  let t := (if g = 5 then { t with tapIr := none } else t).grpFlush g
  if bit (s.get F.CLK_GRP_STATUS_CLOCK_PRESENT) g then t
  else
    let (x, t) := t.drawWord
    t.bumpBy F.CLK_FLUSH_CNT (x.toNat % 65)

/-- A write of CLK_GRP_CTL (R391, R392, R394). -/
def writeGrpCtl (v : Nat) (s : State) : Res :=
  let gs := (List.range 6).filter (fun g => bit v (16 + g))
  if gs.all (fun g => bit (s.get F.CLK_GRP_CTL_MUZZLE) g && bit (s.get F.CLK_GRP_STATUS_DRAINED) g) then
    .ok (((s.store R.CLK_GRP_CTL v).grpDrain).forEach gs (fun g t => t.grpReset g))
  else .error .badState

/-- The word that writes FREEZE, MUZZLE and RESET. -/
def grpWord (f m r : Nat) : Nat := f % 64 + m % 64 * 2 ^ 8 + r % 64 * 2 ^ 16

/-- GROUP_FREEZE (R391): FREEZE is written, MUZZLE stays. -/
def execGroupFreeze (_ : Origin) (value : BitVec 6) (s : State) : Out :=
  .next (s.respond (writeGrpCtl (grpWord value.toNat (s.get F.CLK_GRP_CTL_MUZZLE) 0) s))

/-- GROUP_MUZZLE (R391): MUZZLE is written, FREEZE stays. -/
def execGroupMuzzle (_ : Origin) (value : BitVec 6) (s : State) : Out :=
  .next (s.respond (writeGrpCtl (grpWord (s.get F.CLK_GRP_CTL_FREEZE) value.toNat 0) s))

/-- GROUP_RESET (R392): RESET bits are written, FREEZE and MUZZLE stay. -/
def execGroupReset (_ : Origin) (value : BitVec 6) (s : State) : Out :=
  .next (s.respond (writeGrpCtl (grpWord (s.get F.CLK_GRP_CTL_FREEZE) (s.get F.CLK_GRP_CTL_MUZZLE) value.toNat) s))

/-- GROUP_RESET_END (R391): 1 µs of HKO has passed. -/
def execGroupResetEnd (g : Fin 6) (s : State) : Out := .next (s.set ⟨R.CLK_GRP_STATUS, 8 + g, 1⟩ 0)

end Sys2Proof.Machine
end

