-- ==== Sys2Proof/Machine/Thermal.lean ====
section
/-! DEFINITION. Temperature sensing, the cross-check, the thresholds and the drift correction they drive,
the DRAM temperatures, and the losses of a PFE die or a rail (R106, R417 to R424, R491). -/

namespace Sys2Proof.Machine

/-! ## The cross-check (R420) -/

/-- Is diode i not broken? -/
def State.diodeOk (s : State) (i : Nat) : Bool := !bit (s.get F.HK_STATUS_BROKEN) i

/-- The latest reading of diode i, 1/16 °C. -/
def State.diode (s : State) (i : Nat) : Int := s.getI (F.HK_TEMP_READING i)

/-- The working neighbours of diode i. -/
def State.neighbours (s : State) (i : Nat) : List Nat :=
  (if i = 4 then [0, 1, 2, 3] else [4, (i + 1) % 4, (i + 3) % 4]).filter (fun j => s.diodeOk j)

/-- The residual of diode i as numerator over the number of its working neighbours; none without any. -/
def State.residual (s : State) (i : Nat) : Option (Int × Nat) :=
  match s.neighbours i with
  | [] => none
  | l =>
    let n : Int := l.length
    some (n * s.diode i - (l.map s.diode).foldl (· + ·) 0 - n * s.getI (F.HK_GRAD i), l.length)

/-- Is the residual of diode i the largest of any working diode? -/
def State.largestResidual (s : State) (i : Nat) : Bool :=
  match s.residual i with
  | none => false
  | some (a, n) =>
    (List.range 5).all (fun j => !s.diodeOk j || (match s.residual j with
      | none => true
      | some (b, m) => decide (b.natAbs * n ≤ a.natAbs * m)))

/-- Diode i is broken. -/
def State.breakDiode (s : State) (i : Nat) : State :=
  s.raiseOnce ⟨R.HK_STATUS, i, 1⟩ 0x001 cTHERMAL 0x05 i

/-- The cross-check of a new reading of diode i. -/
def State.crossCheck (s : State) (i : Nat) : State :=
  if s.flag F.HK_CTL_XCHECK_EN = false ∨ s.diodeOk i = false then { s with hkMiss := Tab.put 0 s.hkMiss i 0 }
  else if s.diode i < -55 * 16 ∨ 150 * 16 < s.diode i then s.breakDiode i
  else
    match s.residual i with
    | none => { s with hkMiss := Tab.put 0 s.hkMiss i 0 }
    | some (a, n) =>
      let k := if 15 * 16 * n < a.natAbs then Tab.get 0 s.hkMiss i + 1 else 0
      let t : State := { s with hkMiss := Tab.put 0 s.hkMiss i k }
      if 3 ≤ k ∧ s.largestResidual i = true then t.breakDiode i else t

/-- The highest latest reading of a list of diodes. -/
def State.hottest (s : State) (l : List Nat) : Option Int :=
  match l.map s.diode with
  | [] => none
  | x :: xs => some (xs.foldl max x)

/-- The effective temperatures: a working diode's reading; for a broken one the hottest working neighbour, or
any working diode, plus 5 °C; with none working the last value stays. -/
def State.effective (s : State) : State :=
  let t := s.forEach (List.range 5) (fun i t =>
    if s.diodeOk i then t.setI (F.HK_TEMP_EFFECTIVE i) (s.diode i)
    else match s.hottest (s.neighbours i), s.hottest ((List.range 5).filter (fun j => s.diodeOk j)) with
      | some v, _ => t.setI (F.HK_TEMP_EFFECTIVE i) (v + 80)
      | none, some v => t.setI (F.HK_TEMP_EFFECTIVE i) (v + 80)
      | none, none => t)
  if (List.range 5).any (fun j => s.diodeOk j) || s.flag F.HK_STATUS_NO_DIODE then t
  else (t.set F.HK_STATUS_NO_DIODE 1).raise 0x001 cTHERMAL 0x03 (4 + unsigned 16 (t.dieTemp 4) * 2 ^ 16)

/-! ## Thresholds (R423) -/

/-- The thresholds in °C, in the order of kinds 1 to 4. -/
def dieLimits : List Int := [100, 110, 115, 125]

/-- One threshold of die i: taken at the first reading at or above it, re-armed 3 °C below. -/
def State.dieLimit (s : State) (i k : Nat) : State :=
  let v := s.dieTemp i
  let lim := dieLimits.getD k 0
  let m := Tab.get 0 s.hkFired i
  if 16 * lim ≤ v ∧ bit m k = false then
    ({ s with hkFired := Tab.put 0 s.hkFired i (m + 2 ^ k) } : State).raise 0x001 cTHERMAL (k + 1) (i + unsigned 16 v * 2 ^ 16)
  else if v < 16 * (lim - 3) then { s with hkFired := Tab.put 0 s.hkFired i (setBits m k 1 0) }
  else s

/-- The thresholds of every die, the bits that show them, and the highest temperatures. -/
def State.thresholds (s : State) : State :=
  let t := s.forEach (List.range 5) (fun i u => u.forEach (List.range 4) (fun k x => x.dieLimit i k))
  let any (lim : Int) : Bool := (List.range 5).any (fun i => decide (16 * lim ≤ t.dieTemp i))
  let t := ((t.setB F.HK_STATUS_WARN_ACTIVE (any 100)).setB F.HK_STATUS_STOP_ACTIVE (any 115)).setB F.HK_STATUS_DEFER
    ((List.range 5).any (fun i => bit (Tab.get 0 t.hkFired i) 1))
  let t := if any 125 then t.set F.HK_STATUS_TRIP 1 else t
  let top := (List.range 5).foldl (fun m i => max m (t.dieTemp i)) (t.dieTemp 0)
  ((t.setI F.HK_TMAX_TMAX top).setI F.HK_TMAX_PEAK (max top (t.getI F.HK_TMAX_PEAK))).deferNote

/-- THERM_TRIP_N: low from the TEMP_TRIP of a die until VAUX is removed, with which it is released (R412, R423, R490). -/
def State.thermTripN (s : State) : Bool := !s.vaux || !(s.flag F.HK_STATUS_TRIP || s.tripped)

/-! ## Drift (R106) -/

/-- A new temperature of pack p's die: DRIFT_CORR with new targets, and the alarm beyond 10 °C. -/
def State.driftPack (s : State) (p : Nat) : State :=
  let d := s.dieTemp (p / 4) - s.getI (F.TIM_ALIGN_TEMP_TEMP_AT_ALIGN p)
  let t := if s.flag (F.TIM_CTL_DRIFT_EN p) then
      (s.setI (F.TIM_ALIGN_TEMP_DRIFT_CORR p) (roundAway (s.getI (F.TIM_DRIFT_COEF p) * d) 800)).setTargets p
    else s
  if 160 < d.natAbs then
    (t.set (F.TIM_STATUS_STALE p) 1).raiseOnce (F.TIM_STATUS_DRIFT_ALARM p) (packSrc p 1) cTIMING 0x03 (32 * p)
  else t

/-- A reading of diode i joins the last 64 of its offsets from its neighbours, which GRAD is calibrated from (R428). -/
def State.gradNote (s : State) (i : Nat) : State :=
  match s.residual i with
  | none => s
  | some (a, n) =>
    { s with gradHist := Tab.put [] s.gradHist i (12 / (n : Int) * (a + n * s.getI (F.HK_GRAD i)) :: (Tab.get [] s.gradHist i).take 63) }

/-- A reading of diode i (R418 to R420, R423): stored, checked, and acted on for its die and for every broken
die, whose temperature it may cover. -/
def State.diodeRead (s : State) (i v : Nat) : State :=
  let t := ((((s.set (F.HK_TEMP_READING i) v).gradNote i).crossCheck i).effective).thresholds
  t.forEach ((List.range 4).filter (fun k => k == i || !t.diodeOk k)) (fun k u =>
    u.forEach (List.range 4) (fun j x => x.driftPack (4 * k + j)))

/-- DIODE_READING (R418): a native reading. A TRIPPED device senses no temperature (R416). -/
def execDiodeReading (i : Fin 5) (t : BitVec 16) (s : State) : Out :=
  .next (if s.hkCompat || s.tripped then s else s.diodeRead i t.toNat)

/-! ## DRAM temperatures (R422) -/

/-- One threshold of stack d: kind, limit in °C and HK_STATUS bit. -/
def State.stackLimit (s : State) (d kind : Nat) (lim : Int) (b : Nat) : State :=
  let v := s.getI (F.DRM_STATUS_TEMP d)
  let m := Tab.get 0 s.hkFired (8 + d)
  let t := if lim ≤ v ∧ bit m kind = false then
      ({ s with hkFired := Tab.put 0 s.hkFired (8 + d) (m + 2 ^ kind) } : State).raise 0x001 cTHERMAL kind
        (d + unsigned 16 v * 2 ^ 16)
    else if v < lim - 3 then { s with hkFired := Tab.put 0 s.hkFired (8 + d) (setBits m kind 1 0) }
    else s
  t.setB ⟨R.HK_STATUS, b + d, 1⟩ (decide (lim ≤ v))

/-- A reading of stack d. -/
def State.stackRead (s : State) (d v : Nat) : State :=
  ((s.set (F.DRM_STATUS_TEMP d) v).stackLimit d 6 95 10).stackLimit d 7 105 12

/-- DRAM_TEMP_READING (R422). -/
def execDramTempReading (d : Fin 2) (t : BitVec 8) (s : State) : Out :=
  .next (if s.hkCompat || s.tripped then s else s.stackRead d t.toNat)

/-- HK_ROUND_READING (R419): the round converts its next channel; rails and spare channels leave no
register. COMPAT takes effect at the end of a round. -/
def execHkRoundReading (v : BitVec 16) (s : State) : Out :=
  .next (
    if !s.tripped && (s.flag F.HK_CTL_COMPAT || s.hkCompat) then
      let ch := s.hkRound
      let t := if ch < 5 then s.diodeRead ch v.toNat
        else if ch = 14 ∨ ch = 15 then s.stackRead (ch - 14) v.toNat
        else s
      { t with hkRound := (ch + 1) % 64, hkCompat := ch != 63 || s.flag F.HK_CTL_COMPAT }
    else s)

/-! ## Losses (R417, R424, R491) -/

/-- A PFE die ramps a PSM output by itself. -/
def State.psmDieRamp (s : State) (n : Nat) : State :=
  match (s.psm n).stage with
  | 0 => s
  | 3 => (s.set (F.PSM_CTL_MODE n) 0).psmOpen n
  | m =>
    let t := if m = 2 then s.psmToFv n else s
    (t.setPsm n { t.psm n with ramp := .safe }).set (F.PSM_STATUS_SAFE_RAMP n) 1

/-- PFE_INTERFACE_STOP (R417): the die holds its drivers at high impedance with loads off and ramps its PSMs. -/
def execPfeInterfaceStop (k : Fin 4) (s : State) : Out :=
  .next ((s.forEach (List.range 128) (fun c t =>
      t.letGo (128 * (k : Nat) + c))).forEach (List.range 24) (fun j t => t.psmDieRamp (24 * k + j)))

/-- PFE_LOST (R424): once while the die counts as available. -/
def execPfeLost (k : Fin 4) (s : State) : Out :=
  .next (if bit (s.get F.GLB_AVAIL_PFE_AVAIL) k then s.raise (0x004 + k) cDATA 0x01 k else s)

/-- RAIL_UV (R424, R491): VDD_CORE, rail 0, takes the core with it (R417). -/
def execRailUv (rail : Fin 9) (s : State) : Out :=
  .next (
    let t := s.raise 0x002 cANALOG 0x01 rail
    if (rail : Nat) = 0 then t.coreStop else t)

end Sys2Proof.Machine
end

