-- ==== Sys2Proof/Machine/Port.lean ====
section
/-! DEFINITION. The ports (11_glouri_link_and_commands.md): training and retraining, packets and their retry,
credits, the egress slot tables, and what each sends (R282 to R294, R309 to R317). -/

namespace Sys2Proof.Machine

/-! ## Ports -/

/-- Port x: 0 A, 1 B, 2 the twin link. -/
def State.port (s : State) (x : Nat) : PortState := Tab.get {} s.ports x

/-- Replace the hidden state of a port. -/
def State.setPort (s : State) (x : Nat) (p : PortState) : State := { s with ports := Tab.put {} s.ports x p }

/-- STATE of a port (R318); the twin link is UP or DOWN as LINK_UP shows. -/
def State.portMode (s : State) (x : Nat) : Nat :=
  if x < 2 then s.get (F.LNK_STATUS_STATE x) else if s.flag F.TWN_STATUS_LINK_UP then 2 else 0

/-- Do packets flow on a port? -/
def State.portOpen (s : State) (x : Nat) : Bool := s.portMode x == 2 || s.portMode x == 3

/-- The fault source of a port: 0x160, 0x161, and the twin link's 0x163. -/
def portSrc (x : Nat) : Nat := if x < 2 then 0x160 + x else 0x163

/-- The number of a link lane in the muzzle scheme: 4 × port + lane (R413). -/
def laneNumber (x i : Nat) : Nat := 4 * x + i

/-- The reset group of a port's receive lanes. -/
def portGroup (x : Nat) : Nat := x

/-- Does a port run lane 0 alone: in Rest, and from the keepalive PLL (R315, R382)? -/
def State.oneLane (s : State) : Bool := s.get F.GLB_REST_STATE == 2 || s.slowLink

/-! ## Packets (R286, R293) -/

/-- A header: opcode, device, session, tag, LENGTH, type and the type's own bits. -/
def packHeader (op dev ses tag len type low : Nat) : Nat :=
  low % 2 ^ 20 + type % 8 * 2 ^ 20 + len % 2 ^ 12 * 2 ^ 23 + tag % 2 ^ 14 * 2 ^ 35 + ses % 4 * 2 ^ 49
    + dev % 32 * 2 ^ 51 + op % 256 * 2 ^ 56

/-- The words of a packet: header, payload, CRC-32C trailer. -/
def packWords (header : Nat) (payload : List Nat) : List Nat :=
  let l := header % 2 ^ 32 :: header / 2 ^ 32 :: payload
  l ++ [crcWords l]

/-- The units a packet of n words (header, payload and trailer) occupies (R289). -/
def packUnits (n : Nat) : Nat := (4 * n + 63) / 64

/-! ## Training (R283, R284) -/

/-- A port starts its training at step 1, which resets the group of its receive lanes (R388). -/
def State.portTrain (s : State) (x : Nat) : State :=
  if x < 2 then
    let t := ((s.set (F.LNK_STATUS_STATE x) 1).set (F.LNK_STATUS_RATE x) 0).set (F.LNK_STATUS_LANES_UP x) 0
    ((t.bump (F.LNK_RETRAIN_CNT x)).setPort x { t.port x with resends := 0 }).grpFlush (portGroup x)
  else (s.set F.TWN_STATUS_LINK_UP 0).setPort x { s.port x with resends := 0 }

/-- A port retrains (R284); packets and commands in flight stay. A port that is DOWN trains by its own
repetition. -/
def State.portRetrain (s : State) (x : Nat) : State := if s.portOpen x then s.portTrain x else s

/-- The lanes of a port that may take part: enabled and not muzzled. -/
def State.portLanes (s : State) (x : Nat) : Nat :=
  let en := if x < 2 then s.get (F.LNK_CTL_LANE_EN x) else 3
  maskOf ((List.range 4).filter (fun i => bit en i && !s.muzzledSelf (.linkLane (laneNumber x i))))

/-- The lanes that step 3 chooses from the usable ones. -/
def widthChoice (usable : Nat) : Nat :=
  if usable % 16 = 15 then 15
  else if usable % 4 = 3 then 3
  else if bits usable 2 2 = 3 then 12
  else match (List.range 4).find? (fun i => bit usable i) with
    | some i => 2 ^ i
    | none => 0

/-- The number of lanes in a mask. -/
def laneCount (m : Nat) : Nat := popcount m 4

/-- FRESH from either side (R288): SEQ starts anew and the replay buffer empties; what was discarded is
counted and reported. A DMA_READ whose last packet is discarded ends with PARTIAL. -/
def State.portFresh (s : State) (x : Nat) : State :=
  let p := s.port x
  let n := p.replay.length
  let t := s.setPort x { p with
    fresh := false
    txSeq := 0
    rxSeq := 0
    replay := []
    resends := 0
    gap := false
    owed := 0 }
  let t := t.forEach p.replay (fun (e : Sent) u => match e.kind with
    | .dma h => u.done h .partialDone
    | .mirror => { u with mirrorQ := u.mirrorQ.map (fun m => { m with off := 0, sent := false }) }
    | _ => u)
  if x < 2 ∧ 0 < n then (t.bumpBy (F.LNK_DISCARD_CNT x) n).raiseOnce (F.LNK_STATUS_DISCARDED x) (portSrc x) cLINK 3 n else t

/-- The first port UP after a warm start sets the leashes running at full length (R298, R348). -/
def State.leashThaw (s : State) : State :=
  if s.leashFrozen then
    ({ s with leashFrozen := false } : State).forEach (List.range 64) (fun r t =>
      let n := Tab.get 0 t.leashLen r % 2 ^ 16
      if t.flag (F.SHP_LOCK_HELD r) then
        ({ t with leashLen := Tab.put 0 t.leashLen r n } : State).set (F.SHP_LOCK_REMAIN_MS r) n
      else t)
  else s

/-- The registers of a trained port A or B: state, rate and lanes; in Rest, and while the lanes run from the
keepalive PLL, lane 0 at 1.6 Gb/s (R315, R382). A port that came up narrower than before sends
LANE_DEGRADED. -/
def State.portUp (s : State) (x : Nat) (t : TrainInfo) : State :=
  let rest := decide (s.get F.GLB_REST_STATE = 2)
  let one := s.oneLane
  let lanes := widthChoice (s.portLanes x &&& t.lanes.toNat &&& (if one then 1 else 15))
  let u := (((s.set (F.LNK_STATUS_STATE x) (if rest then 3 else 2)).set (F.LNK_STATUS_RATE x)
    (if one then 0 else min (s.get (F.LNK_CTL_MAX_RATE x)) t.maxRate.toNat)).set (F.LNK_STATUS_LANES_UP x) lanes).set
    (F.LNK_STATUS_PARTNER x) t.node.toNat
  let w := laneCount lanes
  let old := (s.port x).width
  let u := if !one && decide (w < old) then u.notice (portSrc x) 2 (x + w * 2) else u
  if one then u else u.setPort x { u.port x with width := w }

/-! ## Retry (R287, R289) -/

/-- Is a packet an EMERGENCY_SAFE or its completion: opcode 0x8F in its header's second word? -/
def sentSafe (words : List Nat) : Bool := bits (words.getD 1 0) 24 8 == 0x8F

/-- A port's sender resends everything unacknowledged; the eighth time without an ACK advancing is the
replay limit. Keepalive lanes carry EMERGENCY_SAFE and its completion alone, and silent lanes nothing (R382). -/
def State.portResend (s : State) (x : Nat) : State :=
  let p := s.port x
  let l := if s.slowLink then p.replay.filter (fun e => sentSafe e.words) else p.replay
  if l.isEmpty || s.lanesSilent then s
  else
    let t := s.setPort x { p with resends := p.resends + 1 }
    let t := if x < 2 then t.bumpBy (F.LNK_REPLAY_CNT x) l.length else t
    if p.resends + 1 < 8 then t
    else
      let t := if x < 2 then t.raiseOnce (F.LNK_STATUS_RETRAINED x) (portSrc x) cLINK 4 0 else t
      t.portTrain x

/-- A packet leaves: it takes the next SEQ, its units, and a place in the replay buffer. -/
def State.portSend (s : State) (x : Nat) (rsp : Bool) (words : List Nat) (kind : SentKind) : State :=
  let p := s.port x
  let n := packUnits words.length
  s.setPort x { p with
    txSeq := (p.txSeq + 1) % 4096
    replay := p.replay ++ [⟨p.txSeq, rsp, words, kind⟩]
    cmdUnits := if rsp then p.cmdUnits else p.cmdUnits - n
    rspUnits := if rsp then p.rspUnits - n else p.rspUnits }

/-- An EMERGENCY_SAFE leaves: the partner keeps a buffer outside both pools for it, so it takes no units (R289, R316). -/
def State.portSendSafe (s : State) (x : Nat) (words : List Nat) : State :=
  let p := s.port x
  s.setPort x { p with
    emergency := none
    txSeq := (p.txSeq + 1) % 4096
    replay := p.replay ++ [⟨p.txSeq, false, words, .plain⟩] }

/-- Has the replay buffer, of 256 KiB and 1,024 packets, a place for a packet of n words (R287)? -/
def State.replayRoom (s : State) (x n : Nat) : Bool :=
  let p := s.port x
  decide (p.replay.length < 1024)
    && decide (4 * (p.replay.foldl (fun (m : Nat) (e : Sent) => m + e.words.length) 0 + n) ≤ 262144)

/-- May a packet of n words start: a place in the replay buffer, and units granted? -/
def State.portRoom (s : State) (x : Nat) (rsp : Bool) (n : Nat) : Bool :=
  let p := s.port x
  s.replayRoom x n && decide (packUnits n ≤ (if rsp then p.rspUnits else p.cmdUnits))

/-- Units of a pool are free again and will be returned in a CREDIT block. -/
def State.portFree (s : State) (x : Nat) (rsp : Bool) (n : Nat) : State :=
  let p := s.port x
  s.setPort x { p with
    cmdBack := if rsp then p.cmdBack else p.cmdBack + packUnits n
    rspBack := if rsp then p.rspBack + packUnits n else p.rspBack }

/-! ## Traffic of the device's own (R294, R299, R309, R311 to R314, R462) -/

/-- The port a packet bound for `x` leaves by: the other one while x is DOWN. -/
def State.orOther (s : State) (x : Nat) : Nat := if s.portMode x = 0 then 1 - x else x

/-- The port of a Bool. -/
def portOf (b : Bool) : Nat := if b then 1 else 0

/-- A packet ready to be sent: its words, what its acknowledgement brings, and the state once it has left. -/
structure Ready where
  words : List Nat
  kind : SentKind
  after : State
deriving Repr

/-- The words of a completion. -/
def State.replyWords (s : State) (r : Reply) : List Nat :=
  packWords (packHeader r.opcode s.devId r.session r.tag r.payload.length 1 (r.status.code + r.detail % 2 ^ 12 * 2 ^ 8))
    (r.payload.map (·.toNat))

/-- The next completion of a class for port x. -/
def State.readyReply (s : State) (x : Nat) (ae : Bool) : Option Ready :=
  match s.replies.find? (fun r => r.ae == ae && s.orOther (portOf r.port) == x) with
  | none => none
  | some r => some ⟨s.replyWords r, .plain, { s with replies := s.replies.erase r }⟩

/-- The completion of an EMERGENCY_SAFE for port x, sent ahead of the table (R312). -/
def State.readyEmergency (s : State) (x : Nat) : Option Ready :=
  match s.replies.find? (fun r => r.opcode == 0x8F && s.orOther (portOf r.port) == x) with
  | none => none
  | some r => some ⟨s.replyWords r, .plain, { s with replies := s.replies.erase r }⟩

/-- Does burst i of a DMA_READ have the muzzle response: of a pseudo-channel, or of its fenced requester (R308, R361,
R365)? -/
def State.dmaShut (s : State) (j : DmaJob) (i : Nat) : Bool :=
  bit s.fences (41 + portOf j.hdr.port) || s.touchesMuzzledPc (j.addr + 64 * i) 64

/-- The next DATA packet for port x (R309): up to 255 units, none under FREEZE (R364). A muzzle met on the way ends the
command at the burst concerned. -/
def State.readyData (s : State) (x : Nat) : Option Ready :=
  if s.frozen then none else
  match s.dmaJobs.find? (fun j => s.orOther (portOf j.hdr.port) == x) with
  | none => none
  | some j =>
    let n := min 255 (j.units - j.next)
    let ok := ((List.range n).takeWhile (fun i => !s.dmaShut j (j.next + i))).length
    let rest := s.dmaJobs.erase j
    if ok < n then
      let t := ({ s with dmaJobs := rest } : State).done j.hdr .muzzled
      if ok = 0 then none
      else some ⟨packWords (packHeader 0x13 s.devId j.hdr.session.toNat j.hdr.tag.toNat (1 + 16 * ok) 5 0)
        (j.next :: (s.dramWords (j.addr + 64 * j.next) (16 * ok)).map (·.toNat)), .plain, t⟩
    else
      let last := decide (j.next + n = j.units)
      some ⟨packWords (packHeader 0x13 s.devId j.hdr.session.toNat j.hdr.tag.toNat (1 + 16 * n) 5 0)
          (j.next :: (s.dramWords (j.addr + 64 * j.next) (16 * n)).map (·.toNat)),
        if last then .dma j.hdr else .plain,
        { s with dmaJobs := if last then rest else s.dmaJobs.map (fun k => if k = j then { j with next := j.next + n } else k) }⟩

/-- DMA_READ commands whose next burst has the muzzle response end with MUZZLED (R308, R365). -/
def State.dmaStuck (s : State) (x : Nat) : State :=
  s.forEach (s.dmaJobs.filter (fun j => s.orOther (portOf j.hdr.port) == x
      && s.dmaShut j j.next)) (fun j t =>
    ({ t with dmaJobs := t.dmaJobs.erase j } : State).done j.hdr .muzzled)

/-- The next EVENT packet for port x (R313, R314). -/
def State.readyEvent (s : State) (x : Nat) : Option Ready :=
  if s.flag F.LNK_EVT_CFG_EVENT_EN ∧ s.orOther (s.get F.LNK_EVT_CFG_EVENT_PORT) = x then
    match s.events with
    | [] => none
    | e :: es =>
      some ⟨packWords (packHeader 0 s.devId (s.get F.LNK_EVT_CFG_EVENT_SESSION) (s.evtSeq % 16384) 6 2 0)
          (e.map (·.toNat) ++ [s.evtLost]), .plain,
        { s with events := es, evtSeq := s.evtSeq + 1, evtLost := 0 }⟩
  else none

/-- The ring index of the next record pack p streams: behind the packets under way. -/
def State.streamNext (s : State) (p : Nat) : Nat :=
  (List.range 2).foldl (fun m x => (s.port x).replay.foldl (fun m e => match e.kind with
    | .stream q i => if q = p then max m i else m
    | _ => m) m) (s.rd64 (R.CAP_RD_LO p))

/-- The next STREAM packet of pack p for port x (R177, R294): up to 128 records. -/
def State.readyStream (s : State) (x p : Nat) : Option Ready :=
  if s.flag (F.CAP_CTL_STREAM_EN p) && s.ringOn p && s.get (F.CAP_CTL_STREAM_PORT p) == x && s.portMode x == 2
      && !s.frozen && !s.touchesMuzzledPc (64 * s.get (F.CAP_RING_BASE p)) (32 * s.ringCap p) then
    let i := s.streamNext p
    let n := min 128 (s.rd64 (R.CAP_WR_LO p) - i)
    if n = 0 then none
    else
      let recs := (List.range n).flatMap (fun k =>
        (s.dramWords (64 * s.get (F.CAP_RING_BASE p) + 32 * ((i + k) % s.ringCap p)) 8).map (·.toNat))
      let q := Tab.get 0 s.strSeq p
      some ⟨packWords (packHeader p s.devId 0 q (2 + 8 * n) 3 0) (i % 2 ^ 32 :: i / 2 ^ 32 % 2 ^ 32 :: recs), .stream p (i + n),
        { s with strSeq := Tab.put 0 s.strSeq p ((q + 1) % 16384) }⟩
  else none

/-- The offset of the newest datalog checkpoint in MRAM, if one is valid (R456). -/
def State.dlogSlot (s : State) : Option Nat := (s.newestSlot 0xF00000 0x400000 0x444C4731 0x5EA1ED08).map (·.2)

/-- The words of a mirror item from byte `off` on, at most 4,000, and whether they end it; none when the item's
data cannot be read (R462). -/
def State.mirrorData (s : State) (m : MirrorItem) : Option (List Nat × Bool) :=
  let chunk (total : Nat) (f : Nat → Nat) : Option (List Nat × Bool) :=
    let n := min 4000 (total / 4 - m.off / 4)
    some ((List.range n).map (fun i => f (m.off + 4 * i)), decide (total ≤ m.off + 4 * n))
  match m.item with
  | 1 => some ((List.range 8).map (fun w => s.rd (R.SHP_SITE_CTL m.site + 4 * w)), true)
  | 2 =>
    let a := 64 * s.get (F.SHP_SITE_REPAIR m.site)
    if m.bad || s.touchesMuzzledPc a 64 || s.touchesMuzzledPc a (s.repairSize a) then none
    else chunk (s.repairSize a) (fun o => s.dramWord (a + o))
  | 3 =>
    match s.dlogSlot with
    | none => none
    | some b => chunk (s.recLength b) (fun o => s.mramNat (b + 64 + o) 4)
  | _ => some ([], true)

/-- May mirror items be sent by port x: not in Rest (R315), mirroring on, the twin paired, no fence, and the twin link, or the
fallback port while that link is not UP (R462, R463)? A HEARTBEAT needs no pairing. -/
def State.mirrorPort (s : State) (x : Nat) (item : Nat) : Bool :=
  !bit s.fences 43 && s.flag F.TWN_CTL_MIRROR_EN && s.get F.GLB_REST_STATE != 2
    && (item == 4 || s.get F.TWN_STATUS_STATE == 1)
    && (if s.flag F.TWN_STATUS_LINK_UP then x == 2 else x == s.get F.TWN_CTL_FALLBACK_PORT && s.portMode x == 2)

/-- A mirror item leaves the queue: TWIN_RESYNC commands that wait for it and those before it count it off, and
one with none left completes (R465). -/
def State.mirrorGone (s : State) (k : Nat) : State :=
  let left := s.resyncs.map (fun (r : CmdHdr × Nat) => if k < r.2 then (r.1, r.2 - 1) else r)
  let t : State := { s with
    mirrorQ := s.mirrorQ.eraseIdx k
    resyncs := left.filter (fun r => r.2 != 0) }
  t.forEach (left.filter (fun r => r.2 == 0)) (fun r u => u.done r.1 .ok)

/-- Mirror items that wait for port x and whose data cannot be read are not sent (R462): MIRROR_ERR names the
site; a datalog checkpoint that is no longer there names none. -/
def State.mirrorStuck (s : State) : State :=
  match s.mirrorQ.findIdx? (fun m => !m.sent && (s.mirrorData m).isNone), s.mirrorQ.find? (fun m => !m.sent && (s.mirrorData m).isNone) with
  | some k, some m =>
    if m.item = 3 then s.mirrorGone k
    else (s.mirrorGone k).raiseOnce F.TWN_STATUS_MIRROR_ERR 0x163 cMEMORY 4 m.site
  | _, _ => s

/-- The next MIRROR packet for port x: of the first item not yet sent. A repair record waits under FREEZE (R364). -/
def State.readyMirror (s : State) (x : Nat) : Option Ready :=
  match s.mirrorQ.find? (fun m => !m.sent) with
  | none => none
  | some m =>
    if s.mirrorPort x m.item && !(s.frozen && m.item == 2) then
      match s.mirrorData m with
      | none => none
      | some (d, last) =>
        some ⟨packWords (packHeader 0 s.devId 0 s.mirSeq (2 + d.length) 4 0) ((m.item + m.site * 2 ^ 4) :: m.off :: d),
          if last then .mirror else .plain,
          { s with
            mirSeq := (s.mirSeq + 1) % 16384
            mirrorQ := s.mirrorQ.set (s.mirrorQ.findIdx (fun m => !m.sent)) { m with off := m.off + 4 * d.length, sent := last } }⟩
    else none

/-- The packet of a slot-table class that is ready for port x. In Rest no STREAM, MIRROR or DATA is sent
(R315). -/
def State.readyClass (s : State) (x cls : Nat) : Option Ready :=
  let rest := s.portMode x == 3
  let r :=
    if cls < 0x10 then (if rest then none else s.readyStream x cls)
    else if cls = 0x10 then
      match s.readyReply x false with
      | some r => some r
      | none => if rest then none else s.readyData x
    else if cls = 0x11 then s.readyEvent x
    else if cls = 0x12 then (if rest then none else s.readyMirror x)
    else if cls = 0x13 then s.readyReply x true
    else none
  r.filter (fun r => s.portRoom x true r.words.length)

/-- The class of entry i of port x's active table. -/
def State.slotClass (s : State) (x i : Nat) : Nat := bits (s.rd (slotAct x + i / 4 * 4)) (8 * (i % 4)) 5

/-- The packet that is ready at a slot goes out. -/
def State.sendSlot (s : State) (x : Nat) (r : Option Ready) : State :=
  match r with
  | some r => r.after.portSend x true r.words r.kind
  | none => s

/-- The walk goes on to the slot after slot i; a map write waits for the wrap of the table. -/
def State.leaveSlot (s : State) (x i : Nat) : State :=
  if i = 63 ∧ s.flag (slotPend x) = true then (s.setPort x { s.port x with slot := (i + 1) % 64 }).egressWrap x
  else s.setPort x { s.port x with slot := (i + 1) % 64 }

/-- What a slot of the walk does: the packet that is ready goes out, and the next slot follows. -/
def State.visitSlot (s : State) (x : Nat) (r : Option Ready) : State :=
  (s.sendSlot x r).leaveSlot x (s.port x).slot

/-- Visit entries from the port's next one, at most n: the first with a packet ready sends it. After entry 63
a pending swap takes effect (R311). -/
def State.visitSlots (s : State) (x : Nat) : Nat → State × Bool
  | 0 => (s, false)
  | n + 1 =>
    let r := s.readyClass x (s.slotClass x (s.port x).slot)
    if r.isSome then (s.visitSlot x r, true) else (s.visitSlot x r).visitSlots x n

/-- Is a packet of the device's own ready on port x? -/
def State.ownReady (s : State) (x : Nat) : Bool :=
  (List.range 64).any (fun i => (s.readyClass x (s.slotClass x i)).isSome)

/-- Send the forwarded packet at the head of a port's queue. -/
def State.sendForward (s : State) (x : Nat) : State :=
  let p := s.port x
  match p.fwd with
  | [] => s
  | (rsp, w) :: l =>
    let t := (s.setPort x { p with fwd := l }).portSend x rsp w .plain
    t.portFree (1 - x) rsp w.length

/-- An EMERGENCY_SAFE or its completion goes out ahead of all other traffic, when one waits and has its place (R287, R289,
R312, R316). -/
def State.readySafe (s : State) (x : Nat) : Option State :=
  match (s.port x).emergency.filter (fun w => s.replayRoom x w.length) with
  | some w => some (s.portSendSafe x w)
  | none => ((s.readyEmergency x).filter (fun r => s.portRoom x true r.words.length)).map
      (fun r => r.after.portSend x true r.words r.kind)

/-- One packet boundary of port A or B (R292, R312): an EMERGENCY_SAFE or its completion first; then
forwarded or own traffic by FWD_SHARE when both are ready. -/
def State.egress (s : State) (x : Nat) : State :=
  let p := s.port x
  match s.readySafe x with
  | some t => t
  | none =>
    let fwd := match p.fwd with
      | [] => false
      | (rsp, w) :: _ => s.portRoom x rsp w.length
    let own := s.ownReady x
    if fwd && own then
      let n := p.share + s.get (F.LNK_FWD x)
      let t := s.setPort x { p with share := n % 16 }
      if 16 ≤ n then t.sendForward x else (t.visitSlots x 64).1
    else if fwd then s.sendForward x
    else (s.visitSlots x 64).1

/-- EGRESS_SEND (R312): a packet boundary of a port. The twin link carries mirror items. While the lanes run
from the keepalive PLL only EMERGENCY_SAFE and its completion go (R382). -/
def execEgressSend (port : Fin 3) (s : State) : Out :=
  .next (
    let x := port.val
    if !s.portOpen x || s.lanesSilent then s
    else if s.slowLink then
      if x = 2 then s
      else (s.readySafe x).getD s
    else if x = 2 then
      let s := s.mirrorStuck
      match (s.readyMirror 2).filter (fun r => s.portRoom 2 true r.words.length) with
      | some r => r.after.portSend 2 true r.words r.kind
      | none => s
    else ((s.mirrorStuck).dmaStuck x).egress x)

/-! ## Acknowledgements (R177, R287, R289, R309) -/

/-- What an acknowledged packet brings. -/
def State.sentDone (s : State) (e : Sent) : State :=
  match e.kind with
  | .plain => s
  | .stream p i =>
    if s.rd64 (R.CAP_RD_LO p) < i ∧ i ≤ s.rd64 (R.CAP_WR_LO p) ∧ s.flag (F.CAP_CTL_STREAM_EN p) then
      (s.wr64 (R.CAP_RD_LO p) i).ringRefresh p
    else s
  | .mirror => s.mirrorGone 0
  | .dma h =>
    if s.ueHit.any (fun k => sameCmd k h) then
      ({ s with ueHit := s.ueHit.filter (fun k => !sameCmd k h) } : State).done h .internal
    else s.done h .ok

/-- ACK (R287): packets up to and including SEQ were received. A shut group delivers no block (R391). -/
def execAck (port : Fin 3) (seq : BitVec 12) (s : State) : Out :=
  .next (
    let x := port.val
    let p := s.port x
    match p.replay.findIdx? (fun e => e.seq == seq.toNat) with
    | none => s
    | some k =>
      if s.grpShut x then s else (s.setPort x { p with replay := p.replay.drop (k + 1), resends := 0 }).forEach (p.replay.take (k + 1))
        (fun e t => t.sentDone e))

/-- NAK (R287): every unacknowledged packet is resent from the oldest. -/
def execNak (port : Fin 3) (_ : BitVec 12) (s : State) : Out :=
  .next (if s.portOpen port && !s.grpShut port then s.portResend port else s)

/-- REPLAY_TIMEOUT (R287): 20 µs without an ACK advancing. -/
def execReplayTimeout (port : Fin 3) (s : State) : Out :=
  .next (if s.portOpen port then s.portResend port else s)

/-- CREDIT (R289). -/
def execCredit (port : Fin 3) (cmd rsp : Nat) (s : State) : Out :=
  .next (
    let p := s.port port
    if s.grpShut port then s
    else s.setPort port { p with cmdUnits := p.cmdUnits + cmd % 2 ^ 16, rspUnits := p.rspUnits + rsp % 2 ^ 16 })

/-- ACK_SEND_TIMER (R287, R289): ACK is sent, and the units freed are returned with it. -/
def execAckSendTimer (port : Fin 3) (s : State) : Out :=
  .next (
    if s.portOpen port && !s.lanesSilent then
      s.setPort port { s.port port with owed := 0, cmdBack := 0, rspBack := 0 }
    else s)

end Sys2Proof.Machine
end

