-- ==== Sys2Proof/Machine/Twin.lean ====
section
/-! DEFINITION. Checkpoints, the datalog and the twin (17_start_rest_twin_management.md, R454 to R456 and R460 to
R466). -/

namespace Sys2Proof.Machine

/-! ## Checkpoints (R454 to R456) -/

/-- The slots, MAGIC and commit word of the site-context checkpoint (R356, R370, R454). -/
def ctxBase : Nat := 0x700000
def ctxSize : Nat := 0x400000
def ctxMagic : Nat := 0x53434B31
def ctxCommit : Nat := 0x5EA1ED07

/-- Words 0 to 7 of every site context. -/
def State.ctxBody (s : State) : List Nat :=
  (List.range 1024).flatMap (fun i => (List.range 8).map (fun w => s.rd (R.SHP_SITE_CTL i + 4 * w)))

/-- The unconsumed datalog records that a checkpoint takes: how many older ones are left out, and the words. -/
def State.dlogBody (s : State) : Nat × List Nat :=
  let cap := s.get F.DLOG_SIZE * 2048
  let n := s.rd64 R.DLOG_WR_LO - s.rd64 R.DLOG_RD_LO
  let kept := min n 131040
  let first := s.rd64 R.DLOG_RD_LO + (n - kept)
  (n - kept, if cap = 0 then [] else (List.range kept).flatMap (fun i =>
    (s.dramWords (64 * s.get F.DLOG_BASE + 32 * ((first + i) % cap)) 8).map (·.toNat)))

/-- Write the site-context checkpoint and then the datalog checkpoint, each in its older slot; the datalog's is an
item for the twin (R454, R456, R462). While Shepherd is fenced it cannot read the datalog (R365), and a checkpoint stays
due. -/
def State.checkpoint (s : State) : State :=
  let (t, _) := s.slotWriteAs ctxBase ctxSize ctxMagic ctxCommit [] s.ctxBody
  let t : State := { t with
    ckptDue := false
    ctxChanged := false }
  if bit t.fences 40 then { t with ckptDue := true }
  else
  let (out, body) := t.dlogBody
  let (t, _) := t.slotWriteAs 0xF00000 0x400000 0x444C4731 0x5EA1ED08
    [t.rd R.DLOG_WR_LO, t.rd R.DLOG_WR_HI, t.rd R.DLOG_RD_LO, t.rd R.DLOG_RD_HI, out] body
  { t with
    mirrorQ := if t.flag F.TWN_CTL_MIRROR_EN = true then t.mirrorQ ++ [⟨3, 0, 0, false, false⟩] else t.mirrorQ }

/-- CHECKPOINT_TIMER (R454): the end of a run, or CKPT_MS after the first context change that follows the last
checkpoint. With an MRAM error the slot written stays invalid, and the checkpoint stays due; under FREEZE it waits (R364). -/
def execCheckpointTimer (ok : Bool) (s : State) : Out :=
  .next (
    if s.coreUp && ok && !s.frozen && (s.ckptDue || (s.ctxChanged && s.get F.GLB_CKPT != 0)) then s.checkpoint else s)

/-- CKPT_WRITE (R454, R466): OK when both checkpoints are committed; INTERNAL on an MRAM error and where Shepherd is fenced
(R365); under FREEZE it waits (R364). -/
def execCkptWrite (h : CmdHdr) (pl : List Word) (ok : Bool) (s : State) : Out :=
  .next (s.cmd 0x84 h pl (fun s =>
    if !ok then s.done h .internal
    else if s.frozen then s.cmdAgain h
    else s.checkpoint.done h (if bit s.fences 40 then .internal else .ok)))

/-- A write of DLOG_RD_HI: the staged index is committed (R455, R177). -/
def writeDlogRdHi (v : Nat) (s : State) : Res :=
  let x := s.dlogStage + v * 2 ^ 32
  if s.rd64 R.DLOG_RD_LO ≤ x ∧ x ≤ s.rd64 R.DLOG_WR_LO then .ok (s.wr64 R.DLOG_RD_LO x) else .error .badState

/-- DLOG_RD_HI (R455). -/
def execDlogRdHi (_ : Origin) (value : Word) (s : State) : Out := .next (s.respond (writeDlogRdHi value.toNat s))

/-! ## The twin (R460 to R465) -/

/-- A full resync (R465), for a command if one asks: a SITE item for every context, a REPAIR item for every repair
pointer, the newest datalog checkpoint. -/
def State.resync (s : State) (h : Option CmdHdr) : State :=
  let items : List MirrorItem :=
    if s.flag F.TWN_CTL_MIRROR_EN then
      (List.range 1024).map (fun i => (⟨1, i, 0, false, false⟩ : MirrorItem))
        ++ ((List.range 1024).filter (fun i => s.get (F.SHP_SITE_REPAIR i) != 0)).map (fun i => (⟨2, i, 0, false, false⟩ : MirrorItem))
        ++ (match s.dlogSlot with
            | some _ => [(⟨3, 0, 0, false, false⟩ : MirrorItem)]
            | none => [])
    else []
  let q := s.mirrorQ ++ items
  let t : State := { s with mirrorQ := q }
  match h with
  | none => t
  | some h => if q.isEmpty then t.done h .ok else { t with resyncs := t.resyncs ++ [(h, q.length)] }

/-- What this device sends its twin: DEV_ID, TWINSEL and STEPPING (R460). -/
def State.twinSelf (s : State) : TwinInfo :=
  ⟨BitVec.ofNat 5 s.devId, s.flag F.GLB_ID_TWIN_MEMBER, BitVec.ofNat 4 (s.get F.GLB_ID_STEPPING)⟩

/-- Has the handshake shown a twin whose TWINSEL is the other one (R460)? -/
def State.twinKnown (s : State) : Bool := s.twinPeer.any (fun p => p.twinsel != s.flag F.GLB_ID_TWIN_MEMBER)

/-- The handshake once the twin link is UP (R460): each side sends its DEV_ID, TWINSEL and STEPPING. -/
def State.handshake (s : State) (peer : TwinInfo) : State :=
  let t := ({ s with twinOut := some s.twinSelf, twinPeer := some peer } : State).set F.TWN_STATUS_PARTNER_ID peer.devId.toNat
  if t.twinKnown then (t.set F.TWN_STATUS_STATE 1).resync none
  else t.raiseOnce F.TWN_STATUS_CONFIG_ERR 0x163 cPROTOCOL 3 peer.devId.toNat

/-- The mirror area's byte address. -/
def State.mirrorBase (s : State) : Nat := 64 * s.get F.TWN_MIR_BASE

/-- Every mirrored context that is ACTIVE becomes UNTESTED with CAUSE 10 (R464). -/
def State.mirrorUntest (s : State) : State :=
  if s.flag F.TWN_CTL_MIRROR_EN then
    s.forEach (List.range 1024) (fun i t =>
      let a := t.mirrorBase + 32 * i
      let w := t.dramWord a
      if bits w 0 3 = 1 then t.putOpen a (setBits (setBits w 0 3 3) 4 4 10) else t)
  else s

/-- The twin enters DOWN (2) or LOST (3) (R461, R464). -/
def State.twinGone (s : State) (st : Nat) : State :=
  let t := (s.set F.TWN_STATUS_STATE st).raiseOnce F.TWN_STATUS_TWIN_LOST 0x163 cLINK 1
    (s.get F.TWN_STATUS_PARTNER_ID + st * 2 ^ 8)
  t.mirrorUntest

/-- The twin is heard again (R461, R465): after a loss, a twin that the handshake has paired is PAIRED, with a full
resync. -/
def State.twinHeard (s : State) : State :=
  if 2 ≤ s.get F.TWN_STATUS_STATE ∧ s.twinKnown = true then (s.set F.TWN_STATUS_STATE 1).resync none else s

/-- KEEPALIVE (R285, R461). A TRIPPED device takes none (R416), and a shut group delivers none (R391). -/
def execKeepalive (k : KeepInfo) (s : State) : Out :=
  .next (
    if s.tripped || s.grpShut 2 then s
    else if !k.coreUp || k.safe then
      if s.get F.TWN_STATUS_STATE = 2 then s else s.twinGone 2
    else s.twinHeard)

/-- TWIN_SILENCE_TIMEOUT (R461): 300 µs without a valid KEEPALIVE or a HEARTBEAT. A device that has heard no twin
since the start stays ALONE. -/
def execTwinSilenceTimeout (s : State) : Out :=
  .next (
    let st := s.get F.TWN_STATUS_STATE
    if (st = 1 ∨ st = 2) ∧ s.tripped = false then s.twinGone 3 else s)

/-- TWIN_KEEPALIVE_SEND (R285, R461): every 100 µs. DESIGN CHOICE: the KEEPALIVE blocks of ports A and B, for which the spec
gives no period, go out with those of the twin link (assumption 175). -/
def execTwinKeepaliveSend (s : State) : Out := .next s.keepSend

/-- HEARTBEAT (R461): while the twin link is DOWN a HEARTBEAT item becomes pending for the fallback port, ahead of
the items not yet sent; one that still waits is not doubled. In Rest no mirror traffic goes out (R315). -/
def execHeartbeat (s : State) : Out :=
  .next (
    if s.coreUp && s.get F.GLB_REST_STATE != 2 && s.flag F.TWN_CTL_MIRROR_EN && !s.flag F.TWN_STATUS_LINK_UP
        && !(s.mirrorQ.any (fun m => m.item == 4 && !m.sent)) then
      let k := (s.mirrorQ.takeWhile (fun m => m.sent)).length
      { s with
        mirrorQ := s.mirrorQ.take k ++ [⟨4, 0, 0, false, false⟩] ++ s.mirrorQ.drop k
        resyncs := s.resyncs.map (fun (r : CmdHdr × Nat) => if k < r.2 then (r.1, r.2 + 1) else r) }
    else s)

/-- A mirror packet from the twin is taken in (R462, R463): a HEARTBEAT shows that the twin is there; an item is
stored while mirroring is on and the twin is PAIRED, where no fence or muzzle stands in the way. -/
def State.mirrorTake (s : State) (pl : List Word) : State :=
  let item := word pl 0 % 16
  let site := bits (word pl 0) 4 10
  let off := word pl 1
  let data := pl.drop 2
  let base := s.mirrorBase
  let a := match item with
    | 1 => some (base + 32 * site + off)
    | 2 => some (base + 0x408000 + 64 * s.get F.TWN_MIR_RSTRIDE * site + off)
    | 3 => some (base + 0x8000 + off)
    | _ => none
  if item = 4 then s.twinHeard
  else match a with
    | none => s
    | some a =>
      if s.flag F.TWN_CTL_MIRROR_EN && s.get F.TWN_STATUS_STATE == 1 && !bit s.fences 43
          && !s.touchesMuzzledPc a (4 * data.length) then s.putDramWords a data
      else s

/-- MIRROR_READ (R464, R466). A mirror on a muzzled pseudo-channel cannot be read, nor can Shepherd read one while it is
fenced (R365); under FREEZE it waits (R364). -/
def execMirrorRead (h : CmdHdr) (pl : List Word) (s : State) : Out :=
  .next (s.cmd 0x85 h pl (fun s =>
    let first := word pl 0
    let n := word pl 1
    let a := s.mirrorBase + 32 * first
    if s.flag F.TWN_CTL_MIRROR_EN = false then s.done h .badState
    else if s.touchesMuzzledPc a (32 * n) then s.done h .muzzled
    else if bit s.fences 40 then s.done h .internal
    else if s.frozen then s.cmdAgain h
    else s.complete h .ok 0 (s.dramWords a (8 * n))))

/-- TWIN_RESYNC (R465, R466). -/
def execTwinResync (h : CmdHdr) (pl : List Word) (s : State) : Out :=
  .next (s.cmd 0x86 h pl (fun s =>
    if s.get F.TWN_STATUS_STATE = 1 then s.resync (some h) else s.done h .badState))

/-- A write of a twin register (R463, R480). -/
def writeTwin (a v : Nat) (s : State) : Res :=
  if a = R.TWN_CTL then
    let n := s.mirrorBase + 0x408000 + 65536 * s.get F.TWN_MIR_RSTRIDE
    if bit v 0 && decide (2 ^ 35 < n) then .error .badAddress else .ok (s.store a v)
  else if a = R.TWN_MIR_BASE ∨ a = R.TWN_MIR_RSTRIDE then
    if s.flag F.TWN_CTL_MIRROR_EN then .error .busy else .ok (s.store a v)
  else .ok (s.store a v)

end Sys2Proof.Machine
end

