-- ==== Sys2Proof/Machine/Rest.lean ====
section
/-! DEFINITION. Rest and waking (R457 to R459), GPIO and the isolation chain (R474, R475). -/

namespace Sys2Proof.Machine

/-! ## Rest -/

/-- Is nothing but this command in flight, and no work open (R457)? A command stays in flight until its
completion is sent. -/
def State.restIdle (s : State) : Bool :=
  decide (s.inflight.length ≤ 1) && s.replies.all (fun r => !r.admitted)
    && (List.range 16).all (fun r => (s.run r).isNone)
    && s.groups.isEmpty
    && (List.range 96).all (fun n =>
      let u := s.psm n
      !(s.flag (F.PSM_STATUS_WAVE_RUN n)) && !(s.flag (F.PSM_STATUS_SINE_RUN n)) && u.snap.isNone && u.meas.isNone)
    && (List.range 512).all (fun n => !s.pmuBusy n)
    && (List.range 64).all (fun t => !s.tmuBusy t)
    && s.aeQueue.isEmpty && (List.range 8).all (fun c => (s.aec c).call.isNone)
    && s.calGap.isNone && !s.flag F.MRM_STATUS_BUSY

/-- REST_ENTER (R457): the checks, then step 1: a gap of kind IDLE of REST_MS (R435). -/
def execRestEnter (h : CmdHdr) (pl : List Word) (s : State) : Out :=
  .next (s.cmd 0x82 h pl (fun s =>
    if s.stopped || s.get F.GLB_REST_STATE != 0 then s.done h .badState
    else if s.restIdle then (s.set F.GLB_REST_STATE 1).gapOpen none 2 false (1000 * s.get F.CAL_REST_REST_MS)
    else s.done h .busy))

/-- A PSM at Rest entry: kept at REST_LEVEL, or back to OFF (R457). -/
def State.psmRest (s : State) (n : Nat) : State :=
  let m := s.psmMode n
  if m = 0 then s
  else if s.flag (F.PSM_CTL_REST_KEEP n) && (m == 1 || m == 2) then s.psmFollow n
  else ((s.set (F.PSM_CTL_MODE n) 0).psmOff n).psmRefresh n

/-- A wake begins (R459): clocks and DRAM come back, the ports retrain, the kept PSMs return to LEVEL. -/
def State.wakeBegin (s : State) : State :=
  let t := ({ s with restWake := false } : State).set F.GLB_REST_STATE 3
  let t := t.forEach (List.range 2) (fun d u => u.set (F.DRM_STATUS_SELF_REFRESH d) 0)
  let t := t.forEach (List.range 2) (fun x u => u.portRetrain x)
  t.forEach (List.range 96) (fun n u =>
    if u.flag (F.PSM_CTL_REST_KEEP n) && u.get (F.PSM_STATUS_SOURCE n) == 0 then u.psmFollow n else u)

/-- REST_ENTERED (R457): calibration is over, and steps 2 to 5 are done; the ports retrain to Rest, where LINK_TRAINED brings
them (R283, R315); a wake asked for meanwhile begins. -/
def execRestEntered (s : State) : Out :=
  .next (
    if s.get F.GLB_REST_STATE ≠ 1 ∨ s.calGap.isSome = true then s
    else
      let t := (s.checkpoint).forEach (List.range 512) (fun n u =>
        ((u.set (F.CH_PMU_CTL_MODE n) 0).letGo n).cmpStart n)
      let t := (t.set F.GLB_REST_STATE 2).forEach (List.range 96) (fun n u => u.psmRest n)
      let t := t.forEach (List.range 2) (fun d u => u.set (F.DRM_STATUS_SELF_REFRESH d) 1)
      let t := (t.forEach (List.range 2) (fun x u => u.portRetrain x)).doneAll 0x82
      if t.restWake then t.wakeBegin else t)

/-- A wake is requested (R459). -/
def State.wakeAsk (s : State) : State :=
  match s.get F.GLB_REST_STATE with
  | 1 => { s with restWake := true }
  | 2 => s.wakeBegin
  | _ => s

/-- REST_EXIT (R459, R466). -/
def execRestExit (h : CmdHdr) (pl : List Word) (s : State) : Out :=
  .next (s.cmd 0x83 h pl (fun s => if s.get F.GLB_REST_STATE = 0 then s.done h .ok else s.wakeAsk))

/-- A write of GLB_REST: a 1 in WAKE counts through the MSP only (R459, R478). -/
def writeGlbRest (o : Origin) (v : Nat) (s : State) : Res :=
  .ok (if o = .msp ∧ bit v 2 = true then s.wakeAsk else s)

/-- WAKE (R459). -/
def execWake (o : Origin) (s : State) : Out := .next (s.respond (writeGlbRest o 4 s))

/-- REST_AWAKE (R459): the wake ends once no port trains; leashes run again at full length, pseudo-channels that
failed the retrain are reported (R374), and REST_EXIT completes. -/
def execRestAwake (failed : List (Fin 32)) (s : State) : Out :=
  .next (
    if s.get F.GLB_REST_STATE ≠ 3 ∨ s.portMode 0 = 1 ∨ s.portMode 1 = 1 then s
    else
      let t := (s.set F.GLB_REST_STATE 0).forEach (List.range 64) (fun r u =>
        if u.flag (F.SHP_LOCK_HELD r) then u.set (F.SHP_LOCK_REMAIN_MS r) (Tab.get 0 u.leashLen r) else u)
      let t := t.forEach failed (fun (q : Fin 32) u =>
        u.pcRetrainFail q.val)
      t.doneAll 0x83)

/-! ## GPIO and the isolation chain (R474, R475, R482) -/

/-- May this writer write GPIO_DIR, GPIO_OUT and the chain image: the MSP, or a session that holds
SWITCH_MATRIX? -/
def State.gpioAllowed (s : State) (o : Origin) : Bool :=
  match o with
  | .msp => true
  | _ => s.holdsLock 0 (originSession o)

/-- A write of GPIO_ISO. ISO_GO starts a shift while ISO_EN gives the chain its balls. -/
def writeIso (v : Nat) (s : State) : Res :=
  if 1024 < bits v 0 11 then .error .badOpcode
  else if bit v 17 && s.flag F.GPIO_ISO_BUSY then .error .busy
  else
    let t := s.store R.GPIO_ISO v
    .ok (if bit v 17 && t.flag F.GPIO_ISO_ISO_EN then t.set F.GPIO_ISO_BUSY 1 else t)

/-- A write of any other MSP or GPIO register. -/
def writeGpio (o : Origin) (a v : Nat) (s : State) : Res :=
  if a = R.GPIO_DIR ∨ a = R.GPIO_OUT then (if s.gpioAllowed o then .ok (s.store a v) else .error .locked)
  else if R.GPIO_ISO_IMG 0 ≤ a ∧ a ≤ R.GPIO_ISO_IMG 31 then
    if !s.gpioAllowed o then .error .locked
    else if s.flag F.GPIO_ISO_BUSY then .error .busy
    else .ok (s.store a v)
  else if a = R.GPIO_ISO then writeIso v s
  else .ok (s.store a v)

/-- ISO_GO (R475). -/
def execIsoGo (_ : Origin) (value : Word) (s : State) : Out := .next (s.respond (writeIso value.toNat s))

/-- The chain image as a number, bit j being chain bit j. -/
def State.isoImage (s : State) : Nat :=
  (List.range 32).foldl (fun (x : Nat) w => x + s.rd (R.GPIO_ISO_IMG w) * 2 ^ (32 * w)) 0

/-- ISO_SHIFT_DONE (R475): the latch pulse hands the ISO_LEN bits to the chain's outputs. -/
def execIsoShiftDone (s : State) : Out :=
  .next (
    if s.flag F.GPIO_ISO_BUSY then
      let t : State := { s with
        isoOut := setBits s.isoOut 0 (s.get F.GPIO_ISO_ISO_LEN) s.isoImage
        isoAgain := false }
      if s.isoAgain then t else t.set F.GPIO_ISO_BUSY 0
    else s)

end Sys2Proof.Machine
end

