-- ==== Sys2Proof/Machine/RegWrite.lean ====
section
/-! DEFINITION. One write and one read of the register map, whatever the register (R3, R24 to R29, R305, R306):
the address checks, the rules of the register's own chapter, the views that are computed when read. -/

namespace Sys2Proof.Machine

/-! ## Addresses (R24 to R27) -/

/-- Is the word at an address in an assigned range? -/
def assigned (a : Nat) : Bool := (blockOf a).isSome || (regionOf a).isSome

/-- Is it in a read-only region of the window? -/
def windowRo (a : Nat) : Bool :=
  match regionOf a with
  | some r => r.readOnly
  | none => false

/-- May a word at an address be written at all? -/
def writable (a : Nat) : Bool := a % 4 == 0 && assigned a && !windowRo a

/-! ## Writes of the SRAM windows -/

/-- Is a byte of the flow-table store in the image of a loaded flow (R341)? -/
def State.flowLocked (s : State) (o : Nat) : Bool :=
  (List.range 16).any (fun f =>
    s.flag (F.SHP_FLOW_LOADED f) &&
      (let im := 64 * s.get (F.SHP_FLOW_OFFSET f)
       decide (im ≤ o) && decide (o < im + s.flowHead im 7)))

/-- Does a word hold only assigned format codes (R63)? -/
def fmtWordOk (v : Nat) : Bool := (wordBytes v).all fmtOk

/-- A write of a window word (R26, R27, R28, R63, R236, R272, R341, R368). -/
def writeWindow (r : Region) (a v : Nat) (s : State) : Res :=
  match r with
  | .format _ => if fmtWordOk v then .ok (s.wr a v) else .error .badOpcode
  | .tsetShadow p => if s.swapPending p then .error .busy else .ok (s.wr a v)
  | .sine _ => .ok (s.wr a (v % 2 ^ 20))
  | .aeImem c =>
    if s.flag (F.AE_STATUS_RUNNING c) then .error .busy
    else
      let t := s.wr a v
      .ok (if a - (Region.aeImem c).base < 0x8000 then (t.set (F.AE_STATUS_LIB_INTACT c) 0).aeSettle else t)
  | .aeDmem _ => .ok (s.wr a v)
  | .flow => if s.flowLocked (a - Region.flow.base) then .error .busy else .ok (s.wr a v)
  | _ => .error .badAddress

/-! ## Writes of the device blocks -/

/-- The global block (R455, R459, R478, R479). -/
def writeGlb (o : Origin) (a v : Nat) (s : State) : Res :=
  if a = R.GLB_REST then writeGlbRest o v s
  else if a = R.DLOG_BASE ∨ a = R.DLOG_SIZE then
    if (List.range 16).any (fun r => (s.run r).isSome) then .error .busy else .ok (s.store a v)
  else if a = R.DLOG_RD_LO then .ok { s with dlogStage := v }
  else if a = R.DLOG_RD_HI then writeDlogRdHi v s
  else .ok (s.store a v)

/-- The fault collector, FLT_CLEAR and FLT_UNMUZZLE aside (R404, R414, R425). -/
def writeFlt (a v : Nat) (s : State) : Res :=
  if a = R.FLT_PENDING then writeFltPending v s
  else if a = R.FLT_MUZZLE then writeFltMuzzle v s
  else if R.FLT_SEV 0 ≤ a ∧ a ≤ R.FLT_SEV 51 then writeFltSev a v s
  else .ok (s.store a v)

/-- LNK_x_CTL: RETRAIN retrains the port (R284, R318). -/
def writeLnkCtl (x v : Nat) (s : State) : Res :=
  let t := s.store (R.LNK_CTL x) v
  .ok (if bit v 6 then t.portRetrain x else t)

/-- The link block (R284, R311, R318, R319). -/
def writeLnk (a v : Nat) (s : State) : Res :=
  if a = R.LNK_CTL 0 then writeLnkCtl 0 v s
  else if a = R.LNK_CTL 1 then writeLnkCtl 1 v s
  else if (R.LNK_A_SLOT_SH 0 ≤ a ∧ a ≤ R.LNK_A_SLOT_SH 15) ∨ (R.LNK_B_SLOT_SH 0 ≤ a ∧ a ≤ R.LNK_B_SLOT_SH 15) then
    writeEgressSh a v s
  else .ok (s.store a v)

/-- The MPA and DRAM block (R367, R376). -/
def writeMpa (a v : Nat) (s : State) : Res :=
  if a = R.MPA_CTL then writeMpaCtl v s
  else if a = R.MPA_WDOG then writeMpaWdog v s
  else if a = R.MPA_SWAP then writeMpaSwap v s
  else if R.MPA_CLASS_SH 0 ≤ a ∧ a ≤ R.MPA_CLASS_SH 2 then writeClassSh a v s
  else .ok (s.store a v)

/-- The Whistle and twin block (R189, R193 to R198, R463, R480). -/
def writeWht (o : Origin) (a v : Nat) (s : State) : Res :=
  if a = R.WH_CTL then writeWhCtl v (originSession o) s
  else if a = R.WH_TIME_SET_HI then writeWhTimeHi v s
  else if a = R.WH_SWAP_HI then writeWhSwapHi v s
  else if a = R.WH_EMIT then writeWhEmit v s
  else if a = R.WH_ALLSTOP then writeWhAllstop v s
  else if R.WH_SLOT_SH 0 ≤ a ∧ a ≤ R.WH_SLOT_SH 127 then writeWhSlot a v s
  else if R.TWN_CTL ≤ a then writeTwin a v s
  else .ok (s.store a v)

/-- The Shepherd block (R350, R444). -/
def writeShp (a v : Nat) (s : State) : Res :=
  if a = R.SHP_LEASH_DEFAULT ∧ (v % 2 ^ 16 = 0 ∨ 60000 < v % 2 ^ 16) then .error .badOpcode else .ok (s.store a v)

/-- A device block by its number. -/
def writeDevice (k : Nat) (o : Origin) (a v : Nat) (s : State) : Res :=
  match k with
  | 0 => writeGlb o a v s
  | 1 => writeFlt a v s
  | 3 => if a = R.CLK_GRP_CTL then writeGrpCtl v s else .ok (s.store a v)
  | 4 => writeLnk a v s
  | 5 => writeMpa a v s
  | 6 => if a = R.MRM_CTL then writeMrmCtl v s else writeMrmPlain a v s
  | 7 => writeWht o a v s
  | 8 => writeShp a v s
  | 9 => writeGpio o a v s
  | _ => .ok (s.store a v)

/-! ## Writes of a pack's units and of the AE cores -/

/-- The capture unit. -/
def writeCap (p o v : Nat) (s : State) : Res :=
  if o = 0x0 then writeRingEn p v s
  else if o = 0x1C then writeCapRdHi p v s
  else if o = 0x2C then writeCapTrig p v s
  else writeCapPlain p o v s

/-- The APG and repair allocator. -/
def writeApg (p o v : Nat) (s : State) : Res :=
  if o = 0x18 then writeImemHi p v s
  else if o = 0x1010 then writeRaReq p v s
  else writeApgPlain p o v s

/-- The TMUs. -/
def writeTmu (t o v : Nat) (s : State) : Res := if o = 0x28 then writeTmuGo t v none s else writeTmuPlain t o v s

/-- The channels. -/
def writeCh (p o v : Nat) (s : State) : Res :=
  let a := (Block.packUnit p 5).base + o
  let n := 32 * p + o / 0x40
  if o < 0x800 then
    match o % 0x40 with
    | 0x18 => writeLoad n v s
    | 0x1C => .ok (s.store a v)
    | 0x20 => writePmuCtl n v s
    | 0x24 => writePmuForce n v s
    | 0x28 => writePmuClamp n v s
    | 0x34 => writeChStatus n v s
    | r => if r < 0x18 then writeLevel n a v s else .ok (s.store a v)
  else if o = 0x800 then writeChApply p v s
  else if 0x900 ≤ o then writeLane p ((o - 0x900) / 4) v s
  else .ok (s.store a v)

/-- The PSMs, for a session. -/
def writePsm (n ses o v : Nat) (s : State) : Res :=
  match o with
  | 0x00 => writePsmCtl n v ses s
  | 0x04 => writePsmLevel n v s
  | 0x3C => writeFtwHi n v s
  | 0x5C => writePsmGo n v s
  | 0x80 => writePsmStatus n v s
  | _ => writePsmPlain n o v s

/-- The pack status unit: the maps (R40, R42, R50) and the site tables. -/
def writePk (p o v : Nat) (s : State) : Res :=
  let a := (Block.packUnit p 7).base + o
  if 0x40 ≤ o ∧ o < 0xC0 then
    if bits v 10 2 = 3 then .error .badOpcode
    else if s.seqRun p then .error .busy
    else .ok ((s.store a v).remark s)
  else if 0xC0 ≤ o ∧ o < 0xD8 ∧ bit v 31 = true ∧ bits v 10 10 < bits v 0 10 then .error .badOpcode
  else .ok (s.store a v)

/-- A unit of pack p. -/
def writePackUnit (p u ses o v : Nat) (s : State) : Res :=
  match u with
  | 0 => writeSeqPlain p o v s
  | 1 => writeTimPlain p o v s
  | 2 => writeCap p o v s
  | 3 => writeApg p o v s
  | 4 => writeTmu (4 * p + o / 0x400) (o % 0x400) v s
  | 5 => writeCh p o v s
  | 6 => writePsm (6 * p + o / 0x400) ses (o % 0x400) v s
  | _ => writePk p o v s

/-- The block of AE core c. -/
def writeAe (c a v : Nat) (s : State) : Res :=
  if a = R.AE_CTL c then writeAeCtl c v s
  else if a = R.AE_DOORBELL c then writeAeDoorbell c v s
  else .ok (s.store a v)

/-! ## One write -/

/-- A write of a word at a writable address, FLT_CLEAR and FLT_UNMUZZLE aside. A reserved word ignores it
(R3). -/
def writeWord (o : Origin) (a v : Nat) (s : State) : Res :=
  match regionOf a with
  | some r => writeWindow r a v s
  | none =>
    if (rowAt a).isNone then .ok s
    else match blockOf a with
      | some (.device k) => writeDevice k o a v s
      | some (.packUnit p u) => writePackUnit p u (originSession o) (a - (Block.packUnit p u).base) v s
      | some (.ae c) => writeAe c a v s
      | none => .error .badAddress

/-- One register write, its status in the bus response (R3, R24, R29). -/
def State.writeReg (s : State) (o : Origin) (a v : Nat) : State :=
  if !writable a then { s with resp := .badAddress }
  else if a = R.FLT_CLEAR then writeFltClear v s
  else if a = R.FLT_UNMUZZLE then writeFltUnmuzzle v s
  else s.respond (s.guarded a (writeWord o a v))

/-- PLAIN_REGISTER_WRITE (R29): through the link or Shepherd only while the core runs. -/
def execPlainRegisterWrite (o : Origin) (addr value : Word) (s : State) : Out :=
  .next (if s.coreUp || o == .msp then s.writeReg o addr.toNat value.toNat else s)

/-! ## Reads (R306, R307, and the fields that show other state) -/

/-- Is there a field of `n` registers of stride `d` from `a` at this address? -/
def inArray (a n d x : Nat) : Bool := decide (a ≤ x) && decide (x < a + n * d) && (x - a) % d == 0

/-- Is a register the low word of a 64-bit pair? -/
def pairLow (a : Nat) : Bool :=
  match blockOf a with
  | some (.device 0) => a == R.DLOG_WR_LO || a == R.DLOG_RD_LO
  | some (.device 1) => a == R.FLT_FIRST_LO || a == R.FLT_FIRST_TIME_LO || inArray 0x11000 64 16 a
  | some (.device 7) => a == R.WH_TIME_LO || a == R.WH_TIME_SET_LO || a == R.WH_SWAP_LO
  | some (.device 8) => inArray (R.SHP_SITE_FFB_LO 0) 1024 0x20 a
  | some (.packUnit p u) =>
    let o := a - (Block.packUnit p u).base
    (match u with
     | 0 => o == 0x10
     | 1 => inArray 0x100 64 8 o
     | 2 => o == 0x10 || o == 0x18 || o == 0x38 || o == 0x40 || inArray 0x104 32 0x20 o || inArray 0x110 32 0x20 o
     | 3 => inArray 0x140 8 8 o || inArray 0x200 40 8 o || inArray 0x400 32 8 o
     | 4 =>
       let r := o % 0x400
       r == 0x0C || r == 0x44 || r == 0x4C || r == 0x54 || r == 0x5C || inArray 0x64 16 8 r
     | 6 => o % 0x400 == 0x38 || o % 0x400 == 0x40
     | _ => false)
  | some (.ae c) => a == R.AE_CYCLE_LO c
  | _ => false

/-- The number of commands in flight (R298): those not completed, and those whose completion waits. -/
def State.inflightCount (s : State) : Nat := s.inflight.length + (s.replies.filter (fun r => r.admitted)).length

/-- Has a session commands in flight? -/
def State.sessionBusy (s : State) (ses : Nat) : Bool :=
  s.inflight.any (fun e => e.hdr.session.toNat == ses) || s.replies.any (fun r => r.admitted && r.session == ses)

/-- MSP_STATUS (R481). -/
def State.mspStatus (s : State) : Nat :=
  s.devState + (if s.alertLow then 2 ^ 2 else 0) + (if s.coreUp then 2 ^ 3 else 0) + s.get F.GLB_REST_STATE * 2 ^ 4
    + s.get F.GLB_START_START_OK * 2 ^ 6 + s.get F.GLB_START_START_FAIL * 2 ^ 7 + s.get F.TWN_STATUS_STATE * 2 ^ 8
    + s.get F.HK_TMAX_TMAX * 2 ^ 16

/-- ACTIVE sites that run flow f. -/
def State.flowSites (s : State) (f : Nat) : Nat :=
  (List.range 16).foldl (fun (n : Nat) r => match s.run r with
    | some x => if x.flow = f then n + x.members.length else n
    | none => n) 0

/-- Is pack p streaming with its link up (R182)? -/
def State.streaming (s : State) (p : Nat) : Bool :=
  s.flag (F.CAP_CTL_STREAM_EN p) && s.ringOn p && s.portMode (s.get (F.CAP_CTL_STREAM_PORT p)) == 2

/-- Channels of pack p with a W1C bit of CH_STATUS set. -/
def State.faultSum (s : State) (p : Nat) : Nat :=
  maskOf ((List.range 32).filter (fun c => s.rd (R.CH_STATUS (32 * p + c)) % 64 != 0))

/-- The word at a register address as a read shows it now. -/
def State.view (s : State) (a : Nat) : Nat :=
  match blockOf a with
  | some (.device 4) =>
    if a = R.LNK_INFLIGHT then s.inflightCount
    else if a = R.LNK_SESSION then setBits (s.rd a) 0 4 (maskOf ((List.range 4).filter (fun i => s.sessionBusy i)))
    else s.rd a
  | some (.device 7) =>
    if a = R.WH_TIME_LO then s.time % 2 ^ 32
    else if a = R.WH_TIME_HI then s.time / 2 ^ 32 % 2 ^ 32
    else if a = R.TWN_MIR_LAG then s.mirrorQ.length
    else s.rd a
  | some (.device 5) =>
    if R.MPA_CLASS_ACT 0 ≤ a ∧ a ≤ R.MPA_CLASS_ACT 2 then s.classSettle.rd a
    else if a = R.MPA_STATUS then setBits (s.rd a) 1 1 (if s.classSettle.classSwap.isSome then 1 else 0)
    else s.rd a
  | some (.device 3) => if a = R.CLK_SEQ_ON ∧ (s.coreUp = false ∨ s.get F.GLB_REST_STATE = 2) then 0 else s.rd a
  | some (.device 8) =>
    if R.SHP_FLOW 0 ≤ a ∧ a ≤ R.SHP_FLOW 15 then setBits (s.rd a) 17 11 (s.flowSites ((a - R.SHP_FLOW 0) / 4)) else s.rd a
  | some (.device 9) => if a = R.MSP_STATUS then s.mspStatus else s.rd a
  | some (.packUnit p 2) => if a = R.CAP_STATUS p then setBits (s.rd a) 4 1 (if s.streaming p then 1 else 0) else s.rd a
  | some (.packUnit p 5) => if a = R.CH_FAULT_SUM p then s.faultSum p else s.rd a
  | some (.packUnit p 7) => if a = R.CAL_PK_DUE p then s.calDueMask p else s.rd a
  | _ => s.rd a

/-- GPIO_IN (R482): an output ball shows GPIO_OUT, an input ball what the card drives: a free value. While PWRGOOD is low
every ball is an input (R493); while ISO_EN is 1, GP13 to GP15 carry the chain's clock, data and latch, whose level at the
read is free (R475). -/
def State.gpioIn (s : State) : Nat × State :=
  let (w, t) := s.drawWord
  let d := if !s.pwrgood then 0 else if s.flag F.GPIO_ISO_ISO_EN then s.get F.GPIO_DIR % 2 ^ 13 else s.get F.GPIO_DIR
  ((s.get F.GPIO_OUT &&& d) ||| (w.toNat % 2 ^ 16 &&& (d ^^^ 0xFFFF)), t)

/-- One read of the word at an address, as a session with a latch or without one; the word and the state after
it (R146, R306). -/
def State.readReg (s : State) (ses : Option Nat) (a : Nat) : Nat × State :=
  match blockOf a with
  | none => (s.rd a, s)
  | some b =>
    if (rowAt a).isNone then (0, s)
    else if a = R.GPIO_IN then s.gpioIn
    else
      let other : Nat × State :=
        match ses with
        | none => (s.view a, s)
        | some k =>
          if pairLow a then
            (s.view a, { s with latches := Tab.put none s.latches k (some (a + 4, s.view (a + 4))) })
          else
            (match Tab.get none s.latches k with
             | some (x, v) => if x = a then (v, s) else (s.view a, s)
             | none => (s.view a, s))
      match b with
      | .packUnit p 3 =>
        if a = R.APG_IMEM_LO p then readImemLo p s
        else if a = R.APG_IMEM_HI p then readImemHi p s
        else other
      | _ => other

end Sys2Proof.Machine
end

