-- ==== Sys2Proof/Machine/RegCmd.lean ====
section
/-! DEFINITION. The register commands (R304 to R307) and the memory transfer commands (R308, R309). -/

namespace Sys2Proof.Machine

/-! ## Register commands -/

/-- Do the n words from an address stay in the block or region of the first (R25, R305)? -/
def sameUnit (a n : Nat) : Bool :=
  let z := a + 4 * (n - 1)
  blockOf a == blockOf z && regionOf a == regionOf z

/-- The last valid word of the block or region of an address (R307). -/
def lastValidOf (a : Nat) : Nat :=
  match regionOf a with
  | some r => r.base + r.size - 4
  | none =>
    match blockOf a with
    | some b => b.lastValid
    | none => 0

/-- Read n words from an address upward: those beyond the last valid word read 0. -/
def State.readWords (s : State) (ses last a : Nat) : Nat → List Word × State
  | 0 => ([], s)
  | n + 1 =>
    let (v, t) := if a ≤ last then s.readReg (some ses) a else (0, s)
    let (l, u) := t.readWords ses last (a + 4) n
    (BitVec.ofNat 32 v :: l, u)

/-- Write words from an address upward; the first write rejected ends it, with its status and the number of
words before it. -/
def State.writeWords (s : State) (o : Origin) (a k : Nat) : List Word → State × Option (Status × Nat)
  | [] => (s, none)
  | w :: ws =>
    let t := s.writeReg o a w.toNat
    if t.resp = .ok then t.writeWords o (a + 4) (k + 1) ws else (t, some (t.resp, k))

/-- Is a register command's first address refused (R24, R26)? -/
def addressBad (a : Nat) : Bool := a % 4 != 0 || !assigned a

/-- REG_READ (R304, R307). -/
def execRegRead (h : CmdHdr) (pl : List Word) (s : State) : Out :=
  .next (s.cmd 0x00 h pl (fun s =>
    let a := word pl 0
    let n := word pl 1
    if addressBad a then s.done h .badAddress
    else
      let last := lastValidOf a
      let (l, t) := s.readWords h.session.toNat last a n
      let valid := if a ≤ last then (last - a) / 4 + 1 else 0
      if n ≤ valid then t.complete h .ok 0 l else t.complete h .partialDone valid l))

/-- Do n words of the flow-table store touch the image of a loaded flow (R341)? -/
def State.imageTouched (s : State) (a n : Nat) : Bool :=
  regionOf a == some .flow && (List.range 16).any (fun f =>
    s.flag (F.SHP_FLOW_LOADED f) &&
      rangesMeet (a - Region.flow.base, 4 * n)
        (64 * s.get (F.SHP_FLOW_OFFSET f), s.flowHead (64 * s.get (F.SHP_FLOW_OFFSET f)) 7))

/-- The checks of a REG_WRITE over the whole command (R24, R27, R63, R305, R341). -/
def State.writeRefused (s : State) (a : Nat) (data : List Word) : Option Status :=
  if addressBad a || windowRo a || !sameUnit a data.length then some .badAddress
  else if s.imageTouched a data.length then some .busy
  else match regionOf a with
    | some (.format _) => if data.all (fun w => fmtWordOk w.toNat) then none else some .badOpcode
    | _ => none

/-- The words of one routine of a REG_WRITE (R328). -/
def regChunk : Nat := 256

/-- The chain of a command, between two of its routines. -/
def State.chainOf (s : State) (h : CmdHdr) : Option ChainRun := s.chains.find? (fun c => sameCmd c.hdr h)

/-- The chains without a command's. -/
def State.chainDrop (s : State) (h : CmdHdr) : State := { s with chains := s.chains.filter (fun c => !sameCmd c.hdr h) }

/-- A command is between two routines of its chain, and its row comes again (R328). -/
def State.chainOn (s : State) (c : ChainRun) : State :=
  ({ s with chains := s.chains ++ [c] } : State).cmdAgain c.hdr

/-- One routine of a REG_WRITE from word k on. -/
def State.regWriteFrom (s : State) (h : CmdHdr) (a k : Nat) (data : List Word) : State :=
  match s.writeWords (.link h.session) (a + 4 * k) k ((data.drop k).take regChunk) with
  | (t, some (st, n)) => t.complete h st n []
  | (t, none) => if data.length ≤ k + regChunk then t.done h .ok else t.chainOn { hdr := h, words := k + regChunk }

/-- A later row of a chain: the routine of the next chunk begins once none runs, and its words are written once it has
committed (R322, R328). -/
def State.chainNext (s : State) (h : CmdHdr) (a : Nat) (data : List Word) (c : ChainRun) : State :=
  let t := s.chainDrop h
  if c.begun || !t.flag F.SHP_STATUS_IMAGE_OK then t.regWriteFrom h a c.words data
  else if t.routine.isNone then (t.routineBegin h).chainOn { c with begun := true }
  else t.chainOn c

/-- REG_WRITE (R304, R305, R328): the checks over the whole command come before its first routine; each later row of the
command is the next routine of its chain. -/
def execRegWrite (h : CmdHdr) (pl : List Word) (s : State) : Out :=
  .next (s.cmd 0x01 h pl (fun s =>
    let a := word pl 0
    let data := pl.drop 1
    match s.chainOf h with
    | some c => s.chainNext h a data c
    | none =>
      match s.writeRefused a data with
      | some st => s.done h st
      | none => s.regWriteFrom h a 0 data))

/-- The W1C bits of the register at an address. -/
def w1cMask (a : Nat) : Nat :=
  match rowAt a with
  | none => 0
  | some r => r.flds.foldl (fun (m : Nat) f => if f.acc = .w1c then setBits m f.lo f.w (2 ^ f.w - 1) else m) 0

/-- The word that REG_MODIFY writes over an old one: a W1C bit clears only where MASK and VALUE both have a 1. -/
def modified (a old mask value : Nat) : Nat :=
  let keep := (mask ||| w1cMask a) ^^^ 0xFFFFFFFF
  (old &&& keep) ||| (value &&& mask)

/-- REG_MODIFY (R304): the word it keeps bits of is the present one, never a latched one. -/
def execRegModify (h : CmdHdr) (pl : List Word) (s : State) : Out :=
  .next (s.cmd 0x02 h pl (fun s =>
    let a := word pl 0
    if !writable a then s.done h .badAddress
    else
      let (old, t) := s.readReg none a
      let t := t.writeReg (.link h.session) a (modified a old (word pl 1) (word pl 2))
      if t.resp = .ok then t.complete h .ok 0 [BitVec.ofNat 32 old] else t.done h t.resp))

/-- One read of a polling command with the number of reads that came before: OK on a match, TIMEOUT when the
limit has passed, else it goes on. -/
def State.pollRead (s : State) (h : CmdHdr) (pl : List Word) (n : Nat) : State :=
  let rest := s.polls.filter (fun (p : CmdHdr × Nat) => !sameCmd p.1 h)
  let (v, t) := s.readReg (some h.session.toNat) (word pl 0)
  let done : State := { t with polls := rest }
  if v &&& word pl 1 = word pl 2 then done.complete h .ok 0 [BitVec.ofNat 32 v]
  else if word pl 3 ≤ n then done.complete h .timeout 0 [BitVec.ofNat 32 v]
  else { t with polls := rest ++ [(h, n + 1)] }

/-- REG_POLL (R304): the first read. -/
def execRegPoll (h : CmdHdr) (pl : List Word) (s : State) : Out :=
  .next (s.cmd 0x03 h pl (fun s => if addressBad (word pl 0) then s.done h .badAddress else s.pollRead h pl 0))

/-- REG_POLL_READ (R304): 1 µs after the read before. -/
def execRegPollRead (session : BitVec 2) (tag : BitVec 14) (s : State) : Out :=
  .next (
    if !s.coreUp then s
    else match s.polls.find? (fun p => p.1.session == session && p.1.tag == tag) with
      | none => s
      | some (h, n) =>
        match s.entryOf h with
        | none => s
        | some e => s.pollRead e.hdr e.payload n)

/-! ## Memory transfer commands -/

/-- Is a memory command of the port refused at its start: a muzzled pseudo-channel in its range, or its DMA
requester fenced, which has the muzzle response (R9, R308, R361, R365)? -/
def State.memRefused (s : State) (h : CmdHdr) (a n : Nat) : Bool :=
  decide (0 < n) && (s.touchesMuzzledPc a n || bit s.fences (41 + portOf h.port))

/-- The address and the bytes of a memory command (R308). -/
def memRange (op : Nat) (pl : List Word) : Nat × Nat :=
  (memAddr pl, if op = 0x10 then 4 * word pl 2 else if op = 0x11 then 4 * (pl.drop 2).length else 64 * word pl 2)

/-- A memory command starts: was its range open then (R308)? -/
def State.memOpen (s : State) (e : InFlight) : Bool :=
  (e.opcode == 0x10 || e.opcode == 0x11 || e.opcode == 0x12)
    && (let (a, n) := memRange e.opcode e.payload
        !s.memRefused e.hdr a n)

/-- A memory command waits under FREEZE: its row comes again (R364). -/
def State.memWait (s : State) (h : CmdHdr) : State :=
  { s with inflight := s.inflight.map (fun e => if sameCmd e.hdr h then { e with phase := .released, opened := true } else e) }

/-- The bytes a memory command has moved as a muzzle that arose while it ran ends it: up to one of the bursts that have the
muzzle response, a free value which (R308). -/
def State.memCut (s : State) (h : CmdHdr) (a n : Nat) : Nat × State :=
  let first := a / 64
  let shut := (List.range ((a + n - 1) / 64 + 1 - first)).filter (fun i =>
    bit s.fences (41 + portOf h.port) || s.touchesMuzzledPc (64 * (first + i)) 64)
  let (w, t) := s.drawWord
  (64 * (first + shut.getD (w.toNat % shut.length) 0) - a, t)

/-- A memory command of n bytes from a: with a muzzle met at its start it moves nothing, with one that arose while it ran
it ends at the burst concerned, what it moved before staying moved, and under FREEZE it waits (R308, R364). -/
def State.memRun (s : State) (h : CmdHdr) (a n : Nat) (part : Nat → State → State) (whole : State → State) : State :=
  if s.memRefused h a n then
    if (s.entryOf h).any (·.opened) then
      let (k, t) := s.memCut h a n
      (part k t).done h .muzzled
    else s.done h .muzzled
  else if s.frozen && decide (0 < n) then s.memWait h
  else whole s

/-- MEM_READ (R308): a burst that has proved uncorrectable is sent as read, and the command ends INTERNAL
(R373). -/
def execMemRead (h : CmdHdr) (pl : List Word) (s : State) : Out :=
  .next (s.cmd 0x10 h pl (fun s =>
    let a := memAddr pl
    let n := word pl 2
    s.memRun h a (4 * n) (fun _ t => t) (fun s =>
      if s.ueHit.any (fun k => sameCmd k h) then
        ({ s with ueHit := s.ueHit.filter (fun k => !sameCmd k h) } : State).complete h .internal 0 (s.dramWords a n)
      else s.complete h .ok 0 (s.dramWords a n))))

/-- MEM_WRITE (R308). -/
def execMemWrite (h : CmdHdr) (pl : List Word) (s : State) : Out :=
  .next (s.cmd 0x11 h pl (fun s =>
    let a := memAddr pl
    let data := pl.drop 2
    s.memRun h a (4 * data.length) (fun k t => t.putDramWords a (data.take (k / 4)))
      (fun s => (s.putDramWords a data).done h .ok)))

/-- Set n words from an address upward to one value. -/
def State.fillDram (s : State) (a v : Nat) : Nat → State
  | 0 => s
  | n + 1 => (s.putDramNat a 4 v).fillDram (a + 4) v n

/-- MEM_FILL (R308). -/
def execMemFill (h : CmdHdr) (pl : List Word) (s : State) : Out :=
  .next (s.cmd 0x12 h pl (fun s =>
    let a := memAddr pl
    let n := word pl 2
    s.memRun h a (64 * n) (fun k t => t.fillDram a (word pl 3) (k / 4))
      (fun s => (s.fillDram a (word pl 3) (16 * n)).done h .ok)))

/-- DMA_READ (R308, R309): its DATA packets are sent at the packet boundaries of its port. -/
def execDmaRead (h : CmdHdr) (pl : List Word) (s : State) : Out :=
  .next (s.cmd 0x13 h pl (fun s =>
    let a := memAddr pl
    let n := word pl 2
    if n = 0 then s.done h .ok
    else if s.memRefused h a (64 * n) then s.done h .muzzled
    else { s with dmaJobs := s.dmaJobs ++ [{ hdr := h, addr := a, units := n }] }))

end Sys2Proof.Machine
end

