-- ==== Sys2Proof/Machine/Link.lean ====
section
/-! DEFINITION. The link rows (11_glouri_link_and_commands.md): training, loss of lanes and links, received
packets and admission, the start of admitted commands, SESSION_RESET, EMERGENCY_SAFE and the diagnostic
commands. -/

namespace Sys2Proof.Machine

/-! ## Training (R283, R284) -/

/-- May a port train: DOWN, a lane enabled and not muzzled, and a clock for it (R382)? -/
def State.mayTrain (s : State) (x : Nat) : Bool :=
  s.portMode x == 0 && s.portLanes x != 0 && !s.lanesSilent

/-- LINK_TRAIN_START (R283). -/
def execLinkTrainStart (port : Fin 3) (s : State) : Out := .next (if s.mayTrain port then s.portTrain port else s)

/-- LINK_TRAIN_RETRY (R283): 10 ms after a failed training. -/
def execLinkTrainRetry (port : Fin 3) (s : State) : Out := .next (if s.mayTrain port then s.portTrain port else s)

/-- The steps that every port takes when its training succeeds: FRESH, the initial credits, its group's clock, which runs
on the lanes in use. A restart of the twin resets its group (R388). -/
def State.trainedPort (s : State) (x : Nat) (t : TrainInfo) : State :=
  let u := if t.fresh || (s.port x).fresh then s.portFresh x else s
  let u := if x = 2 && t.fresh then u.grpFlush (portGroup x) else u
  let u := u.setPort x { u.port x with
    cmdUnits := t.cmdCredit
    rspUnits := t.rspCredit
    dup := false
    ran := if x < 2 then widthChoice (u.portLanes x &&& t.lanes.toNat &&& (if u.oneLane then 1 else 15)) else 3 }
  u.grpClock x true

/-- LINK_TRAINED (R283, R288, R460): the training ends. FRESH on the fallback port while it is the mirror path
asks for a full resync (R465). -/
def execLinkTrained (port : Fin 3) (t : TrainInfo) (s : State) : Out :=
  .next (
    let x := port.val
    let ok := t.ok && widthChoice (s.portLanes x &&& t.lanes.toNat &&& (if s.oneLane then 1 else 15)) != 0
      && !s.lanesSilent
    if x < 2 then
      if s.portMode x ≠ 1 then s
      else if ok then
        let u := ((s.trainedPort x t).portUp x t).leashThaw
        if t.fresh && u.get F.TWN_CTL_FALLBACK_PORT == x && !u.flag F.TWN_STATUS_LINK_UP && u.get F.TWN_STATUS_STATE == 1 then
          u.resync none
        else u
      else s.set (F.LNK_STATUS_STATE x) 0
    else if s.flag F.TWN_STATUS_LINK_UP then s
    else if ok then
      let u := (s.trainedPort 2 t).set F.TWN_STATUS_LINK_UP 1
      if u.coreUp then u.handshake ⟨BitVec.ofNat 5 t.node.toNat, t.twinsel, t.stepping⟩ else u
    else s)

/-- Is a lane of a port in use? -/
def State.laneUsed (s : State) (x i : Nat) : Bool :=
  s.portOpen x && (if x < 2 then bit (s.get (F.LNK_STATUS_LANES_UP x)) i else decide (i < 2))

/-- LANE_DOWN (R284, R386, R388): the lane's receiver resets, its FIFO crossing jumps, and the port retrains. Where the
lane has kept its block lock and only the deskew fails, the port retrains and no more. -/
def execLaneDown (port : Fin 3) (lane : LaneObs) (s : State) : Out :=
  .next (
    let x := port.val
    let deskew := lane.deskew
    let lane := lane.lane
    if s.laneUsed x lane && deskew then s.portRetrain x
    else if s.laneUsed x lane then
      let t := if x < 2 then s.raiseOnce (F.LNK_STATUS_LANE_LOST x) (portSrc x) cLINK 1 lane
        else s.raiseOnce F.TWN_STATUS_LANE_LOST 0x163 cLINK 2 lane
      let t := if bit (t.get F.CLK_GRP_CTL_MUZZLE) x then t
        else if x < 2 then t.crossJump 9 (laneNumber x lane) else t.crossJump 11 lane
      (t.grpFlush (portGroup x)).portRetrain x
    else s)

/-- LINK_DOWN (R284, R313, R317): no valid control block for 100 µs. The twin link has no message of its own for
it. -/
def execLinkDown (port : Fin 3) (s : State) : Out :=
  .next (
    let x := port.val
    if x = 2 then (if s.flag F.TWN_STATUS_LINK_UP then (s.set F.TWN_STATUS_LINK_UP 0).grpClock 2 false else s)
    else if s.portMode x = 0 then s
    else
      let t := ((s.set (F.LNK_STATUS_STATE x) 0).set (F.LNK_STATUS_LANES_UP x) 0).grpClock x false
      (t.raiseOnce (F.LNK_STATUS_DOWN_SEEN x) (portSrc x) cLINK 2 0).notice (portSrc x) 3 x)

/-- RETRAIN (R284): RETRAIN is written, MAX_RATE and LANE_EN stay. -/
def execRetrain (_ : Origin) (port : Fin 2) (s : State) : Out :=
  .next (s.respond (writeLnkCtl port (s.rd (R.LNK_CTL port) % 2 ^ 6 + 2 ^ 6) s))

/-! ## Admission (R295, R298) -/

/-- Is a command with this session and tag in flight? -/
def State.tagUsed (s : State) (ses tag : Nat) : Bool :=
  s.inflight.any (fun e => e.hdr.session.toNat == ses && e.hdr.tag.toNat == tag)
    || s.replies.any (fun r => r.admitted && r.session == ses && r.tag == tag)

/-- The checks of admission, in order: a full table, the tag, the opcode, the command's form. -/
def State.admitRefused (s : State) (op ses tag low : Nat) (pl : List Word) : Option (Status × Nat) :=
  if 16384 ≤ s.inflightCount then some (.busy, 0)
  else if s.tagUsed ses tag then some (.badState, 0xFFF)
  else if low % 2 ^ 18 ≠ 0 ∨ low / 2 ^ 18 % 4 = 3 then some (.badOpcode, 0)
  else (formOf op pl).map (fun st => (st, 0))

/-- Take in a COMMAND packet. -/
def State.takeCommand (s : State) (x header : Nat) (pl : List Word) : State :=
  let op := bits header 56 8
  let ses := bits header 49 2
  let tag := bits header 35 14
  let low := header % 2 ^ 20
  let h : CmdHdr :=
    { session := BitVec.ofNat 2 ses
      tag := BitVec.ofNat 14 tag
      port := x == 1
      ordered := bit low 19
      urgent := bit low 18 }
  let t := s.homed h
  match t.admitRefused op ses tag low pl with
  | some (st, d) =>
    { t with replies := t.replies ++ [⟨op, ses, tag, h.port, bit (domainsOf op pl) 16, false, st, d, []⟩] }
  | none => t.enlist op h pl .admitted

/-! ## EMERGENCY_SAFE (R316) -/

/-- EMERGENCY_SAFE taken with a valid CRC on port x: the SAFE reaction and its completion, and forwarding by the
reserved buffer. -/
def State.emergency (s : State) (x : Nat) (h : CmdHdr) (dev : Nat) : State :=
  let own := s.devId
  let low := (if h.ordered then 2 ^ 19 else 0) + (if h.urgent then 2 ^ 18 else 0)
  let t := if dev = own ∨ dev = 31 then
      let m : FaultMsg := ⟨0x162, cPROTOCOL, 4, dev, s.time % 2 ^ 15⟩
      let u := if s.coreUp then s.muzzleAll [] [(s.activeSites, 7)] else s
      let u := u.homed { h with port := x == 1 }
      let u := (u.react 4 .internal [m]).raiseOnce F.LNK_RX_STATUS_EMERGENCY 0x162 cPROTOCOL 4 dev
      { u with replies := u.replies ++ [⟨0x8F, h.session.toNat, h.tag.toNat, x == 1, false, false, .ok, 0, []⟩] }
    else s
  if dev ≠ own ∨ own = 31 then
    t.setPort (1 - x) { t.port (1 - x) with
      emergency := some (packWords (packHeader 0x8F dev h.session.toNat h.tag.toNat 0 0 low) []) }
  else t

/-- The checks of R295 that an EMERGENCY_SAFE takes: reserved header bits, ORDERED with URGENT, LENGTH 0. -/
def safeRefused (low len : Nat) : Option Status :=
  if low % 2 ^ 18 ≠ 0 ∨ low / 2 ^ 18 % 4 = 3 then some .badOpcode
  else if len ≠ 0 then some .badLength
  else none

/-- An EMERGENCY_SAFE that fails its checks does nothing, and completes at once where the device takes it in (R295), the
port being its session's home (R300). -/
def State.safeReply (s : State) (x : Nat) (h : CmdHdr) (dev : Nat) (st : Status) : State :=
  if dev = s.devId ∨ dev = 31 then
    { s.homed { h with port := x == 1 } with replies := s.replies ++ [⟨0x8F, h.session.toNat, h.tag.toNat, x == 1, false, false, st, 0, []⟩] }
  else s

/-- A packet with a framing error: counted, and not delivered; what follows is discarded until it comes again (R286,
R287). -/
def State.framingError (s : State) (x : Nat) : State :=
  let t := if x < 2 then s.bump (F.LNK_CRC_CNT x) else s
  t.setPort x { t.port x with gap := true }

/-- A packet in its SEQ order is received, and an ACK is owed for it (R287). -/
def State.seqTaken (s : State) (x : Nat) : State :=
  let q := s.port x
  s.setPort x { q with rxSeq := (q.rxSeq + 1) % 4096, gap := false, owed := (q.owed + 1) % 16 }

/-- EMERGENCY_SAFE (R316): in every state with the port UP or REST, and in its SEQ order (R287). One that fails its checks
is forwarded as it came. -/
def execEmergencySafe (port : Fin 2) (h : CmdHdr) (device : BitVec 5) (crcOk : SafeObs) (s : State) : Out :=
  .next (
    if !s.portOpen port || s.grpHeld port || s.tripped then s
    else if !crcOk.crcOk || s.grpFrozen port then s.framingError port
    else if crcOk.seq.toNat ≠ (s.port port).rxSeq then s.setPort port { s.port port with gap := true }
    else
      let s := s.seqTaken port
      if h.ordered && h.urgent then
        let t := s.safeReply port h device.toNat .badOpcode
        let own := s.devId
        if device.toNat = own ∧ own ≠ 31 then t
        else
          let q := t.port (1 - port.val)
          t.setPort (1 - port.val) { q with fwd := q.fwd ++
            [(false, packWords (packHeader 0x8F device.toNat h.session.toNat h.tag.toNat 0 0 (2 ^ 19 + 2 ^ 18)) [])] }
      else s.emergency port h device.toNat)

/-! ## Received packets (R286, R287, R290, R291, R294) -/

/-- The words of a packet without its trailer. -/
def pktWords (p : Packet) : List Nat :=
  p.header.toNat % 2 ^ 32 :: p.header.toNat / 2 ^ 32 :: p.payload.map (·.toNat)

/-- Is the packet free of framing errors (R286)? -/
def pktSound (p : Packet) : Bool :=
  !p.broken && p.payload.length == bits p.header.toNat 23 12 && p.trailer.toNat == crcWords (pktWords p)

/-- A packet is forwarded out of the other port. -/
def State.forwardPacket (s : State) (x : Nat) (p : Packet) : State :=
  let q := s.port (1 - x)
  s.setPort (1 - x) { q with fwd := q.fwd ++ [(p.poolRsp, pktWords p ++ [p.trailer.toNat])] }

/-- A packet is consumed here, and its units are free. -/
def State.consumePacket (s : State) (x : Nat) (p : Packet) : State := s.portFree x p.poolRsp (p.payload.length + 3)

/-- A packet that is not a COMMAND and carries the device's own DEV_ID (R291, R294). -/
def State.dupId (s : State) (x dev : Nat) : State :=
  if (s.port x).dup then s
  else (s.setPort x { s.port x with dup := true }).raiseOnce F.LNK_RX_STATUS_DUP_ID 0x162 cPROTOCOL 2 dev

/-- The command header fields of a packet. -/
def pktHdr (p : Packet) (x : Nat) : CmdHdr :=
  let n := p.header.toNat
  { session := BitVec.ofNat 2 (bits n 49 2)
    tag := BitVec.ofNat 14 (bits n 35 14)
    port := x == 1
    ordered := bit n 19
    urgent := bit n 18 }

/-- A COMMAND packet (R290, R291, R316). -/
def State.routeCommand (s : State) (x : Nat) (p : Packet) : State :=
  let n := p.header.toNat
  let dev := bits n 51 5
  let own := s.devId
  if bits n 56 8 = 0x8F then
    match safeRefused (n % 2 ^ 20) p.payload.length with
    | none => s.emergency x (pktHdr p x) dev
    | some st =>
      let t := s.safeReply x (pktHdr p x) dev st
      if dev = own ∧ own ≠ 31 then t.consumePacket x p else t.forwardPacket x p
  else if own ≠ 31 ∧ dev = own then (s.takeCommand x n p.payload).consumePacket x p
  else if own ≠ 31 ∧ dev = 31 then (s.takeCommand x n p.payload).forwardPacket x p
  else s.forwardPacket x p

/-- A delivered packet goes to its place. The twin link carries only MIRROR packets. -/
def State.routePacket (s : State) (x : Nat) (p : Packet) : State :=
  let n := p.header.toNat
  let dev := bits n 51 5
  match bits n 20 3 with
  | 0 => if x = 2 then s.consumePacket x p else s.routeCommand x p
  | 4 =>
    if x = 2 ∨ (dev = s.get F.TWN_STATUS_PARTNER_ID ∧ s.get F.TWN_STATUS_STATE ≠ 0) then
      (s.mirrorTake p.payload).consumePacket x p
    else if dev = s.devId ∧ dev ≠ 31 then (s.dupId x dev).forwardPacket x p
    else s.forwardPacket x p
  | 6 => ((s.bump F.LNK_BADPKT_CNT).raiseOnce F.LNK_RX_STATUS_BAD_PACKET 0x162 cPROTOCOL 1 dev).consumePacket x p
  | 7 => ((s.bump F.LNK_BADPKT_CNT).raiseOnce F.LNK_RX_STATUS_BAD_PACKET 0x162 cPROTOCOL 1 dev).consumePacket x p
  | _ =>
    if x = 2 then s.consumePacket x p
    else if dev = s.devId ∧ dev ≠ 31 then (s.dupId x dev).forwardPacket x p
    else s.forwardPacket x p

/-- PACKET_RECEIVE (R286, R287): a framing error or a SEQ gap discards the packet until the expected one comes; a
frozen receiver delivers nothing whole, and a muzzled one, or one in reset, samples nothing (R391). While the core is down
the lanes carry no packet but EMERGENCY_SAFE (R382). -/
def execPacketReceive (port : Fin 3) (pkt : Packet) (s : State) : Out :=
  .next (
    let x := port.val
    let n := pkt.header.toNat
    if !s.portOpen x || s.grpHeld x then s
    else if !pktSound pkt || s.grpFrozen x then s.framingError x
    else if pkt.seq.toNat ≠ (s.port x).rxSeq
        ∨ (s.coreUp = false ∧ ¬ (x < 2 ∧ bits n 20 3 = 0 ∧ bits n 56 8 = 0x8F ∧ s.tripped = false)) then
      s.setPort x { s.port x with gap := true }
    else (s.seqTaken x).routePacket x pkt)

/-! ## The start of admitted commands (R301 to R303, R432) -/

/-- Is an admitted command held by the commands admitted before it? -/
def heldBy (before : List InFlight) (e : InFlight) : Bool :=
  !e.hdr.urgent
    && (before.any (fun x => x.opcode == 0xF1 && x.hdr.session == e.hdr.session)
      || (e.hdr.ordered && e.opcode != 0xF1
        && before.any (fun x => x.hdr.ordered && x.opcode != 0xF1 && (x.domains &&& e.domains) != 0)))

/-- Does an URGENT command that could start wait, so that it is taken first? -/
def State.urgentWaits (s : State) : Bool :=
  s.inflight.any (fun x => x.hdr.urgent && x.phase == .admitted && !s.calHeld x.opcode x.payload)

/-- Does a routine, or what comes before it, keep Shepherd from starting a command: any routine an ordinary one; one that
may not be abandoned, and a leash that has run out, an URGENT one (R326)? -/
def State.commandWaits (s : State) (urgent : Bool) : Bool :=
  if urgent then s.routineHolds || (List.range 64).any (fun r => s.leashOut r) else s.routine.isSome

/-- COMMAND_START: its holds are gone, and Shepherd's routine for it begins (R301 to R303, R326). -/
def execCommandStart (session : BitVec 2) (tag : BitVec 14) (s : State) : Out :=
  .next (
    if !s.coreUp then s
    else
      let mine (e : InFlight) : Bool := e.hdr.session == session && e.hdr.tag == tag
      match s.inflight.find? mine with
      | none => s
      | some e =>
        let before := s.inflight.takeWhile (fun x => !mine x)
        if e.phase ≠ .admitted ∨ heldBy before e = true ∨ s.calHeld e.opcode e.payload = true
            ∨ (e.hdr.urgent = false ∧ s.urgentWaits = true) ∨ s.commandWaits e.hdr.urgent = true then s
        else
          ({ s with inflight := s.inflight.map (fun x => if mine x then { x with phase := .released, opened := s.memOpen x } else x) } : State).routineBegin
            e.hdr)

/-! ## Sessions and diagnostic commands (R297, R300, R302) -/

/-- SESSION_RESET (R300): commands of the session that COMMAND_START has started run on. A completion of the session that
has not left its port is suppressed too. -/
def execSessionReset (h : CmdHdr) (pl : List Word) (s : State) : Out :=
  .next (s.cmd 0x80 h pl (fun s =>
    let k := word pl 0
    let mine (e : InFlight) : Bool := e.hdr.session.toNat == k && !sameCmd e.hdr h
    let t : State := { s with
      inflight := (s.inflight.filter (fun e => !(mine e) || e.phase != .admitted)).map (fun e =>
        if mine e then { e with suppressed := true } else e)
      replies := s.replies.filter (fun r => !(r.admitted && r.session == k)) }
    let t := t.forEach (List.range 64) (fun r u => if u.holdsLock r k then u.lockLose r else u)
    let t := ({ t with latches := Tab.put none t.latches k none } : State).notice 0x162 4 k
    t.done h .ok))

/-- NOP (R297). -/
def execNop (h : CmdHdr) (pl : List Word) (s : State) : Out := .next (s.cmd 0xF0 h pl (fun s => s.done h .ok))

/-- BARRIER (R302): it completes with the last command of its session admitted before it. -/
def execBarrier (h : CmdHdr) (pl : List Word) (s : State) : Out :=
  .next (s.cmd 0xF1 h pl (fun s => s.settleBarriers s.inflight.length))

/-- ECHO (R297). -/
def execEcho (h : CmdHdr) (pl : List Word) (s : State) : Out := .next (s.cmd 0xF2 h pl (fun s => s.complete h .ok 0 pl))

end Sys2Proof.Machine
end

