-- ==== Sys2Proof/Machine/Crypto.lean ====
section
/-! DEFINITION. The two published algorithms that authentication names (R324): SHA-256 and the ECDSA verification
over the curve P-256. A digest, a key and a signature are numbers; a message is a length and its bytes. -/

namespace Sys2Proof.Machine

/-! ## SHA-256 -/

/-- The eight words of the initial hash value. -/
def shaInit : List Word := [0x6A09E667, 0xBB67AE85, 0x3C6EF372, 0xA54FF53A, 0x510E527F, 0x9B05688C,
  0x1F83D9AB, 0x5BE0CD19]

/-- The first half of the round constants. -/
def shaK0 : List Word := [0x428A2F98, 0x71374491, 0xB5C0FBCF, 0xE9B5DBA5, 0x3956C25B, 0x59F111F1,
  0x923F82A4, 0xAB1C5ED5, 0xD807AA98, 0x12835B01, 0x243185BE, 0x550C7DC3,
  0x72BE5D74, 0x80DEB1FE, 0x9BDC06A7, 0xC19BF174, 0xE49B69C1, 0xEFBE4786,
  0x0FC19DC6, 0x240CA1CC, 0x2DE92C6F, 0x4A7484AA, 0x5CB0A9DC, 0x76F988DA,
  0x983E5152, 0xA831C66D, 0xB00327C8, 0xBF597FC7, 0xC6E00BF3, 0xD5A79147,
  0x06CA6351, 0x14292967]

/-- The second half of the round constants. -/
def shaK1 : List Word := [0x27B70A85, 0x2E1B2138, 0x4D2C6DFC, 0x53380D13, 0x650A7354, 0x766A0ABB,
  0x81C2C92E, 0x92722C85, 0xA2BFE8A1, 0xA81A664B, 0xC24B8B70, 0xC76C51A3,
  0xD192E819, 0xD6990624, 0xF40E3585, 0x106AA070, 0x19A4C116, 0x1E376C08,
  0x2748774C, 0x34B0BCB5, 0x391C0CB3, 0x4ED8AA4A, 0x5B9CCA4F, 0x682E6FF3,
  0x748F82EE, 0x78A5636F, 0x84C87814, 0x8CC70208, 0x90BEFFFA, 0xA4506CEB,
  0xBEF9A3F7, 0xC67178F2]

/-- The sixty-four round constants. -/
def shaK : List Word := shaK0 ++ shaK1

/-- The eight working variables. -/
structure ShaVars where
  a : Word
  b : Word
  c : Word
  d : Word
  e : Word
  f : Word
  g : Word
  h : Word
  deriving DecidableEq, Repr

/-- One round with its message word and its constant. -/
def ShaVars.round (v : ShaVars) (w k : Word) : ShaVars :=
  let s1 := v.e.rotateRight 6 ^^^ v.e.rotateRight 11 ^^^ v.e.rotateRight 25
  let ch := (v.e &&& v.f) ^^^ (~~~v.e &&& v.g)
  let t1 := v.h + s1 + ch + k + w
  let s0 := v.a.rotateRight 2 ^^^ v.a.rotateRight 13 ^^^ v.a.rotateRight 22
  let maj := (v.a &&& v.b) ^^^ (v.a &&& v.c) ^^^ (v.b &&& v.c)
  ⟨t1 + (s0 + maj), v.a, v.b, v.c, v.d + t1, v.e, v.f, v.g⟩

/-- n more words of the message schedule, over its last sixteen, newest first. -/
def shaMore : Nat → List Word → List Word
  | 0, l => l
  | n + 1, l =>
    let x := l.getD 14 0#32
    let y := l.getD 1 0#32
    let s0 := x.rotateRight 7 ^^^ x.rotateRight 18 ^^^ (x >>> 3)
    let s1 := y.rotateRight 17 ^^^ y.rotateRight 19 ^^^ (y >>> 10)
    shaMore n ((s1 + l.getD 6 0#32 + s0 + l.getD 15 0#32) :: l)

/-- The hash value after one block of sixteen words. -/
def ShaVars.block (v : ShaVars) (ws : List Word) : ShaVars :=
  let w := (shaMore 48 ws.reverse).reverse
  let r := (w.zip shaK).foldl (fun (x : ShaVars) p => x.round p.1 p.2) v
  ⟨v.a + r.a, v.b + r.b, v.c + r.c, v.d + r.d, v.e + r.e, v.f + r.f, v.g + r.g, v.h + r.h⟩

/-- Byte i of a message of n bytes after its padding to z blocks. -/
def shaByte (msg : Nat → Nat) (n z i : Nat) : Nat :=
  if i < n then msg i
  else if i = n then 0x80
  else if i < 64 * z - 8 then 0
  else 8 * n / 256 ^ (64 * z - 1 - i) % 256

/-- Word j of a padded message: four bytes, the first the highest. -/
def shaWord (byte : Nat → Nat) (j : Nat) : Word :=
  BitVec.ofNat 32 (((byte (4 * j) * 256 + byte (4 * j + 1)) * 256 + byte (4 * j + 2)) * 256 + byte (4 * j + 3))

/-- The SHA-256 of n bytes, as the number that its 32 bytes spell, the first the highest. -/
def sha256 (n : Nat) (msg : Nat → Nat) : Nat :=
  let z := (n + 72) / 64
  let byte := shaByte msg n z
  let start : ShaVars := ⟨shaInit.getD 0 0#32, shaInit.getD 1 0#32, shaInit.getD 2 0#32, shaInit.getD 3 0#32,
    shaInit.getD 4 0#32, shaInit.getD 5 0#32, shaInit.getD 6 0#32, shaInit.getD 7 0#32⟩
  let v := (List.range z).foldl (fun (x : ShaVars) k =>
    x.block ((List.range 16).map (fun j => shaWord byte (16 * k + j)))) start
  [v.a, v.b, v.c, v.d, v.e, v.f, v.g, v.h].foldl (fun (m : Nat) w => m * 2 ^ 32 + w.toNat) 0

/-! ## The curve P-256 -/

/-- The prime of its field, its coefficient b (a is −3), the order of its base point and the base point. -/
def curveP : Nat := 0xFFFFFFFF00000001000000000000000000000000FFFFFFFFFFFFFFFFFFFFFFFF
def curveB : Nat := 0x5AC635D8AA3A93E7B3EBBD55769886BC651D06B0CC53B0F63BCE3C3E27D2604B
def curveN : Nat := 0xFFFFFFFF00000000FFFFFFFFFFFFFFFFBCE6FAADA7179E84F3B9CAC2FC632551
def curveX : Nat := 0x6B17D1F2E12C4247F8BCE6E563A440F277037D812DEB33A0F4A13945D898C296
def curveY : Nat := 0x4FE342E2FE1A7F9B8EE7EB4A7C0F9E162BCE33576B315ECECBB6406837BF51F5

/-- b^e modulo m, for an exponent below 2^k. -/
def powMod (m b e : Nat) : Nat → Nat
  | 0 => 1 % m
  | k + 1 =>
    let h := powMod m b (e / 2) k
    if e % 2 = 1 then h * h % m * b % m else h * h % m

/-- The inverse modulo a prime of 256 bits. -/
def invMod (m b : Nat) : Nat := powMod m (b % m) (m - 2) 256

/-- The sum of two points of the curve; none is the point at infinity. -/
def pointAdd : Option (Nat × Nat) → Option (Nat × Nat) → Option (Nat × Nat)
  | none, q => q
  | p, none => p
  | some (x1, y1), some (x2, y2) =>
    if x1 = x2 ∧ (y1 + y2) % curveP = 0 then none
    else
      let l := if x1 = x2 then (3 * x1 * x1 + (curveP - 3)) * invMod curveP (2 * y1) % curveP
        else (y2 + curveP - y1) * invMod curveP (x2 + curveP - x1) % curveP
      let x3 := (l * l + 2 * curveP - x1 - x2) % curveP
      some (x3, (l * (x1 + curveP - x3) + curveP - y1) % curveP)

/-- e times a point, for a number e below 2^k. -/
def pointMul (p : Option (Nat × Nat)) (e : Nat) : Nat → Option (Nat × Nat)
  | 0 => none
  | k + 1 =>
    let h := pointMul p (e / 2) k
    let d := pointAdd h h
    if e % 2 = 1 then pointAdd d p else d

/-- Is (x, y) a point of the curve? -/
def onCurve (x y : Nat) : Bool :=
  decide (x < curveP) && decide (y < curveP)
    && (y * y % curveP == (x * x * x + (curveP - 3) * x + curveB) % curveP)

/-- Is (r, s) the signature by the key (x, y) of a message with this digest? -/
def ecdsaValid (x y r s digest : Nat) : Bool :=
  if onCurve x y = false ∨ r = 0 ∨ curveN ≤ r ∨ s = 0 ∨ curveN ≤ s then false
  else
    let w := invMod curveN s
    match pointAdd (pointMul (some (curveX, curveY)) (digest * w % curveN) 256)
        (pointMul (some (x, y)) (r * w % curveN) 256) with
    | none => false
    | some q => q.1 % curveN == r

end Sys2Proof.Machine
end

