-- ==== Sys2Proof/Machine/Start.lean ====
section
/-! DEFINITION. Power, cold start and warm start (17_start_rest_twin_management.md, R446 to R453), the START
command (R466) and CLEAR_SAFE (R411). A start is one step: what its steps find outside the core is the
row's operand. -/

namespace Sys2Proof.Machine

/-! ## What a cold start loads (R324, R325, R372, R415) -/

/-- The offset of image slot i (R356), its size and its commit word (R323). -/
def imageBase (i : Nat) : Nat := 0x500000 + 0x100000 * i
def imageCommit : Nat := 0x5EA1ED04

/-- Is image slot i complete, with its MAGIC (R323, R324)? -/
def State.imageValid (s : State) (i : Nat) : Bool :=
  s.mramNat (imageBase i + 0x680FC) 4 == imageCommit && s.mramNat (imageBase i) 4 == 0x53484931

/-- VERSION of image slot i. -/
def State.imageVersion (s : State) (i : Nat) : Nat := s.mramNat (imageBase i + 4) 4

/-- The valid slots in the order in which they are tried (R324). -/
def State.imageOrder (s : State) : List Nat :=
  (if s.imageVersion 0 < s.imageVersion 1 then [1, 0] else [0, 1]).filter (fun i => s.imageValid i)

/-- Write n words of the SRAM window from MRAM. -/
def State.loadWindow (s : State) (dst src n : Nat) : State :=
  s.forEach (List.range n) (fun i t => t.wr (dst + 4 * i) (t.mramNat (src + 4 * i) 4))

/-- The image of slot i is written to the stores (R324 step 4). -/
def State.imageWrite (s : State) (i : Nat) : State :=
  let b := imageBase i
  let t := (s.loadWindow Region.control.base (b + 0x40) 65536).loadWindow Region.nano.base (b + 0x40040) 32768
  let t := t.forEach (List.range 8) (fun c u => u.loadWindow (Region.aeImem c).base (b + 0x60040) 8192)
  (((t.set F.SHP_STATUS_IMAGE_OK 1).set F.SHP_STATUS_SLOT i).set F.SHP_IMAGE_VER (s.imageVersion i))

/-- Does slot i authenticate: its key hashes to the fuses' KEY_HASH, and its signature is the key's over bytes
0x0_0000 to 0x6_803F (R324 steps 2 and 3)? The byte order inside a digest is assumption 156. -/
def State.imageAuth (s : State) (i : Nat) : Bool :=
  let part (o n : Nat) : Nat := s.mramNat (imageBase i + o) n
  sha256 64 (fun k => part (0x68040 + k) 1) == Config.keyHash
    && ecdsaValid (part 0x68040 32) (part 0x68060 32) (part 0x68080 32) (part 0x680A0 32) (sha256 0x68040 (fun k => part k 1))

/-- Try slots in order (R324): one that authenticates is loaded, one that does not sets its AUTH_FAIL. -/
def State.imageTry : List Nat → State → State
  | [], s => s.set F.SHP_STATUS_IMAGE_OK 0
  | i :: is, s =>
    if s.imageAuth i then s.imageWrite i
    else State.imageTry is (s.raiseOnce (if i = 0 then F.SHP_STATUS_AUTH_FAIL_A else F.SHP_STATUS_AUTH_FAIL_B) 0x180
      cPROTOCOL 1 i)

/-- The slots of the records of R371 but the fault history: offset, size, MAGIC, commit word. -/
def recordSlots : List (Nat × Nat × Nat × Nat) :=
  [(factBase, factSize, factMagic, factCommit),
   (liveBase, liveSize, liveMagic, liveCommit),
   (liveBase + liveSize, liveSize, liveMagic, liveCommit),
   (ctxBase, ctxSize, ctxMagic, ctxCommit),
   (ctxBase + ctxSize, ctxSize, ctxMagic, ctxCommit),
   (0xF00000, 0x400000, 0x444C4731, 0x5EA1ED08),
   (0xF00000 + 0x400000, 0x400000, 0x444C4731, 0x5EA1ED08)]

/-- The offset of entry k of the fault history (R356, R415). -/
def histEntryAt (k : Nat) : Nat := 0x1700000 + 128 * k

/-- Step 7 reads every record: a committed one that is unsound raises RECORD_BAD (R371). -/
def State.scanRecords (s : State) : State :=
  let t := s.forEach recordSlots (fun r u => (u.recRead r.1 r.2.1 r.2.2.1 r.2.2.2).2)
  t.forEach (List.range 65536) (fun k u => (u.recRead (histEntryAt k) 128 0x46484531 0x5EA1ED09).2)

/-- The entry and SEQ after the valid entry with the highest SEQ (R415). -/
def State.histAfter (s : State) : Nat × Nat :=
  let best := (List.range 65536).foldl (fun (m : Option (Nat × Nat)) k =>
    if s.recValid (histEntryAt k) 128 0x46484531 0x5EA1ED09 then
      let q := s.mramNat (histEntryAt k + 4) 4
      match m with
      | some (_, q') => if q' < q then some (k, q) else m
      | none => some (k, q)
    else m) none
  match best with
  | some (k, q) => ((k + 1) % 65536, (q + 1) % 2 ^ 32)
  | none => (0, 1)

/-- Self-calibration runs tasks, with results checked as R436 states; with FACT_BAD it changes nothing (R441). -/
def State.selfCal (s : State) (tasks : List Nat) (obs : StartObs) : State :=
  if s.flag F.CAL_STATUS_FACT_BAD then s
  else (s.forEach tasks (fun k t =>
    let rs := (obs.cal.filter (fun x => x.1 == k)).flatMap (fun x => x.2)
    (t.calResults k rs ((calUnitsOf k).filter (fun u => !t.calUnitMuzzled k u))).1)).calRefresh

/-! ## Cold start (R448, R449, R452, R453) -/

/-- The straps and what takes its cold-reset value from them (R30, R198, R291, R480), NODE of WH_CTL, which defaults to
DEV_ID, among it (R186). -/
def State.straps (s : State) (obs : StartObs) : State :=
  let id := obs.devId.toNat
  let t := (((s.set F.GLB_ID_DEV_ID id).setB F.GLB_ID_TWIN_MEMBER obs.twinsel).setB F.TWN_CTL_FALLBACK_PORT (!obs.twinsel)).set
    F.WH_CTL_NODE id
  if id = 31 then t.raiseOnce F.LNK_RX_STATUS_DEVID_STRAP 0x162 cPROTOCOL 3 0 else t

/-- A unit that the self-test fails is muzzled and recorded; a pseudo-channel raises PC_FAIL too (R374, R424). -/
def State.selfTestFail (s : State) (u : MUnit) : State :=
  let t := if s.muzzledSelf u then s else { s with muzzles := s.muzzles ++ [⟨u, true, []⟩] }
  let t := t.raise 0x008 cDATA 1 (unitAddr u)
  match u with
  | .pc q => t.raiseOnce (F.DRM_STATUS_PC_FAIL (q / 16)) (0x140 + q / 16) cMEMORY 2 q
  | _ => t

/-- A start forced upon a warm request is recorded (R452). -/
def State.startForced (s : State) (reason : Nat) : State :=
  if reason < 2 then s else s.raise 0x008 cPROTOCOL 2 reason

/-- Only steps 2 to 4 of either start are fatal or fail (R448, R450). -/
def fatalAt (n : Nat) : Bool := decide (2 ≤ n) && decide (n ≤ 4)

/-- A fatal step: SAFE with START_FAIL and the step's number; the core does not run (R449). -/
def State.startFatal (s : State) (step : Nat) : State :=
  let t := (((s.set F.GLB_START_START_OK 0).set F.GLB_START_START_FAIL 1).set F.GLB_START_STEP step).set F.FLT_STATUS_STATE 2
  { t.set F.SHP_STATUS_IMAGE_OK 0 with coreUp := false }

/-- A cold start with its REASON. With a rail out of range it waits in step 1. -/
def State.coldStart (s : State) (reason : Nat) (obs : StartObs) : State :=
  let t := (((s.blank.straps obs).set F.CLK_GRP_STATUS_CLOCK_PRESENT (s.get F.CLK_GRP_STATUS_CLOCK_PRESENT)).set
    F.GLB_START_REASON reason).startForced reason
  if obs.railsOut then
    let t := ((t.set F.GLB_START_START_OK 0).set F.GLB_START_STEP 1).set F.SHP_STATUS_IMAGE_OK 0
    { t with coreUp := false, startHeld := some reason }
  else match obs.fatalStep.filter fatalAt with
  | some n => t.startFatal n
  | none =>
    let t := (t.forEach obs.failed (fun u x => x.selfTestFail u)).muzzleBits obs.failed
    let t := t.forEach obs.mramUe (fun a u => u.raiseOnce F.MRM_STATUS_UE_SEEN 0x142 cMEMORY 0x01 a.toNat)
    let t := t.scanRecords
    let t := { t with histNext := t.histAfter }
    ((State.imageTry t.imageOrder t).calLoad).selfCal [1, 2, 3, 4, 5, 6] obs

/-! ## Warm start (R450, R453) -/

/-- The word a register holds after its warm reset (R1). -/
def RegRow.warmWord (r : RegRow) (w : Nat) : Nat :=
  r.flds.foldl (fun x f => match f.warm with
    | some v => setBits x f.lo f.w v
    | none => x) w

/-- One word of the register map at a warm start: window words stay. -/
def warmEntry (e : Nat × Word) : Option (Nat × Word) :=
  match rowAt e.1 with
  | none => some e
  | some r =>
    let w := BitVec.ofNat 32 (r.warmWord e.2.toNat)
    if w = coldWord e.1 then none else some (e.1, w)

/-- The register map after the warm reset of every field. -/
def warmRegs (l : Tab Word) : Tab Word := l.filterMap warmEntry

/-- Insert a completion by session and tag. -/
def insertReply (r : Reply) : List Reply → List Reply
  | [] => [r]
  | x :: xs =>
    if r.session * 2 ^ 14 + r.tag < x.session * 2 ^ 14 + x.tag then r :: x :: xs else x :: insertReply r xs

/-- RESTARTED for every command in flight, in ascending session and tag order (R298). -/
def State.restarted (s : State) : List Reply :=
  let waiting := (s.replies.filter (fun r => r.admitted)).map (fun r =>
    { r with
      status := .restarted
      detail := 0
      payload := [] })
  let table := (s.inflight.filter (fun e => !e.suppressed)).map (fun e =>
    (⟨e.opcode, e.hdr.session.toNat, e.hdr.tag.toNat, e.hdr.port, bit e.domains 16, true, .restarted, 0, []⟩ : Reply))
  (waiting ++ table).foldl (fun l r => insertReply r l) []

/-- The code of the value that a PSM forces: the one its DAC puts out, or where a ramp or SHORT_PROTECT holds the output,
that of the output. -/
def State.psmForced (s : State) (n : Nat) : Int :=
  let u := s.psm n
  if u.ramp = .none ∧ s.flag (F.PSM_STATUS_SHORT_PROTECT n) = false then s.psmOutCode n else u.pos / s.psmUnit n

/-- A PSM keeps its output: LEVEL takes the value forced by a waveform or a sine, and what was armed or runs is
abandoned (R222). -/
def State.psmHold (s : State) (n : Nat) : State :=
  let u := s.psm n
  let t := if (u.stage = 1 ∨ u.stage = 2) ∧ s.get (F.PSM_STATUS_SOURCE n) ≠ 0 then
      let c := s.psmForced n
      ((s.psmDac n c).setI (F.PSM_LEVEL n) c).set (F.PSM_STATUS_SOURCE n) 0
    else s
  t.setPsm n { t.psm n with
    wave := none
    phase := 0
    sineStop := false
    sineWait := []
    timed := []
    meas := none
    snap := none
    waiters := []
    goHeld := 0 }

/-- Its status after the warm reset: a safe ramp goes on; SHORT_PROTECT has ended with its status bit (R224), and the
output keeps the value it had then (R222). -/
def State.psmWarm (s : State) (n : Nat) : State :=
  let u := s.psm n
  let t := if u.ramp = .safe then s.set (F.PSM_STATUS_SAFE_RAMP n) 1 else s
  (if u.stage = 1 ∧ u.ramp = .short then t.setPsm n { u with ramp := .none } else t).psmRefresh n

/-- The capture engine discards its staging, counts the records lost and writes WARM_START (R178, R453). -/
def State.capWarm (s : State) (p : Nat) : State :=
  let c := s.cap p
  let n := c.staging.length
  let t := s.setCap p { epoch := c.epoch, lostNext := min (c.lostNext + n) (2 ^ 32 - 1) }
  let lost := (t.rd64 (R.CAP_LOST_LO p) + n) % 2 ^ 64
  let t := if n = 0 then t
    else (t.wr64 (R.CAP_LOST_LO p) lost).raiseOnce (F.CAP_STATUS_LOST p) (packSrc p 2) cMEMORY 0x01 (lost % 2 ^ 32)
  let marks := (c.staging.filter (fun (r : CapRec) => r.words.getD 0 0 % 16 == 8)).length
  let t := if marks = 0 then t
    else
      let u := t.bumpBy (F.CAP_MARK_LOST p) marks
      u.raiseOnce (F.CAP_STATUS_MARK_LOST p) (packSrc p 2) cMEMORY 0x02 (u.get (F.CAP_MARK_LOST p))
  (t.lifeMark p 0x16 0 noBeat t.time).ringRefresh p

/-- A pack's sequencer keeps its image, its APG the instruction memory. DESIGN CHOICE: a beat without a step presents the
all-zero instruction until an APX has run since (assumption 182). -/
def State.packWarm (s : State) (p : Nat) : State :=
  let q := s.seq p
  let t := s.setSeq p { words := q.words, segs := q.segs, dataBase := q.dataBase }
  let t := t.setApg p { imem := (s.apg p).imem }
  (t.trimAll p).capWarm p

/-- Every applied calibration value takes its target (R439). -/
def State.calApply (s : State) : State :=
  s.forEach s.calUnits (fun e t =>
    let ps := e.2.params.foldl (fun (l : Tab CalParam) (p : Nat × CalParam) =>
      Tab.put {} l p.1 { p.2 with applied := p.2.target }) []
    { t with calUnits := Tab.put {} t.calUnits e.1 { e.2 with params := ps } })

/-- A store that a warm start interrupts leaves its slot without a commit word (R372). -/
def State.storeBreak (s : State) : State :=
  match s.calStore with
  | none => s
  | some _ =>
    let a := match s.newestSlot liveBase liveSize liveMagic liveCommit with
      | some (0, _) => liveBase + liveSize
      | _ => liveBase
    { s.putMramNat (commitAt a (s.recLength a)) 4 0 with calStore := none }

/-- Context words of site i from a checkpoint body, ACTIVE becoming UNTESTED with CAUSE 13 and keeping its fails (R35,
R38). -/
def State.ctxLoad (s : State) (body i : Nat) : State :=
  let w := s.mramNat (body + 32 * i) 4
  let active := bits w 0 3 = 1
  let t := s.wr (R.SHP_SITE_CTL i) (if active then setBits (setBits w 0 3 3) 4 4 13 else w)
  let t := t.forEach [1, 2, 3, 4, 5, 6, 7] (fun k u => u.wr (R.SHP_SITE_CTL i + 4 * k) (u.mramNat (body + 32 * i + 4 * k) 4))
  if active then
    let t : State := { t with ctxChanged := true }
    if t.rd (R.SHP_SITE_FAILS i) ≠ 0 then t.set (F.SHP_SITE_CTL_FAILS_KEPT i) 1 else t
  else t

/-- Step W5 (R450): the newest valid checkpoint, else every context IDLE with CKPT_NONE. -/
def State.ctxRestore (s : State) : State :=
  let t := s.forEach [ctxBase, ctxBase + ctxSize] (fun a u => (u.recRead a ctxSize ctxMagic ctxCommit).2)
  let t : State := { t with ctxChanged := false, ckptDue := false }
  match t.newestSlot ctxBase ctxSize ctxMagic ctxCommit with
  | some (_, b) => (t.set F.GLB_START_CKPT_NONE 0).forEach (List.range 1024) (fun i u => u.ctxLoad (b + 64) i)
  | none =>
    (t.set F.GLB_START_CKPT_NONE 1).forEach (List.range 1024) (fun i u =>
      u.forEach (List.range 8) (fun k v => v.wr (R.SHP_SITE_CTL i + 4 * k) 0))

/-- The work that a CORE reset abandons. -/
def State.abandon (s : State) : State :=
  { s with
    inflight := []
    ends := []
    replies := s.restarted
    latches := []
    condCauses := []
    coreUp := true
    chans := []
    routine := none
    leashFrozen := true
    isoAgain := false
    runs := []
    lockRun := []
    siteStops := []
    mirrorQ := []
    groups := []
    pauses := []
    jumpCmds := []
    tsetSwaps := []
    swapCmds := []
    cues := []
    cueAt := []
    whReq := 0
    whReqAt := []
    whSent := []
    whSet := none
    whSwap := none
    tmus := []
    passes := []
    alignCmds := []
    calTasks := []
    calGap := none
    calEnds := []
    calLate := []
    aes := []
    aeQueue := []
    mpaK := []
    mpaLast := []
    mpaHold := []
    mpaWait := []
    classSwap := none
    ueHit := []
    dmaJobs := []
    strSeq := []
    mirSeq := 0
    resyncs := []
    dlogStage := 0
    restWake := false
    startDue := none
    startHeld := none
    twinOut := none
    twinPeer := none
    strobeAt := []
    mspInd := none
    polls := []
    parked := []
    siteWork := []
    chains := [] }

/-- A port trains anew with FRESH; what waits to be acknowledged is discarded when FRESH is exchanged. -/
def State.portWarm (s : State) (x : Nat) : State :=
  let p := s.port x
  ((s.setPort x { p with ran := 0 }).portTrain x).setPort x { replay := p.replay, width := p.width }

/-- Every register takes its warm-reset value. -/
def State.warmTab (s : State) : State := { s with regs := warmRegs s.regs }

/-- The registers whose warm value is another than their cold one or than a stored one. -/
def State.warmFields (s : State) : State :=
  let t := s.forEach (List.range 512) (fun n u => u.set (F.CH_CTL_PENDING n) 1)
  let t := t.set F.MPA_MAP_MAP_ACTIVE (t.get F.MPA_MAP_MAP)
  let t := t.set F.WH_STATUS_STATE (if t.whMaster then 3 else 2)
  let on := bit (t.get F.CLK_GRP_STATUS_CLOCK_PRESENT) 3
  let t := (t.setB F.CLK_STATUS_WHS_OK on).setB F.CLK_STATUS_TTB_FROM_ROOT (!on)
  let t : State := { t with sync := { phase := t.sync.phase } }
  let t := t.forEach (List.range 64) (fun r u =>
    if u.flag (F.SHP_LOCK_HELD r) then u.set (F.SHP_LOCK_REMAIN_MS r) (Tab.get 0 u.leashLen r) else u)
  ((((t.set F.GLB_START_START_OK 1).set F.GLB_START_WARM_FAILS 0).set F.GLB_START_LAST_KIND 0).set F.GLB_START_REASON 1).set
    F.GLB_START_STEP 9

/-- A warm start that ends (R450). -/
def State.warmStart (s : State) (obs : StartObs) : State :=
  let t := (s.storeBreak.copyCut.classSettle.siteDrain).forEach (List.range 8) (fun c u => u.aeResetCore c .internal)
  let t := (t.forEach (List.range 96) (fun n u => u.psmHold n)).abandon
  let t := t.warmTab.warmFields
  let t := (((t.forEach (List.range 96) (fun n u => u.psmWarm n)).forEach (List.range 16) (fun p u => u.packWarm p)).calApply).grpDrain
  let t := t.forEach obs.failed (fun u x => match u with
    | .pc q => x.pcRetrainFail q
    | _ => x)
  (((t.ctxRestore).selfCal [6] obs).mpaDrain).forEach (List.range 3) (fun x u => u.portWarm x)

/-- A warm start request (R451). IMAGE_OK 0 fails every attempt in W4. -/
def State.warmRequest (s : State) (obs : StartObs) : State :=
  let fails := (obs.warmFails.takeWhile fatalAt).length + (if s.flag F.SHP_STATUS_IMAGE_OK then 0 else 2)
  if s.flag F.GLB_START_START_OK = false then s.coldStart 2 obs
  else if 2 ≤ s.get F.GLB_START_WARM_FAILS + fails then s.coldStart 3 obs
  else s.warmStart obs

/-! ## The rows (R411, R412, R446, R447, R466) -/

/-- VAUX_RISE (R447): the always-alive domain starts; no start until PWRGOOD rises. -/
def execVauxRise (s : State) : Out := .next { s with vaux := true }

/-- VAUX_FALL (R412): with VAUX every state but MRAM is gone, TRIPPED included. -/
def execVauxFall (s : State) : Out :=
  .next (
    if s.vaux then
      let t : State := { s.blank with
        vaux := false
        pwrgood := false
        coreUp := false
        histCount := 0
        histDrops := 0
        mspReply := 0
        mspCount := 0 }
      ((t.set F.GLB_START_START_OK 0).set F.GLB_START_STEP 0).set F.SHP_STATUS_IMAGE_OK 0
    else s)

/-- COLD_START (R446, R447): PWRGOOD rises. -/
def execColdStart (obs : StartObs) (s : State) : Out :=
  .next (
    if s.vaux && !s.pwrgood then
      let t : State := { s with pwrgood := true }
      if t.devState = 3 then t else t.coldStart 0 obs
    else s)

/-- PWRGOOD_FALL (R446, R447): the SAFE reaction, START_OK 0, and every PSM switch opens. -/
def execPwrgoodFall (s : State) : Out :=
  .next (
    if s.pwrgood then
      let t := if s.coreUp then s.muzzleAll [] [(s.activeSites, 7)] else s
      let t := ((t.react 4 .internal []).set F.GLB_START_START_OK 0).forEach (List.range 96) (fun n u =>
        if (u.psm n).stage = 0 then u else (u.setPsm n { u.psm n with ramp := .safe }).psmOpen n)
      { t with pwrgood := false }
    else s)

/-- RESET_N (R447). -/
def execResetN (obs : StartObs) (s : State) : Out :=
  .next (
    if s.vaux && s.pwrgood then
      match s.devState with
      | 3 => s
      | 2 =>
        (match s.clearCheck s.condCauses with
         | (true, t) => t.warmRequest obs
         | (false, t) => t)
      | _ => s.warmRequest obs
    else s)

/-- START (R466). -/
def execStart (h : CmdHdr) (pl : List Word) (s : State) : Out :=
  .next (s.cmd 0x81 h pl (fun s => ({ s with startDue := some (bit (word pl 0) 0) } : State).done h .ok))

/-- May a requested start begin: power is good, the START completion has left the port where the core runs to send it, and
no cause holds the device SAFE (R411, R412)? -/
def State.startReady (s : State) : Bool :=
  s.vaux && s.pwrgood && s.devState != 3 && !(s.devState == 2 && !s.condCauses.isEmpty)
    && (!s.coreUp || s.replies.all (fun r => r.opcode != 0x81))

/-- START_BEGIN (R466): 100 µs after the completion; and the end of a start's wait for its rails (R448 step 1). -/
def execStartBegin (obs : StartObs) (s : State) : Out :=
  .next (
    match s.startHeld with
    | some r => if s.startReady then s.coldStart r obs else s
    | none =>
      match s.startDue with
      | none => s
      | some k =>
        if s.startReady then
          let t : State := { s with startDue := none }
          if k then t.coldStart 1 obs else t.warmRequest obs
        else s)

/-- CLEAR_SAFE (R411): a CLEAR_SAFE through an MSP WRITE frame. No start begins while PWRGOOD is low (R447). -/
def execClearSafe (obs : StartObs) (s : State) : Out :=
  .next (
    if s.vaux && s.devState = 2 then
      match s.clearCheck s.condCauses with
      | (true, t) =>
        let t : State := { t with resp := .ok }
        if t.pwrgood then t.warmRequest obs else t
      | (false, t) => { t with resp := .badState }
    else s)

end Sys2Proof.Machine
end

