-- ==== Sys2Proof/Machine/Msp.lean ====
section
/-! DEFINITION. The management serial port (17_start_rest_twin_management.md, R467 to R473) and the TAP (R476,
R388). -/

namespace Sys2Proof.Machine

/-! ## Frames (R467 to R471) -/

/-- One bit step of CRC-16/CCITT. -/
def crc16Bit (c : Nat) (b : Bool) : Nat :=
  (c * 2 % 2 ^ 16) ^^^ (if bit c 15 != b then 0x1021 else 0)

/-- CRC-16/CCITT over bits [79:16] of a frame, most significant bit first. -/
def crc16 (f : Nat) : Nat := (List.range 64).foldl (fun c i => crc16Bit c (bit f (79 - i))) 0xFFFF

/-- The fields of a frame (R468). -/
def mspCmd (f : Nat) : Nat := bits f 72 8
def mspAlive (f : Nat) : Nat := bits f 64 8
def mspAddr (f : Nat) : Nat := bits f 48 16
def mspData (f : Nat) : Nat := bits f 16 32

/-- The number that follows in the counting of ALIVE and of the device's counter: 0 is skipped (R469, R470). -/
def mspNext (n : Nat) : Nat := n % 255 + 1

/-- The register address of a window address; none for a reserved block code or a byte that is not
word-aligned (R472). -/
def mspWindow (a : Nat) : Option Nat :=
  if a % 4 ≠ 0 then none
  else match a / 2 ^ 13 with
    | 0 => some (0x90000 + a % 2 ^ 13)
    | 1 => some (a % 2 ^ 13)
    | 2 => some (0x10000 + a % 2 ^ 13)
    | 3 => some (0x20000 + a % 2 ^ 13)
    | 4 => some (0x71000 + a % 2 ^ 13)
    | _ => none

/-- Is a register out of reach because CORE holds it and does not run (R472)? -/
def State.mspHeld (s : State) (a : Nat) : Bool := !s.coreUp && Config.coreHeld a

/-- Is a frame that passed its CRC flagged with CMD_ERR (R468, R472, R473)? -/
def State.mspCmdErr (s : State) (f : Nat) : Bool :=
  match mspCmd f with
  | 0 => (mspWindow (mspAddr f)).isNone
  | 1 => mspAlive f == 0 || (match mspWindow (mspAddr f) with
    | none => true
    | some a => s.mspHeld a)
  | 2 => mspAlive f == 0 || mspData f != 0x5AFE
  | 3 => mspAlive f == 0
  | 4 => mspAlive f == 0 || s.flag F.MSP_IND_STATUS_BUSY
  | 5 => mspAlive f == 0 || s.flag F.MSP_IND_STATUS_BUSY
  | _ => true

/-- Is the ALIVE of a frame wrong against the reference (R469)? -/
def State.mspAliveErr (s : State) (f : Nat) : Bool :=
  mspAlive f != 0 && s.flag F.MSP_ALIVE_HAS_REF && mspAlive f != mspNext (s.get F.MSP_ALIVE_REFERENCE)

/-- A frame's ALIVE becomes the reference (R469). -/
def State.mspRef (s : State) (f : Nat) : State :=
  if mspAlive f = 0 then s else (s.set F.MSP_ALIVE_REFERENCE (mspAlive f)).set F.MSP_ALIVE_HAS_REF 1

/-- The reply to a frame, shifted out during the next one (R470): the flags PREV_BAD, ALIVE_ERR, CRC_ERR and
CMD_ERR, the address and the data. -/
def State.mspAnswer (s : State) (flags addr data : Nat) : State :=
  let n := mspNext s.mspCount
  let status := flags + (if s.coreUp then 2 ^ 4 else 0) + (if s.alertLow then 2 ^ 5 else 0) + s.devState * 2 ^ 6
  let r := (status * 2 ^ 72 + n * 2 ^ 64 + addr * 2 ^ 48 + data % 2 ^ 32 * 2 ^ 16) % 2 ^ 80
  { s with
    mspCount := n
    mspReply := r + crc16 r }

/-- A bad frame: counted, reported once, not executed; its reply carries ADDR 0. -/
def State.mspBad (s : State) (flags : Nat) : State :=
  let t := s.bump F.MSP_ALIVE_MSP_BAD_CNT
  (t.raiseOnce F.MSP_ALIVE_BAD_FRAME 0x183 cPROTOCOL 1 (t.get F.MSP_ALIVE_MSP_BAD_CNT)).mspAnswer (1 + flags) 0 0

/-- The 80 bits that a frame is checked as: its last 80, or where it is shorter, all of them, zero-extended (R471). -/
def mspTaken (f : MspFrame) : Nat := f.word.toNat % 2 ^ min f.length 80

/-- While a frame of `n` bits is clocked in, as many bits of the reply before it go out, its first ones (R470, R471). -/
def State.mspShift (s : State) (n : Nat) : State :=
  { s with mspSdo := (min n 80, s.mspReply / 2 ^ (80 - min n 80)) }

/-- A frame's checks, then `act`, which answers the DATA of the reply and the state. A frame that the next assertion
overtook (R390), or that a group which is frozen, muzzled or held in reset does not deliver (R391), is bad. -/
def State.mspFrame (s : State) (f : Nat) (lost : Bool) (act : State → Nat × State) : State :=
  if lost || s.grpShut 4 then s.mspBad 0
  else if crc16 f ≠ f % 2 ^ 16 then s.mspBad 4
  else
    let flags := (if s.mspAliveErr f then 2 else 0) + (if s.mspCmdErr f then 8 else 0)
    let t := s.mspRef f
    if flags = 0 then
      let (d, u) := act t
      u.mspAnswer 0 (mspAddr f) d
    else t.mspBad flags

/-- A frame of command `c`. A good frame of another command belongs to that command's row; without VAUX there is no
port. -/
def State.msp (s : State) (c : Nat) (m : MspFrame) (act : Nat → State → Nat × State) : State :=
  let f := mspTaken m
  if s.vaux = false ∨ (crc16 f = f % 2 ^ 16 ∧ mspCmd f ≠ c ∧ mspCmd f ≤ 5) then s
  else (s.mspShift m.length).mspFrame f m.overtaken (act f)

/-- One read of a window register through the MSP: no latch takes part. -/
def State.mspGet (s : State) (a : Nat) : Nat × State := if s.mspHeld a then (0, s) else s.readReg none a

/-! ## The rows -/

/-- MSP_READ (R468, R472). -/
def execMspRead (frame : MspFrame) (s : State) : Out :=
  .next (s.msp 0 frame (fun f t => match mspWindow (mspAddr f) with
    | none => (0, t)
    | some a => t.mspGet a))

/-- What a WRITE frame stores. A CLEAR_SAFE that reaches FLT_CLEAR so is checked first (R409, R411): one that passes
requests a warm start, one that fails rejects the write. -/
def State.mspStore (s : State) (a v : Nat) : State :=
  if a = R.FLT_CLEAR ∧ bit v 1 = true ∧ s.devState = 2 then
    match s.clearCheck s.condCauses with
    | (true, t) =>
      { t.writeReg .msp a v with
        condCauses := []
        startDue := some false }
    | (false, t) => { t with resp := .badState }
  else s.writeReg .msp a v

/-- MSP_WRITE (R468, R472). -/
def execMspWrite (frame : MspFrame) (s : State) : Out :=
  .next (s.msp 1 frame (fun f t => match mspWindow (mspAddr f) with
    | none => (0, t)
    | some a => (t.mspStore a (mspData f)).mspGet a))

/-- MSP_SAFE (R468, R477): the SAFE reaction, whatever the programmed severity, recorded as MSP_SAFE. -/
def execMspSafe (frame : MspFrame) (s : State) : Out :=
  .next (s.msp 2 frame (fun _ t =>
    let m : FaultMsg := ⟨0x183, cPROTOCOL, 2, 0, t.time % 2 ^ 15⟩
    let u := if t.coreUp then t.muzzleAll [] [(t.activeSites, 7)] else t
    (0, (u.react 4 .internal [m]).raise 0x183 cPROTOCOL 2 0)))

/-- IND_ADDR (R468). -/
def execIndAddr (frame : MspFrame) (s : State) : Out :=
  .next (s.msp 3 frame (fun f t => (0, t.wr R.MSP_IND_ADDR (mspData f))))

/-- The indirect access ends with its status (R473). -/
def State.indEnd (s : State) (st : Status) : State :=
  (({ s with mspInd := none } : State).set F.MSP_IND_STATUS_CODE st.code).set F.MSP_IND_STATUS_BUSY 0
    |>.set F.MSP_IND_STATUS_DONE 1

/-- An indirect access begins, or completes at once with BAD_STATE (R473). -/
def State.indBegin (s : State) (write : Bool) (data : Nat) : State :=
  let a := s.rd R.MSP_IND_ADDR
  if !s.coreUp || (!s.flag F.SHP_STATUS_IMAGE_OK && !imagelessBlock a) then s.indEnd .badState
  else ({ s with mspInd := some (write, a, data) } : State).set F.MSP_IND_STATUS_BUSY 1

/-- IND_READ (R473). -/
def execIndRead (frame : MspFrame) (s : State) : Out := .next (s.msp 4 frame (fun _ t => (0, t.indBegin false 0)))

/-- IND_WRITE (R473). -/
def execIndWrite (frame : MspFrame) (s : State) : Out :=
  .next (s.msp 5 frame (fun f t => (0, t.indBegin true (mspData f))))

/-- The access itself, as a REG_READ or REG_WRITE of one word from session 0. -/
def State.indAccess (s : State) (write : Bool) (a data : Nat) : State :=
  if addressBad a then s.indEnd .badAddress
  else if write then
    match s.writeRefused a [BitVec.ofNat 32 data] with
    | some st => s.indEnd st
    | none =>
      let t := s.writeReg (.link 0) a data
      t.indEnd t.resp
  else
    let last := lastValidOf a
    let (l, t) := s.readWords 0 last a 1
    (t.wr R.MSP_IND_DATA (l.headD 0#32).toNat).indEnd (if a ≤ last then .ok else .partialDone)

/-- MSP_IND_DONE (R473): Shepherd carries the access out. -/
def execMspIndDone (s : State) : Out :=
  .next (
    match s.mspInd with
    | none => s
    | some (write, a, data) =>
      if !s.coreUp then s.indEnd .badState
      else match s.gate (if write then 1 else 0) [BitVec.ofNat 32 a] with
        | some st => s.indEnd st
        | none => s.indAccess write a data)

/-! ## The TAP (R476, R388) -/

/-- BYPASS: all ones (PRESUMED: IEEE 1149.1; the spec gives no code). -/
def tapBypass : Nat := 0xFF

/-- The instruction of a code. -/
def tapOf (ir : Nat) : TapInstr := if ir = tapBypass then .bypass else Config.tapInstr ir

/-- The instructions that are accepted only in SAFE or with PWRGOOD low; BYPASS, IDCODE and SAMPLE/PRELOAD always are. -/
def tapRestricted : TapInstr → Bool
  | .extest | .extestPulse | .extestTrain | .clamp | .highz => true
  | .bypass | .idcode | .sample | .other => false

/-- The device's IDCODE: version 0x1, part 0x5120, manufacturer code 0x2B7. -/
def tapIdcode : Nat := 0x1 * 2 ^ 28 + 0x5120 * 2 ^ 12 + 0x2B7 * 2 + 1

/-- What the data register that the instruction selects captures: IDCODE's word or BYPASS's 0, and after a reset of the TAP
IDCODE's. The order of the boundary register's cells is not given, so no word is answered for it. -/
def State.tapCapture (s : State) : Option Nat :=
  match (s.tapIr.map tapOf).getD .idcode with
  | .idcode => some tapIdcode
  | .bypass => some 0
  | _ => none

/-- TAP_UPDATE_IR (R476). With group TAP frozen, muzzled or held in reset the refusal does not reach the core (R391). -/
def execTapUpdateIr (ir : BitVec 8) (s : State) : Out :=
  .next (
    if tapRestricted (tapOf ir.toNat) = false ∨ s.devState = 2 ∨ s.pwrgood = false then
      { s with tapIr := some ir.toNat }
    else
      let t : State := { s with tapIr := some tapBypass }
      if s.grpShut 5 then t else t.set F.MSP_TAP 1)

/-- TRST_N (R388, R389): the TAP group is reset, and the destinations of crossing 17 keep their last value. -/
def execTrstN (s : State) : Out := .next { s with tapIr := none }

end Sys2Proof.Machine
end

