-- ==== Sys2Proof/Machine/Dispatch.lean ====
section
/-! DEFINITION. Which meaning each command has: one arm per constructor, in the order of the opcode table. -/

namespace Sys2Proof.Machine

/-- The effect of a command on the state, its queue aside. -/
def exec (i : Instr) (s : State) : Host.Outcome State Fault Refusal :=
  match i with
  | .plainRegisterWrite o addr value => Sys2Proof.Machine.execPlainRegisterWrite o addr value s
  | .seqNop p k => Sys2Proof.Machine.execSeqNop p k s
  | .rpt p beats k => Sys2Proof.Machine.execRpt p beats k s
  | .lpb p k => Sys2Proof.Machine.execLpb p k s
  | .lpe p k => Sys2Proof.Machine.execLpe p k s
  | .seqCall p k => Sys2Proof.Machine.execSeqCall p k s
  | .seqRet p k => Sys2Proof.Machine.execSeqRet p k s
  | .jmp p k => Sys2Proof.Machine.execJmp p k s
  | .matchWord p k => Sys2Proof.Machine.execMatchWord p k s
  | .seqHalt p k => Sys2Proof.Machine.execSeqHalt p k s
  | .wemit p k => Sys2Proof.Machine.execWemit p k s
  | .wwait p k => Sys2Proof.Machine.execWwait p k s
  | .cue p k => Sys2Proof.Machine.execCue p k s
  | .apx p k => Sys2Proof.Machine.execApx p k s
  | .waitBeat p k => Sys2Proof.Machine.execWaitBeat p k s
  | .holdBeat p k => Sys2Proof.Machine.execHoldBeat p k s
  | .groupStop p => Sys2Proof.Machine.execGroupStop p s
  | .edgeAct p c beat edge pad => Sys2Proof.Machine.execEdgeAct p c beat edge pad s
  | .trimStep p => Sys2Proof.Machine.execTrimStep p s
  | .captureResult p beat => Sys2Proof.Machine.execCaptureResult p beat s
  | .captureBurstWrite p => Sys2Proof.Machine.execCaptureBurstWrite p s
  | .triggerArrival p t => Sys2Proof.Machine.execTriggerArrival p t s
  | .deadIntervalEnd p => Sys2Proof.Machine.execDeadIntervalEnd p s
  | .capTrig o p value => Sys2Proof.Machine.execCapTrig o p value s
  | .keepaliveMark p => Sys2Proof.Machine.execKeepaliveMark p s
  | .ringEn o p value => Sys2Proof.Machine.execRingEn o p value s
  | .capRdHi o p value => Sys2Proof.Machine.execCapRdHi o p value s
  | .bitmapLineWrite p uncorrectable => Sys2Proof.Machine.execBitmapLineWrite p uncorrectable s
  | .apgImemHiWrite o p value => Sys2Proof.Machine.execApgImemHiWrite o p value s
  | .apgImemHiRead o p => Sys2Proof.Machine.execApgImemHiRead o p s
  | .raReq o p value => Sys2Proof.Machine.execRaReq o p value s
  | .raRequestStart p badLines => Sys2Proof.Machine.execRaRequestStart p badLines s
  | .repairRequestDone p => Sys2Proof.Machine.execRepairRequestDone p s
  | .chApply o p value => Sys2Proof.Machine.execChApply o p value s
  | .laneEnable o p l value => Sys2Proof.Machine.execLaneEnable o p l value s
  | .chPmuGo o ch value => Sys2Proof.Machine.execChPmuGo o ch value s
  | .pmuMeasSettled ch => Sys2Proof.Machine.execPmuMeasSettled ch s
  | .pmuMeasDone ch convs => Sys2Proof.Machine.execPmuMeasDone ch convs s
  | .drvOvercurrent ch => Sys2Proof.Machine.execDrvOvercurrent ch s
  | .pinClamp ch => Sys2Proof.Machine.execPinClamp ch s
  | .pmuClamp ch => Sys2Proof.Machine.execPmuClamp ch s
  | .loadCompliance ch => Sys2Proof.Machine.execLoadCompliance ch s
  | .levelMonitorRead ch which code => Sys2Proof.Machine.execLevelMonitorRead ch which code s
  | .drvOvercurrentClear o ch value => Sys2Proof.Machine.execDrvOvercurrentClear o ch value s
  | .align h pl => Sys2Proof.Machine.execAlign h pl s
  | .tdrLevelsSettled p => Sys2Proof.Machine.execTdrLevelsSettled p s
  | .tdrShotTimeout p c => Sys2Proof.Machine.execTdrShotTimeout p c s
  | .tdrPassEnd p => Sys2Proof.Machine.execTdrPassEnd p s
  | .patLoad h pl => Sys2Proof.Machine.execPatLoad h pl s
  | .patStart h pl => Sys2Proof.Machine.execPatStart h pl s
  | .patternBegin p => Sys2Proof.Machine.execPatternBegin p s
  | .patStop h pl => Sys2Proof.Machine.execPatStop h pl s
  | .patJump h pl => Sys2Proof.Machine.execPatJump h pl s
  | .patPause h pl => Sys2Proof.Machine.execPatPause h pl s
  | .patResume h pl => Sys2Proof.Machine.execPatResume h pl s
  | .tsetSwap h pl => Sys2Proof.Machine.execTsetSwap h pl s
  | .tsetSwapWrap p => Sys2Proof.Machine.execTsetSwapWrap p s
  | .tmuGo o t value => Sys2Proof.Machine.execTmuGo o t value s
  | .tmuCalibration t c1 c2 => Sys2Proof.Machine.execTmuCalibration t c1 c2 s
  | .tmuArm t => Sys2Proof.Machine.execTmuArm t s
  | .tmuEdge t e => Sys2Proof.Machine.execTmuEdge t e s
  | .tmuTimeout t => Sys2Proof.Machine.execTmuTimeout t s
  | .freqGateClose t => Sys2Proof.Machine.execFreqGateClose t s
  | .tmuMeasEnd t => Sys2Proof.Machine.execTmuMeasEnd t s
  | .tmuAbortBit o t value => Sys2Proof.Machine.execTmuAbortBit o t value s
  | .tmuMeasure h pl => Sys2Proof.Machine.execTmuMeasure h pl s
  | .tmuAbort h pl => Sys2Proof.Machine.execTmuAbort h pl s
  | .pmuMeasure h pl => Sys2Proof.Machine.execPmuMeasure h pl s
  | .psmCtlWrite o n value => Sys2Proof.Machine.execPsmCtlWrite o n value s
  | .psmLevelWrite o n value => Sys2Proof.Machine.execPsmLevelWrite o n value s
  | .psmSlewStep n => Sys2Proof.Machine.execPsmSlewStep n s
  | .safeRampEnd n => Sys2Proof.Machine.execSafeRampEnd n s
  | .psmSampleTick n => Sys2Proof.Machine.execPsmSampleTick n s
  | .wavePrefilled n => Sys2Proof.Machine.execWavePrefilled n s
  | .psmCue n cue => Sys2Proof.Machine.execPsmCue n cue s
  | .psmAdcReading n measured code clamps => Sys2Proof.Machine.execPsmAdcReading n measured code clamps s
  | .snapRearm n => Sys2Proof.Machine.execSnapRearm n s
  | .clamp n => Sys2Proof.Machine.execClamp n s
  | .short n => Sys2Proof.Machine.execShort n s
  | .senseOpen n => Sys2Proof.Machine.execSenseOpen n s
  | .boostRange n => Sys2Proof.Machine.execBoostRange n s
  | .psmStatusClear o n value => Sys2Proof.Machine.execPsmStatusClear o n value s
  | .measGo o n => Sys2Proof.Machine.execMeasGo o n s
  | .psmMeasSettled n => Sys2Proof.Machine.execPsmMeasSettled n s
  | .snapTrig o n => Sys2Proof.Machine.execSnapTrig o n s
  | .snapAbort o n => Sys2Proof.Machine.execSnapAbort o n s
  | .psmSineFtwHi o n value => Sys2Proof.Machine.execPsmSineFtwHi o n value s
  | .psmSetLevel h pl => Sys2Proof.Machine.execPsmSetLevel h pl s
  | .psmSetLevelTimeout n => Sys2Proof.Machine.execPsmSetLevelTimeout n s
  | .psmWaveArm h pl => Sys2Proof.Machine.execPsmWaveArm h pl s
  | .psmWaveStart h pl => Sys2Proof.Machine.execPsmWaveStart h pl s
  | .psmWaveStop h pl => Sys2Proof.Machine.execPsmWaveStop h pl s
  | .psmWaveJump h pl => Sys2Proof.Machine.execPsmWaveJump h pl s
  | .psmSineStart h pl => Sys2Proof.Machine.execPsmSineStart h pl s
  | .psmSineStop h pl => Sys2Proof.Machine.execPsmSineStop h pl s
  | .psmMeasure h pl => Sys2Proof.Machine.execPsmMeasure h pl s
  | .psmSnapArm h pl => Sys2Proof.Machine.execPsmSnapArm h pl s
  | .psmSnapTrig h pl => Sys2Proof.Machine.execPsmSnapTrig h pl s
  | .scalarAdd c k => Sys2Proof.Machine.execScalarAdd c k s
  | .scalarSub c k => Sys2Proof.Machine.execScalarSub c k s
  | .scalarAnd c k => Sys2Proof.Machine.execScalarAnd c k s
  | .scalarOr c k => Sys2Proof.Machine.execScalarOr c k s
  | .scalarXor c k => Sys2Proof.Machine.execScalarXor c k s
  | .scalarShl c k => Sys2Proof.Machine.execScalarShl c k s
  | .scalarShr c k => Sys2Proof.Machine.execScalarShr c k s
  | .scalarSar c k => Sys2Proof.Machine.execScalarSar c k s
  | .scalarMul c k => Sys2Proof.Machine.execScalarMul c k s
  | .scalarSeq c k => Sys2Proof.Machine.execScalarSeq c k s
  | .scalarSlt c k => Sys2Proof.Machine.execScalarSlt c k s
  | .scalarSltu c k => Sys2Proof.Machine.execScalarSltu c k s
  | .scalarLi c k => Sys2Proof.Machine.execScalarLi c k s
  | .scalarNop c k => Sys2Proof.Machine.execScalarNop c k s
  | .valuAdd c k => Sys2Proof.Machine.execValuAdd c k s
  | .valuSub c k => Sys2Proof.Machine.execValuSub c k s
  | .valuNeg c k => Sys2Proof.Machine.execValuNeg c k s
  | .valuAbs c k => Sys2Proof.Machine.execValuAbs c k s
  | .valuMin c k => Sys2Proof.Machine.execValuMin c k s
  | .valuMax c k => Sys2Proof.Machine.execValuMax c k s
  | .valuAnd c k => Sys2Proof.Machine.execValuAnd c k s
  | .valuOr c k => Sys2Proof.Machine.execValuOr c k s
  | .valuXor c k => Sys2Proof.Machine.execValuXor c k s
  | .valuNot c k => Sys2Proof.Machine.execValuNot c k s
  | .valuSar c k => Sys2Proof.Machine.execValuSar c k s
  | .valuShl c k => Sys2Proof.Machine.execValuShl c k s
  | .valuCmpeq c k => Sys2Proof.Machine.execValuCmpeq c k s
  | .valuCmplt c k => Sys2Proof.Machine.execValuCmplt c k s
  | .valuSel c k => Sys2Proof.Machine.execValuSel c k s
  | .vmacMul c k => Sys2Proof.Machine.execVmacMul c k s
  | .mac c k => Sys2Proof.Machine.execMac c k s
  | .msu c k => Sys2Proof.Machine.execMsu c k s
  | .vld c k => Sys2Proof.Machine.execVld c k s
  | .vst c k => Sys2Proof.Machine.execVst c k s
  | .wld c k => Sys2Proof.Machine.execWld c k s
  | .wst c k => Sys2Proof.Machine.execWst c k s
  | .sld c k => Sys2Proof.Machine.execSld c k s
  | .sst c k => Sys2Proof.Machine.execSst c k s
  | .sta c k => Sys2Proof.Machine.execSta c k s
  | .mov c k => Sys2Proof.Machine.execMov c k s
  | .lanex c k => Sys2Proof.Machine.execLanex c k s
  | .bcast c k => Sys2Proof.Machine.execBcast c k s
  | .br c k => Sys2Proof.Machine.execBr c k s
  | .brc c k => Sys2Proof.Machine.execBrc c k s
  | .call c k => Sys2Proof.Machine.execCall c k s
  | .ret c k => Sys2Proof.Machine.execRet c k s
  | .rti c k => Sys2Proof.Machine.execRti c k s
  | .djnz c k => Sys2Proof.Machine.execDjnz c k s
  | .swi c k => Sys2Proof.Machine.execSwi c k s
  | .waitdma c k => Sys2Proof.Machine.execWaitdma c k s
  | .halt c k => Sys2Proof.Machine.execHalt c k s
  | .rep c k => Sys2Proof.Machine.execRep c k s
  | .dmaStart c k => Sys2Proof.Machine.execDmaStart c k s
  | .aeDmaEnd c ch => Sys2Proof.Machine.execAeDmaEnd c ch s
  | .aeInterrupt c => Sys2Proof.Machine.execAeInterrupt c s
  | .aeDoorbell o c value => Sys2Proof.Machine.execAeDoorbell o c value s
  | .aeRun o c value => Sys2Proof.Machine.execAeRun o c value s
  | .haltReq o c => Sys2Proof.Machine.execHaltReq o c s
  | .aeReset o c => Sys2Proof.Machine.execAeReset o c s
  | .aeCall h pl => Sys2Proof.Machine.execAeCall h pl s
  | .aeCallDispatch => Sys2Proof.Machine.execAeCallDispatch s
  | .aeCallEnd c r => Sys2Proof.Machine.execAeCallEnd c r s
  | .callTimeout c => Sys2Proof.Machine.execCallTimeout c s
  | .linkTrainStart port => Sys2Proof.Machine.execLinkTrainStart port s
  | .linkTrained port t => Sys2Proof.Machine.execLinkTrained port t s
  | .linkTrainRetry port => Sys2Proof.Machine.execLinkTrainRetry port s
  | .laneDown port lane => Sys2Proof.Machine.execLaneDown port lane s
  | .linkDown port => Sys2Proof.Machine.execLinkDown port s
  | .retrain o port => Sys2Proof.Machine.execRetrain o port s
  | .packetReceive port pkt => Sys2Proof.Machine.execPacketReceive port pkt s
  | .ack port seq => Sys2Proof.Machine.execAck port seq s
  | .nak port seq => Sys2Proof.Machine.execNak port seq s
  | .credit port cmd rsp => Sys2Proof.Machine.execCredit port cmd rsp s
  | .ackSendTimer port => Sys2Proof.Machine.execAckSendTimer port s
  | .replayTimeout port => Sys2Proof.Machine.execReplayTimeout port s
  | .egressSend port => Sys2Proof.Machine.execEgressSend port s
  | .commandStart session tag => Sys2Proof.Machine.execCommandStart session tag s
  | .regRead h pl => Sys2Proof.Machine.execRegRead h pl s
  | .regWrite h pl => Sys2Proof.Machine.execRegWrite h pl s
  | .regModify h pl => Sys2Proof.Machine.execRegModify h pl s
  | .regPoll h pl => Sys2Proof.Machine.execRegPoll h pl s
  | .regPollRead session tag => Sys2Proof.Machine.execRegPollRead session tag s
  | .memRead h pl => Sys2Proof.Machine.execMemRead h pl s
  | .memWrite h pl => Sys2Proof.Machine.execMemWrite h pl s
  | .memFill h pl => Sys2Proof.Machine.execMemFill h pl s
  | .dmaRead h pl => Sys2Proof.Machine.execDmaRead h pl s
  | .sessionReset h pl => Sys2Proof.Machine.execSessionReset h pl s
  | .emergencySafe port h device crcOk => Sys2Proof.Machine.execEmergencySafe port h device crcOk s
  | .nop h pl => Sys2Proof.Machine.execNop h pl s
  | .barrier h pl => Sys2Proof.Machine.execBarrier h pl s
  | .echo h pl => Sys2Proof.Machine.execEcho h pl s
  | .microNano ue => Sys2Proof.Machine.execMicroNano ue s
  | .microBranch ue => Sys2Proof.Machine.execMicroBranch ue s
  | .microCommit ue => Sys2Proof.Machine.execMicroCommit ue s
  | .microEnd ue => Sys2Proof.Machine.execMicroEnd ue s
  | .routineRestart => Sys2Proof.Machine.execRoutineRestart s
  | .routineOverrun => Sys2Proof.Machine.execRoutineOverrun s
  | .flowLoad h pl => Sys2Proof.Machine.execFlowLoad h pl s
  | .flowUnload h pl => Sys2Proof.Machine.execFlowUnload h pl s
  | .flowStart h pl => Sys2Proof.Machine.execFlowStart h pl s
  | .flowAbort h pl => Sys2Proof.Machine.execFlowAbort h pl s
  | .siteRead h pl => Sys2Proof.Machine.execSiteRead h pl s
  | .siteClear h pl => Sys2Proof.Machine.execSiteClear h pl s
  | .siteMuzzle h pl => Sys2Proof.Machine.execSiteMuzzle h pl s
  | .endStep run => Sys2Proof.Machine.execEndStep run s
  | .patternStep run => Sys2Proof.Machine.execPatternStep run s
  | .pmuStep run => Sys2Proof.Machine.execPmuStep run s
  | .psmForceStep run => Sys2Proof.Machine.execPsmForceStep run s
  | .tmuStep run => Sys2Proof.Machine.execTmuStep run s
  | .aeStep run => Sys2Proof.Machine.execAeStep run s
  | .limitStep run => Sys2Proof.Machine.execLimitStep run s
  | .contactStep run => Sys2Proof.Machine.execContactStep run s
  | .muxStep run => Sys2Proof.Machine.execMuxStep run s
  | .waitStep run => Sys2Proof.Machine.execWaitStep run s
  | .repairStep run => Sys2Proof.Machine.execRepairStep run s
  | .flowStepEnd run => Sys2Proof.Machine.execFlowStepEnd run s
  | .lockAcquire h pl => Sys2Proof.Machine.execLockAcquire h pl s
  | .lockRenew h pl => Sys2Proof.Machine.execLockRenew h pl s
  | .lockRelease h pl => Sys2Proof.Machine.execLockRelease h pl s
  | .lockStatus h pl => Sys2Proof.Machine.execLockStatus h pl s
  | .leashTick => Sys2Proof.Machine.execLeashTick s
  | .leashExpiry r => Sys2Proof.Machine.execLeashExpiry r s
  | .mpaArbitration q reqs => Sys2Proof.Machine.execMpaArbitration q reqs s
  | .grantHeld q => Sys2Proof.Machine.execGrantHeld q s
  | .mpaFreeze o value => Sys2Proof.Machine.execMpaFreeze o value s
  | .mpaClassSwap o => Sys2Proof.Machine.execMpaClassSwap o s
  | .egressSlotSwap o port => Sys2Proof.Machine.execEgressSlotSwap o port s
  | .mramCopyGo o value => Sys2Proof.Machine.execMramCopyGo o value s
  | .mramCopyDone bad => Sys2Proof.Machine.execMramCopyDone bad s
  | .patrolScrub mram addr uncorrectable => Sys2Proof.Machine.execPatrolScrub mram addr uncorrectable s
  | .refLost => Sys2Proof.Machine.execRefLost s
  | .rootUnlock => Sys2Proof.Machine.execRootUnlock s
  | .drmUnlock d => Sys2Proof.Machine.execDrmUnlock d s
  | .hkoRange khz => Sys2Proof.Machine.execHkoRange khz s
  | .groupFreeze o value => Sys2Proof.Machine.execGroupFreeze o value s
  | .groupMuzzle o value => Sys2Proof.Machine.execGroupMuzzle o value s
  | .groupReset o value => Sys2Proof.Machine.execGroupReset o value s
  | .groupResetEnd g => Sys2Proof.Machine.execGroupResetEnd g s
  | .faultRecord => Sys2Proof.Machine.execFaultRecord s
  | .safeCoreStop => Sys2Proof.Machine.execSafeCoreStop s
  | .historyLost => Sys2Proof.Machine.execHistoryLost s
  | .fltPendingAck o value => Sys2Proof.Machine.execFltPendingAck o value s
  | .clearStop o => Sys2Proof.Machine.execClearStop o s
  | .clearSafe obs => Sys2Proof.Machine.execClearSafe obs s
  | .clearFirst o => Sys2Proof.Machine.execClearFirst o s
  | .fltUnmuzzle o value => Sys2Proof.Machine.execFltUnmuzzle o value s
  | .fltMuzzle o value => Sys2Proof.Machine.execFltMuzzle o value s
  | .diodeReading d t => Sys2Proof.Machine.execDiodeReading d t s
  | .hkRoundReading v => Sys2Proof.Machine.execHkRoundReading v s
  | .dramTempReading d t => Sys2Proof.Machine.execDramTempReading d t s
  | .pfeInterfaceStop k => Sys2Proof.Machine.execPfeInterfaceStop k s
  | .pfeLost k => Sys2Proof.Machine.execPfeLost k s
  | .railUv rail => Sys2Proof.Machine.execRailUv rail s
  | .calGap h pl => Sys2Proof.Machine.execCalGap h pl s
  | .calEnd h pl => Sys2Proof.Machine.execCalEnd h pl s
  | .calRun h pl => Sys2Proof.Machine.execCalRun h pl s
  | .calStore h pl => Sys2Proof.Machine.execCalStore h pl s
  | .calStoreDone ok => Sys2Proof.Machine.execCalStoreDone ok s
  | .calForget h pl => Sys2Proof.Machine.execCalForget h pl s
  | .calAbort h pl => Sys2Proof.Machine.execCalAbort h pl s
  | .calTaskEnd task results => Sys2Proof.Machine.execCalTaskEnd task results s
  | .trimMove task unit param => Sys2Proof.Machine.execTrimMove task unit param s
  | .vauxRise => Sys2Proof.Machine.execVauxRise s
  | .vauxFall => Sys2Proof.Machine.execVauxFall s
  | .coldStart obs => Sys2Proof.Machine.execColdStart obs s
  | .pwrgoodFall => Sys2Proof.Machine.execPwrgoodFall s
  | .resetN obs => Sys2Proof.Machine.execResetN obs s
  | .start h pl => Sys2Proof.Machine.execStart h pl s
  | .startBegin obs => Sys2Proof.Machine.execStartBegin obs s
  | .checkpointTimer ok => Sys2Proof.Machine.execCheckpointTimer ok s
  | .ckptWrite h pl ok => Sys2Proof.Machine.execCkptWrite h pl ok s
  | .dlogRdHi o value => Sys2Proof.Machine.execDlogRdHi o value s
  | .restEnter h pl => Sys2Proof.Machine.execRestEnter h pl s
  | .restEntered => Sys2Proof.Machine.execRestEntered s
  | .restExit h pl => Sys2Proof.Machine.execRestExit h pl s
  | .wake o => Sys2Proof.Machine.execWake o s
  | .restAwake failed => Sys2Proof.Machine.execRestAwake failed s
  | .mirrorRead h pl => Sys2Proof.Machine.execMirrorRead h pl s
  | .twinResync h pl => Sys2Proof.Machine.execTwinResync h pl s
  | .twinKeepaliveSend => Sys2Proof.Machine.execTwinKeepaliveSend s
  | .heartbeat => Sys2Proof.Machine.execHeartbeat s
  | .keepalive k => Sys2Proof.Machine.execKeepalive k s
  | .twinSilenceTimeout => Sys2Proof.Machine.execTwinSilenceTimeout s
  | .mspRead frame => Sys2Proof.Machine.execMspRead frame s
  | .mspWrite frame => Sys2Proof.Machine.execMspWrite frame s
  | .mspSafe frame => Sys2Proof.Machine.execMspSafe frame s
  | .indAddr frame => Sys2Proof.Machine.execIndAddr frame s
  | .indRead frame => Sys2Proof.Machine.execIndRead frame s
  | .indWrite frame => Sys2Proof.Machine.execIndWrite frame s
  | .mspIndDone => Sys2Proof.Machine.execMspIndDone s
  | .isoGo o value => Sys2Proof.Machine.execIsoGo o value s
  | .isoShiftDone => Sys2Proof.Machine.execIsoShiftDone s
  | .tapUpdateIr ir => Sys2Proof.Machine.execTapUpdateIr ir s
  | .whistleFrameStart timeSlotSeen => Sys2Proof.Machine.execWhistleFrameStart timeSlotSeen s
  | .echoLaunch rt => Sys2Proof.Machine.execEchoLaunch rt s
  | .echoAnswer => Sys2Proof.Machine.execEchoAnswer s
  | .framePulseReceive phaseErr timeBit => Sys2Proof.Machine.execFramePulseReceive phaseErr timeBit s
  | .syncLost => Sys2Proof.Machine.execSyncLost s
  | .whsLost => Sys2Proof.Machine.execWhsLost s
  | .whClkReturn => Sys2Proof.Machine.execWhClkReturn s
  | .whMasterWrite o value => Sys2Proof.Machine.execWhMasterWrite o value s
  | .whTimeSetHi o value => Sys2Proof.Machine.execWhTimeSetHi o value s
  | .whSwapHi o value => Sys2Proof.Machine.execWhSwapHi o value s
  | .whEmit o value => Sys2Proof.Machine.execWhEmit o value s
  | .whistleEventSend line => Sys2Proof.Machine.execWhistleEventSend line s
  | .whistleEventAct line => Sys2Proof.Machine.execWhistleEventAct line s
  | .whAllstop o value => Sys2Proof.Machine.execWhAllstop o value s
  | .allstop => Sys2Proof.Machine.execAllstop s
  | .allstopRelease => Sys2Proof.Machine.execAllstopRelease s
  | .allstopRearm => Sys2Proof.Machine.execAllstopRearm s
  | .refclkReturn => Sys2Proof.Machine.execRefclkReturn s
  | .drmPllRelock d => Sys2Proof.Machine.execDrmPllRelock d s
  | .psmTimedStart n => Sys2Proof.Machine.execPsmTimedStart n s
  | .trstN => Sys2Proof.Machine.execTrstN s

end Sys2Proof.Machine
end

