-- ==== Sys2Proof/Safety.lean ====
section
/-! DEFINITION. What a safe state is: the stores of the block in their canonical form, so that equal contents are
equal data. -/

namespace Sys2Proof.Machine

/-- The register map, DRAM and MRAM are in canonical form. -/
structure State.Canon (s : State) : Prop where
  regs : Tab.wf coldWord s.regs = true
  dram : Memory.wf s.dram = true
  mram : Memory.wf s.mram = true

/-- A step that answers a next state, not a fault and not a refusal. -/
def State.Steps (s : State) : Prop := ∃ t, step s = .next t

/-- A link command that starts at once: the core runs, no command of the same session and tag is in flight, no
calibration holds a pack it names (R432), Rest and a missing image admit it (R315, R325), and its length and fields
are as its opcode requires (R295). -/
structure State.Admits (s : State) (op : Nat) (h : CmdHdr) (pl : List Word) : Prop where
  core : s.coreUp = true
  fresh : s.entryOf h = none
  free : s.calHeld op pl = false
  gate : s.gate op pl = none
  form : formOf op pl = none

/-- The state with that command in flight and running. -/
def State.admitted (s : State) (op : Nat) (h : CmdHdr) (pl : List Word) : State :=
  (s.homed h).enlist op h pl .running

/-- A completion of command h with this status, DETAIL and payload waits to be sent. -/
def State.Answers (s : State) (h : CmdHdr) (st : Status) (detail : Nat) (pl : List Word) : Prop :=
  ∃ r ∈ s.replies, r.session = h.session.toNat ∧ r.tag = h.tag.toNat ∧ r.status = st ∧ r.detail = detail ∧ r.payload = pl

/-- Only the words of the register map at the addresses listed may differ. -/
def State.RegsBut (s t : State) (l : List Nat) : Prop := ∀ a, a ∉ l → t.rd a = s.rd a

/-- The registers that show the running tasks and the packs they hold (R432, R444). -/
def calShown : List Nat := R.CAL_STATUS :: (List.range 16).map R.PK_STATUS

/-- The status registers of pack p's TMUs. -/
def tmuStatusOf (p : Nat) : List Nat := (List.range 4).map (fun j => R.TMU_STATUS (4 * p + j))

/-- The words of TMU t's result block (R215). -/
def tmuBlockOf (t : Nat) : List Nat := (List.range 42).map (fun i => R.TMU_RES_HDR t + 4 * i)

/-- No byte of DRAM or of MRAM differs. -/
def State.SameMemory (s t : State) : Prop := t.dram = s.dram ∧ t.mram = s.mram

/-- Core c runs, unmuzzled, with the legal word w at its PC, no earlier write still to be seen, and no branch, REP or
HALT_REQ outstanding. -/
structure State.AeReady (s : State) (c w : Nat) : Prop where
  running : s.flag (F.AE_STATUS_RUNNING c) = true
  muzzled : s.aeMuzzled c = false
  word : s.aeWord c (s.aePc c) = w
  legal : aeLegal w = true
  writes : (s.aec c).writes = []
  branch : (s.aec c).branch = none
  rep : (s.aec c).rep = none
  haltReq : (s.aec c).haltReq = false

/-- Core c has issued one instruction: its PC is pc, its cycle one more, its registers those of k, and everything
else as before. -/
def State.AeIssued (s t : State) (c pc : Nat) (k : AeCore) : Prop :=
  t.aec c = { k with clock := (s.aec c).clock + 1 } ∧ t.aePc c = pc % 2 ^ 13
    ∧ t.rd64 (R.AE_CYCLE_LO c) = (s.rd64 (R.AE_CYCLE_LO c) + 1) % 2 ^ 64
    ∧ s.RegsBut t [R.AE_PC c, R.AE_CYCLE_LO c, R.AE_CYCLE_HI c] ∧ s.SameMemory t

/-- The core registers of c with writes that instructions issued so many cycles later see. -/
def State.aeWrites (s : State) (c : Nat) (l : List (Nat × AeWrite)) : AeCore :=
  { s.aec c with writes := l.map (fun x => ((s.aec c).clock + x.1, x.2)) }

/-- A run that begins step i for these sites: all of them still to be served. -/
def Run.begun (x : Run) (i : Nat) (sites : List Nat) : Run :=
  { x with
    muxSite := none
    step := some i
    standing := sites
    todo := sites
    busy := []
    verdicts := []
    results := []
    stored := [] }

/-- A run that carries out no step. -/
def Run.resting (x : Run) : Run :=
  { x with
    step := none
    standing := []
    todo := []
    busy := []
    verdicts := []
    results := []
    stored := [] }

/-- Run r is x, its next step i is of this kind, for these sites, which are some, and the core runs; no site skips
the step for being binned. -/
structure State.StepDue (s : State) (r kind : Nat) (x : Run) (i : Nat) (sites : List Nat) : Prop where
  run : s.run r = some x
  next : x.nextStep = some (i, sites)
  core : s.coreUp = true
  due : s.stepKind x.image i = kind
  within : i < s.stepCount x.image
  any : sites ≠ []
  plain : kind = 0 ∨ bit (s.stepWord x.image i 0) 8 = false ∨ ∀ j ∈ sites, s.get (F.SHP_SITE_CTL_BIN j) = 0

/-- Only run r has changed, to y; every register and every byte of memory is as before. -/
def State.RunIs (s t : State) (r : Nat) (y : Run) : Prop :=
  t.run r = some y ∧ (∀ k, k ≠ r → t.run k = s.run k) ∧ t.regs = s.regs ∧ s.SameMemory t

/-- No run has maps to restore. -/
def State.NoMapsSaved (s : State) : Prop := ∀ k y, s.run k = some y → y.saved = []

/-- A frame of command c that the device takes without a flag (R468, R469, R391). -/
structure State.MspGood (s : State) (c f : Nat) : Prop where
  crc : crc16 f = f % 2 ^ 16
  cmd : mspCmd f = c
  shut : s.grpShut 4 = false
  alive : s.mspAliveErr f = false
  legal : s.mspCmdErr f = false

/-- The reply to a good frame waits to be shifted out: the next count, no flag, the frame's address, this data, and a
sound CRC (R470). -/
def State.MspReplies (s t : State) (f d : Nat) : Prop :=
  t.mspCount = mspNext s.mspCount ∧ mspData t.mspReply = d % 2 ^ 32 ∧ mspAddr t.mspReply = mspAddr f
    ∧ bits t.mspReply 72 4 = 0 ∧ bits t.mspReply 64 8 = mspNext s.mspCount % 2 ^ 8
    ∧ crc16 t.mspReply = t.mspReply % 2 ^ 16

end Sys2Proof.Machine
end

