-- ==== Sys2Proof/Certificates/Slice0/Obligations.lean ====
section
/-! DEFINITION. The statements for the provers. -/

open Sys2Proof Sys2Proof.Machine

/-- The queue and idling are the model's conventions (assumption 6): the front command runs, with the rest as the queue. -/
def Obligations.StepRunsTheFront : Prop :=
  (∀ (c : Instr) (cs : List Instr) (s : State), s.pending = c :: cs → step s = exec c { s with pending := cs })
    ∧ ∀ s : State, s.pending = [] → step s = .next s

/-- No command stops the block, breaks the canonical form of a store, or touches the queue of waiting commands. -/
def Obligations.CommandsKeepTheStoresCanonical : Prop :=
  ∀ (c : Instr) (s : State), s.Canon → ∃ t, exec c s = .next t ∧ t.Canon ∧ t.pending = s.pending

/-- The invariant of the machine: the canonical form of the register map, DRAM and MRAM. A step takes one command off the queue. -/
def Obligations.StepKeepsTheInvariant : Prop :=
  ∀ s : State, s.Canon → ∃ t, step s = .next t ∧ t.Canon ∧ t.pending = s.pending.tail

/-- What reset leaves of the stores and the queues; MRAM contents are assumption 3. -/
def Obligations.ResetIsCanonical : Prop :=
  State.reset.Canon ∧ State.reset.pending = [] ∧ State.reset.inflight = [] ∧ State.reset.replies = []
    ∧ ∀ a, State.reset.dramByte a = 0#8

/-- R1: the access codes of the field maps, for every register row of the map; a WO field has an effect when written, and holds nothing. R3, R24, R26, R27, R29: the outcomes of a plain register write, in the device blocks, the memory block, the Whistle block, the pack units and the AE memories. -/
def Obligations.RegisterStores : Prop :=
  (∀ (a : Nat) (r : RegRow) (f : Fld) (v old : Nat), rowAt a = some r → f ∈ r.flds →
    bits (r.store v old) f.lo f.w =
      match f.acc with
      | .rw | .rws => bits v f.lo f.w
      | .ro | .wo => bits old f.lo f.w
      | .w1c => bits old f.lo f.w &&& (2 ^ f.w - 1 - bits v f.lo f.w))
    ∧ (∀ (o : Origin) (addr value : Word) (s : State), (s.coreUp = true ∨ o = .msp) →
    (∀ r, blockOf addr.toNat = some (.device 2) → addr.toNat % 4 = 0 → rowAt addr.toNat = some r →
      ∃ t, exec (.plainRegisterWrite o addr value) s = .next t ∧ t.resp = .ok
        ∧ t.rd addr.toNat = r.store value.toNat (s.rd addr.toNat) % 2 ^ 32 ∧ s.RegsBut t [addr.toNat] ∧ s.SameMemory t)
    ∧ (blockOf addr.toNat = some (.device 2) → addr.toNat % 4 = 0 → rowAt addr.toNat = none →
      exec (.plainRegisterWrite o addr value) s = .next { s with resp := .ok })
    ∧ (∀ c, regionOf addr.toNat = some (.aeDmem c) → addr.toNat % 4 = 0 →
      ∃ t, exec (.plainRegisterWrite o addr value) s = .next t ∧ t.resp = .ok
        ∧ t.rd addr.toNat = value.toNat ∧ s.RegsBut t [addr.toNat] ∧ s.SameMemory t)
    ∧ (writable addr.toNat = false → exec (.plainRegisterWrite o addr value) s = .next { s with resp := .badAddress })
    ∧ (∀ p, blockOf addr.toNat = some (.packUnit p 4) → addr.toNat % 4 = 0 → s.packMuzzled p = true →
        hasW1C addr.toNat = false →
      exec (.plainRegisterWrite o addr value) s = .next { s with resp := .muzzled })
    ∧ (∀ p n r, p < 16 → n < 512 → s.packMuzzled p = false → s.packMuzzled (n / 32) = false → rowAt addr.toNat = some r →
        addr.toNat ∈ [R.SEQ_HOLD_CFG p, R.CAP_TRIG_HOLDOFF p, R.CH_LVLCHK p, R.CH_CTL n, R.CH_PMU_MEAS n, R.MPA_MAP,
          R.WH_TIME_SET_LO, R.WH_SWAP_LO, R.CAL_REST] →
      ∃ t, exec (.plainRegisterWrite o addr value) s = .next t ∧ t.resp = .ok
        ∧ t.rd addr.toNat = r.store value.toNat (s.rd addr.toNat) % 2 ^ 32 ∧ s.RegsBut t [addr.toNat] ∧ s.SameMemory t)
    ∧ (∀ n r, n < 96 → s.packMuzzled (n / 6) = false → addr.toNat = R.PSM_SLEW n → rowAt addr.toNat = some r →
      ∃ t, exec (.plainRegisterWrite o addr value) s = .next t ∧ t.resp = .ok
        ∧ t.rd addr.toNat = r.store value.toNat (s.rd addr.toNat) % 2 ^ 32 ∧ s.SameMemory t))

/-- R308, R365: the memory commands that write; that a fenced requester's command ends with MUZZLED is assumption 104. memAddr is the 35-bit address of words 0 and 1. R308, R309, R365, R373: the memory commands that read. -/
def Obligations.MemoryCommands : Prop :=
  (∀ (h : CmdHdr) (pl : List Word) (s : State),
    (s.Admits 0x11 h pl → s.frozen = false →
      (s.memRefused h (memAddr pl) (4 * (pl.length - 2)) = false →
        ∃ t, exec (.memWrite h pl) s = .next t ∧ t.Answers h .ok 0 [] ∧ t.regs = (s.homed h).regs ∧ t.mram = s.mram
          ∧ (∀ k (hk : k < (pl.drop 2).length), t.dramWord (memAddr pl + 4 * k) = (pl.drop 2)[k].toNat)
          ∧ ∀ b, b < 2 ^ 35 → (b < memAddr pl ∨ memAddr pl + 4 * (pl.length - 2) ≤ b) → t.dramByte b = s.dramByte b)
      ∧ (s.memRefused h (memAddr pl) (4 * (pl.length - 2)) = true →
        ∃ t, exec (.memWrite h pl) s = .next t ∧ t.Answers h .muzzled 0 [] ∧ t.regs = (s.homed h).regs ∧ s.SameMemory t))
    ∧ (s.Admits 0x12 h pl → s.frozen = false →
      (s.memRefused h (memAddr pl) (64 * word pl 2) = false →
        ∃ t, exec (.memFill h pl) s = .next t ∧ t.Answers h .ok 0 [] ∧ t.regs = (s.homed h).regs ∧ t.mram = s.mram
          ∧ (∀ k, k < 16 * word pl 2 → t.dramWord (memAddr pl + 4 * k) = word pl 3)
          ∧ ∀ b, b < 2 ^ 35 → (b < memAddr pl ∨ memAddr pl + 64 * word pl 2 ≤ b) → t.dramByte b = s.dramByte b)
      ∧ (s.memRefused h (memAddr pl) (64 * word pl 2) = true →
        ∃ t, exec (.memFill h pl) s = .next t ∧ t.Answers h .muzzled 0 [] ∧ t.regs = (s.homed h).regs ∧ s.SameMemory t)))
    ∧ (∀ (h : CmdHdr) (pl : List Word) (s : State),
    (s.Admits 0x10 h pl → s.frozen = false →
      ∃ t, exec (.memRead h pl) s = .next t ∧ t.regs = (s.homed h).regs ∧ s.SameMemory t
        ∧ (s.memRefused h (memAddr pl) (4 * word pl 2) = true → t.Answers h .muzzled 0 [])
        ∧ (s.memRefused h (memAddr pl) (4 * word pl 2) = false →
            t.Answers h (if s.ueHit.any (fun k => sameCmd k h) then .internal else .ok) 0 (s.dramWords (memAddr pl) (word pl 2))))
    ∧ (s.Admits 0x13 h pl →
      ∃ t, exec (.dmaRead h pl) s = .next t ∧ t.regs = (s.homed h).regs ∧ s.SameMemory t
        ∧ (word pl 2 = 0 → t.Answers h .ok 0 [] ∧ t.dmaJobs = s.dmaJobs)
        ∧ (word pl 2 ≠ 0 → s.memRefused h (memAddr pl) (64 * word pl 2) = true → t.Answers h .muzzled 0 [] ∧ t.dmaJobs = s.dmaJobs)
        ∧ (word pl 2 ≠ 0 → s.memRefused h (memAddr pl) (64 * word pl 2) = false →
            t.dmaJobs = s.dmaJobs ++ [{ hdr := h, addr := memAddr pl, units := word pl 2 }])))

/-- R304, R305, R307: the register commands, for one word, the writes and polls of an AE data-memory word. The times of the reads of REG_POLL are the model's choice (assumption 103). -/
def Obligations.RegisterCommands : Prop :=
  ∀ (h : CmdHdr) (s : State),
    (∀ a n : Word, s.Admits 0x00 h [a, n] →
      (addressBad a.toNat = true → ∃ t, exec (.regRead h [a, n]) s = .next t ∧ t.Answers h .badAddress 0 [] ∧ t.regs = (s.homed h).regs ∧ s.SameMemory t)
      ∧ (addressBad a.toNat = false → a.toNat ≤ lastValidOf a.toNat → n = 1 →
        ∃ t, exec (.regRead h [a, n]) s = .next t
          ∧ t.Answers h .ok 0 [BitVec.ofNat 32 ((s.admitted 0x00 h [a, n]).readReg (some h.session.toNat) a.toNat).1]
          ∧ t.regs = ((s.admitted 0x00 h [a, n]).readReg (some h.session.toNat) a.toNat).2.regs ∧ s.SameMemory t))
    ∧ (∀ a v : Word, s.Admits 0x01 h [a, v] → s.chainOf h = none →
      (∀ st, s.writeRefused a.toNat [v] = some st →
        ∃ t, exec (.regWrite h [a, v]) s = .next t ∧ t.Answers h st 0 [] ∧ t.regs = (s.homed h).regs ∧ s.SameMemory t)
      ∧ (∀ c, regionOf a.toNat = some (.aeDmem c) → a.toNat % 4 = 0 →
        ∃ t, exec (.regWrite h [a, v]) s = .next t ∧ t.Answers h .ok 0 [] ∧ t.rd a.toNat = v.toNat
          ∧ (s.homed h).RegsBut t [a.toNat] ∧ s.SameMemory t))
    ∧ (∀ a m v : Word, s.Admits 0x02 h [a, m, v] → ∀ c, regionOf a.toNat = some (.aeDmem c) → a.toNat % 4 = 0 →
      ∃ t, exec (.regModify h [a, m, v]) s = .next t ∧ t.Answers h .ok 0 [BitVec.ofNat 32 (s.rd a.toNat)]
        ∧ t.rd a.toNat = (s.rd a.toNat &&& (m.toNat ^^^ 0xFFFFFFFF)) ||| (v.toNat &&& m.toNat)
        ∧ (s.homed h).RegsBut t [a.toNat] ∧ s.SameMemory t)
    ∧ (∀ a m v l : Word, s.Admits 0x03 h [a, m, v, l] → ∀ c, regionOf a.toNat = some (.aeDmem c) → a.toNat % 4 = 0 →
      ∃ t, exec (.regPoll h [a, m, v, l]) s = .next t ∧ t.regs = (s.homed h).regs ∧ s.SameMemory t
        ∧ (s.rd a.toNat &&& m.toNat = v.toNat → t.Answers h .ok 0 [BitVec.ofNat 32 (s.rd a.toNat)])
        ∧ (s.rd a.toNat &&& m.toNat ≠ v.toNat → l.toNat = 0 → t.Answers h .timeout 0 [BitVec.ofNat 32 (s.rd a.toNat)])
        ∧ (s.rd a.toNat &&& m.toNat ≠ v.toNat → l.toNat ≠ 0 → (h, 1) ∈ t.polls))
    ∧ (∀ (n : Nat) (a m v l : Word) (e : InFlight) (c : Nat), s.coreUp = true →
      s.polls.find? (fun p => p.1.session == h.session && p.1.tag == h.tag) = some (h, n) →
      s.entryOf h = some e → e.hdr = h → e.payload = [a, m, v, l] → e.suppressed = false →
      regionOf a.toNat = some (.aeDmem c) →
      ∃ t, exec (.regPollRead h.session h.tag) s = .next t ∧ t.regs = s.regs ∧ s.SameMemory t
        ∧ (s.rd a.toNat &&& m.toNat = v.toNat → t.Answers h .ok 0 [BitVec.ofNat 32 (s.rd a.toNat)])
        ∧ (s.rd a.toNat &&& m.toNat ≠ v.toNat → l.toNat ≤ n → t.Answers h .timeout 0 [BitVec.ofNat 32 (s.rd a.toNat)])
        ∧ (s.rd a.toNat &&& m.toNat ≠ v.toNat → ¬ l.toNat ≤ n → (h, n + 1) ∈ t.polls))

/-- R115, R116, R139: the words that execute one beat and pass control on. seqCond is the condition at the beat. -/
def Obligations.SequenceWordsMoveOn : Prop :=
  ∀ (p : Pack) (s u : State) (w op : Nat), s.wordFor p op = some w → s.holds p w = false → s.patternBeat p w = some u →
    (u.seq p).segBeat < ((u.seq p).ent (u.seq p).seg).beats →
    (op = 0x00 → exec (.seqNop p .good) s = .next (u.goOn p))
    ∧ (op = 0x0C → exec (.apx p .good) s = .next (u.goOn p))
    ∧ (op = 0x06 → s.seqCond p w = true → (u.seq p).latch = none → (u.seq p).chosen = none →
        exec (.jmp p .good) s = .next (((u.setSeq p { u.seq p with latch := some (bits w 6 10) }).jumpRegs p).goOn p))
    ∧ (op = 0x06 → s.seqCond p w = false → exec (.jmp p .good) s = .next (u.goOn p))
    ∧ (op = 0x09 → exec (.wemit p .good) s = .next ((u.whEmitReq (bits w 0 3) ((u.seq p).lastStart / 4)).goOn p))
    ∧ (op = 0x0B → u.psmMuzzled (6 * p + bits w 0 3) = true → exec (.cue p .good) s = .next (u.goOn p))
    ∧ (op = 0x0B → u.psmMuzzled (6 * p + bits w 0 3) = false →
        (s.seq p).boundary < Tab.get 0 u.cueAt (6 * p + bits w 0 3) →
        exec (.cue p .good) s = .next ((u.crossOverrun 4 (6 * p + bits w 0 3)).goOn p))
    ∧ (op = 0x0B → u.psmMuzzled (6 * p + bits w 0 3) = false →
        Tab.get 0 u.cueAt (6 * p + bits w 0 3) ≤ (s.seq p).boundary →
        exec (.cue p .good) s = .next (({ u with
          cues := u.cues ++ [(6 * p + bits w 0 3, bits w 3 5)]
          cueAt := Tab.put 0 u.cueAt (6 * p + bits w 0 3) ((s.seq p).boundary + 33) } : State).goOn p))
    ∧ (op = 0x08 → s.seqCond p w = true → exec (.seqHalt p .good) s = .next (u.endPack p 2))
    ∧ (op = 0x08 → s.seqCond p w = false → exec (.seqHalt p .good) s = .next (u.goOn p))

/-- R115, R127: the words that keep counters or return addresses. -/
def Obligations.SequenceLoopsAndCalls : Prop :=
  ∀ (p : Pack) (s : State) (w op : Nat), s.wordFor p op = some w → s.holds p w = false →
    (∀ u, s.patternBeat p w = some u → (u.seq p).segBeat < ((u.seq p).ent (u.seq p).seg).beats →
      (op = 0x04 → exec (.seqCall p .good) s =
          .next ((u.setSeq p { u.seq p with stack := ((u.seq p).pc + 1) :: (u.seq p).stack }).goTo p (bits w 0 16)))
      ∧ (op = 0x05 → (u.seq p).stack = [] → exec (.seqRet p .good) s = .next (u.goOn p))
      ∧ (∀ a l, op = 0x05 → (u.seq p).stack = a :: l →
          exec (.seqRet p .good) s = .next ((u.setSeq p { u.seq p with stack := l }).goTo p a))
      ∧ (op = 0x03 → 1 < (u.seq p).ctrs.getD (bits w 0 2) 0 → ∃ t, exec (.lpe p .good) s = .next t
          ∧ (t.seq p).ctrs = (u.seq p).ctrs.set (bits w 0 2) ((u.seq p).ctrs.getD (bits w 0 2) 0 - 1)
          ∧ (t.seq p).pc = (u.seq p).lpbAt.getD (bits w 0 2) 0 ∧ (t.seq p).back = true
          ∧ t.regs = u.regs ∧ u.SameMemory t)
      ∧ (op = 0x03 → (u.seq p).ctrs.getD (bits w 0 2) 0 ≤ 1 → ∃ t, exec (.lpe p .good) s = .next t
          ∧ (t.seq p).ctrs = (u.seq p).ctrs ∧ (t.seq p).pc = (u.seq p).pc + 1 ∧ t.regs = u.regs ∧ u.SameMemory t)
      ∧ (op = 0x02 → (s.seq p).back = true → exec (.lpb p .good) s = .next (u.goOn p))
      ∧ (op = 0x01 → bits w 0 24 ≠ 0 → (s.seq p).rptDone < bits w 0 24 → s.seqRun p = true →
          exec (.rpt p 1 .good) s = .next
            (if (u.seq p).rptDone + 1 < bits w 0 24 then u.setSeq p { u.seq p with rptDone := (u.seq p).rptDone + 1 }
             else u.goOn p)))
    ∧ (op = 0x01 → bits w 0 24 = 0 → ∀ n, exec (.rpt p n .good) s = .next (s.goOn p))
    ∧ (op = 0x02 → (s.seq p).back = false → bits w 0 20 = 0 →
        exec (.lpb p .good) s = .next (s.goTo p (findLpe (s.seq p).words (bits w 20 2) 65536 ((s.seq p).pc + 1) + 1)))
    ∧ (∀ q u, op = 0x02 → (s.seq p).back = false → bits w 0 20 ≠ 0 →
        q = { s.seq p with
          ctrs := (s.seq p).ctrs.set (bits w 20 2) (bits w 0 20)
          lpbAt := (s.seq p).lpbAt.set (bits w 20 2) (s.seq p).pc
          posAt := (s.seq p).posAt.set (bits w 20 2) (s.seq p).cpos
          later := (s.seq p).later.set (bits w 20 2) false
          cacheLevel := if (s.seq p).cacheLevel.isNone && decide (2 ≤ bits w 0 20) then some (bits w 20 2) else (s.seq p).cacheLevel } →
        (s.setSeq p q).patternBeat p w = some u → (u.seq p).segBeat < ((u.seq p).ent (u.seq p).seg).beats →
        exec (.lpb p .good) s = .next (u.goOn p))

/-- R118, R119, R128, R132, R105: waits, holds and the boundary events of a pattern. -/
def Obligations.SequenceWaitsAndHolds : Prop :=
  ∀ (p : Pack) (s : State),
    (∀ w u op, s.wordFor p op = some w → s.holds p w = false → s.patternBeat p w = some u →
      (op = 0x07 → exec (.matchWord p .good) s = .next (u.beginWait p w))
      ∧ (op = 0x0A → exec (.wwait p .good) s = .next (u.beginWait p w)))
    ∧ (∀ w, (s.seq p).wait = some w → s.seqRun p = true → wOp w.word = 0x0A →
      ((s.seq p).lineAt (bits w.word 0 3) = true →
        exec (.waitBeat p .good) s = .next (((s.setSeq p { s.seq p with wait := some w }).endWait p false).passCheck p))
      ∧ ((s.seq p).lineAt (bits w.word 0 3) = false → bits w.word 3 20 ≤ w.inserted → bit w.word 23 = false →
        exec (.waitBeat p .good) s = .next (((s.setSeq p { s.seq p with wait := some w }).endWait p true).passCheck p))
      ∧ ((s.seq p).lineAt (bits w.word 0 3) = false → bits w.word 3 20 ≤ w.inserted → bit w.word 23 = true →
        exec (.waitBeat p .good) s =
          .next (((s.setSeq p { s.seq p with wait := some w }).endWait p true).abortPack p .timeout 4 none))
      ∧ ((s.seq p).lineAt (bits w.word 0 3) = false → w.inserted < bits w.word 3 20 →
        exec (.waitBeat p .good) s = .next ((s.setSeq p { s.seq p with wait := some w }).waitBeat p w (bits w.word 3 20))))
    ∧ (s.seqRun p = true → (s.seq p).wait = none → s.holds p (s.seqWord p) = true → (s.seq p).holding = true →
        ∀ t u, t = (s.setSeq p { s.seq p with holding := true }).bump ⟨R.SEQ_HOLD_CNT p, 0, 32⟩ →
        u = (t.emit p .hold (t.get (F.SEQ_HOLD_CFG_HOLD_FMT p)) (t.get (F.SEQ_HOLD_CFG_HOLD_TSET p)) 0
          (List.replicate 32 0) none).set (F.PK_STATUS_APG_SOURCE p) 0 →
        exec (.holdBeat p .good) s = .next (if u.flag (F.SEQ_CTL_PAUSE p) then u.pauseSettle p false else u))
    ∧ (∀ g st r, s.groupOf p = some g → g.ended = some (st, r) → exec (.groupStop p) s = .next (s.endPack p r))
    ∧ (s.seqRun p = false → exec (.trimStep p) s = .next (s.trimAll p))
    ∧ (s.seqRun p = true → exec (.trimStep p) s = .next (s.trimDue p))

/-- R61, R64, R94, R95, R96: EDGE_ACT. Times are in units of 0.5 ps from one origin. R69, R77, R78, R79: what is detected at a channel. governor is the even channel of an enabled lane. -/
def Obligations.ChannelEdgesAndDetections : Prop :=
  (∀ (p : Pack) (c : Fin 32) (beat : Nat) (e : Fin 8) (pad : PadObs) (s s1 t : State) (b b1 : BeatRec) (cb : ChanBeat)
      (rs : List (Bool × Bool)) (q : SeqState) (x : Nat),
    (s.seq p).beats.find? (fun x => x.num == beat) = some b → bit (b.chans.getD c {}).acting e = true →
    bit (b.chans.getD c {}).acted e = false → s.edgesAct (32 * p + c) = true → (e : Nat) < 4 → pad.got = none →
    s.comparePad (32 * p + c) pad = (rs, s1) → q = (s1.seq p).noteAll (s1.cmpGroup p c) rs →
    q.beats.find? (fun x => x.num == beat) = some b1 → cb = b1.chans.getD c {} → x = b.start * 1250 + cb.times.getD e 0 →
    t = s1.setSeq p (q.updBeat beat c
      (ChanBeat.note { cb with acted := cb.acted ||| 2 ^ (e : Nat) } [rs.getLastD (false, false)])) →
    (∀ d, q.beats.find? (fun x => x.num == beat + 1) = none → t.driveAllowed (32 * p + c) beat = true →
        driveAction cb.fmt cb.data e = some d →
        exec (.edgeAct p c beat e pad) s = .next (t.driveEdge (32 * p + c) d (bit cb.fmt 6) (x + 25000) cb.td))
    ∧ (∀ y, q.beats.find? (fun x => x.num == beat + 1) = some y → (y.start + y.period) * 1250 ≤ x →
        exec (.edgeAct p c beat e pad) s = .next (t.overrunEdge p c)))
    ∧ (∀ (ch : Chan) (s : State),
    (s.flag ⟨R.CH_STATUS (s.governor ch), 1, 1⟩ = false →
      exec (.pinClamp ch) s = .next ((s.set ⟨R.CH_STATUS (s.governor ch), 1, 1⟩ 1).raise (packSrc (ch / 32) 15) cANALOG 0x02 (s.detectAddr ch)))
    ∧ (s.flag ⟨R.CH_STATUS (s.governor ch), 1, 1⟩ = true → exec (.pinClamp ch) s = .next s)
    ∧ (s.flag ⟨R.CH_STATUS (s.governor ch), 0, 1⟩ = false →
      exec (.drvOvercurrent ch) s = .next ((((s.set ⟨R.CH_STATUS (s.governor ch), 0, 1⟩ 1).raise (packSrc (ch / 32) 15) cANALOG 0x01
        (s.detectAddr ch)).set (F.CH_STATUS_DRV_PROTECT (s.governor ch)) 1).forEach (s.driveSides ch) (fun n t => t.letGo n)))
    ∧ ((s.pmuMode ch = 1 ∨ s.pmuMode ch = 2) → s.pmuBusy ch = false → s.flag ⟨R.CH_STATUS (s.governor ch), 3, 1⟩ = false →
      exec (.pmuClamp ch) s = .next ((s.set ⟨R.CH_STATUS (s.governor ch), 3, 1⟩ 1).raise (packSrc (ch / 32) 15) cANALOG 0x04 (s.detectAddr ch)))
    ∧ ((s.pmuMode ch = 1 ∨ s.pmuMode ch = 2) → s.pmuBusy ch = true →
      ∃ t, exec (.pmuClamp ch) s = .next t ∧ t.flag (F.CH_PMU_RESULT_CLAMPED ch) = true)
    ∧ (s.loadOn ch = true → s.flag ⟨R.CH_STATUS (s.governor ch), 4, 1⟩ = false →
      exec (.loadCompliance ch) s = .next ((s.set ⟨R.CH_STATUS (s.governor ch), 4, 1⟩ 1).raise (packSrc (ch / 32) 15) cANALOG 0x05 (s.detectAddr ch)))
    ∧ (∀ (which : Fin 6) (code : BitVec 16), s.chanMuzzled ch = false → (s.chan (s.governor ch)).changedAt.getD which none = none →
      s.flag (F.CH_LVLCHK_LVLCHK_EN (ch / 32)) = false →
      ∃ t, exec (.levelMonitorRead ch which code) s = .next t ∧ t.get (F.CH_LVL_READ_READ_CODE ch) = code.toNat
        ∧ t.get (F.CH_LVL_READ_WHICH ch) = which ∧ s.RegsBut t [R.CH_LVL_READ ch] ∧ s.SameMemory t ∧ t.faultIn = s.faultIn)
    ∧ (∀ (o : Origin) (value : Word), bit value.toNat 0 = true → s.flag (F.CH_STATUS_DRV_PROTECT ch) = true →
      ∃ t, exec (.drvOvercurrentClear o ch value) s = .next t ∧ t.resp = .ok ∧ t.flag ⟨R.CH_STATUS ch, 0, 1⟩ = false
        ∧ t.flag (F.CH_STATUS_DRV_PROTECT ch) = false ∧ (t.chan ch).actsFrom = s.rd64 (R.SEQ_BEAT_LO (ch / 32)) + 1
        ∧ s.RegsBut t [R.CH_STATUS ch] ∧ s.SameMemory t))

/-- R172, R175 to R177, R182: the capture registers that act when written. R165, R170, R172, R174 to R176, R179: the events of the capture engine. -/
def Obligations.Capture : Prop :=
  (∀ (o : Origin) (p : Pack) (value : Word) (s : State),
    (s.packMuzzled p = false →
      exec (.capTrig o p value) s =
        .next { s.pushTrigger p (.host (BitVec.ofNat 8 value.toNat)) s.time none with resp := .ok }
      ∧ (bit value.toNat 0 = true → 64 * s.get (F.CAP_RING_BASE p) + 32 * s.ringCap p ≤ 2 ^ 35 →
          s.flag (F.CAP_CTL_RING_EN p) = false →
          exec (.ringEn o p value) s = .next { (((((s.store (R.CAP_CTL p) value.toNat).wr64 (R.CAP_WR_LO p) 0).wr64
            (R.CAP_RD_LO p) 0).streamForget p).lossEnd p).ringRefresh p with resp := .ok })
      ∧ (bit value.toNat 0 = true → 2 ^ 35 < 64 * s.get (F.CAP_RING_BASE p) + 32 * s.ringCap p →
          exec (.ringEn o p value) s = .next { s with resp := .badAddress })
      ∧ (s.flag (F.CAP_CTL_STREAM_EN p) = true → exec (.capRdHi o p value) s = .next { s with resp := .busy })
      ∧ (s.flag (F.CAP_CTL_STREAM_EN p) = false →
          ∀ x, x = (s.cap p).rdStage + value.toNat * 2 ^ 32 →
          (s.rd64 (R.CAP_RD_LO p) ≤ x → x ≤ s.rd64 (R.CAP_WR_LO p) →
            exec (.capRdHi o p value) s = .next { (s.wr64 (R.CAP_RD_LO p) x).ringRefresh p with resp := .ok })
          ∧ (s.rd64 (R.CAP_WR_LO p) < x → exec (.capRdHi o p value) s = .next { s with resp := .badState })))
    ∧ (s.packMuzzled p = true →
      exec (.capTrig o p value) s = .next { s with resp := .muzzled }
      ∧ exec (.ringEn o p value) s = .next { s with resp := .muzzled }
      ∧ exec (.capRdHi o p value) s = .next { s with resp := .muzzled }))
    ∧ (∀ (p : Pack) (s : State),
    (∀ b, (s.seq p).beats.find? (fun x => !x.captured) = some b → s.beatComplete p b = true →
      ∃ t, exec (.captureResult p b.num) s = .next t ∧ ∀ x ∈ (t.seq p).beats, x.num = b.num → x.captured = true)
    ∧ (∀ l, s.ringOn p = true → s.frozen = false → bit s.fences (16 + p) = false → s.touchesMuzzledPc (64 * s.get (F.CAP_RING_BASE p)) (32 * s.ringCap p) = false →
      s.burst p = l → l ≠ [] → ∀ t, t = s.forEach l (fun r u => u.ringPut p r) →
      exec (.captureBurstWrite p) s =
        .next ((((t.setCap p { t.cap p with staging := (t.cap p).staging.drop l.length }).freeInterval p).lossEnd p).ringRefresh p))
    ∧ (∀ x xs, (s.cap p).trigIn = x :: xs → (x.beat.isSome || (s.beatAt p x.tick).isSome) = true →
      (s.trigEnabled p x.trig = false →
        exec (.triggerArrival p x.trig) s = .next (s.setCap p { s.cap p with trigIn := xs }))
      ∧ (s.trigEnabled p x.trig = true → s.deadOpen p x.tick = false → s.markFree p = true →
        ∃ t, exec (.triggerArrival p x.trig) s = .next t
          ∧ (t.cap p).iv = some ⟨x.tick, some (x.tick + max (s.get (F.CAP_TRIG_HOLDOFF p)) 1), 0, false⟩))
    ∧ (∀ a m r, s.markFree p = true → (s.cap p).iv = some ⟨a, none, m, r⟩ →
      exec (.deadIntervalEnd p) s = .next (s.setCap p { s.cap p with iv := some ⟨a, some s.time, m, r⟩, fullSince := none }))
    ∧ (s.get (F.CAP_KEEPALIVE p) ≠ 0 → s.ringOn p = true →
      (∀ b, s.beatAt p s.time = some b → exec (.keepaliveMark p) s = .next (s.putMark p 0x14 0 b s.time))
      ∧ (s.beatAt p s.time = none → exec (.keepaliveMark p) s =
          .next (s.setCap p { s.cap p with lateMarks := (s.cap p).lateMarks ++ [(0x14, s.time)] }))))

/-- R146, R153, R160: the registers of the APG and the repair allocator that act. The order of BUSY before BAD_OPCODE is the model's choice (assumption 144). R14, R151, R153, R155, R156, R158, R373: the events of the bitmap and the repair allocator. When a streamer has transfers to spare is the model's reading (assumption 159). -/
def Obligations.ApgAndRepair : Prop :=
  (∀ (o : Origin) (p : Pack) (value : Word) (s : State),
    (s.packMuzzled p = false → s.seqRun p = false →
      (apgLegal ((s.apg p).staged + value.toNat * 2 ^ 32) = true →
        ∃ t, exec (.apgImemHiWrite o p value) s = .next t ∧ t.resp = .ok
          ∧ Tab.get 0#64 (t.apg p).imem (s.get (F.APG_IMEM_ADDR p)) = BitVec.ofNat 64 ((s.apg p).staged + value.toNat * 2 ^ 32)
          ∧ t.get (F.APG_IMEM_ADDR p) = (s.get (F.APG_IMEM_ADDR p) + 1) % 4096
          ∧ s.RegsBut t [R.APG_IMEM_ADDR p] ∧ s.SameMemory t)
      ∧ (apgLegal ((s.apg p).staged + value.toNat * 2 ^ 32) = false →
        exec (.apgImemHiWrite o p value) s = .next { s with resp := .badOpcode }))
    ∧ (s.packMuzzled p = false → s.seqRun p = true → exec (.apgImemHiWrite o p value) s = .next { s with resp := .busy })
    ∧ (∃ t, exec (.apgImemHiRead o p) s = .next t ∧ t.resp = .ok ∧ t.respData = (s.apg p).latch
        ∧ t.get (F.APG_IMEM_ADDR p) = (s.get (F.APG_IMEM_ADDR p) + 1) % 4096 ∧ s.RegsBut t [R.APG_IMEM_ADDR p] ∧ s.SameMemory t)
    ∧ (s.packMuzzled p = false → (s.apg p).queue.length < 64 →
      ∀ r : RaReq, r = ⟨bits value.toNat 0 10, bits value.toNat 10 1, bit value.toNat 11, bit value.toNat 12, bit value.toNat 13, none, false⟩ →
      (r.analyse = true ∨ r.clear = true) → s.bmStart p r.site r.set + s.bmSize p ≤ 2 ^ 35 →
      (∀ n, n = recordSize (s.get (F.RA_CTL_SPARE_ROWS p)) (s.get (F.RA_CTL_SPARE_COLS p)) (2 ^ s.get (F.APG_BM_GEOM_REGION_BITS p)) →
        r.analyse = true → n ≤ 64 * s.get (F.RA_SOL_STRIDE p) ∧ s.recordAddr p r.site + n ≤ 2 ^ 35) →
      ∃ t, exec (.raReq o p value) s = .next t ∧ t.resp = .ok ∧ (t.apg p).queue = (s.apg p).queue ++ [r]
        ∧ t.get (F.RA_STATUS_QUEUED p) = (s.apg p).queue.length + 1 ∧ s.RegsBut t [R.RA_STATUS p] ∧ s.SameMemory t)
    ∧ (s.packMuzzled p = false → 64 ≤ (s.apg p).queue.length → exec (.raReq o p value) s = .next { s with resp := .busy })
    ∧ (s.packMuzzled p = false → (s.apg p).queue.length < 64 → bit value.toNat 11 = false → bit value.toNat 12 = false →
      exec (.raReq o p value) s = .next { s with resp := .badOpcode }))
    ∧ (∀ (p : Pack) (s : State), s.frozen = false →
    (∀ l ls, (s.apg p).buf = l :: ls → s.pcClosed (s.dramPc (64 * l.line)) = false →
      (∀ b ∈ l.bits, 64 * l.line + b / 8 < 2 ^ 35) →
      ∃ t, exec (.bitmapLineWrite p false) s = .next t ∧ (t.apg p).buf = ls ∧ t.regs = s.regs ∧ t.mram = s.mram
        ∧ ∀ b ∈ l.bits, bit (t.dramByte (64 * l.line + b / 8)).toNat (b % 8) = true)
    ∧ (∀ l ls, (s.apg p).buf = l :: ls → exec (.bitmapLineWrite p true) s =
        .next (((s.setApg p { s.apg p with buf := ls }).dramUe (64 * l.line)).bmLost p l.site))
    ∧ (∀ r rest, (s.apg p).job = none → (s.apg p).queue = r :: rest →
      (List.range 16).any (fun q => (s.apg q).buf.any (fun l => l.site == r.site && l.set == r.set)) = false → s.streamerSpare p = true →
      ∃ t, exec (.raRequestStart p []) s = .next t ∧ (t.apg p).queue = rest ∧ (t.apg p).job.map (fun j => j.req) = some r
        ∧ t.flag (F.RA_STATUS_BUSY p) = true ∧ t.get (F.RA_STATUS_QUEUED p) = rest.length % 2 ^ 7
        ∧ t.flag (F.PK_STATUS_RA_BUSY p) = true ∧ s.RegsBut t [R.RA_STATUS p, R.PK_STATUS p] ∧ t.mram = s.mram
        ∧ (r.analyse = false → t.dram = s.dram))
    ∧ (∀ j, (s.apg p).job = some j → bit s.fences p = false → ∀ t, t = (if j.req.analyse then s.repairWrite p j else s) →
      ∀ u, u = (if j.req.clear then t.repairClear p j.req.site j.req.set else t) →
      ∀ v, v = (((((u.set (F.RA_LAST_SITE p) j.req.site).set (F.RA_LAST_RESULT p) (if j.req.analyse then jobResult j else 0)).bump
        ⟨R.RA_DONE_CNT p, 0, 32⟩).set (F.RA_STATUS_BUSY p) 0).set (F.PK_STATUS_RA_BUSY p) 0).setApg p { s.apg p with job := none } →
      exec (.repairRequestDone p) s = .next (if j.req.analyse then v.repairHand p j else v)))

/-- R54, R55, R71, R75: levels are applied together, and a lane is enabled after its checks. That a write meeting both refusals of R75 is answered BUSY is assumption 12, DEDUCED. -/
def Obligations.ChannelLevelAndLaneWrites : Prop :=
  ∀ (o : Origin) (p : Pack) (value : Word) (s : State), s.packMuzzled p = false →
    ((s.namedChannels p value.toNat).all (fun n => s.applyOk n) = false →
      exec (.chApply o p value) s = .next { s with resp := .badState })
    ∧ (∀ n, s.namedChannels p value.toNat = [n] → s.applyOk n = true →
      ∃ t, exec (.chApply o p value) s = .next t ∧ t.resp = .ok ∧ (t.chan n).levels = s.shadowLevels n
        ∧ (t.chan n).iol = s.get (F.CH_LOAD_IOL n) ∧ (t.chan n).ioh = s.get (F.CH_LOAD_IOH n) ∧ (t.chan n).applied = true
        ∧ t.flag (F.CH_CTL_PENDING n) = false ∧ (∀ m, m ≠ n → t.chan m = s.chan m)
        ∧ s.RegsBut t [R.CH_CTL n] ∧ s.SameMemory t)
    ∧ (s.namedChannels p value.toNat = [] → exec (.chApply o p value) s = .next { s with resp := .ok })
    ∧ (∀ l : Fin 16, bit value.toNat 0 = true → s.seqRun p = true →
      exec (.laneEnable o p l value) s = .next { s with resp := .busy })
    ∧ (∀ (l : Fin 16) (n : Nat), n = 2 * (16 * p + l) → bit value.toNat 0 = true → s.seqRun p = false → s.tmuUses p (2 * l + 1) = false →
      (s.chanMuzzled n = true → exec (.laneEnable o p l value) s = .next { s with resp := .muzzled })
      ∧ (s.chanMuzzled n = false → s.chanMuzzled (n + 1) = false →
          levelsOk (s.swingLimit n) (s.laneSwingLimit n) true (s.chan n).levels = true →
          exec (.laneEnable o p l value) s = .next { ((s.store (R.CH_LANE p l) value.toNat).set (F.CH_CTL_LANE_MEMBER n) 1).set
            (F.CH_CTL_LANE_MEMBER (n + 1)) 1 with resp := .ok }))
    ∧ (∀ (l : Fin 16), bit value.toNat 0 = false → s.laneEnabled (16 * p + l) = true → s.laneMuzzled (16 * p + l) = true →
      exec (.laneEnable o p l value) s = .next { s.store (R.CH_LANE p l) value.toNat with
        laneKept := Tab.put false s.laneKept (16 * p + l) true
        resp := .ok })
    ∧ (∀ (l : Fin 16) (n : Nat), n = 2 * (16 * p + l) → bit value.toNat 0 = false →
        (s.laneEnabled (16 * p + l) = false ∨ s.laneMuzzled (16 * p + l) = false) →
      exec (.laneEnable o p l value) s = .next { ((s.store (R.CH_LANE p l) value.toNat).set (F.CH_CTL_LANE_MEMBER n) 0).set
        (F.CH_CTL_LANE_MEMBER (n + 1)) 0 with resp := .ok })

/-- R68, R70, R86, R310: the PMU. The order BAD_OPCODE, MUZZLED, BUSY of the refusals is assumption 12, DEDUCED. meanHalfAway is the mean rounded half away from zero. -/
def Obligations.PmuMeasurements : Prop :=
  ∀ (ch : Chan) (s : State),
    (∀ (o : Origin) (value : Word), s.packMuzzled (ch / 32) = false →
      ((4 ≤ bits value.toNat 0 3 ∨ 5 ≤ bits value.toNat 4 3) → exec (.chPmuGo o ch value) s = .next { s with resp := .badOpcode })
      ∧ (bits value.toNat 0 3 < 4 → bits value.toNat 4 3 < 5 →
        (s.chanMuzzled ch = true → bit value.toNat 8 = true → exec (.chPmuGo o ch value) s = .next { s with resp := .muzzled })
        ∧ (s.seqRun (ch / 32) = true → (s.chanMuzzled ch = false ∨ bit value.toNat 8 = false) → exec (.chPmuGo o ch value) s = .next { s with resp := .busy })
        ∧ (s.seqRun (ch / 32) = false → s.pmuBusy ch = false → s.get (F.CH_PMU_CTL_MODE ch) ≠ 0 → bit value.toNat 8 = true →
            s.chanMuzzled ch = false → s.stopped = false → s.get (F.CH_PMU_MEAS_SAMPLES ch) ≠ 0 →
            ∃ t, exec (.chPmuGo o ch value) s = .next t ∧ t.resp = .ok ∧ t.flag (F.CH_PMU_CTL_BUSY ch) = true
              ∧ t.flag (F.CH_PMU_RESULT_VALID ch) = false ∧ t.flag (F.CH_PMU_RESULT_CLAMPED ch) = false
              ∧ t.flag (F.CH_PMU_RESULT_OVERRANGE ch) = false ∧ t.get (F.CH_PMU_CTL_MODE ch) = bits value.toNat 0 3
              ∧ s.RegsBut t [R.CH_PMU_CTL ch, R.CH_PMU_RESULT ch] ∧ s.SameMemory t)))
    ∧ (s.pmuBusy ch = true → exec (.pmuMeasSettled ch) s = .next (s.setChan ch { s.chan ch with pmuConverting := true }))
    ∧ (∀ convs, s.pmuBusy ch = true → (s.chan ch).pmuConverting = true → (s.chan ch).pmuOwner = none →
      convs.length = s.get (F.CH_PMU_MEAS_SAMPLES ch) →
      ∃ t, exec (.pmuMeasDone ch convs) s = .next t ∧ t.flag (F.CH_PMU_RESULT_VALID ch) = true ∧ t.pmuBusy ch = false
        ∧ t.get (F.CH_PMU_RESULT_RESULT ch) = unsigned 16 (meanHalfAway (convs.map (·.code))) % 2 ^ 16
        ∧ t.flag (F.CH_PMU_RESULT_OVERRANGE ch) = convs.any (·.full)
        ∧ s.RegsBut t [R.CH_PMU_CTL ch, R.CH_PMU_RESULT ch] ∧ s.SameMemory t)
    ∧ (∀ h pl, s.Admits 0x50 h pl →
      (s.stopped = true → ∃ t, exec (.pmuMeasure h pl) s = .next t ∧ t.Answers h .badState 0 [] ∧ t.regs = (s.homed h).regs ∧ s.SameMemory t)
      ∧ (s.stopped = false → ∀ n c, n = word pl 0 → c = setBits (word pl 1) 8 1 0 → ∀ t,
          runWrites [fun t => t.guarded (R.CH_PMU_CTL n) (writePmuCtl n c),
            fun t => t.guarded (R.CH_PMU_FORCE n) (writePmuForce n (word pl 2)),
            fun t => t.guarded (R.CH_PMU_CLAMP n) (writePmuClamp n (word pl 3)),
            fun t => t.guarded (R.CH_PMU_MEAS n) (fun u => .ok (u.store (R.CH_PMU_MEAS n) (word pl 4))),
            fun t => t.guarded (R.CH_PMU_CTL n) (writePmuCtl n (setBits c 8 1 1))] (s.admitted 0x50 h pl) = t →
          (∀ st, t.2 = some st → exec (.pmuMeasure h pl) s = .next (t.1.done h st))
          ∧ (t.2 = none → t.1.pmuBusy n = true →
              exec (.pmuMeasure h pl) s = .next (t.1.setChan n { t.1.chan n with pmuOwner := some (.cmd h) }))
          ∧ (t.2 = none → t.1.pmuBusy n = false →
              exec (.pmuMeasure h pl) s = .next (t.1.complete h .ok 0 [BitVec.ofNat 32 (t.1.rd (R.CH_PMU_RESULT n))]))))

/-- R99, R100, R102, R310: ALIGN, and the course and end of a CONTACT pass. R100, R101: the evaluation of an OPEN pass. factChan words 0 and 1 are DRV_INT and CMP_INT; the unit is 0.5 ps. -/
def Obligations.AlignmentPasses : Prop :=
  ((∀ h pl s, s.Admits 0x60 h pl → packsOf (word pl 0) ≠ [] →
      (s.stopped = true → ∃ t, exec (.align h pl) s = .next t ∧ t.Answers h .badState 0 [] ∧ t.regs = (s.homed h).regs ∧ s.SameMemory t)
      ∧ (s.stopped = false → (packsOf (word pl 0)).any (fun p => s.passBlocked p) = true →
        ∃ t, exec (.align h pl) s = .next t ∧ t.Answers h .busy 0 [] ∧ t.regs = (s.homed h).regs ∧ s.SameMemory t)
      ∧ (∀ p l, s.stopped = false → packsOf (word pl 0) = [p] → s.passBlocked p = false → s.packMuzzled p = false →
        s.passRounds p (s.passChans p) = some l → s.get (F.TIM_TDR_CFG_SHOTS p) ≠ 0 → Tab.get false s.contactRan p = false →
        ∃ t, exec (.align h pl) s = .next t ∧ t.flag (F.TIM_STATUS_TDR_BUSY p) = true ∧ ⟨h, [p], []⟩ ∈ t.alignCmds
          ∧ t.pass p = some ⟨decide (word pl 1 = 1), .cmd h, s.passChans p, false, l, [], [], [],
              s.get (F.HK_TEMP_EFFECTIVE (p / 4))⟩
          ∧ (s.homed h).RegsBut t (R.TIM_STATUS p :: (tmuStatusOf p ++ calShown)) ∧ s.SameMemory t))
    ∧ (∀ (p : Pack) (s : State) (a : AlignPass), s.pass p = some a →
      exec (.tdrLevelsSettled p) s = .next (s.setPass p (some { a with settled := true }))
      ∧ (∀ (c : Fin 32) (j : Nat), a.settled = true → (List.range 4).find? (fun j => a.current j == some c.val) = some j →
        ∃ t b, exec (.tdrShotTimeout p c) s = .next t ∧ t.pass p = some b ∧ (Tab.get {} b.shots c).roundTrip = 0xFFFF
          ∧ t.regs = s.regs ∧ s.SameMemory t)
      ∧ (∀ h c rt, a.contact = true → a.settled = true → a.todo.all (fun l => l.isEmpty) = true → a.owner = .cmd h → c < 32 →
        a.chans = [c] → rt = (Tab.get {} a.shots c).roundTrip →
        ∃ t, exec (.tdrPassEnd p) s = .next t ∧ t.pass p = none ∧ t.flag (F.TIM_STATUS_TDR_BUSY p) = false
          ∧ t.get (F.TIM_CHA_RT_CONTACT_RT p c) = rt
          ∧ t.get (F.TIM_CHA_STAT_CONTACT p c) =
            (if rt = 0xFFFF then 4
             else if (rt : Int) - s.get (F.TIM_CHA_RT_OPEN_RT p c) < s.get (F.TIM_CONTACT_CFG_CONTACT_MIN p) then 2
             else if (s.get (F.TIM_CONTACT_CFG_CONTACT_MAX p) : Int) < rt - s.get (F.TIM_CHA_RT_OPEN_RT p c) then 3 else 1)
          ∧ s.RegsBut t (R.TIM_STATUS p :: R.TIM_CHA_RT p c :: R.TIM_CHA_STAT p c :: (tmuStatusOf p ++ calShown))
          ∧ s.SameMemory t)))
    ∧ (∀ (p : Pack) (s : State) (a : AlignPass) (h : CmdHdr) (c rt : Nat) (td tc : Int), s.pass p = some a → a.contact = false →
    a.settled = true → a.todo.all (fun l => l.isEmpty) = true → a.owner = .cmd h → c < 32 → a.chans = [c] →
    s.flag F.CAL_STATUS_FACT_BAD = false → rt = (Tab.get {} a.shots c).roundTrip →
    td = (rt + 2 * s.factChan (32 * p + c) 0 + 1) / 2 → tc = (rt + 2 * s.factChan (32 * p + c) 1 + 1) / 2 →
    (rt ≠ 0xFFFF → 100 ≤ rt → td ≤ 25000 → tc ≤ 25000 →
      ((Tab.get {} s.paths (32 * p + c)).first = true
        ∨ ((td - (Tab.get {} s.paths (32 * p + c)).td).natAbs ≤ 50 ∧ (tc - (Tab.get {} s.paths (32 * p + c)).tc).natAbs ≤ 50)) →
      ∃ t, exec (.tdrPassEnd p) s = .next t ∧ t.pass p = none ∧ t.get (F.TIM_CHA_RT_OPEN_RT p c) = rt
        ∧ Tab.get {} t.paths (32 * p + c) = ⟨td.toNat, tc.toNat, false⟩ ∧ s.SameMemory t)
    ∧ ((rt = 0xFFFF ∨ rt < 100) → s.get (F.TIM_CHA_STAT_REJECT_RUN p c) < 2 →
      ∃ t, exec (.tdrPassEnd p) s = .next t ∧ t.pass p = none ∧ t.get (F.TIM_CHA_RT_OPEN_RT p c) = rt
        ∧ t.flag (F.TIM_CHA_STAT_REJECTED p c) = true ∧ t.paths = s.paths ∧ s.SameMemory t))

/-- R428, R430 to R433, R441 to R443: the calibration commands. That a gap runs only tasks whose AUTO bit is 1 is assumption 42, that a task takes its nominal time assumption 44, and which registers and commands need a unit assumption 177: the model's readings and choices. -/
def Obligations.CalibrationCommands : Prop :=
  ∀ (h : CmdHdr) (pl : List Word) (s : State),
    (s.Admits 0x61 h pl →
      (s.calGap.isSome = true → ∃ t, exec (.calGap h pl) s = .next t ∧ t.Answers h .busy 0 [] ∧ t.regs = (s.homed h).regs ∧ s.SameMemory t)
      ∧ (s.calGap = none → s.stopped = true →
        ∃ t, exec (.calGap h pl) s = .next t ∧ t.Answers h .badState 0 [] ∧ t.regs = (s.homed h).regs ∧ s.SameMemory t)
      ∧ (∀ g : CalGap, g = ⟨some h, 2, bit (word pl 0) 2, word pl 1, 0, [], [1, 2, 3, 4, 5, 6, 7, 8], 0, 0, 0, false, false, 0⟩ →
        s.calGap = none → s.stopped = false → word pl 0 % 4 = 2 → s.calLate = [] → s.calTasks = [] →
        ((∀ k ∈ g.todo, s.gapUnits g k = []) →
          ∃ t, exec (.calGap h pl) s = .next t ∧ t.Answers h .ok 0 [0#32, 0#32, 0#32] ∧ t.calGap = none
            ∧ t.flag F.CAL_STATUS_GAP_OPEN = false ∧ (s.homed h).RegsBut t [R.CAL_STATUS] ∧ s.SameMemory t)
        ∧ (s.gapUnits g 1 ≠ [] → 20000 + 1000 ≤ 10 * word pl 1 →
          ∃ t, exec (.calGap h pl) s = .next t ∧ t.calTasks = [⟨1, s.gapUnits g 1, none, false, s.time, false⟩]
            ∧ t.calGap = some { g with
              todo := [2, 3, 4, 5, 6, 7, 8]
              elapsed := 20000
              skipped := s.gapSkips g 1 }
            ∧ t.flag F.CAL_STATUS_GAP_OPEN = true ∧ t.get F.CAL_STATUS_GAP_KIND = 2 ∧ (s.homed h).RegsBut t calShown ∧ s.SameMemory t)))
    ∧ (s.Admits 0x62 h pl →
      (s.calGap = none → s.calTasks = [] → s.calEnds = [] → s.routine = none →
        ∃ t, exec (.calEnd h pl) s = .next t ∧ t.Answers h .ok 0 [] ∧ t.regs = (s.homed h).regs ∧ s.SameMemory t)
      ∧ (∀ g late, s.calGap = some g → s.gapTaskRuns = true → late = g.todo.filter (fun k => !(s.gapUnits g k).isEmpty) →
        ∃ t, exec (.calEnd h pl) s = .next t ∧ t.calGap = some { g with
            todo := []
            deferred := g.deferred + late.length }
          ∧ t.calLate = s.calLate ++ late ∧ t.calEnds = s.calEnds ++ [h] ∧ t.calTasks = s.calTasks ∧ t.regs = (s.homed h).regs ∧ s.SameMemory t))
    ∧ (s.Admits 0x63 h pl → ∀ k units, k = word pl 0 →
      units = (calUnitsOf k).filter (fun u => !s.calUnitMuzzled k u && (match calPack k u with
        | some p => bit (word pl 1) p
        | none => word pl 1 != 0)) →
      (units = [] → ∃ t, exec (.calRun h pl) s = .next t ∧ t.Answers h (if s.flag F.CAL_STATUS_FACT_BAD then .calRejected else .ok) 0 [] ∧ t.regs = (s.homed h).regs ∧ s.SameMemory t)
      ∧ (units ≠ [] → (∃ u ∈ units, s.calMeets k u = false) →
        ∃ t, exec (.calRun h pl) s = .next t ∧ t.Answers h .busy 0 [] ∧ t.regs = (s.homed h).regs ∧ s.SameMemory t)
      ∧ (units ≠ [] → (∀ u ∈ units, s.calMeets k u = true) →
        ∃ t, exec (.calRun h pl) s = .next t ∧ t.calTasks = s.calTasks ++ [⟨k, units, some h, false, s.time, false⟩]
          ∧ (s.homed h).RegsBut t calShown ∧ s.SameMemory t))
    ∧ (s.Admits 0x64 h pl →
      (s.calStore.isSome = true → ∃ t, exec (.calStore h pl) s = .next t ∧ t.Answers h .busy 0 [] ∧ t.regs = (s.homed h).regs ∧ s.SameMemory t)
      ∧ (s.calStore = none → ∃ t, exec (.calStore h pl) s = .next t ∧ t.calStore = some (some h)
          ∧ t.flag F.CAL_STATUS_STORE_BUSY = true ∧ (s.homed h).RegsBut t [R.CAL_STATUS] ∧ s.SameMemory t))
    ∧ (s.Admits 0x65 h pl →
      ∃ t, exec (.calForget h pl) s = .next t ∧ t.Answers h .ok 0 [] ∧ t.regs = (s.homed h).regs ∧ s.SameMemory t
        ∧ (bit (word pl 0) 0 = true → ∀ u, u < 512 → bit (word pl 1) (u / 32) = true → (Tab.get {} t.paths u).first = true)
        ∧ ∀ k u p i, k < 9 → bit (word pl 0) k = true → u ∈ calUnitsOf k → calPack k u = some p → bit (word pl 1) p = true →
          (Tab.get {} (t.calUnit k u).params i).first = true)
    ∧ (s.Admits 0x66 h pl → (s.calGap = none ∨ ∃ g, s.calGap = some g ∧ g.todo = []) →
      ∃ t, exec (.calAbort h pl) s = .next t ∧ t.calTasks = [] ∧ t.calGap = none
        ∧ (∀ p, p < 16 → t.pass p = none) ∧ s.SameMemory t)
    ∧ (∀ x ∈ [(Instr.calRun h pl, 0x63), (.align h pl, 0x60), (.regWrite h pl, 0x01), (.regModify h pl, 0x02),
        (.pmuMeasure h pl, 0x50), (.tmuMeasure h pl, 0x51)],
      s.coreUp = true → s.entryOf h = none → s.calHeld x.2 pl = true →
      exec x.1 s = .next ((s.homed h).enlist x.2 h pl .released))

/-- R436, R438, R442: the ends of a task and of a store, and the movement of a trim. The units of the parameters, and that the parameters of one level move one after the other, are the model's choice (assumption 43). -/
def Obligations.CalibrationEvents : Prop :=
  (∀ (s : State) (h : CmdHdr) (e : InFlight) (u n0 : Nat) (r : CalResult), s.calTasks = [⟨1, [u], some h, false, n0, false⟩] →
      s.calGap = none → s.routine = none →
      s.calEnds = [] → s.flag F.CAL_STATUS_FACT_BAD = false → u < 512 → r.unit = u → s.seqRun (u / 32) = false →
      s.entryOf h = some e → e.hdr = h → e.suppressed = false → ∀ n a d, s.factWindow 1 u r.param = (n, a, d) → 0 ≤ a → 0 ≤ d →
      ((r.value - n).natAbs ≤ a.toNat →
        ((Tab.get {} (s.calUnit 1 u).params r.param).first = true
          ∨ (r.value - (Tab.get {} (s.calUnit 1 u).params r.param).prev).natAbs ≤ d.toNat) →
        ∃ t, exec (.calTaskEnd 1 [r]) s = .next t ∧ t.Answers h .ok 0 [] ∧ t.calTasks = []
          ∧ Tab.get {} (t.calUnit 1 u).params r.param = ⟨r.value, r.value, r.value, false⟩ ∧ (t.calUnit 1 u).rejects = 0
          ∧ s.RegsBut t (R.CAL_CH_REJ (u / 32) (u % 32) :: calShown) ∧ s.SameMemory t)
      ∧ (a.toNat < (r.value - n).natAbs → (s.calUnit 1 u).rejects < 2 →
        ∃ t, exec (.calTaskEnd 1 [r]) s = .next t ∧ t.Answers h .calRejected 0 [] ∧ t.calTasks = []
          ∧ (t.calUnit 1 u).params = (s.calUnit 1 u).params ∧ (t.calUnit 1 u).rejects = (s.calUnit 1 u).rejects + 1
          ∧ s.RegsBut t (R.CAL_CH_REJ (u / 32) (u % 32) :: calShown) ∧ s.SameMemory t))
    ∧ (∀ (s : State) (h : CmdHdr) (e : InFlight), s.calStore = some (some h) → s.entryOf h = some e → e.hdr = h → e.suppressed = false →
      (∃ t, exec (.calStoreDone true) s = .next t ∧ t.Answers h .ok 0 [] ∧ t.calStore = none
        ∧ t.flag F.CAL_STATUS_STORE_BUSY = false ∧ t.lastStore = some s.time ∧ t.dram = s.dram
        ∧ s.RegsBut t [R.CAL_STATUS])
      ∧ (∃ t, exec (.calStoreDone false) s = .next t ∧ t.Answers h .internal 0 [] ∧ t.calStore = none
        ∧ t.flag F.CAL_STATUS_STORE_BUSY = false ∧ t.flag F.CAL_STATUS_STORE_ERR = true ∧ t.dram = s.dram
        ∧ s.RegsBut t [R.CAL_STATUS]))
    ∧ (∀ (task : Fin 9) (u k : Nat) (s : State) (p : CalParam), p = Tab.get {} (s.calUnit task u).params k →
      ∃ t, exec (.trimMove task u k) s = .next t ∧ t.regs = s.regs ∧ s.SameMemory t ∧ ∃ v,
        Tab.get {} (t.calUnit task u).params k = { p with applied := v }
        ∧ (s.trimInUse task u k = false → v = p.target)
        ∧ (s.trimInUse task u k = true → (task : Nat) = 2 → v = p.applied)
        ∧ (s.trimInUse task u k = true → (task : Nat) ≠ 2 →
          ((∃ j ∈ trimBefore task k, (Tab.get {} (s.calUnit task u).params j).applied ≠ (Tab.get {} (s.calUnit task u).params j).target) →
            v = p.applied)
          ∧ ((∀ j ∈ trimBefore task k, (Tab.get {} (s.calUnit task u).params j).applied = (Tab.get {} (s.calUnit task u).params j).target) →
            (p.applied + s.trimStep task u k < p.target → v = p.applied + s.trimStep task u k)
            ∧ (p.target < p.applied - s.trimStep task u k → v = p.applied - s.trimStep task u k)
            ∧ ((p.applied - p.target).natAbs ≤ s.trimStep task u k → v = p.target))))

/-- R130, R131, R134: loading and starting patterns. checkImage makes the checks of R134 in their order. -/
def Obligations.PatternLoadAndStart : Prop :=
  (∀ h pl s p a, s.Admits 0x30 h pl → packsOf (word pl 0) = [p] → a = word pl 1 + 2 ^ 32 * word pl 2 →
      (s.packMuzzled p = true → ∃ t, exec (.patLoad h pl) s = .next t ∧ t.Answers h .muzzled 0 [] ∧ t.regs = (s.homed h).regs ∧ s.SameMemory t)
      ∧ (s.packMuzzled p = false → (s.seqRun p || s.startWaits p) = true →
        ∃ t, exec (.patLoad h pl) s = .next t ∧ t.Answers h .busy 0 [] ∧ t.regs = (s.homed h).regs ∧ s.SameMemory t)
      ∧ (s.packMuzzled p = false → (s.seqRun p || s.startWaits p) = false → bit s.fences 40 = false → s.frozen = false →
        (∀ st, s.checkImage a = .error st →
          ∃ t, exec (.patLoad h pl) s = .next t ∧ t.Answers h st 0 [] ∧ t.regs = (s.homed h).regs ∧ s.SameMemory t)
        ∧ (∀ hd words segs, s.checkImage a = .ok (hd, words, segs) →
          ∃ t, exec (.patLoad h pl) s = .next t ∧ t.Answers h .ok 0 [] ∧ t.flag (F.SEQ_STATUS_LOADED p) = true
            ∧ (t.seq p).segs = segs ∧ (t.seq p).dataBase = a + hd.dataOff ∧ s.SameMemory t
            ∧ (∀ k, Tab.get 0#64 words k ≠ 0#64 → Tab.get 0#64 (t.seq p).words k = Tab.get 0#64 words k)
            ∧ t.get (F.SEQ_IMAGE_SEG_COUNT p) = hd.segCount % 2 ^ (F.SEQ_IMAGE_SEG_COUNT p).w)))
    ∧ (∀ h pl s, s.Admits 0x31 h pl → packsOf (word pl 0) ≠ [] →
      (∀ st, s.startCheck (packsOf (word pl 0)) (word pl 1) = some st →
        ∃ t, exec (.patStart h pl) s = .next t ∧ t.Answers h st 0 [] ∧ t.regs = (s.homed h).regs ∧ t.groups = s.groups ∧ s.SameMemory t)
      ∧ (s.startCheck (packsOf (word pl 0)) (word pl 1) = none →
        ∃ t, exec (.patStart h pl) s = .next t ∧ s.SameMemory t
          ∧ t.groups.getLast? = some ⟨.cmd h, packsOf (word pl 0), word pl 1, word pl 2 + 2 ^ 32 * word pl 3,
              s.flag F.HK_STATUS_DEFER, false, packsOf (word pl 0), none⟩
          ∧ t.groups.dropLast.map (fun g => { g with deferred := false }) = s.groups.map (fun g => { g with deferred := false })
          ∧ (∀ p ∈ packsOf (word pl 0), t.flag (F.PK_STATUS_START_DEFERRED p) = s.flag F.HK_STATUS_DEFER)
          ∧ (s.homed h).RegsBut t ((packsOf (word pl 0)).map R.SEQ_PREFETCH
              ++ (s.groups.flatMap (·.packs) ++ packsOf (word pl 0)).map R.PK_STATUS)))
    ∧ (∀ (p : Pack) (s : State) (g : StartGroup), s.groups = [g] → g.packs = [p.val] → g.running = false →
      (g.startTime ≠ 0 → g.startTime < s.time → s.routine = none → ∀ h e, g.owner = .cmd h → s.entryOf h = some e → e.hdr = h → e.suppressed = false →
        ∃ t, exec (.patternBegin p) s = .next t ∧ t.Answers h (if g.deferred then .thermal else .timeout) 0 []
          ∧ t.groups = [] ∧ s.SameMemory t)
      ∧ (¬ (g.startTime ≠ 0 ∧ g.startTime < s.time) → s.flag F.HK_STATUS_DEFER = true →
        ∃ t, exec (.patternBegin p) s = .next t ∧ t.flag (F.PK_STATUS_START_DEFERRED p) = true
          ∧ t.groups = [{ g with deferred := true }] ∧ s.RegsBut t [R.PK_STATUS p] ∧ s.SameMemory t)
      ∧ (¬ (g.startTime ≠ 0 ∧ g.startTime < s.time) → s.flag F.HK_STATUS_DEFER = false → s.primed p = true → s.headsReady p = true →
        ∃ t, exec (.patternBegin p) s = .next t ∧ t.flag (F.PK_STATUS_SEQ_RUN p) = true ∧ t.groups = [{ g with running := true }]
          ∧ t.time = (if g.startTime = 0 then s.time + 1 else g.startTime) ∧ t.rd64 (R.SEQ_BEAT_LO p) = 0
          ∧ t.flag (F.PK_STATUS_START_DEFERRED p) = false))

/-- R125, R130, R132: the commands that act on running patterns. R93, R368, R369: swapping the timing sets of a pack. -/
def Obligations.PatternControlAndTimingSwaps : Prop :=
  (∀ (h : CmdHdr) (pl : List Word) (s : State) (p : Nat), packsOf (word pl 0) = [p] →
    (s.Admits 0x32 h pl →
      (s.seqRun p = false → s.startWaits p = false →
        ∃ t, exec (.patStop h pl) s = .next t ∧ t.Answers h .ok 0 [] ∧ t.regs = (s.homed h).regs ∧ t.groups = s.groups ∧ s.SameMemory t)
      ∧ (∀ g h' e, s.routine = none → s.seqRun p = false → s.groups = [g] → g.packs = [p] → g.running = false → g.owner = .cmd h' → s.entryOf h' = some e →
        e.hdr = h' → e.suppressed = false → e.opcode ≠ 0xF1 → (∀ i, i < 1024 → s.siteActive i = false) →
        ∃ t, exec (.patStop h pl) s = .next t ∧ t.Answers h .ok 0 [] ∧ t.Answers h' .partialDone 0 [] ∧ t.groups = []
          ∧ t.get (F.SEQ_STATUS_END_REASON p) = 5 ∧ (s.homed h).RegsBut t [R.SEQ_STATUS p, R.PK_STATUS p, R.SEQ_PREFETCH p] ∧ s.SameMemory t))
    ∧ (s.Admits 0x33 h pl → s.jumpCmds = [] →
      (∀ st, s.jumpRefused p (word pl 1) = some st →
        ∃ t, exec (.patJump h pl) s = .next t ∧ t.Answers h st 0 [] ∧ t.jumpCmds = [] ∧ t.regs = (s.homed h).regs ∧ s.SameMemory t)
      ∧ (s.jumpRefused p (word pl 1) = none →
        ∃ t, exec (.patJump h pl) s = .next t ∧ t.jumpCmds = [⟨h, [p], false, []⟩]
          ∧ (t.seq p).host = some ⟨h, word pl 1, (s.seq p).chosen.isSome⟩
          ∧ t.flag (F.SEQ_STATUS_JUMP_PENDING p) = true ∧ t.get (F.SEQ_JUMP_SOURCE p) = 0
          ∧ (s.homed h).RegsBut t [R.SEQ_STATUS p, R.SEQ_JUMP p] ∧ s.SameMemory t))
    ∧ (s.Admits 0x34 h pl →
      (s.seqRun p = false → ∃ t, exec (.patPause h pl) s = .next t ∧ t.Answers h .badState 0 [] ∧ t.regs = (s.homed h).regs ∧ s.SameMemory t)
      ∧ (s.seqRun p = true →
        ∃ t, exec (.patPause h pl) s = .next t ∧ t.flag (F.SEQ_CTL_PAUSE p) = true ∧ (s.homed h).RegsBut t [R.SEQ_CTL p] ∧ s.SameMemory t
          ∧ (s.flag (F.SEQ_CTL_PAUSE p) && (s.seq p).holding = true → t.Answers h .ok 0 [] ∧ t.pauses = s.pauses)
          ∧ (s.flag (F.SEQ_CTL_PAUSE p) && (s.seq p).holding = false → t.pauses = s.pauses ++ [⟨h, false, [p]⟩])))
    ∧ (s.Admits 0x35 h pl →
      (s.flag (F.SEQ_CTL_PAUSE p) && (s.seq p).holding = false →
        ∃ t, exec (.patResume h pl) s = .next t ∧ t.Answers h .badState 0 [] ∧ t.regs = (s.homed h).regs ∧ s.SameMemory t)
      ∧ (s.flag (F.SEQ_CTL_PAUSE p) && (s.seq p).holding = true →
        ∃ t, exec (.patResume h pl) s = .next t ∧ t.flag (F.SEQ_CTL_PAUSE p) = false ∧ t.pauses = s.pauses ++ [⟨h, true, [p]⟩]
          ∧ (s.homed h).RegsBut t [R.SEQ_CTL p] ∧ s.SameMemory t)))
    ∧ ((∀ h pl s, s.Admits 0x36 h pl →
      (packsOf (word pl 0) = [] → ∃ t, exec (.tsetSwap h pl) s = .next t ∧ t.Answers h .ok 0 [] ∧ t.regs = (s.homed h).regs ∧ s.SameMemory t)
      ∧ ((∃ p ∈ packsOf (word pl 0), s.packMuzzled p = true) →
        ∃ t, exec (.tsetSwap h pl) s = .next t ∧ t.Answers h .muzzled 0 [] ∧ t.regs = (s.homed h).regs ∧ s.SameMemory t)
      ∧ (packsOf (word pl 0) ≠ [] → (∀ p ∈ packsOf (word pl 0), s.packMuzzled p = false) →
        (∃ p ∈ packsOf (word pl 0), s.swapPending p = true) →
        ∃ t, exec (.tsetSwap h pl) s = .next t ∧ t.Answers h .busy 0 [] ∧ t.regs = (s.homed h).regs ∧ s.SameMemory t)
      ∧ (∀ p, packsOf (word pl 0) = [p] → s.packMuzzled p = false → s.swapPending p = false →
        (∀ st, s.swapCheck p = some st →
          ∃ t, exec (.tsetSwap h pl) s = .next t ∧ t.Answers h st 0 [] ∧ t.regs = (s.homed h).regs ∧ s.SameMemory t)
        ∧ (s.swapCheck p = none →
          ∃ t, exec (.tsetSwap h pl) s = .next t ∧ t.swapPending p = true ∧ t.swapCmds = s.swapCmds ++ [⟨h, false, [p]⟩]
            ∧ (Tab.get none t.tsetSwaps p).map (·.atPass) = some (bit (word pl 1) 0) ∧ t.regs = (s.homed h).regs ∧ s.SameMemory t)))
    ∧ (∀ (p : Pack) (s : State),
      (s.swapPending p = false → exec (.tsetSwapWrap p) s = .next s)
      ∧ (s.Canon → s.swapPending p = true → s.seqRun p = false →
        ∃ t, exec (.tsetSwapWrap p) s = .next t ∧ t.swapPending p = false ∧ s.SameMemory t
          ∧ (∀ k, k < 0x10000 → t.rd (activeCopy p + k) = s.rd (shadowCopy p + k))
          ∧ ∀ k, k < 0x10000 → t.rd (shadowCopy p + k) = s.rd (shadowCopy p + k))))

/-- R204, R205, R210, R211, R310, R407: how a time-interval measurement starts and is ended early. tmuGoRefused lists the checks in order. -/
def Obligations.TmuStartsAndAborts : Prop :=
  ∀ (t : TmuId) (s : State),
    (∀ (o : Origin) (v : Word), s.packMuzzled (t / 4) = false →
      (bit v.toNat 0 = true →
        (∀ st, s.tmuGoRefused t = some st → exec (.tmuGo o t v) s = .next { s with resp := st })
        ∧ (s.tmuGoRefused t = none → s.calTasks = [] → ¬ (s.get (F.TMU_CTL_MODE t) = 2 ∧ s.get (F.TMU_NREP t) = 0) →
          ∃ u, exec (.tmuGo o t v) s = .next u ∧ u.resp = .ok ∧ u.tmuBusy t = true ∧ u.rd (R.TMU_CLOSE_CNT t) = 0
            ∧ u.tmu t = { phase := .calibrating } ∧ s.RegsBut u [R.TMU_STATUS t, R.TMU_CLOSE_CNT t] ∧ s.SameMemory u))
      ∧ (bit v.toNat 0 = false → bit v.toNat 1 = true →
        (s.tmuBusy t = false → exec (.tmuAbortBit o t v) s = .next { s with resp := .ok })
        ∧ (s.tmuBusy t = true → (s.tmu t).owner = none → (s.tmu t).entries = [] →
          ∃ u, exec (.tmuAbortBit o t v) s = .next u ∧ u.resp = .ok ∧ u.tmuBusy t = false ∧ u.flag (F.TMU_STATUS_DONE t) = true
            ∧ u.get (F.TMU_RES_HDR_END t) = 3 ∧ u.tmu t = {} ∧ s.RegsBut u (R.TMU_STATUS t :: tmuBlockOf t) ∧ s.SameMemory u)))
    ∧ (∀ h pl, s.Admits 0x52 h pl → word pl 0 = t →
      (s.tmuBusy t = false → ∃ u, exec (.tmuAbort h pl) s = .next u ∧ u.Answers h .ok 0 [] ∧ u.regs = (s.homed h).regs ∧ s.SameMemory u)
      ∧ (s.tmuBusy t = true → (s.tmu t).owner = none → (s.tmu t).entries = [] →
        ∃ u, exec (.tmuAbort h pl) s = .next u ∧ u.Answers h .ok 0 [] ∧ u.tmuBusy t = false ∧ u.get (F.TMU_RES_HDR_END t) = 3
          ∧ (s.homed h).RegsBut u (R.TMU_STATUS t :: tmuBlockOf t) ∧ s.SameMemory u))
    ∧ (∀ h pl, s.Admits 0x51 h pl → s.stopped = true →
      ∃ u, exec (.tmuMeasure h pl) s = .next u ∧ u.Answers h .badState 0 [] ∧ u.regs = (s.homed h).regs ∧ s.SameMemory u)
    ∧ (∀ h pl, s.Admits 0x51 h pl → s.stopped = false →
      (∀ u st, (s.admitted 0x51 h pl).tmuRun (word pl 0) pl (.cmd h) = (u, some st) → exec (.tmuMeasure h pl) s = .next (u.done h st))
      ∧ (∀ u, (s.admitted 0x51 h pl).tmuRun (word pl 0) pl (.cmd h) = (u, none) → exec (.tmuMeasure h pl) s = .next u))
    ∧ (∀ c1 c2 : BitVec 12, s.flag (F.TMU_STATUS_TDR_OWNED t) = false → (s.tmu t).phase = .calibrating →
      (1700 ≤ c1.toNat → c1.toNat ≤ 2300 → 1700 ≤ c2.toNat - c1.toNat → c2.toNat - c1.toNat ≤ 2300 →
        ∃ u, exec (.tmuCalibration t c1 c2) s = .next u ∧ u.tmu t = { s.tmu t with phase := .waiting }
          ∧ u.get (F.TMU_CAL_C1 t) = c1.toNat ∧ u.get (F.TMU_CAL_C2 t) = c2.toNat ∧ s.RegsBut u [R.TMU_CAL t] ∧ s.SameMemory u)
      ∧ ((c1.toNat < 1700 ∨ 2300 < c1.toNat) → (s.tmu t).owner = none → (s.tmu t).entries = [] →
        ∃ u, exec (.tmuCalibration t c1 c2) s = .next u ∧ u.tmu t = {} ∧ u.tmuBusy t = false ∧ u.get (F.TMU_RES_HDR_END t) = 5
          ∧ u.flag (F.TMU_STATUS_CAL_RANGE t) = true
          ∧ s.RegsBut u (R.TMU_CAL t :: R.TMU_STATUS t :: tmuBlockOf t) ∧ s.SameMemory u))

/-- R201 to R204, R206, R208, R216: the course of a measurement. tmuInterval is the interval of R206 in femtoseconds. -/
def Obligations.TmuMeasurement : Prop :=
  ∀ (t : TmuId) (s : State), s.flag (F.TMU_STATUS_TDR_OWNED t) = false →
    ((s.tmu t).phase = .waiting → (s.get (F.TMU_CTL_ARM_MODE t) = 0 ∨ (s.tmu t).armSeen = true) →
      ∃ u, exec (.tmuArm t) s = .next u ∧ (u.tmu t).phase = .armed ∧ u.regs = s.regs ∧ s.SameMemory u)
    ∧ (∀ (e : TmuEdgeObs) (v : TmuState), (s.tmu t).phase = .armed → s.get (F.TMU_CTL_MODE t) = 0 → s.edgeOccurs t e = true →
      v = { s.tmu t with due := (s.tmu t).due.erase e.src.toNat } →
      (s.isStart t e = true → v.start = none → s.get (F.TMU_SKIP_START_SKIP t) ≤ v.startSkipped → s.get (F.TMU_CTL_NSTOPS t) ≠ 0 →
        exec (.tmuEdge t e) s = .next (s.setTmu t { v with
          start := some ⟨e.k, e.code.toNat, e.tick.toNat, s.tipOf t (s.get (F.TMU_SRC_START_SRC t))⟩
          phase := .armed }))
      ∧ (s.isStart t e = false → v.start = none → exec (.tmuEdge t e) s = .next (s.setTmu t v))
      ∧ (∀ a b, v.start = some a → b = ⟨e.k, e.code.toNat, e.tick.toNat, s.tipOf t (s.get (F.TMU_SRC_STOP_SRC t))⟩ →
        s.isStop t e = true → v.stops = [] →
        (s.tmuInterval t { a with tip := 0 } { b with tip := 0 } < 200000 →
          exec (.tmuEdge t e) s = .next ((s.setTmu t v).bump (F.TMU_CLOSE_CNT t)))
        ∧ (200000 ≤ s.tmuInterval t { a with tip := 0 } { b with tip := 0 } → s.get (F.TMU_SKIP_STOP_SKIP t) ≤ v.stopSkipped →
          ∃ u, exec (.tmuEdge t e) s = .next u ∧ (u.tmu t).stops = [b] ∧ u.regs = s.regs ∧ s.SameMemory u
            ∧ (s.get (F.TMU_CTL_NSTOPS t) = 1 → (u.tmu t).phase = .converting 1)
            ∧ (2 ≤ s.get (F.TMU_CTL_NSTOPS t) → (u.tmu t).phase = .armed))))
    ∧ ((s.tmu t).phase = .armed → s.get (F.TMU_CTL_MODE t) ≠ 1 →
      exec (.tmuTimeout t) s = .next (s.setTmu t { s.tmu t with phase := .converting 2 }))
    ∧ ((s.tmu t).phase = .armed → s.get (F.TMU_CTL_MODE t) = 1 → (s.tmu t).start ≠ none →
      exec (.freqGateClose t) s = .next (s.setTmu t { s.tmu t with phase := .converting 1 }))
    ∧ (∀ a b h e, (s.tmu t).phase = .converting 1 → s.get (F.TMU_CTL_MODE t) = 0 → (s.tmu t).start = some a → (s.tmu t).stops = [b] →
      (s.tmu t).owner = some (.cmd h) → (s.tmu t).entries = [] →
      s.entryOf h = some e → e.hdr = h → e.suppressed = false → s.routine = none →
      ∃ u, exec (.tmuMeasEnd t) s = .next u ∧ u.tmu t = {} ∧ u.rd64 (R.TMU_STOP_LO t 0) = unsigned 64 (s.tmuInterval t a b)
        ∧ u.rd64 (R.TMU_START_DT_LO t) = a.tick % 2 ^ 64 ∧ u.get (F.TMU_RES_HDR_STOPS_SEEN t) = 1 ∧ u.get (F.TMU_RES_HDR_END t) = 1
        ∧ u.get (F.TMU_RES_HDR_MEAS_SEQ t) = (s.get (F.TMU_RES_TRL t) + 1) % 2 ^ 16
        ∧ u.get (F.TMU_RES_TRL t) = (s.get (F.TMU_RES_TRL t) + 1) % 2 ^ 16
        ∧ u.flag (F.TMU_STATUS_DONE t) = true ∧ u.tmuBusy t = false ∧ u.Answers h .ok 0 (u.tmuBlock t)
        ∧ s.RegsBut u (R.TMU_STATUS t :: tmuBlockOf t) ∧ s.SameMemory u)

/-- R217, R219 to R221, R223 to R225, R246: the output of a PSM. Positions are in units of 1/131,072 µV. -/
def Obligations.PsmOutput : Prop :=
  ∀ (n : PsmId) (s : State),
    (s.packMuzzled (n / 6) = false → s.psmMuzzled n = false → ∀ (o : Origin) (v : Word),
      ((4 ≤ v.toNat % 8 ∨ 6 ≤ bits v.toNat 4 3 ∨ bits v.toNat 8 2 = 3) → exec (.psmCtlWrite o n v) s = .next { s with resp := .badOpcode })
      ∧ (v.toNat % 8 < 4 → bits v.toNat 4 3 < 6 → bits v.toNat 8 2 ≠ 3 →
        ((s.stopped = true ∨ s.dark = true) → s.rd (R.PSM_CTL n) % 8 = 0 → v.toNat % 8 ≠ 0 → exec (.psmCtlWrite o n v) s = .next { s with resp := .badState })
        ∧ (s.rd (R.PSM_CTL n) % 8 ≠ v.toNat % 8 → s.rd (R.PSM_CTL n) % 8 ≠ 0 → v.toNat % 8 ≠ 0 →
          exec (.psmCtlWrite o n v) s = .next { s with resp := .badState })
        ∧ (s.stopped = false → s.dark = false → s.taskOn 4 n = false → s.rd (R.PSM_CTL n) % 8 = 0 → v.toNat % 8 = 1 → bit v.toNat 3 = bit (s.rd (R.PSM_CTL n)) 3 →
          bits v.toNat 4 3 < 5 → bits (s.rd (R.PSM_CTL n)) 4 3 < 5 → (s.psm n).stage = 0 → (s.psm n).waiters = [] →
          ∃ t, exec (.psmCtlWrite o n v) s = .next t ∧ t.resp = .ok ∧ t.psmMode n = 1 ∧ t.psmRange n = bits v.toNat 4 3
            ∧ (t.psm n).stage = 1 ∧ s.RegsBut t [R.PSM_CTL n, R.PSM_STATUS n] ∧ s.SameMemory t)))
    ∧ (s.packMuzzled (n / 6) = false → s.psmMuzzled n = false → ∀ (o : Origin) (v : Word), ¬ (s.psmRange n = 5 ∧ s.psmMode n = 1 ∧ bit v.toNat 17 = true) →
      (s.get (F.PSM_STATUS_SOURCE n) ≠ 0 → exec (.psmLevelWrite o n v) s = .next { s with resp := .busy })
      ∧ (s.get (F.PSM_STATUS_SOURCE n) = 0 → (s.psm n).stage = 0 → (s.psm n).waiters = [] →
        ∃ t, exec (.psmLevelWrite o n v) s = .next t ∧ t.resp = .ok ∧ t.get (F.PSM_LEVEL n) = v.toNat % 2 ^ 18
          ∧ s.RegsBut t [R.PSM_LEVEL n, R.PSM_STATUS n] ∧ s.SameMemory t))
    ∧ ((s.psm n).ramp = .none → exec (.psmSlewStep n) s = .next s)
    ∧ ((s.psm n).ramp = .slew → s.get (F.PSM_SLEW n) ≠ 0 → ∀ x, x = s.psmTarget n * s.psmUnit n →
      ∃ t, exec (.psmSlewStep n) s = .next t ∧ s.SameMemory t
        ∧ ((s.psm n).pos < x → (t.psm n).pos = min x ((s.psm n).pos + 131072 * (s.get (F.PSM_SLEW n) : Int)))
        ∧ (x < (s.psm n).pos → (t.psm n).pos = max x ((s.psm n).pos - 131072 * (s.get (F.PSM_SLEW n) : Int))))
    ∧ ((s.psm n).ramp = .safe → ∃ t, exec (.safeRampEnd n) s = .next t ∧ t.psmMode n = 0 ∧ (t.psm n).stage = 0
        ∧ (t.psm n).ramp = .none ∧ t.flag (F.PSM_STATUS_SAFE_RAMP n) = false ∧ s.SameMemory t)
    ∧ ((s.psm n).ramp ≠ .safe → exec (.safeRampEnd n) s = .next s)
    ∧ (((s.psm n).stage = 1 ∨ (s.psm n).stage = 2) → ∃ t, exec (.clamp n) s = .next t ∧ t.flag (F.PSM_STATUS_CLAMPING n) = true
        ∧ t.flag (F.PSM_STATUS_CLAMP n) = true ∧ s.RegsBut t [R.PSM_STATUS n] ∧ s.SameMemory t
        ∧ (s.flag (F.PSM_STATUS_CLAMP n) = false → t.faultIn = s.faultIn ++ [⟨packSrc (n / 6) (9 + n % 6), cANALOG, 0x01, n, s.time % 2 ^ 15⟩]))
    ∧ ((s.psm n).stage = 1 → (s.psm n).waiters = [] → ∃ t, exec (.short n) s = .next t ∧ t.flag (F.PSM_STATUS_SHORT_PROTECT n) = true
        ∧ t.flag (F.PSM_STATUS_SHORT n) = true ∧ s.RegsBut t [R.PSM_STATUS n] ∧ s.SameMemory t
        ∧ (s.flag (F.PSM_STATUS_SHORT n) = false → t.faultIn = s.faultIn ++ [⟨packSrc (n / 6) (9 + n % 6), cANALOG, 0x02, n, s.time % 2 ^ 15⟩]))
    ∧ ((s.psm n).stage ≠ 0 → ∃ t, exec (.senseOpen n) s = .next t ∧ t.flag (F.PSM_STATUS_SENSE_OPEN n) = true
        ∧ t.flag (F.PSM_STATUS_SENSE_FALLBACK n) = true ∧ s.RegsBut t [R.PSM_STATUS n] ∧ s.SameMemory t)
    ∧ (s.psmRange n = 5 → (s.psm n).stage = 1 → (s.psm n).wave = none → (s.psm n).timed = [] → (s.psm n).snap = none →
        (s.psm n).meas = none → (s.psm n).waiters = [] → s.flag (F.PSM_STATUS_SINE_RUN n) = false →
        ∃ t, exec (.boostRange n) s = .next t ∧ t.flag (F.PSM_STATUS_BOOST_RANGE n) = true ∧ (t.psm n).ramp = .safe
          ∧ t.flag (F.PSM_STATUS_SAFE_RAMP n) = true ∧ s.RegsBut t [R.PSM_STATUS n] ∧ s.SameMemory t)
    ∧ (∀ (o : Origin) (v : Word), bit v.toNat 17 = false → bit v.toNat 19 = true → s.flag (F.PSM_STATUS_SENSE_OPEN n) = true →
        ∃ t, exec (.psmStatusClear o n v) s = .next t ∧ t.resp = .ok ∧ t.flag (F.PSM_STATUS_SENSE_OPEN n) = false
          ∧ t.flag (F.PSM_STATUS_SENSE_FALLBACK n) = false ∧ s.RegsBut t [R.PSM_STATUS n] ∧ s.SameMemory t)

/-- R239, R242 to R244, R248: the monitoring converter of a PSM. That a trigger with nothing armed counts in PSM_SNAP_MISSED (assumption 31), and that a reading sets and clears CLAMPING as a clamp acts at it (assumption 27), are the model's choices. -/
def Obligations.PsmMeasureAndSnapshots : Prop :=
  ∀ (n : PsmId) (s : State), s.packMuzzled (n / 6) = false → s.psmMuzzled n = false →
    ((∀ o, s.psmMode n = 0 → exec (.measGo o n) s = .next { s with resp := .badState })
      ∧ (∀ o, s.psmMode n ≠ 0 → s.psmConverts n (s.flag (F.PSM_MEAS_CFG_MEAS_QTY n)) = true →
        ((s.psm n).meas.isSome = true → exec (.measGo o n) s = .next { s with resp := .busy })
        ∧ ((s.psm n).meas = none → s.get (F.PSM_MEAS_CFG_SAMPLES n) ≠ 0 →
          ∃ t, exec (.measGo o n) s = .next t ∧ t.resp = .ok ∧ t.flag (F.PSM_STATUS_MEAS_BUSY n) = true
            ∧ t.flag (F.PSM_MEAS_MEAN_VALID n) = false ∧ (t.psm n).meas.isSome = true
            ∧ s.RegsBut t [R.PSM_MEAS_MEAN n, R.PSM_STATUS n] ∧ s.SameMemory t)))
    ∧ (∀ h pl, s.Admits 0x47 h pl → word pl 0 = n →
      (s.psmMode n = 0 → ∃ t, exec (.psmMeasure h pl) s = .next t ∧ t.Answers h .badState 0 [] ∧ t.regs = (s.homed h).regs ∧ s.SameMemory t)
      ∧ (s.psmMode n ≠ 0 → s.psmConverts n (s.flag (F.PSM_MEAS_CFG_MEAS_QTY n)) = true → (s.psm n).meas = none →
        s.get (F.PSM_MEAS_CFG_SAMPLES n) ≠ 0 →
        ∃ t, exec (.psmMeasure h pl) s = .next t ∧ t.flag (F.PSM_STATUS_MEAS_BUSY n) = true
          ∧ (t.psm n).meas.map (·.owner) = some (some (.cmd h)) ∧ (s.homed h).RegsBut t [R.PSM_MEAS_MEAN n, R.PSM_STATUS n] ∧ s.SameMemory t))
    ∧ (∀ m, (s.psm n).meas = some m →
      exec (.psmMeasSettled n) s = .next (s.setPsm n { s.psm n with meas := some { m with settled := true } }))
    ∧ (∀ (measured : Bool) (code : BitVec 18) (clamps : Bool), s.psmTakes n (!measured) = true → (s.psm n).meas = none →
      (s.psm n).snap = none → (s.psm n).waiters = [] → s.flag (F.PSM_THR_THR_EN n) = false → s.flag (F.PSM_CHK_CFG_CHK_EN n) = false →
      ∃ t, exec (.psmAdcReading n measured code clamps) s = .next t ∧ s.SameMemory t ∧ t.flag (F.PSM_STATUS_CLAMPING n) = clamps
        ∧ (measured = false → t.getI (F.PSM_MON_F n) = code.toInt ∧ s.RegsBut t [R.PSM_MON_F n, R.PSM_STATUS n])
        ∧ (measured = true → t.getI (F.PSM_MON_M n) = code.toInt ∧ s.RegsBut t [R.PSM_MON_M n, R.PSM_STATUS n]))
    ∧ ((s.psm n).snap = none → s.get (F.PSM_SNAP_CFG_TRIG_SRC n) = 0 →
      (∀ o, exec (.snapTrig o n) s = .next { s.bump (F.PSM_SNAP_MISSED n) with resp := .ok })
      ∧ (∀ h pl, s.Admits 0x49 h pl → word pl 0 = n →
        ∃ t, exec (.psmSnapTrig h pl) s = .next t ∧ t.Answers h .ok 0 []
          ∧ t.get (F.PSM_SNAP_MISSED n) = min (s.get (F.PSM_SNAP_MISSED n) + 1) (2 ^ (F.PSM_SNAP_MISSED n).w - 1)
          ∧ (s.homed h).RegsBut t [(F.PSM_SNAP_MISSED n).addr] ∧ s.SameMemory t))
    ∧ (∀ x y, (s.psm n).snap = some x → x.trig = none → s.get (F.PSM_SNAP_CFG_TRIG_SRC n) = 0 →
      y = { x with
        trig := some (s.time, min (s.get (F.PSM_SNAP_LEN_PRE n)) x.kept)
        skip := s.get (F.PSM_SNAP_DIV n) - 1 } →
      (s.get (F.PSM_SNAP_LEN_PRE n) < s.get (F.PSM_SNAP_LEN_LEN n) →
        (∀ o, exec (.snapTrig o n) s = .next { s.setPsm n { s.psm n with snap := some y } with resp := .ok })
        ∧ (∀ h pl, s.Admits 0x49 h pl → word pl 0 = n →
          ∃ t, exec (.psmSnapTrig h pl) s = .next t ∧ t.Answers h .ok 0 [] ∧ (t.psm n).snap = some y
            ∧ t.regs = (s.homed h).regs ∧ s.SameMemory t))
      ∧ (s.get (F.PSM_SNAP_LEN_LEN n) ≤ s.get (F.PSM_SNAP_LEN_PRE n) →
        (∀ o, exec (.snapTrig o n) s = .next { s.snapWrite n y with resp := .ok })
        ∧ (∀ h pl, s.Admits 0x49 h pl → word pl 0 = n →
          exec (.psmSnapTrig h pl) s = .next (((s.admitted 0x49 h pl).snapWrite n y).done h .ok))))
    ∧ (∀ x e, (s.psm n).snap = some x → s.routine = none → s.entryOf x.hdr = some e → e.hdr = x.hdr → e.suppressed = false →
      (∀ o, ∃ t, exec (.snapAbort o n) s = .next t ∧ t.resp = .ok ∧ t.Answers x.hdr .partialDone 0 [] ∧ (t.psm n).snap = none
        ∧ t.flag (F.PSM_STATUS_SNAP_ARMED n) = false ∧ s.RegsBut t [R.PSM_STATUS n] ∧ t.mram = s.mram
        ∧ ((x.trig = none ∨ x.rearm = true) → t.dram = s.dram)
        ∧ (x.trig ≠ none → x.rearm = false → s.touchesMuzzledPc (s.snapAddr n x.slot) (s.snapSlot n) = false →
            t.dram = (s.putDramNat (s.snapAddr n x.slot + 60) 4 0).dram))
      ∧ (x.rearm = true → s.get (F.PSM_SNAP_CFG_SNAP_COUNT n) ≤ x.slot + 1 →
        ∃ t, exec (.snapRearm n) s = .next t ∧ t.Answers x.hdr .ok 0 [] ∧ (t.psm n).snap = none
          ∧ t.flag (F.PSM_STATUS_SNAP_ARMED n) = false ∧ s.RegsBut t [R.PSM_STATUS n] ∧ s.SameMemory t))
    ∧ (∀ h pl, s.Admits 0x48 h pl → word pl 0 = n →
      ((s.psm n).snap.isSome = true →
        ∃ t, exec (.psmSnapArm h pl) s = .next t ∧ t.Answers h .busy 0 [] ∧ t.regs = (s.homed h).regs ∧ s.SameMemory t)
      ∧ ((s.psm n).snap = none → s.psmConverts n (!s.flag (F.PSM_SNAP_CFG_SNAP_QTY n)) = true → s.get (F.PSM_SNAP_CFG_TRIG_SRC n) ≠ 3 →
        s.get (F.PSM_SNAP_CFG_SNAP_COUNT n) * s.snapSlot n ≤ 64 * s.get (F.PSM_SNAP_SIZE n) →
        64 * s.get (F.PSM_SNAP_BASE n) + 64 * s.get (F.PSM_SNAP_SIZE n) ≤ 2 ^ 35 → s.get (F.PSM_SNAP_CFG_SNAP_COUNT n) ≠ 0 →
        ∃ t, exec (.psmSnapArm h pl) s = .next t ∧ (t.psm n).snap = some { hdr := h } ∧ t.flag (F.PSM_STATUS_SNAP_ARMED n) = true
          ∧ t.get (F.PSM_SNAP_DONE n) = 0 ∧ (s.homed h).RegsBut t [R.PSM_STATUS n, (F.PSM_SNAP_DONE n).addr] ∧ s.SameMemory t))

/-- R226, R229, R231 to R238, R248: waveforms, sine and cues. That a PSM can have several timed starts, each joining those that wait (assumption 169), and that PSM_SET_LEVEL_TIMEOUT answers commands only once the ramp has ended (assumption 127), are the model's choices. -/
def Obligations.PsmWaveformsAndSine : Prop :=
  ∀ (n : PsmId) (s : State), s.packMuzzled (n / 6) = false → s.psmMuzzled n = false →
    (∀ (o : Origin) (v : Word), ∃ t, exec (.psmSineFtwHi o n v) s = .next t ∧ t.resp = .ok
        ∧ (t.psm n).ftw = s.get (F.PSM_SINE_FTW_LO n) + 2 ^ 32 * (v.toNat % 2 ^ 16) ∧ s.RegsBut t [R.PSM_SINE_FTW_HI n] ∧ s.SameMemory t)
    ∧ (∀ h pl, s.Admits 0x40 h pl → word pl 0 = n → s.psmMode n = 0 → s.get (F.PSM_STATUS_SOURCE n) = 0 → (s.psm n).stage = 0 →
      (s.psm n).waiters = [] →
      ∃ t, exec (.psmSetLevel h pl) s = .next t ∧ t.Answers h .ok 0 [] ∧ t.get (F.PSM_LEVEL n) = word pl 1 % 2 ^ 18
        ∧ (s.homed h).RegsBut t [R.PSM_LEVEL n, R.PSM_STATUS n] ∧ s.SameMemory t)
    ∧ (∀ h e, (s.psm n).ramp = .none → s.psmSettled n = false → (s.psm n).waiters = [.cmd h] → s.routine = none → s.entryOf h = some e → e.hdr = h → e.suppressed = false →
      ∃ t, exec (.psmSetLevelTimeout n) s = .next t ∧ t.Answers h .timeout 0 [] ∧ (t.psm n).waiters = []
        ∧ s.RegsBut t [R.PSM_STATUS n] ∧ s.SameMemory t)
    ∧ (∀ h pl, s.Admits 0x41 h pl → word pl 0 = n →
      (∀ st, s.waveArmCheck n (word pl 1) = .error st →
        ∃ t, exec (.psmWaveArm h pl) s = .next t ∧ t.Answers h st 0 [] ∧ t.regs = (s.homed h).regs ∧ s.SameMemory t)
      ∧ (∀ segs, s.waveArmCheck n (word pl 1) = .ok segs →
        ∃ t w, exec (.psmWaveArm h pl) s = .next t ∧ (t.psm n).wave = some w ∧ w.segs = segs ∧ w.arm = some h ∧ w.seg = word pl 1
          ∧ w.started = false ∧ t.regs = (s.homed h).regs ∧ s.SameMemory t))
    ∧ (∀ w h e, (s.psm n).wave = some w → w.arm = some h → 4096 ≤ w.queue.length → s.routine = none → s.entryOf h = some e → e.hdr = h → e.suppressed = false →
      ∃ t, exec (.wavePrefilled n) s = .next t ∧ t.Answers h .ok 0 [] ∧ t.flag (F.PSM_STATUS_WAVE_ARMED n) = true
        ∧ (t.psm n).wave = some { w with arm := none } ∧ s.RegsBut t [R.PSM_STATUS n] ∧ s.SameMemory t)
    ∧ (∀ h pl start, word pl 0 = n → start = word pl 1 + 2 ^ 32 * word pl 2 →
      (s.Admits 0x42 h pl →
        ((s.stopped = true ∨ s.flag (F.PSM_STATUS_WAVE_ARMED n) = false) →
          ∃ t, exec (.psmWaveStart h pl) s = .next t ∧ t.Answers h .badState 0 [] ∧ t.regs = (s.homed h).regs ∧ s.SameMemory t)
        ∧ (s.stopped = false → s.flag (F.PSM_STATUS_WAVE_ARMED n) = true →
          (start ≠ 0 → start < s.time → ∃ t, exec (.psmWaveStart h pl) s = .next t ∧ t.Answers h .timeout 0 [] ∧ t.regs = (s.homed h).regs ∧ s.SameMemory t)
          ∧ ((start = 0 ∨ s.time ≤ start) →
            ∃ t, exec (.psmWaveStart h pl) s = .next t ∧ (t.psm n).timed = (s.psm n).timed ++ [⟨false, h, start⟩] ∧ t.regs = (s.homed h).regs ∧ s.SameMemory t)))
      ∧ (s.Admits 0x45 h pl →
        (s.stopped = true → ∃ t, exec (.psmSineStart h pl) s = .next t ∧ t.Answers h .badState 0 [] ∧ t.regs = (s.homed h).regs ∧ s.SameMemory t)
        ∧ (s.stopped = false → (s.waveBusy n || s.flag (F.PSM_STATUS_SINE_RUN n)) = true →
          ∃ t, exec (.psmSineStart h pl) s = .next t ∧ t.Answers h .busy 0 [] ∧ t.regs = (s.homed h).regs ∧ s.SameMemory t)
        ∧ (s.stopped = false → s.waveBusy n = false → s.flag (F.PSM_STATUS_SINE_RUN n) = false → (s.psmMode n = 1 ∨ s.psmMode n = 2) →
          (start = 0 ∨ s.time ≤ start) →
          ∃ t, exec (.psmSineStart h pl) s = .next t ∧ (t.psm n).timed = (s.psm n).timed ++ [⟨true, h, start⟩] ∧ t.regs = (s.homed h).regs ∧ s.SameMemory t)))
    ∧ (∀ h start, start = 0 ∨ s.time ≤ start →
      ((s.psm n).timed = [⟨false, h, start⟩] → s.flag (F.PSM_STATUS_WAVE_ARMED n) = true → s.waveBusy n = true →
        s.get (F.PSM_SNAP_CFG_TRIG_SRC n) ≠ 4 →
        ∃ t, exec (.psmTimedStart n) s = .next t ∧ t.flag (F.PSM_STATUS_WAVE_RUN n) = true ∧ t.flag (F.PSM_STATUS_WAVE_ARMED n) = false
          ∧ t.get (F.PSM_STATUS_SOURCE n) = 1 ∧ t.time = (if start = 0 then s.time + 1 else start)
          ∧ s.RegsBut t [R.PSM_STATUS n, (F.PSM_WAVE_SEGMENT n).addr] ∧ s.SameMemory t)
      ∧ (∀ e, (s.psm n).timed = [⟨true, h, start⟩] → s.waveBusy n = false → s.flag (F.PSM_STATUS_SINE_RUN n) = false →
        (s.psmMode n = 1 ∨ s.psmMode n = 2) → s.get (F.PSM_SNAP_CFG_TRIG_SRC n) ≠ 4 → s.routine = none → s.entryOf h = some e → e.hdr = h → e.suppressed = false →
        ∃ t, exec (.psmTimedStart n) s = .next t ∧ t.Answers h .ok 0 [] ∧ t.flag (F.PSM_STATUS_SINE_RUN n) = true
          ∧ t.get (F.PSM_STATUS_SOURCE n) = 2 ∧ (t.psm n).phase = s.get (F.PSM_SINE_PH0_LO n) + 2 ^ 32 * s.get (F.PSM_SINE_PH0_HI n)
          ∧ s.RegsBut t [R.PSM_STATUS n] ∧ s.SameMemory t))
    ∧ (s.flag (F.PSM_STATUS_WAVE_RUN n) = false → s.flag (F.PSM_STATUS_SINE_RUN n) = true → (s.psm n).sineStop = false → (s.psm n).waiters = [] →
      ∃ t, exec (.psmSampleTick n) s = .next t ∧ (t.psm n).dac = max (-131072) (min 131071 (s.sineCode n (s.psm n).phase))
        ∧ (t.psm n).phase = ((s.psm n).phase + (s.psm n).ftw) % 2 ^ 48 ∧ s.RegsBut t [R.PSM_STATUS n] ∧ s.SameMemory t)
    ∧ (∀ h pl, word pl 0 = n →
      (s.Admits 0x43 h pl →
        (s.flag (F.PSM_STATUS_WAVE_RUN n) = false →
          ∃ t, exec (.psmWaveStop h pl) s = .next t ∧ t.Answers h .ok 0 [] ∧ t.regs = (s.homed h).regs ∧ s.SameMemory t)
        ∧ (∀ w, s.flag (F.PSM_STATUS_WAVE_RUN n) = true → bit (word pl 1) 0 = false → (s.psm n).wave = some w →
          ∃ t v, exec (.psmWaveStop h pl) s = .next t ∧ (t.psm n).wave = some v ∧ v.stopNow = true ∧ v.stops = w.stops ++ [h]
            ∧ t.regs = (s.homed h).regs ∧ s.SameMemory t))
      ∧ (s.Admits 0x46 h pl →
        (s.flag (F.PSM_STATUS_SINE_RUN n) = false →
          ∃ t, exec (.psmSineStop h pl) s = .next t ∧ t.Answers h .ok 0 [] ∧ t.regs = (s.homed h).regs ∧ s.SameMemory t)
        ∧ (s.flag (F.PSM_STATUS_SINE_RUN n) = true →
          ∃ t, exec (.psmSineStop h pl) s = .next t ∧ (t.psm n).sineStop = true ∧ h ∈ (t.psm n).sineWait ∧ t.regs = (s.homed h).regs ∧ s.SameMemory t))
      ∧ (s.Admits 0x44 h pl →
        ((s.psm n).wave = none →
          ∃ t, exec (.psmWaveJump h pl) s = .next t ∧ t.Answers h .badState 0 [] ∧ t.regs = (s.homed h).regs ∧ s.SameMemory t)
        ∧ (∀ w, (s.psm n).wave = some w → w.arm = none → word pl 1 < s.get (F.PSM_WF_COUNT n) → w.jump = none →
          ∃ t, exec (.psmWaveJump h pl) s = .next t ∧ t.flag (F.PSM_STATUS_JUMP_PENDING n) = true
            ∧ (t.psm n).wave = some { w with jump := some ⟨some h, word pl 1, false, !w.started⟩ }
            ∧ (s.homed h).RegsBut t [R.PSM_STATUS n, (F.PSM_WAVE_JUMP_TARGET n).addr] ∧ s.SameMemory t)))
    ∧ (∀ cue : Fin 32, s.get (F.PSM_CUE_ACTION n cue) = 5 →
      (s.flag (F.PSM_STATUS_SINE_RUN n) = true →
        ∃ t, exec (.psmCue n cue) s = .next t ∧ (t.psm n).sineStop = true ∧ t.regs = s.regs ∧ s.SameMemory t)
      ∧ (s.flag (F.PSM_STATUS_SINE_RUN n) = false →
        ∃ t, exec (.psmCue n cue) s = .next t ∧ t.flag (F.PSM_STATUS_CUE_IGNORED n) = true
          ∧ t.rd (R.PSM_CUE_IGN_CNT n) = min (s.rd (R.PSM_CUE_IGN_CNT n) + 1) (2 ^ 32 - 1)
          ∧ s.RegsBut t [R.PSM_STATUS n, R.PSM_CUE_IGN_CNT n] ∧ s.SameMemory t))

/-- R256, R257, R263: the scalar operations, on 32-bit vectors. SHL, SHR and SAR take the low five bits of B. R256, R257, R259, R263: the vector operations, lane by lane. satI and wrapI limit an exact result. -/
def Obligations.AeArithmetic : Prop :=
  (∀ (c : CoreId) (s : State) (w : Nat) (a b : BitVec 32), s.AeReady c w → (aeClass w = 0 ∨ aeClass w = 1) →
    a.toNat = (s.aec c).getS (bits w 45 4) → b.toNat = (if aeClass w = 1 then bits w 0 32 else (s.aec c).getS (bits w 41 4)) →
    (∀ (i : Instr) (op : Nat) (r : BitVec 32), (i, op, r) ∈
        ([(.scalarAdd c .good, 0x00, a + b), (.scalarSub c .good, 0x01, a - b), (.scalarAnd c .good, 0x02, a &&& b),
          (.scalarOr c .good, 0x03, a ||| b), (.scalarXor c .good, 0x04, a ^^^ b), (.scalarShl c .good, 0x05, a <<< (b.toNat % 32)),
          (.scalarShr c .good, 0x06, a >>> (b.toNat % 32)), (.scalarSar c .good, 0x07, a.sshiftRight (b.toNat % 32)),
          (.scalarMul c .good, 0x08, a * b), (.scalarSeq c .good, 0x09, if a = b then 1 else 0),
          (.scalarSlt c .good, 0x0A, if a.toInt < b.toInt then 1 else 0), (.scalarSltu c .good, 0x0B, if a.toNat < b.toNat then 1 else 0),
          (.scalarLi c .good, 0x0C, b)] : List (Instr × Nat × BitVec 32)) →
      bits w 53 6 = op →
      ∃ t, exec i s = .next t ∧ s.AeIssued t c (s.aePc c + 1) (s.aeWrites c [(1, .s (bits w 49 4) r.toNat)]))
    ∧ (bits w 53 6 = 0x3F → ∃ t, exec (.scalarNop c .good) s = .next t ∧ s.AeIssued t c (s.aePc c + 1) (s.aec c)))
    ∧ (∀ (c : CoreId) (s : State) (w : Nat), s.AeReady c w →
    (aeClass w = 2 → ∀ (i : Instr) (op : Nat) (f : Int → Int → Int → Int), (i, op, f) ∈
        ([(.valuAdd c .good, 0x00, fun x y _ => x + y), (.valuSub c .good, 0x01, fun x y _ => x - y), (.valuNeg c .good, 0x02, fun x _ _ => -x),
          (.valuAbs c .good, 0x03, fun x _ _ => (x.natAbs : Int)), (.valuMin c .good, 0x04, fun x y _ => min x y),
          (.valuMax c .good, 0x05, fun x y _ => max x y),
          (.valuAnd c .good, 0x06, fun x y _ => (BitVec.ofInt 24 x &&& BitVec.ofInt 24 y).toInt),
          (.valuOr c .good, 0x07, fun x y _ => (BitVec.ofInt 24 x ||| BitVec.ofInt 24 y).toInt),
          (.valuXor c .good, 0x08, fun x y _ => (BitVec.ofInt 24 x ^^^ BitVec.ofInt 24 y).toInt),
          (.valuNot c .good, 0x09, fun x _ _ => -x - 1), (.valuSar c .good, 0x0A, fun x _ _ => x / 2 ^ bits w 32 5),
          (.valuShl c .good, 0x0B, fun x _ _ => x * 2 ^ bits w 32 5), (.valuCmpeq c .good, 0x0C, fun x y _ => if x = y then -1 else 0),
          (.valuCmplt c .good, 0x0D, fun x y _ => if x < y then -1 else 0), (.valuSel c .good, 0x0E, fun x y z => if z < 0 then x else y)]
          : List (Instr × Nat × (Int → Int → Int → Int))) →
      bits w 53 6 = op →
      ∀ e : Nat → Int, (∀ j, e j = f (((s.aec c).getV (bits w 45 4)).getD j 0) (((s.aec c).getV (bits w 41 4)).getD j 0)
        (((s.aec c).getV (bits w 37 4)).getD j 0)) →
      ∃ t l m, exec i s = .next t ∧ l.length = 16 ∧ (∀ j, j < 16 → l.getD j 0 = if aeSat w then satI 24 (e j) else wrapI 24 (e j))
        ∧ m = (if l = (List.range 16).map e then 0 else if aeSat w then 4 else 2)
        ∧ s.AeIssued t c (s.aePc c + 1) (s.aeWrites c ((2, .v (bits w 49 4) l) :: (if m = 0 then [] else [(2, .flags m)]))))
    ∧ (aeClass w = 3 → bit w 46 = false → ∀ (i : Instr) (op : Nat) (f : Int → Int → Int → Int), (i, op, f) ∈
        ([(.vmacMul c .good, 0, fun x y _ => x * y), (.mac c .good, 1, fun x y z => z + x * y), (.msu c .good, 2, fun x y z => z - x * y)]
          : List (Instr × Nat × (Int → Int → Int → Int))) →
      bits w 57 2 = op →
      ∀ e : Nat → Int, (∀ j, e j = f (((s.aec c).getV (bits w 51 4)).getD j 0) (((s.aec c).getV (bits w 47 4)).getD j 0)
        (((s.aec c).getAN (bits w 55 2)).getD j 0)) →
      ∃ t l m, exec i s = .next t ∧ l.length = 16 ∧ (∀ j, j < 16 → l.getD j 0 = if aeSat w then satI 48 (e j) else wrapI 56 (e j))
        ∧ m = (if l = (List.range 16).map e then 0 else if aeSat w then 4 else 2)
        ∧ s.AeIssued t c (s.aePc c + 1) { s.aeWrites c ((3, .a (bits w 55 2) l true) :: (if m = 0 then [] else [(3, .flags m)])) with
            aNext := Tab.put lanes0 (s.aec c).aNext (bits w 55 2) l }))

/-- R254, R255, R257, R258, R260, R263: loads, stores and moves. R263 lists no latency for LANEX, BCAST and a MOV to S, P, V or A: that the next instruction sees them is the model's choice (assumption 21). -/
def Obligations.AeMemoryAndMoveInstructions : Prop :=
  (∀ (c : CoreId) (s : State) (w a : Nat) (k : AeCore) (pm : Bool) (next : Option Nat) (q : List (Nat × AeWrite)),
      s.AeReady c w → k = s.aec c → aeClass w = 4 → a = (if bit w 32 then bits w 0 19 else k.getP (bits w 44 3)) →
      pm = (bit w 43 && !bit w 32) → next = postModify (k.getP (bits w 44 3)) (k.getM (bits w 44 3)) →
      q = (if pm then next.toList.map (fun x => (1, AeWrite.p (bits w 44 3) x)) else []) →
      (∀ (i : Instr) (op n al : Nat) (l : List (Nat × AeWrite)), (i, op, n, al, l) ∈
        ([(.vld c .good, 0, 64, 64, [(3, .v (bits w 51 4) (s.aeVec c a))]),
          (.vst c .good, 1, 64, 64, [(2, .mem a ((k.getV (bits w 51 4)).map storeWord))]),
          (.wld c .good, 2, 4, 4, [(3, .lane (bits w 51 4) (bits w 47 4) (signed 24 (s.rd (aeDmem c + a))))]),
          (.wst c .good, 3, 4, 4, [(2, .mem a [storeWord ((k.getV (bits w 51 4)).getD (bits w 47 4) 0)])]),
          (.sld c .good, 4, 4, 4, [(3, .s (bits w 51 4) (s.rd (aeDmem c + a)))]),
          (.sst c .good, 5, 4, 4, [(2, .mem a [k.getS (bits w 51 4)])])] : List (Instr × Nat × Nat × Nat × List (Nat × AeWrite))) →
        bits w 55 4 = op →
        (a % al = 0 → a + n ≤ 0x80000 → (pm = true → next.isSome = true) →
          ∃ t, exec i s = .next t ∧ s.AeIssued t c (s.aePc c + 1) (s.aeWrites c (q ++ l)))
        ∧ ((a % al ≠ 0 ∨ 0x80000 < a + n ∨ pm = true ∧ next = none) → k.call = none →
          ∃ t, exec i s = .next t ∧ t.flag (F.AE_STATUS_ILLEGAL c) = true ∧ t.flag (F.AE_STATUS_RUNNING c) = false
            ∧ s.RegsBut t [R.AE_STATUS c] ∧ s.SameMemory t))
      ∧ (bits w 55 4 = 6 → a % 64 = 0 → (pm = true → next.isSome = true) →
        ∀ x, x = (k.getA (bits w 41 2)).map (fun v => staShift v (bits w 33 6)) →
        (bits w 39 2 = 1 → a + 64 ≤ 0x80000 →
          ∃ t, exec (.sta c .good) s = .next t ∧ s.AeIssued t c (s.aePc c + 1) (s.aeWrites c (q ++
            ((2, .mem a ((x.map (satI 24)).map (unsigned 32))) :: (if x.map (satI 24) = x then [] else [(2, .flags 8)])))))
        ∧ (bits w 39 2 = 0 → a + 128 ≤ 0x80000 →
          ∃ t, exec (.sta c .good) s = .next t ∧ s.AeIssued t c (s.aePc c + 1) (s.aeWrites c (q ++
            ((2, .mem a ((x.map (satI 48)).flatMap (fun y => [unsigned 64 y % 2 ^ 32, unsigned 64 y / 2 ^ 32])))
              :: (if x.map (satI 48) = x then [] else [(2, .flags 8)])))))))
    ∧ (∀ p m : Nat, (bits m 20 2 = 0 → postModify p m = some (unsigned 19 ((p : Int) + signed 19 m)))
      ∧ (bits m 20 2 = 1 → ∀ j, 4 ≤ bits m 27 19 → bits m 27 19 ≤ 2 ^ j → 2 ^ j < 2 * bits m 27 19 →
        p / 2 ^ j * 2 ^ j + bits m 27 19 ≤ 0x80000 →
        postModify p m = some (p / 2 ^ j * 2 ^ j + ((((p % 2 ^ j : Nat) : Int) + signed 19 m) % (bits m 27 19 : Int)).toNat))
      ∧ (bits m 20 2 = 2 → 2 ≤ bits m 22 5 → bits m 22 5 ≤ 19 → ∃ x, postModify p m = some x ∧ x / 2 ^ bits m 22 5 = p / 2 ^ bits m 22 5
        ∧ revBits x (bits m 22 5) = (revBits p (bits m 22 5) + revBits (unsigned 19 (signed 19 m)) (bits m 22 5)) % 2 ^ bits m 22 5)
      ∧ (bits m 20 2 = 3 → postModify p m = none))
    ∧ (∀ (c : CoreId) (s : State) (w : Nat) (k : AeCore) (df sf dn sn v : Nat), s.AeReady c w → k = s.aec c → aeClass w = 5 →
      df = bits w 53 3 → sf = bits w 46 3 → dn = bits w 49 4 → sn = bits w 42 4 →
      v = (if sf = 0 then k.getS sn else if sf = 3 then k.getP sn
        else if sf = 4 then (if bits w 38 4 = 0 then k.getM sn % 2 ^ 32 else k.getM sn / 2 ^ 32) else k.getX sn) →
      (bits w 56 3 = 0 → ∀ l : List (Nat × AeWrite), (df, sf, l) ∈
        ([(0, 0, [(1, .s dn v)]), (0, 3, [(1, .s dn v)]), (0, 4, [(1, .s dn v)]), (0, 5, [(1, .s dn v)]),
          (1, 1, [(1, .v dn (k.getV sn))]),
          (1, 2, (1, .v dn ((k.getA sn).map (wrapI 24)))
            :: (if (k.getA sn).map (wrapI 24) = k.getA sn then [] else [(1, .flags 2)])),
          (2, 1, [(1, .a dn (k.getV sn) false)]), (2, 2, [(1, .a dn (k.getA sn) false)]),
          (3, 0, [(1, .p dn v)]), (3, 3, [(1, .p dn v)]),
          (4, 0, [(3, if bits w 38 4 = 0 then .m dn 0 32 v else .m dn 32 14 v)]), (4, 4, [(3, .m dn 0 46 (k.getM sn))]),
          (5, 0, [(3, .x dn v)]), (5, 5, [(3, .x dn v)])] : List (Nat × Nat × List (Nat × AeWrite))) →
        ∃ t, exec (.mov c .good) s = .next t ∧ s.AeIssued t c (s.aePc c + 1) (s.aeWrites c l))
      ∧ (bits w 56 3 = 0 → (df, sf) ∈ [(0, 0), (0, 3), (0, 4), (0, 5), (1, 1), (1, 2), (2, 1), (2, 2), (3, 0), (3, 3), (4, 0), (4, 4),
          (5, 0), (5, 5)])
      ∧ (bits w 56 3 = 1 → ∃ t, exec (.lanex c .good) s = .next t ∧ s.AeIssued t c (s.aePc c + 1)
          (s.aeWrites c [(1, .s dn (unsigned 32 ((k.getV sn).getD (bits w 38 4) 0)))]))
      ∧ (bits w 56 3 = 2 → ∃ t, exec (.bcast c .good) s = .next t ∧ s.AeIssued t c (s.aePc c + 1)
          (s.aeWrites c [(1, .v dn (List.replicate 16 (signed 24 (k.getS sn))))])))

/-- R257, R265 to R268, R270: control flow, REP and DMA. Fields are those of R257. -/
def Obligations.AeFlowInstructions : Prop :=
  ∀ (c : CoreId) (s : State) (w : Nat) (k : AeCore), s.AeReady c w → k = s.aec c →
    (aeClass w = 6 →
      (bits w 55 4 = 0 → ∃ t, exec (.br c .good) s = .next t ∧ s.AeIssued t c (s.aePc c + 1) { k with branch := some (2, some (bits w 0 13)) })
      ∧ (bits w 55 4 = 1 → ∀ x, x = k.getS (bits w 51 4) →
        (aeCond (bits w 48 3) x = true →
          ∃ t, exec (.brc c .good) s = .next t ∧ s.AeIssued t c (s.aePc c + 1) { k with branch := some (2, some (bits w 0 13)) })
        ∧ (aeCond (bits w 48 3) x = false → ∃ t, exec (.brc c .good) s = .next t ∧ s.AeIssued t c (s.aePc c + 1)
          { k with branch := some (2, some ((s.aePc c + 3) % 8192)) }))
      ∧ (bits w 55 4 = 2 → ∃ t, exec (.call c .good) s = .next t ∧ s.AeIssued t c (s.aePc c + 1)
          { s.aeWrites c [(1, .s 15 ((s.aePc c + 3) % 8192))] with branch := some (2, some (bits w 0 13)) })
      ∧ (bits w 55 4 = 3 → ∃ t, exec (.ret c .good) s = .next t ∧ s.AeIssued t c (s.aePc c + 1)
          { k with branch := some (2, some (k.getS 15 % 2 ^ 13)) })
      ∧ (bits w 55 4 = 4 → ∃ t, exec (.rti c .good) s = .next t ∧ s.AeIssued t c (s.aePc c + 1) { k with branch := some (2, none) })
      ∧ (bits w 55 4 = 5 → ∀ i n, i = (if bit w 47 then 1 else 0) → n = k.getX i →
        (2 ≤ n → ∃ t, exec (.djnz c .good) s = .next t ∧ s.AeIssued t c (s.aePc c + 1)
          { s.aeWrites c [(1, .x i (n - 1))] with branch := some (2, some (bits w 0 13)) })
        ∧ (n = 1 → ∃ t, exec (.djnz c .good) s = .next t ∧ s.AeIssued t c (s.aePc c + 1)
          { s.aeWrites c [(1, .x i 0)] with branch := some (2, some ((s.aePc c + 3) % 8192)) })
        ∧ (n = 0 → ∃ t, exec (.djnz c .good) s = .next t ∧ s.AeIssued t c (s.aePc c + 1)
          { k with branch := some (2, some ((s.aePc c + 3) % 8192)) }))
      ∧ (bits w 55 4 = 6 → ∃ t, exec (.swi c .good) s = .next t ∧ bit (t.get (F.AE_INT_PEND c)) 3 = true ∧ t.aePc c = (s.aePc c + 1) % 2 ^ 13
          ∧ s.RegsBut t [R.AE_PC c, R.AE_CYCLE_LO c, R.AE_CYCLE_HI c, R.AE_INT_PEND c] ∧ s.SameMemory t)
      ∧ (bits w 55 4 = 7 → ∀ ch, ch = (if bit w 46 then 1 else 0) →
        (k.dma ch = none → ∃ t, exec (.waitdma c .good) s = .next t ∧ s.AeIssued t c (s.aePc c + 1) k)
        ∧ ((k.dma ch).isSome = true → ∃ t, exec (.waitdma c .good) s = .next t ∧ t.aec c = { k with clock := k.clock + 1 }
            ∧ t.regs = s.regs ∧ s.SameMemory t))
      ∧ (bits w 55 4 = 8 → ∃ t, exec (.halt c .good) s = .next t ∧ t.flag (F.AE_STATUS_RUNNING c) = false
          ∧ t.aePc c = (s.aePc c + 1) % 2 ^ 13 ∧ t.rd64 (R.AE_CYCLE_LO c) = (s.rd64 (R.AE_CYCLE_LO c) + 1) % 2 ^ 64
          ∧ s.RegsBut t [R.AE_PC c, R.AE_CYCLE_LO c, R.AE_CYCLE_HI c, R.AE_STATUS c] ∧ s.SameMemory t))
    ∧ (aeClass w = 7 → repeatable (s.aeWord c (s.aePc c + 1)) = true → ∀ n, n = (if bit w 58 then k.getX 2 else bits w 0 16) →
      (n = 0 → ∃ t, exec (.rep c .good) s = .next t ∧ t.aePc c = ((s.aePc c + 1) % 2 ^ 13 + 1) % 2 ^ 13 ∧ (t.aec c).rep = none)
      ∧ (n ≠ 0 → ∃ t, exec (.rep c .good) s = .next t ∧ t.aePc c = (s.aePc c + 1) % 2 ^ 13 ∧ (t.aec c).rep = some n
          ∧ t.flag (F.AE_STATUS_IN_REP c) = true
          ∧ s.RegsBut t [R.AE_PC c, R.AE_CYCLE_LO c, R.AE_CYCLE_HI c, R.AE_STATUS c] ∧ s.SameMemory t))
    ∧ (aeClass w = 8 → ∀ ch d, ch = (if bit w 58 then 1 else 0) → k.dma ch = none → d = k.dmaArgs w →
      (d.2.2 = 0 → ∃ t, exec (.dmaStart c .good) s = .next t ∧ bit (t.get (F.AE_INT_PEND c)) (1 + ch) = true ∧ (t.aec c).dma ch = none
          ∧ s.RegsBut t [R.AE_PC c, R.AE_CYCLE_LO c, R.AE_CYCLE_HI c, R.AE_INT_PEND c] ∧ s.SameMemory t)
      ∧ (d.2.2 ≠ 0 → d.1 + 64 * d.2.2 ≤ 2 ^ 35 → d.2.1 + 64 * d.2.2 ≤ 0x80000 →
        ∃ t, exec (.dmaStart c .good) s = .next t ∧ (t.aec c).dma ch = some ⟨d.1, d.2.1, d.2.2, bit w 57⟩
          ∧ s.RegsBut t [R.AE_PC c, R.AE_CYCLE_LO c, R.AE_CYCLE_HI c] ∧ s.SameMemory t))
    ∧ (∀ (u : State) (x : Nat), u.flag (F.AE_STATUS_RUNNING c) = true → u.aeMuzzled c = false → u.aeWord c (u.aePc c) = x → aeLegal x = true →
      aeClass x = 0 → bits x 53 6 = 0x3F → (u.aec c).writes = [] → (u.aec c).rep = none → (u.aec c).haltReq = false → ∀ a,
      (u.aec c).branch = some (1, some a) →
      ∃ t, exec (.scalarNop c .good) u = .next t ∧ u.AeIssued t c a { u.aec c with branch := none })

/-- R253, R266 to R268, R270, R271, R279, R280: control of a core. -/
def Obligations.AeCoreControl : Prop :=
  ∀ (c : CoreId) (s : State),
    (∀ (ch : Bool) (d : AeDma), (s.aec c).dma (if ch then 1 else 0) = some d → d.dram + 64 * d.len ≤ 2 ^ 35 → d.loc + 64 * d.len ≤ 0x80000 →
      s.frozen = false → (∀ i, i < d.len → s.touchesMuzzledPc (d.dram + 64 * i) 64 = false) →
      ∃ t, exec (.aeDmaEnd c ch) s = .next t ∧ (t.aec c).dma (if ch then 1 else 0) = none
        ∧ bit (t.get (F.AE_INT_PEND c)) (if ch then 2 else 1) = true ∧ t.mram = s.mram
        ∧ (d.out = false → t.dram = s.dram ∧ ∀ i, i < 16 * d.len → t.rd (aeDmem c + d.loc + 4 * i) = s.dramWord (d.dram + 4 * i))
        ∧ (d.out = true → s.RegsBut t [R.AE_INT_PEND c] ∧ (∀ i, i < 16 * d.len → t.dramWord (d.dram + 4 * i) = s.rd (aeDmem c + d.loc + 4 * i))
            ∧ ∀ b, b < 2 ^ 35 → (b < d.dram ∨ d.dram + 64 * d.len ≤ b) → t.dramByte b = s.dramByte b))
    ∧ (∀ i, s.flag (F.AE_STATUS_RUNNING c) = true → s.aeMuzzled c = false → (s.aec c).boundary = true → (s.aec c).writes = [] →
      lowestBit (s.rd (R.AE_INT_PEND c) &&& s.rd (R.AE_INT_EN c)) 4 = some i →
      (bit ((s.aec c).getX 3) 0 = true →
        ∃ t, exec (.aeInterrupt c) s = .next t ∧ t.aePc c = (s.get (F.AE_IVEC c) + 4 * i) % 2 ^ 13 ∧ (t.aec c).getX 4 = s.aePc c
          ∧ (t.aec c).getX 5 = (s.aec c).getX 3 ∧ bit ((t.aec c).getX 3) 0 = false ∧ s.RegsBut t [R.AE_PC c] ∧ s.SameMemory t)
      ∧ (bit ((s.aec c).getX 3) 0 = false → exec (.aeInterrupt c) s = .next s))
    ∧ (s.aeMuzzled c = false → ∀ (o : Origin) (v : Word),
      (bit v.toNat 0 = true → ∃ t, exec (.aeDoorbell o c v) s = .next t ∧ t.resp = .ok ∧ bit (t.get (F.AE_INT_PEND c)) 3 = true
        ∧ s.RegsBut t [R.AE_INT_PEND c] ∧ s.SameMemory t)
      ∧ ((s.flag (F.AE_STATUS_RUNNING c) || s.flag (F.AE_STATUS_CALL_BUSY c)) = true → bit v.toNat 1 ≠ s.flag (F.AE_CTL_USER c) →
        exec (.aeRun o c v) s = .next { s with resp := .busy })
      ∧ (s.flag (F.AE_STATUS_RUNNING c) = false → s.flag (F.AE_STATUS_CALL_BUSY c) = false → bit v.toNat 0 = true → bit v.toNat 1 = true →
        (s.stopped = true → exec (.aeRun o c v) s = .next { s with resp := .badState })
        ∧ (s.stopped = false → bit v.toNat 2 = false → bit v.toNat 3 = false → (s.flag (F.AE_CTL_USER c) = true ∨ s.aeQueue = []) →
          ∃ t, exec (.aeRun o c v) s = .next t ∧ t.resp = .ok ∧ t.flag (F.AE_STATUS_RUNNING c) = true ∧ t.aePc c = bits v.toNat 16 13
            ∧ t.rd64 (R.AE_CYCLE_LO c) = 0 ∧ (t.aec c).writes = []
            ∧ s.RegsBut t [R.AE_CTL c, R.AE_STATUS c, R.AE_PC c, R.AE_CYCLE_LO c, R.AE_CYCLE_HI c] ∧ s.SameMemory t))
      ∧ (s.flag (F.AE_STATUS_RUNNING c) = true →
        ((s.aec c).boundary = true → (s.aec c).writes = [] →
          ∃ t, exec (.haltReq o c) s = .next t ∧ t.resp = .ok ∧ t.flag (F.AE_STATUS_RUNNING c) = false
            ∧ s.RegsBut t [R.AE_CTL c, R.AE_STATUS c] ∧ s.SameMemory t)
        ∧ ((s.aec c).boundary = false →
          ∃ t, exec (.haltReq o c) s = .next t ∧ t.resp = .ok ∧ (t.aec c).haltReq = true ∧ t.flag (F.AE_STATUS_RUNNING c) = true
            ∧ s.RegsBut t [R.AE_CTL c] ∧ s.SameMemory t))
      ∧ (∃ t, exec (.aeReset o c) s = .next t ∧ t.resp = .ok ∧ t.aec c = {} ∧ t.aePc c = 0 ∧ t.get (F.AE_INT_PEND c) = 0
          ∧ t.flag (F.AE_STATUS_RUNNING c) = false ∧ s.SameMemory t
          ∧ ∀ x h e, s.routine = none → (s.aec c).call = some x → x.owner = .cmd h → s.entryOf h = some e → e.hdr = h → e.suppressed = false →
            t.Answers h .internal 0 []))

/-- R49, R272 to R274, R276, R277, R280, R281, R326: library calls. A code of 0x80000000 is a missing sample (R274). That a stopped device dispatches no waiting call is the model's choice (assumption 35), and so is that a call's end waits for a routine (assumption 157). -/
def Obligations.AeLibraryCalls : Prop :=
  ∀ s : State,
    (∀ h pl x, s.Admits 0x5C h pl → s.routine = none → x = ⟨.cmd h, (pl.take 16).map (·.toNat), if word pl 16 = 15 then none else some (word pl 16)⟩ →
      (s.stopped = true → ∃ t, exec (.aeCall h pl) s = .next t ∧ t.Answers h .badState 0 [] ∧ t.regs = (s.homed h).regs ∧ s.SameMemory t)
      ∧ (∀ c, s.stopped = false → x.core = some c →
        (s.aeMuzzled c = true → (∃ d, d < 8 ∧ s.aeAble d = true) → ∃ t, exec (.aeCall h pl) s = .next t ∧ t.Answers h .muzzled 0 [] ∧ t.regs = (s.homed h).regs ∧ s.SameMemory t)
        ∧ (s.aeMuzzled c = false → s.aeAble c = false →
          ∃ t, exec (.aeCall h pl) s = .next t ∧ t.Answers h .badState 0 [] ∧ t.regs = (s.homed h).regs ∧ s.SameMemory t)
        ∧ (s.aeAble c = true → 64 ≤ s.aeQueue.length →
          ∃ t, exec (.aeCall h pl) s = .next t ∧ t.Answers h .busy 0 [] ∧ t.regs = (s.homed h).regs ∧ s.SameMemory t)
        ∧ (s.aeAble c = true → s.aeQueue.length < 64 →
          ∃ t, exec (.aeCall h pl) s = .next t ∧ t.aeQueue = s.aeQueue ++ [x] ∧ t.regs = (s.homed h).regs ∧ s.SameMemory t))
      ∧ (∀ c, s.stopped = false → x.core = none → c < 8 → s.aeAble c = true → s.aeQueue.length < 64 →
          ∃ t, exec (.aeCall h pl) s = .next t ∧ t.aeQueue = s.aeQueue ++ [x] ∧ t.regs = (s.homed h).regs ∧ s.SameMemory t))
    ∧ (∀ x c, s.stopped = false → s.aeQueue = [x] → s.aeCoreFor x = some c →
      ∃ t, exec .aeCallDispatch s = .next t ∧ t.aeQueue = [] ∧ (t.aec c).call = some x ∧ t.flag (F.AE_STATUS_CALL_BUSY c) = true
        ∧ (∀ i, i < 16 → t.rd (R.AE_MBOX c i) = x.words.getD i 0 % 2 ^ 32) ∧ bit (t.get (F.AE_INT_PEND c)) 0 = true
        ∧ s.RegsBut t (R.AE_STATUS c :: R.AE_INT_PEND c :: R.AE_IVEC c :: (List.range 16).map (R.AE_MBOX c)) ∧ s.SameMemory t)
    ∧ (s.stopped = true → exec .aeCallDispatch s = .next s)
    ∧ (∀ (c : CoreId) (r : CallObs) (x : AeCall) (h : CmdHdr) (e : InFlight), (s.aec c).call = some x → x.owner = .cmd h →
      s.entryOf h = some e → e.hdr = h → e.suppressed = false → s.routine = none →
      (∀ st, x.check = some st → st ≠ .ok →
        ∃ t l, exec (.aeCallEnd c r) s = .next t ∧ t.Answers h st 0 l ∧ (t.aec c).call = none ∧ t.flag (F.AE_STATUS_CALL_BUSY c) = false
          ∧ t.flag (F.AE_STATUS_RUNNING c) = false ∧ t.rd (R.AE_RESULT c 0) = st.code % 2 ^ 32
          ∧ t.flag (F.AE_STATUS_OVF c) = r.sticky[0] ∧ t.flag (F.AE_STATUS_SAT_OP c) = r.sticky[1]
          ∧ t.flag (F.AE_STATUS_SAT_ST c) = r.sticky[2]
          ∧ t.rd (R.AE_CALL_CNT c) = min (s.rd (R.AE_CALL_CNT c) + 1) (2 ^ 32 - 1)
          ∧ s.RegsBut t (R.AE_STATUS c :: R.AE_CALL_CNT c :: (List.range 16).map (R.AE_RESULT c)) ∧ s.SameMemory t)
      ∧ (∀ l, x.check = none → statusOf r.status.toNat = .ok → x.w 0 % 256 = 1 → bit (x.w 0) 8 = false → l = s.aeIn x (x.w 2) →
        ∃ t, exec (.aeCallEnd c r) s = .next t ∧ (t.aec c).call = none ∧ t.flag (F.AE_STATUS_CALL_BUSY c) = false
          ∧ t.rd (R.AE_RESULT c 0) = 2 ^ 8 * (r.quality.toNat + (if s.aeAtEnd x then 8 else 0)) % 2 ^ 32
          ∧ t.flag (F.AE_STATUS_OVF c) = r.sticky[0] ∧ t.flag (F.AE_STATUS_SAT_OP c) = r.sticky[1]
          ∧ t.flag (F.AE_STATUS_SAT_ST c) = r.sticky[2] ∧ bits ((t.aec c).getX 3) 1 3 = r.sticky.toNat
          ∧ t.rd (R.AE_RESULT c 1) = (l.filter (fun v => v != 0x80000000)).length
          ∧ t.rd (R.AE_RESULT c 2) = l.length - (l.filter (fun v => v != 0x80000000)).length
          ∧ s.RegsBut t (R.AE_STATUS c :: R.AE_CALL_CNT c :: (List.range 16).map (R.AE_RESULT c)) ∧ s.SameMemory t))
    ∧ (∀ (c : CoreId) (r : CallObs), (s.routine ≠ none ∨ (s.aec c).call = none) → exec (.aeCallEnd c r) s = .next s)
    ∧ (∀ (c : CoreId) (x : AeCall) (h : CmdHdr) (e : InFlight), s.routine = none → (s.aec c).call = some x → x.owner = .cmd h →
      s.entryOf h = some e → e.hdr = h → e.suppressed = false →
      ∃ t, exec (.callTimeout c) s = .next t ∧ t.Answers h .timeout 0 [] ∧ t.flag (F.AE_STATUS_CALL_TIMEOUT c) = true ∧ t.aec c = {}
        ∧ t.flag (F.AE_STATUS_RUNNING c) = false ∧ s.SameMemory t)
    ∧ (∀ c : CoreId, (s.aec c).call = none → exec (.callTimeout c) s = .next s)

/-- R283, R284, R318, R382, R386, R388: training. That the count rises as a training starts is the model's choice (assumption 83). widthChoice is step 3 of R283; STATE is 0 DOWN, 1 TRAINING, 2 UP, 3 REST. -/
def Obligations.LinkTraining : Prop :=
  ∀ (s : State) (x : Fin 2) (q : Fin 3), q.val = x.val →
    (s.mayTrain x = true → ∀ i : Instr, (i = .linkTrainStart q ∨ i = .linkTrainRetry q) →
      ∃ t, exec i s = .next t ∧ t.get (F.LNK_STATUS_STATE x) = 1 ∧ t.get (F.LNK_STATUS_RATE x) = 0 ∧ t.get (F.LNK_STATUS_LANES_UP x) = 0
        ∧ t.rd (R.LNK_RETRAIN_CNT x) = min (s.rd (R.LNK_RETRAIN_CNT x) + 1) (2 ^ 32 - 1)
        ∧ (bit (s.get F.CLK_GRP_CTL_MUZZLE) x = false → (∃ j, j < 4 ∧ bit (s.port x).ran j = true) → t.flag ⟨R.CLK_JUMP, 9, 1⟩ = true)
        ∧ s.RegsBut t [R.LNK_STATUS x, R.LNK_RETRAIN_CNT x, R.CLK_JUMP] ∧ s.SameMemory t)
    ∧ (s.mayTrain x = false → exec (.linkTrainStart q) s = .next s ∧ exec (.linkTrainRetry q) s = .next s)
    ∧ (∀ t : TrainInfo, s.portMode x = 1 →
      ((t.ok = false ∨ s.lanesSilent = true) → exec (.linkTrained q t) s = .next (s.set (F.LNK_STATUS_STATE x) 0))
      ∧ (∀ m, m = widthChoice (s.portLanes x &&& t.lanes.toNat &&& 15) → t.ok = true → m ≠ 0 → s.coreUp = true → s.lanesSilent = false → s.get F.GLB_REST_STATE ≠ 2 →
        t.fresh = false → (s.port x).fresh = false → (s.port x).width ≤ laneCount m → s.leashFrozen = false →
        ∃ u, exec (.linkTrained q t) s = .next u ∧ u.get (F.LNK_STATUS_STATE x) = 2 ∧ u.get (F.LNK_STATUS_LANES_UP x) = m
          ∧ u.get (F.LNK_STATUS_RATE x) = min (s.get (F.LNK_CTL_MAX_RATE x)) t.maxRate.toNat
          ∧ u.get (F.LNK_STATUS_PARTNER x) = t.node.toNat ∧ (u.port x).cmdUnits = t.cmdCredit ∧ (u.port x).rspUnits = t.rspCredit
          ∧ s.RegsBut u [R.LNK_STATUS x, R.CLK_GRP_STATUS] ∧ s.SameMemory u))
    ∧ (∀ lane : Fin 4, s.laneUsed x lane = true →
      (∃ t, exec (.laneDown q ⟨lane, false⟩) s = .next t ∧ t.get (F.LNK_STATUS_STATE x) = 1 ∧ t.flag (F.LNK_STATUS_LANE_LOST x) = true
        ∧ s.RegsBut t [R.LNK_STATUS x, R.LNK_RETRAIN_CNT x, R.CLK_JUMP] ∧ s.SameMemory t
        ∧ (s.flag (F.LNK_STATUS_LANE_LOST x) = false → bit (s.get F.CLK_GRP_CTL_MUZZLE) x = true →
          t.faultIn = s.faultIn ++ [⟨0x160 + x, cLINK, 1, lane, s.time % 2 ^ 15⟩]))
      ∧ ∃ t, exec (.laneDown q ⟨lane, true⟩) s = .next t ∧ t.get (F.LNK_STATUS_STATE x) = 1
        ∧ t.flag (F.LNK_STATUS_LANE_LOST x) = s.flag (F.LNK_STATUS_LANE_LOST x)
        ∧ (bit (s.get F.CLK_GRP_CTL_MUZZLE) x = true → t.faultIn = s.faultIn)
        ∧ s.RegsBut t [R.LNK_STATUS x, R.LNK_RETRAIN_CNT x, R.CLK_JUMP] ∧ s.SameMemory t)
    ∧ (∀ (lane : Fin 4) (d : Bool), s.laneUsed x lane = false → exec (.laneDown q ⟨lane, d⟩) s = .next s)
    ∧ (s.portMode x ≠ 0 → s.events.length < 256 →
      ∃ t, exec (.linkDown q) s = .next t ∧ t.get (F.LNK_STATUS_STATE x) = 0 ∧ t.get (F.LNK_STATUS_LANES_UP x) = 0
        ∧ t.flag (F.LNK_STATUS_DOWN_SEEN x) = true ∧ t.events.length = s.events.length + 1
        ∧ s.RegsBut t [R.LNK_STATUS x, R.CLK_GRP_STATUS] ∧ s.SameMemory t)
    ∧ (∀ o : Origin, s.portOpen x = true →
      ∃ t, exec (.retrain o x) s = .next t ∧ t.resp = .ok ∧ t.get (F.LNK_STATUS_STATE x) = 1
        ∧ t.get (F.LNK_CTL_MAX_RATE x) = s.get (F.LNK_CTL_MAX_RATE x) ∧ t.get (F.LNK_CTL_LANE_EN x) = s.get (F.LNK_CTL_LANE_EN x)
        ∧ s.RegsBut t [R.LNK_CTL x, R.LNK_STATUS x, R.LNK_RETRAIN_CNT x, R.CLK_JUMP] ∧ s.SameMemory t)

/-- R286, R287, R289, R298, R312, R391: the packets of a port. That a NAK resends the whole replay buffer, and that what is owed is returned by ACK_SEND_TIMER, are the model's choices (assumption 83). -/
def Obligations.LinkPackets : Prop :=
  ∀ (s : State) (x : Fin 2) (q : Fin 3) (r : PortState), q.val = x.val → r = s.port x → s.portOpen x = true → s.coreUp = true →
    (∀ p : Packet, (s.grpHeld x = true → exec (.packetReceive q p) s = .next s)
      ∧ (s.grpHeld x = false → s.grpFrozen x = true → ∃ t, exec (.packetReceive q p) s = .next t ∧ (t.port x).gap = true
        ∧ t.rd (R.LNK_CRC_CNT x) = min (s.rd (R.LNK_CRC_CNT x) + 1) (2 ^ 32 - 1) ∧ s.RegsBut t [R.LNK_CRC_CNT x] ∧ s.SameMemory t
        ∧ t.inflight = s.inflight))
    ∧ (∀ p : Packet, s.grpShut x = false →
      (pktSound p = false → ∃ t, exec (.packetReceive q p) s = .next t ∧ (t.port x).gap = true ∧ (t.port x).rxSeq = r.rxSeq
        ∧ t.rd (R.LNK_CRC_CNT x) = min (s.rd (R.LNK_CRC_CNT x) + 1) (2 ^ 32 - 1) ∧ s.RegsBut t [R.LNK_CRC_CNT x] ∧ s.SameMemory t
        ∧ t.inflight = s.inflight)
      ∧ (pktSound p = true → p.seq.toNat ≠ r.rxSeq → exec (.packetReceive q p) s = .next (s.setPort x { r with gap := true }))
      ∧ (pktSound p = true → p.seq.toNat = r.rxSeq → bits p.header.toNat 20 3 = 0 → bits p.header.toNat 56 8 ≠ 0x8F → s.devId ≠ 31 →
        bits p.header.toNat 51 5 = s.devId → s.inflightCount < 16384 → bits p.header.toNat 0 18 = 0 → bits p.header.toNat 18 2 ≠ 3 →
        s.tagUsed (bits p.header.toNat 49 2) (bits p.header.toNat 35 14) = false → formOf (bits p.header.toNat 56 8) p.payload = none →
        ∃ t e, exec (.packetReceive q p) s = .next t ∧ t.inflight = s.inflight ++ [e] ∧ e.opcode = bits p.header.toNat 56 8
          ∧ e.hdr.session.toNat = bits p.header.toNat 49 2 ∧ e.hdr.tag.toNat = bits p.header.toNat 35 14 ∧ e.payload = p.payload
          ∧ e.phase = .admitted ∧ (t.port x).rxSeq = (r.rxSeq + 1) % 4096 ∧ (t.port x).gap = false
          ∧ s.RegsBut t [R.LNK_SESSION] ∧ s.SameMemory t))
    ∧ (∀ (seq : BitVec 12) (rsp : Bool) (ws : List Nat), s.grpShut x = false → r.replay = [⟨seq.toNat, rsp, ws, .plain⟩] →
      exec (.ack q seq) s = .next (s.setPort x { r with
        replay := []
        resends := 0 }))
    ∧ (∀ i : Instr, (i = .nak q 0 ∨ i = .replayTimeout q) → s.grpShut x = false → s.lanesSilent = false →
      (r.replay = [] → exec i s = .next s)
      ∧ (r.replay ≠ [] → r.resends < 7 →
        ∃ t, exec i s = .next t ∧ t.port x = { r with resends := r.resends + 1 }
          ∧ t.rd (R.LNK_REPLAY_CNT x) = min (s.rd (R.LNK_REPLAY_CNT x) + r.replay.length) (2 ^ 32 - 1)
          ∧ s.RegsBut t [R.LNK_REPLAY_CNT x] ∧ s.SameMemory t))
    ∧ (∀ c d, s.grpShut x = false → exec (.credit q c d) s = .next (s.setPort x { r with
        cmdUnits := r.cmdUnits + c % 2 ^ 16
        rspUnits := r.rspUnits + d % 2 ^ 16 }))
    ∧ exec (.ackSendTimer q) s = .next (s.setPort x { r with
        owed := 0
        cmdBack := 0
        rspBack := 0 })
    ∧ (s.grpShut x = true → ∀ c d m, exec (.credit q c d) s = .next s ∧ exec (.ack q m) s = .next s ∧ exec (.nak q m) s = .next s)
    ∧ (∀ y : Reply, s.lanesSilent = false → s.replies = [y] → y.opcode = 0x8F → s.orOther (portOf y.port) = x → r.emergency = none → s.mirrorQ = [] → s.dmaJobs = [] →
      s.portRoom x true (s.replyWords y).length = true →
      ∃ t, exec (.egressSend q) s = .next t ∧ t.replies = [] ∧ (t.port x).txSeq = (r.txSeq + 1) % 4096
        ∧ (t.port x).replay = r.replay ++ [⟨r.txSeq, true, s.replyWords y, .plain⟩] ∧ t.regs = s.regs ∧ s.SameMemory t)

/-- R297, R300 to R302, R316: sessions, ordering and the diagnostic commands. -/
def Obligations.SessionCommands : Prop :=
  ∀ s : State,
    (∀ h pl, s.Admits 0xF0 h pl → ∃ t, exec (.nop h pl) s = .next t ∧ t.Answers h .ok 0 [] ∧ t.regs = (s.homed h).regs ∧ s.SameMemory t)
    ∧ (∀ h pl, s.Admits 0xF2 h pl → ∃ t, exec (.echo h pl) s = .next t ∧ t.Answers h .ok 0 pl ∧ t.regs = (s.homed h).regs ∧ s.SameMemory t)
    ∧ (∀ h pl, s.Admits 0xF1 h pl → s.inflight = [] →
      ∃ t, exec (.barrier h pl) s = .next t ∧ t.Answers h .ok 0 [] ∧ t.regs = (s.homed h).regs ∧ s.SameMemory t)
    ∧ (∀ h pl e, s.Admits 0xF1 h pl → s.inflight = [e] → e.hdr.session = h.session → e.hdr.urgent = false → e.phase = .running → e.opcode ≠ 0xF1 →
      ∃ t, exec (.barrier h pl) s = .next t ∧ t.replies = s.replies ∧ t.regs = (s.homed h).regs ∧ s.SameMemory t)
    ∧ (∀ h pl, s.Admits 0x80 h pl → (∀ e ∈ s.inflight, e.hdr.session.toNat ≠ word pl 0) → (∀ r ∈ s.replies, r.session ≠ word pl 0) →
      (∀ r, r < 64 → s.holdsLock r (word pl 0) = false) → s.events.length < 256 →
      ∃ t, exec (.sessionReset h pl) s = .next t ∧ t.Answers h .ok 0 [] ∧ Tab.get none t.latches (word pl 0) = none
        ∧ t.events.length = s.events.length + 1 ∧ t.regs = (s.homed h).regs ∧ s.SameMemory t)
    ∧ (∀ e l, s.coreUp = true → s.inflight = e :: l → e.phase = .admitted →
      (s.calHeld e.opcode e.payload = false → (e.hdr.urgent = true ∨ s.urgentWaits = false) → s.commandWaits e.hdr.urgent = false →
        ∃ t, exec (.commandStart e.hdr.session e.hdr.tag) s = .next t ∧ t.regs = s.regs ∧ s.SameMemory t
          ∧ t.inflight.head? = some { e with
            phase := .released
            opened := s.memOpen e })
      ∧ (s.calHeld e.opcode e.payload = true → exec (.commandStart e.hdr.session e.hdr.tag) s = .next s))
    ∧ (∀ (x : Fin 2) (h : CmdHdr) (dev : BitVec 5) (q : BitVec 12), s.portOpen x = true → s.grpHeld x = false → s.devState ≠ 3 →
      (∃ t, exec (.emergencySafe x h dev ⟨q, false⟩) s = .next t ∧ (t.port x).gap = true ∧ t.replies = s.replies
        ∧ t.get (F.LNK_CRC_CNT x) = min (s.get (F.LNK_CRC_CNT x) + 1) (2 ^ (F.LNK_CRC_CNT x).w - 1)
        ∧ s.RegsBut t [R.LNK_CRC_CNT x] ∧ s.SameMemory t)
      ∧ (s.grpFrozen x = false → q.toNat ≠ (s.port x).rxSeq →
        ∃ t, exec (.emergencySafe x h dev ⟨q, true⟩) s = .next t ∧ (t.port x).gap = true ∧ t.replies = s.replies
          ∧ t.regs = s.regs ∧ s.SameMemory t)
      ∧ (s.grpFrozen x = false → q.toNat = (s.port x).rxSeq → dev.toNat ≠ s.devId → dev.toNat ≠ 31 → (h.ordered && h.urgent) = false →
        ∃ t w, exec (.emergencySafe x h dev ⟨q, true⟩) s = .next t ∧ (t.port (1 - x)).emergency = some w ∧ t.replies = s.replies
          ∧ (t.port x).rxSeq = (q.toNat + 1) % 4096 ∧ t.regs = s.regs ∧ s.SameMemory t))

/-- R320, R322, R326, R327, R329: Shepherd's microcode. What a nanoword does beyond its WCLASS is not documented, and the conditions of BRANCH are a free value of the model (assumption 5); that completions of ended work wait for END is R326's, which completions is the model's choice (assumption 157). -/
def Obligations.Microcode : Prop :=
  ∀ s : State,
    (s.routine = none → exec (.microNano false) s = .next s ∧ exec (.microBranch false) s = .next s ∧ exec (.microCommit false) s = .next s
      ∧ exec (.microEnd false) s = .next s ∧ exec .routineRestart s = .next s ∧ exec .routineOverrun s = .next s)
    ∧ (∀ x w, s.routine = some x → s.coreUp = true → w = s.microWord x.pc →
      (bits w 30 2 = 0 → ¬ (s.wclass (w % 2 ^ 12) = 2 ∧ x.committed = false) →
        exec (.microNano false) s = .next { s with routine := some { x with pc := (x.pc + 1) % 65536 } })
      ∧ (bits w 30 2 = 0 → s.wclass (w % 2 ^ 12) = 2 → x.committed = false → s.ends = [] →
        ∃ t, exec (.microNano false) s = .next t ∧ (s.parked = [] → t.routine = none) ∧ t.flag F.SHP_STATUS_ORDER_FAULT = true
          ∧ (s.parked = [] → s.siteWork = [] → s.RegsBut t [R.SHP_STATUS] ∧ s.SameMemory t)
          ∧ ∀ e, s.entryOf x.hdr = some e → e.hdr = x.hdr → e.suppressed = false → t.Answers x.hdr .internal 0 [])
      ∧ (bits w 30 2 = 1 → ∃ t a, exec (.microBranch false) s = .next t ∧ t.routine = some { x with pc := a }
          ∧ (a = w % 2 ^ 16 ∨ a = (x.pc + 1) % 65536) ∧ t.regs = s.regs ∧ s.SameMemory t)
      ∧ (bits w 30 2 = 2 → exec (.microCommit false) s = .next { s with routine := some { x with
          committed := true
          pc := (x.pc + 1) % 65536 } })
      ∧ (bits w 30 2 = 3 → s.siteWork = [] → ∀ (v : UnitEnd) (e : InFlight), s.parked = [] → s.ends = [v] → s.entryOf v.hdr = some e →
          e.hdr = v.hdr → e.suppressed = false →
          ∃ t, exec (.microEnd false) s = .next t ∧ t.routine = none ∧ t.ends = [] ∧ t.Answers v.hdr v.status v.detail v.payload
            ∧ t.regs = s.regs ∧ s.SameMemory t)
      ∧ (∀ h pl e, x.committed = false → h.session = x.hdr.session → h.tag = x.hdr.tag → s.entryOf h = some e →
          exec (.nop h pl) s = .next s)
      ∧ (bits w 30 2 = 3 → s.siteWork = [] → s.ends = [] →
          (s.parked = [] → exec (.microEnd false) s = .next { s with routine := none })
          ∧ (∀ y l, s.parked = y :: l → ∃ t, exec (.microEnd false) s = .next t ∧ t.parked = l
            ∧ t.routine = some { y with
              pc := y.entry
              abandoned := y.abandoned + 1
              shielded := decide (7 ≤ y.abandoned + 1) }
            ∧ s.RegsBut t [F.SHP_RESTART_CNT.addr, F.SHP_PROTECT_CNT.addr] ∧ s.SameMemory t))
      ∧ (x.committed = false → x.shielded = false →
        ∃ t, exec .routineRestart s = .next t ∧ t.routine = some { x with
            pc := x.entry
            abandoned := x.abandoned + 1
            shielded := decide (7 ≤ x.abandoned + 1) }
          ∧ t.get F.SHP_RESTART_CNT = min (s.get F.SHP_RESTART_CNT + 1) (2 ^ F.SHP_RESTART_CNT.w - 1)
          ∧ s.RegsBut t [F.SHP_RESTART_CNT.addr, F.SHP_PROTECT_CNT.addr] ∧ s.SameMemory t)
      ∧ (x.committed = true → exec .routineRestart s = .next s
          ∧ ∃ t, exec .routineOverrun s = .next t ∧ t.flag F.SHP_STATUS_OVERRUN = true
            ∧ (s.parked = [] → s.siteWork = [] → s.ends = [] → t.routine = none ∧ s.RegsBut t [R.SHP_STATUS] ∧ s.SameMemory t)))

/-- R345: the lock commands. LEASH_MS 0 is LEASH_DEFAULT. R344, R346, R347: leashes. How a leash runs out in whole milliseconds (assumption 132), and that an expiry waits for a routine that may not be abandoned (assumption 157), are the model's choices. Resource 0 is SWITCH_MATRIX, whose safe condition is the GPIO safe pattern. -/
def Obligations.LocksAndLeashes : Prop :=
  (∀ (h : CmdHdr) (pl : List Word) (s : State) (r len : Nat), r = word pl 0 → r < 64 → s.leashOut r = false →
    len = (if word pl 1 = 0 then s.get F.SHP_LEASH_DEFAULT else word pl 1) →
    (s.Admits 0x70 h pl →
      ((s.flag (F.SHP_LOCK_HELD r) = false ∨ s.get (F.SHP_LOCK_OWNER r) = h.session.toNat) →
        ∃ t, exec (.lockAcquire h pl) s = .next t ∧ t.flag (F.SHP_LOCK_HELD r) = true ∧ t.get (F.SHP_LOCK_OWNER r) = h.session.toNat
          ∧ t.flag (F.SHP_LOCK_DIRTY r) = false ∧ t.get (F.SHP_LOCK_REMAIN_MS r) = len % 2 ^ (F.SHP_LOCK_REMAIN_MS r).w
          ∧ (s.homed h).RegsBut t [R.SHP_LOCK r] ∧ s.SameMemory t
          ∧ (s.flag (F.SHP_LOCK_HELD r) = false → t.Answers h .ok (s.get (F.SHP_LOCK_DIRTY r)) [])
          ∧ (s.flag (F.SHP_LOCK_HELD r) = true → t.Answers h .ok 0 []))
      ∧ (s.flag (F.SHP_LOCK_HELD r) = true → s.get (F.SHP_LOCK_OWNER r) ≠ h.session.toNat →
        ∃ t, exec (.lockAcquire h pl) s = .next t ∧ t.Answers h .locked 0 [] ∧ t.regs = (s.homed h).regs ∧ s.SameMemory t))
    ∧ (s.Admits 0x71 h pl →
      (s.flag (F.SHP_LOCK_HELD r) = true → s.get (F.SHP_LOCK_OWNER r) = h.session.toNat →
        ∃ t, exec (.lockRenew h pl) s = .next t ∧ t.Answers h .ok 0 []
          ∧ t.get (F.SHP_LOCK_REMAIN_MS r) = Tab.get 0 s.leashLen r % 2 ^ (F.SHP_LOCK_REMAIN_MS r).w
          ∧ (s.homed h).RegsBut t [R.SHP_LOCK r] ∧ s.SameMemory t)
      ∧ ((s.flag (F.SHP_LOCK_HELD r) = false ∨ s.get (F.SHP_LOCK_OWNER r) ≠ h.session.toNat) →
        ∃ t, exec (.lockRenew h pl) s = .next t ∧ t.Answers h .leaseLost 0 [] ∧ t.regs = (s.homed h).regs ∧ s.SameMemory t))
    ∧ (s.Admits 0x72 h pl →
      (s.flag (F.SHP_LOCK_HELD r) = false → ∃ t, exec (.lockRelease h pl) s = .next t ∧ t.Answers h .ok 0 [] ∧ t.regs = (s.homed h).regs ∧ s.SameMemory t)
      ∧ (s.flag (F.SHP_LOCK_HELD r) = true → s.get (F.SHP_LOCK_OWNER r) = h.session.toNat →
        ∃ t, exec (.lockRelease h pl) s = .next t ∧ t.Answers h .ok 0 [] ∧ t.flag (F.SHP_LOCK_HELD r) = false
          ∧ t.flag (F.SHP_LOCK_DIRTY r) = false ∧ (s.homed h).RegsBut t [R.SHP_LOCK r] ∧ s.SameMemory t)
      ∧ (s.flag (F.SHP_LOCK_HELD r) = true → s.get (F.SHP_LOCK_OWNER r) ≠ h.session.toNat →
        ∃ t, exec (.lockRelease h pl) s = .next t ∧ t.Answers h .locked 0 [] ∧ t.regs = (s.homed h).regs ∧ s.SameMemory t))
    ∧ (s.Admits 0x73 h pl →
      ∃ t, exec (.lockStatus h pl) s = .next t ∧ t.Answers h .ok 0 [BitVec.ofNat 32 (s.rd (R.SHP_LOCK r))] ∧ t.regs = (s.homed h).regs ∧ s.SameMemory t))
    ∧ (∀ s : State,
    (s.coreUp = true → s.get F.GLB_REST_STATE < 2 → s.leashFrozen = false →
      ∃ t, exec .leashTick s = .next t ∧ s.RegsBut t ((List.range 64).map R.SHP_LOCK) ∧ s.SameMemory t
        ∧ ∀ r, r < 64 →
          (s.flag (F.SHP_LOCK_HELD r) = false → t.rd (R.SHP_LOCK r) = s.rd (R.SHP_LOCK r))
          ∧ (s.flag (F.SHP_LOCK_HELD r) = true → t.flag (F.SHP_LOCK_HELD r) = true
            ∧ (s.flag (F.SHP_LOCK_BY_RUN r) = false → t.get (F.SHP_LOCK_REMAIN_MS r) = s.get (F.SHP_LOCK_REMAIN_MS r) - 1)
            ∧ (s.flag (F.SHP_LOCK_BY_RUN r) = true →
              t.get (F.SHP_LOCK_REMAIN_MS r) = Tab.get 0 s.leashLen r % 2 ^ (F.SHP_LOCK_REMAIN_MS r).w)))
    ∧ ((s.coreUp = false ∨ 2 ≤ s.get F.GLB_REST_STATE ∨ s.leashFrozen = true) → exec .leashTick s = .next s)
    ∧ (∀ r : Fin 64, s.coreUp = true → s.routine = none → s.leashOut r = true → 33 < r.val →
      ∃ t, exec (.leashExpiry r) s = .next t ∧ t.flag (F.SHP_LOCK_HELD r) = false ∧ t.flag (F.SHP_LOCK_DIRTY r) = true
        ∧ t.faultIn = s.faultIn ++ [⟨0x180, cPROTOCOL, 0x05, r, s.time % 2 ^ 15⟩] ∧ s.RegsBut t [R.SHP_LOCK r] ∧ s.SameMemory t)
    ∧ (∀ (r : Fin 64) (n : Nat), s.coreUp = true → s.routine = none → s.leashOut r = true → 0 < r.val → r.val < 33 → n = 3 * (r - 1) →
      (s.psmRange n ≠ 5 →
        ∃ t, exec (.leashExpiry r) s = .next t ∧ t.flag (F.SHP_LOCK_HELD r) = false ∧ t.flag (F.SHP_LOCK_DIRTY r) = true
          ∧ t.faultIn = s.faultIn ++ [⟨0x180, cPROTOCOL, 0x05, r, s.time % 2 ^ 15⟩] ∧ s.RegsBut t [R.SHP_LOCK r] ∧ s.SameMemory t)
      ∧ (s.psmRange n = 5 → (s.psm n).stage = 1 → (s.psm n).wave = none → (s.psm n).timed = [] → (s.psm n).snap = none →
        (s.psm n).meas = none → (s.psm n).waiters = [] → s.flag (F.PSM_STATUS_SINE_RUN n) = false →
        ∃ t, exec (.leashExpiry r) s = .next t ∧ t.flag (F.SHP_LOCK_HELD r) = false ∧ t.flag (F.SHP_LOCK_DIRTY r) = true
          ∧ (t.psm n).ramp = .safe ∧ t.flag (F.PSM_STATUS_SAFE_RAMP n) = true
          ∧ t.faultIn = s.faultIn ++ [⟨0x180, cPROTOCOL, 0x05, r, s.time % 2 ^ 15⟩]
          ∧ s.RegsBut t [R.SHP_LOCK r, R.PSM_STATUS n] ∧ s.SameMemory t))
    ∧ (s.coreUp = true → s.routine = none → s.leashOut 33 = true →
      ∃ t, exec (.leashExpiry 33) s = .next t ∧ t.flag (F.SHP_LOCK_HELD 33) = false ∧ t.flag (F.SHP_LOCK_DIRTY 33) = true
        ∧ t.whMaster = false ∧ t.faultIn = s.faultIn ++ [⟨0x180, cPROTOCOL, 0x05, 33, s.time % 2 ^ 15⟩]
        ∧ s.RegsBut t [R.SHP_LOCK 33, R.WH_CTL] ∧ s.SameMemory t)
    ∧ (∀ (r : Fin 64) (x : Routine), s.coreUp = true → s.routine = some x → x.committed = false → x.shielded = false → s.leashOut r = true →
      33 < r.val →
      ∃ t, exec (.leashExpiry r) s = .next t ∧ t.flag (F.SHP_LOCK_HELD r) = false ∧ t.flag (F.SHP_LOCK_DIRTY r) = true
        ∧ t.routine = some { x with
            pc := x.entry
            abandoned := x.abandoned + 1
            shielded := decide (7 ≤ x.abandoned + 1) }
        ∧ s.RegsBut t [R.SHP_LOCK r, F.SHP_RESTART_CNT.addr, F.SHP_PROTECT_CNT.addr] ∧ s.SameMemory t)
    ∧ (s.coreUp = true → s.routine = none → s.leashOut 0 = true → (∀ k, k < 16 → s.run k = none) →
      ∃ t, exec (.leashExpiry 0) s = .next t ∧ t.flag (F.SHP_LOCK_HELD 0) = false ∧ t.flag (F.SHP_LOCK_DIRTY 0) = true
        ∧ t.get F.GPIO_DIR = s.get F.GPIO_SAFE_SAFE_DIR ∧ t.get F.GPIO_OUT = s.get F.GPIO_SAFE_SAFE_OUT
        ∧ t.faultIn = s.faultIn ++ [⟨0x180, cPROTOCOL, 0x05, 0, s.time % 2 ^ 15⟩]
        ∧ s.RegsBut t [R.SHP_LOCK 0, R.GPIO_DIR, R.GPIO_OUT] ∧ s.SameMemory t)
    ∧ (∀ r : Fin 64, (s.leashOut r = false ∨ s.routineHolds = true) → exec (.leashExpiry r) s = .next s))

/-- R395, R402, R403, R404: recording a message. R399, R402, R407, R408, R412, R415, R423, R453: the reactions to a message. That a TRIPPED device keeps the registers of the always-alive window is the model's choice (assumption 188). R287, R316, R399: EMERGENCY_SAFE. That each packet is acted on and sends its message again (assumption 97), and that a malformed one is only answered (assumption 70), are the model's choices. -/
def Obligations.FaultRecordingAndReactions : Prop :=
  ((∀ (s : State) (m : FaultMsg), s.faultIn = [m] → (s.judgeMsg m).taken < 2 → m.cls < 8 → s.devState ≠ 2 → s.histCount < 100 →
      s.events.length < 256 →
      ∃ t, exec .faultRecord s = .next t ∧ t.faultIn = []
        ∧ t.rd64 (0x11000 + 16 * s.get F.FLT_LOG_IDX) = m.word % 2 ^ 64
        ∧ t.rd (0x11000 + 16 * s.get F.FLT_LOG_IDX + 8) =
          (s.judgeMsg m).taken + (s.judgeMsg m).prog * 2 ^ 3 + (if (s.judgeMsg m).esc then 2 ^ 6 else 0)
        ∧ t.rd (0x11000 + 16 * s.get F.FLT_LOG_IDX + 12) = s.time % 2 ^ 32
        ∧ t.get F.FLT_LOG_IDX = (s.get F.FLT_LOG_IDX + 1) % 64
        ∧ t.get F.FLT_MSG_CNT = min (s.get F.FLT_MSG_CNT + 1) (2 ^ 32 - 1)
        ∧ Tab.get 0 t.fltPend m.cls = min (Tab.get 0 s.fltPend m.cls + 1) 65535 ∧ t.flag ⟨R.FLT_PENDING, m.cls, 1⟩ = true
        ∧ (∀ c, c ≠ m.cls → Tab.get 0 t.fltPend c = Tab.get 0 s.fltPend c)
        ∧ t.flag F.FLT_STATUS_FIRST_VALID = true ∧ t.devState = s.devState
        ∧ (s.flag F.FLT_STATUS_FIRST_VALID = false → t.rd64 R.FLT_FIRST_LO = m.word % 2 ^ 64 ∧ t.rd64 R.FLT_FIRST_TIME_LO = s.time % 2 ^ 64)
        ∧ (s.flag F.FLT_STATUS_FIRST_VALID = true → t.rd64 R.FLT_FIRST_LO = s.rd64 R.FLT_FIRST_LO
          ∧ t.rd64 R.FLT_FIRST_TIME_LO = s.rd64 R.FLT_FIRST_TIME_LO)
        ∧ s.RegsBut t ([R.FLT_FIRST_LO, R.FLT_FIRST_HI, R.FLT_FIRST_INFO, R.FLT_FIRST_TIME_LO, R.FLT_FIRST_TIME_HI, R.FLT_STATUS,
            R.FLT_LOG_IDX, R.FLT_MSG_CNT, R.FLT_PENDING] ++ (List.range 4).map (fun i => 0x11000 + 16 * s.get F.FLT_LOG_IDX + 4 * i))
        ∧ t.dram = s.dram
        ∧ ((s.judgeMsg m).taken = 0 → ¬ (m.src = 8 ∧ m.kind = 2) → t.events = s.events ∧ t.mram = s.mram)
        ∧ ((s.judgeMsg m).taken = 1 → ∃ w, t.events = s.events ++ [w]))
    ∧ (∀ s : State, s.faultIn = [] → s.devState ≠ 2 → exec .faultRecord s = .next s))
    ∧ ((∀ (s : State) (m : FaultMsg), m ∈ (sentNow s.faultIn).1 → 3 ≤ (s.judgeMsg m).taken →
      ∃ t, exec .faultRecord s = .next t ∧ (s.judgeMsg m).taken - 2 ≤ t.devState ∧ m ∈ t.condCauses)
    ∧ (∀ s : State, s.devState = 2 → s.flag F.HK_STATUS_TRIP = false →
      ∃ t, exec .safeCoreStop s = .next t ∧ t.coreUp = false ∧ t.flag (F.DRM_STATUS_SELF_REFRESH 0) = true
        ∧ t.flag (F.DRM_STATUS_SELF_REFRESH 1) = true ∧ t.devState = 2
        ∧ (∀ x, x < 2 → 2 ≤ s.get (F.LNK_STATUS_STATE x) → t.get (F.LNK_STATUS_STATE x) = 1 ∧ t.get (F.LNK_STATUS_RATE x) = 0
          ∧ t.get (F.LNK_STATUS_LANES_UP x) = 0)
        ∧ (∀ x, x < 2 → s.get (F.LNK_STATUS_STATE x) < 2 → t.rd (R.LNK_STATUS x) = s.rd (R.LNK_STATUS x))
        ∧ t.flag F.TWN_STATUS_LINK_UP = false
        ∧ s.RegsBut t [R.LNK_STATUS 0, R.LNK_STATUS 1, (F.LNK_RETRAIN_CNT 0).addr, (F.LNK_RETRAIN_CNT 1).addr, R.TWN_STATUS, R.FLT_STATUS,
          R.DRM_STATUS 0, R.DRM_STATUS 1] ∧ s.SameMemory t
        ∧ (∀ k : KeepInfo, s.vaux = true → s.pwrgood = true → s.flag F.CLK_STATUS_REF_OK = true →
          k = ⟨false, true, decide (s.get F.GLB_REST_STATE = 2), BitVec.ofNat 5 s.devId⟩ → t.keepOut = some k ∧ t.keepPorts = [(0, some k), (1, some k)]))
    ∧ (∀ s : State, s.devState = 2 → s.flag F.HK_STATUS_TRIP = true →
      ∃ t, exec .safeCoreStop s = .next t ∧ t.coreUp = false ∧ t.devState = 3 ∧ t.thermTripN = !s.vaux
        ∧ t.mram = s.mram ∧ t.dram = State.reset.dram ∧ t.inflight = [] ∧ t.muzzles = [] ∧ t.runs = [] ∧ t.faultIn = s.faultIn
        ∧ t.condCauses = s.condCauses
        ∧ (∀ a, 0x11000 ≤ a → a < 0x11400 → t.rd a = s.rd a) ∧ (∀ a, 0x10000 ≤ a → a < 0x11000 → a ≠ R.FLT_STATUS → t.rd a = s.rd a)
        ∧ ∀ a, 0x20000 ≤ a → a < 0x22000 → t.rd a = s.rd a)
    ∧ (∀ s : State, s.devState ≠ 2 → exec .safeCoreStop s = .next s)
    ∧ (∀ s : State, s.histDrops = 0 → exec .historyLost s = .next { s with histCount := 0 })
    ∧ (∀ s : State, s.histDrops ≠ 0 → ∃ t, exec .historyLost s = .next t ∧ t.histCount = 0 ∧ t.histDrops = 0
      ∧ t.flag F.FLT_STATUS_HIST_DROP = true ∧ s.RegsBut t [R.FLT_STATUS] ∧ s.SameMemory t
      ∧ (s.flag F.FLT_STATUS_HIST_DROP = false →
        t.faultIn = s.faultIn ++ [⟨0x000, cMEMORY, 0x01, s.histDrops % 2 ^ 32, s.time % 2 ^ 15⟩])
      ∧ (s.flag F.FLT_STATUS_HIST_DROP = true → t.faultIn = s.faultIn)))
    ∧ (∀ (x : Fin 2) (h : CmdHdr) (dev : BitVec 5) (s : State),
    (s.portOpen x = true → s.grpHeld x = false → s.grpFrozen x = false → dev.toNat = s.devId → s.devId ≠ 31 → s.devState ≠ 3 →
      (h.ordered && h.urgent) = false → ∀ q : BitVec 12, q.toNat = (s.port x).rxSeq →
      ∃ t l, exec (.emergencySafe x h dev ⟨q, true⟩) s = .next t ∧ 2 ≤ t.devState ∧ t.flag F.LNK_RX_STATUS_EMERGENCY = true
        ∧ (∃ m ∈ t.condCauses, m.src = 0x162 ∧ m.kind = 4 ∧ m.addr = dev.toNat)
        ∧ t.replies = l ++ [⟨0x8F, h.session.toNat, h.tag.toNat, x == 1, false, false, .ok, 0, []⟩])
    ∧ (s.portOpen x = true → s.grpHeld x = false → s.grpFrozen x = false → dev.toNat = s.devId → s.devId ≠ 31 → s.devState ≠ 3 →
      (h.ordered && h.urgent) = true → ∀ q : BitVec 12, q.toNat = (s.port x).rxSeq →
      exec (.emergencySafe x h dev ⟨q, true⟩) s = .next { (s.seqTaken x).homed { h with port := x == 1 } with replies := s.replies ++
        [⟨0x8F, h.session.toNat, h.tag.toNat, x == 1, false, false, .badOpcode, 0, []⟩] })
    ∧ ((s.portOpen x = false ∨ s.grpHeld x = true ∨ s.devState = 3) → ∀ b, exec (.emergencySafe x h dev b) s = .next s))

/-- R409, R410: CLEAR_STOP. The premises are the three checks of R409, in the model's own words; a failed check is another statement. -/
def Obligations.ClearStopMakesNormal : Prop :=
  ∀ (o : Origin) (s : State),
    (s.devState = 1 → s.condCauses.any (fun m => Tab.get 0 s.fltPend m.cls != 0) = false →
      (oncePerUnit s.condCauses).any (fun m => (faultBits m).any (fun b => s.flag b)) = false → (s.lasting (oncePerUnit s.condCauses)).1 = [] →
      ∃ t, exec (.clearStop o) s = .next t ∧ t.devState = 0 ∧ t.resp = .ok
        ∧ t.muzzles = s.muzzles ∧ t.marks = s.marks ∧ t.runs = s.runs ∧ t.psms = s.psms
        ∧ t.flag F.FLT_STATUS_FIRST_VALID = s.flag F.FLT_STATUS_FIRST_VALID
        ∧ s.RegsBut t [R.FLT_STATUS] ∧ s.SameMemory t)
    ∧ (s.devState = 0 → exec (.clearStop o) s = .next { s with resp := .ok })

/-- R403, R404, R409, R410: what a clear checks and changes. That a failed check raises each condition again once per SOURCE, KIND and ADDRESS is the model's choice (assumption 128). R398, R406, R413, R414: muzzling and unmuzzling by software. -/
def Obligations.FaultClearsAndMuzzles : Prop :=
  ((∀ (o : Origin) (s : State), s.devState = 1 →
      (s.condCauses.any (fun m => Tab.get 0 s.fltPend m.cls != 0) = true → exec (.clearStop o) s = .next { s with resp := .badState })
      ∧ (s.condCauses.any (fun m => Tab.get 0 s.fltPend m.cls != 0) = false →
        (oncePerUnit s.condCauses).any (fun m => (faultBits m).any (fun b => s.flag b)) = true →
        exec (.clearStop o) s = .next { s with
          resp := .badState
          faultIn := s.faultIn ++ ((oncePerUnit s.condCauses).filter (fun m => (faultBits m).any (fun b => s.flag b))).map
            (fun m => ⟨m.src, m.cls, m.kind, m.addr % 2 ^ 32, s.time % 2 ^ 15⟩) })
      ∧ (s.condCauses.any (fun m => Tab.get 0 s.fltPend m.cls != 0) = false →
        (oncePerUnit s.condCauses).any (fun m => (faultBits m).any (fun b => s.flag b)) = false → (s.lasting (oncePerUnit s.condCauses)).1 ≠ [] →
        ∃ t, exec (.clearStop o) s = .next t ∧ t.resp = .badState ∧ t.regs = s.regs ∧ s.SameMemory t
          ∧ t.faultIn = s.faultIn ++ (s.lasting (oncePerUnit s.condCauses)).1.map
            (fun m => ⟨m.src, m.cls, m.kind, m.addr % 2 ^ 32, s.time % 2 ^ 15⟩)))
    ∧ (∀ (o : Origin) (s : State), ∃ t, exec (.clearFirst o) s = .next t ∧ t.resp = .ok
        ∧ t.flag F.FLT_STATUS_FIRST_VALID = false ∧ t.devState = s.devState
        ∧ t.flag F.FLT_STATUS_HIST_DROP = s.flag F.FLT_STATUS_HIST_DROP ∧ s.RegsBut t [R.FLT_STATUS] ∧ s.SameMemory t)
    ∧ (∀ (o : Origin) (v : Word) (s : State), ∃ t, exec (.fltPendingAck o v) s = .next t ∧ t.resp = .ok
        ∧ (∀ c, c < 8 → bit v.toNat c = true → Tab.get 0 t.fltPend c = 0 ∧ t.flag ⟨R.FLT_PENDING, c, 1⟩ = false)
        ∧ (∀ c, c < 8 → bit v.toNat c = false → Tab.get 0 t.fltPend c = Tab.get 0 s.fltPend c
          ∧ t.flag ⟨R.FLT_PENDING, c, 1⟩ = s.flag ⟨R.FLT_PENDING, c, 1⟩)
        ∧ t.muzzles = s.muzzles ∧ s.RegsBut t [R.FLT_PENDING] ∧ s.SameMemory t))
    ∧ (∀ (o : Origin) (v : Word) (s : State),
    (∀ st, unitOf (bits v.toNat 0 4) (bits v.toNat 8 12) = .error st →
      exec (.fltMuzzle o v) s = .next { s with resp := st } ∧ exec (.fltUnmuzzle o v) s = .next { s with resp := st })
    ∧ (8 < bits v.toNat 0 4 → unitOf (bits v.toNat 0 4) (bits v.toNat 8 12) = .error .badOpcode)
    ∧ (∀ u, unitOf (bits v.toNat 0 4) (bits v.toNat 8 12) = .ok u → unitCode u = (bits v.toNat 0 4, bits v.toNat 8 12)
      ∧ (∃ t l m, exec (.fltMuzzle o v) s = .next t ∧ t.resp = .ok ∧ t.faultIn = l ++ [m] ∧ m.src = 0x000 ∧ m.cls = cPROTOCOL
        ∧ m.kind = 0x02 ∧ m.addr = (unitAddr u) ∧ (s.muzzledSelf u = true → (∀ n, u ≠ .channel n) → s.routine = none → t.muzzledSelf u = true
          ∧ t.regs = s.regs ∧ s.SameMemory t))
      ∧ (∀ i, u = .linkLane i → s.calTasks = [] → (∀ p, p < 16 → s.pass p = none) →
        ∃ t, exec (.fltMuzzle o v) s = .next t ∧ t.muzzledSelf u = true ∧ s.SameMemory t)
      ∧ ((∃ m ∈ s.muzzles, m.unit ≠ u ∧ unitWithin u m.unit = true) → exec (.fltUnmuzzle o v) s = .next { s with resp := .badState })
      ∧ ((∀ m ∈ s.muzzles, unitWithin u m.unit = false) → exec (.fltUnmuzzle o v) s = .next { s with resp := .ok })
      ∧ (∀ m, s.muzzles.find? (fun m => m.unit == u) = some m → (∀ m ∈ s.muzzles, m.unit = u ∨ unitWithin u m.unit = false) →
        (m.selfTest = true → exec (.fltUnmuzzle o v) s = .next { s with resp := .badState })
        ∧ (m.selfTest = false → m.causes.any (fun c => Tab.get 0 s.fltPend c.cls != 0) = true →
          exec (.fltUnmuzzle o v) s = .next { s with resp := .badState })
        ∧ (m.selfTest = false → m.causes.any (fun c => Tab.get 0 s.fltPend c.cls != 0) = false →
          (oncePerUnit m.causes).any (fun c => (faultBits c).any (fun b => s.flag b)) = false → (s.lasting (oncePerUnit m.causes)).1 = [] →
          ∃ t, exec (.fltUnmuzzle o v) s = .next t ∧ t.resp = .ok ∧ t.muzzledSelf u = false
            ∧ ((∀ n, (s.psm n).goHeld = 0) → s.SameMemory t)))))

/-- R380, R393: the clock monitors. R388, R391, R392, R394: the host's procedure for a reset group. How many entries a group without its clock discards is a free value. -/
def Obligations.ClocksAndResetGroups : Prop :=
  (∀ s : State,
    (∃ t, exec .refLost s = .next t ∧ t.flag F.CLK_STATUS_REF_OK = false ∧ t.flag F.CLK_STATUS_REF_LOST_SEEN = true
      ∧ s.RegsBut t [R.CLK_STATUS] ∧ s.SameMemory t
      ∧ t.faultIn = s.faultIn ++ (if s.flag F.CLK_STATUS_REF_LOST_SEEN then [] else [⟨0x003, cTIMING, 0x01, 0, s.time % 2 ^ 15⟩]))
    ∧ (∃ t, exec .refclkReturn s = .next t ∧ t.flag F.CLK_STATUS_REF_OK = true
      ∧ t.flag F.CLK_STATUS_REF_LOST_SEEN = s.flag F.CLK_STATUS_REF_LOST_SEEN ∧ s.RegsBut t [R.CLK_STATUS] ∧ s.SameMemory t
      ∧ t.faultIn = s.faultIn)
    ∧ (∃ t, exec .rootUnlock s = .next t ∧ t.flag F.CLK_STATUS_ROOT_LOCK = false ∧ t.flag F.CLK_STATUS_UNLOCK_SEEN = true ∧ t.coreUp = false
      ∧ s.RegsBut t [R.CLK_STATUS, R.LNK_STATUS 0, R.LNK_STATUS 1, (F.LNK_RETRAIN_CNT 0).addr, (F.LNK_RETRAIN_CNT 1).addr, R.TWN_STATUS]
      ∧ s.SameMemory t
      ∧ t.faultIn = s.faultIn ++ (if s.flag F.CLK_STATUS_UNLOCK_SEEN then [] else [⟨0x003, cTIMING, 0x02, 0, s.time % 2 ^ 15⟩]))
    ∧ (∀ d : Fin 2, ∃ t, exec (.drmUnlock d) s = .next t ∧ t.flag F.CLK_STATUS_UNLOCK_SEEN = true
      ∧ (∀ q, q / 16 = d.val → t.pcClosed q = true) ∧ (∀ q, q / 16 = 1 - d.val → t.pcClosed q = s.pcClosed q)
      ∧ s.RegsBut t [R.CLK_STATUS] ∧ s.SameMemory t
      ∧ t.faultIn = s.faultIn ++ (if s.flag F.CLK_STATUS_UNLOCK_SEEN then [] else [⟨0x003, cTIMING, 0x03, d, s.time % 2 ^ 15⟩]))
    ∧ (∀ d : Fin 2, ∃ t, exec (.drmPllRelock d) s = .next t ∧ (∀ q, q / 16 = d.val → t.pcClosed q = s.pcMuzzled q)
      ∧ t.flag F.CLK_STATUS_UNLOCK_SEEN = s.flag F.CLK_STATUS_UNLOCK_SEEN ∧ s.RegsBut t [R.CLK_STATUS] ∧ s.SameMemory t)
    ∧ (∀ khz, 45000 ≤ khz → khz ≤ 55000 → ∃ t, exec (.hkoRange khz) s = .next t ∧ t.flag F.CLK_STATUS_HKO_OK = true
      ∧ t.flag F.CLK_STATUS_HKO_RANGE = s.flag F.CLK_STATUS_HKO_RANGE ∧ s.RegsBut t [R.CLK_STATUS] ∧ s.SameMemory t ∧ t.faultIn = s.faultIn)
    ∧ (∀ khz, (khz < 45000 ∨ 55000 < khz) → ∃ t, exec (.hkoRange khz) s = .next t ∧ t.flag F.CLK_STATUS_HKO_OK = false
      ∧ t.flag F.CLK_STATUS_HKO_RANGE = true ∧ s.RegsBut t [R.CLK_STATUS] ∧ s.SameMemory t
      ∧ t.faultIn = s.faultIn ++
        (if s.flag F.CLK_STATUS_HKO_RANGE then [] else [⟨0x003, cTIMING, 0x04, khz % 2 ^ 32, s.time % 2 ^ 15⟩])))
    ∧ (∀ (o : Origin) (v : BitVec 6) (s : State),
    (∃ t, exec (.groupFreeze o v) s = .next t ∧ t.resp = .ok ∧ t.get F.CLK_GRP_CTL_FREEZE = v.toNat
      ∧ t.get F.CLK_GRP_CTL_MUZZLE = s.get F.CLK_GRP_CTL_MUZZLE
      ∧ t.get F.CLK_GRP_STATUS_DRAINED = (v.toNat ||| (63 - s.get F.CLK_GRP_STATUS_CLOCK_PRESENT))
      ∧ t.get F.CLK_GRP_STATUS_IN_RESET = s.get F.CLK_GRP_STATUS_IN_RESET
      ∧ t.get F.CLK_GRP_STATUS_CLOCK_PRESENT = s.get F.CLK_GRP_STATUS_CLOCK_PRESENT
      ∧ s.RegsBut t [R.CLK_GRP_CTL, R.CLK_GRP_STATUS] ∧ s.SameMemory t)
    ∧ (∃ t, exec (.groupMuzzle o v) s = .next t ∧ t.resp = .ok ∧ t.get F.CLK_GRP_CTL_MUZZLE = v.toNat
      ∧ t.get F.CLK_GRP_CTL_FREEZE = s.get F.CLK_GRP_CTL_FREEZE
      ∧ t.get F.CLK_GRP_STATUS_IN_RESET = s.get F.CLK_GRP_STATUS_IN_RESET
      ∧ s.RegsBut t [R.CLK_GRP_CTL, R.CLK_GRP_STATUS] ∧ s.SameMemory t)
    ∧ ((∃ g, g < 6 ∧ bit v.toNat g = true ∧
        (bit (s.get F.CLK_GRP_CTL_MUZZLE) g = false ∨ bit (s.get F.CLK_GRP_STATUS_DRAINED) g = false)) →
      exec (.groupReset o v) s = .next { s with resp := .badState })
    ∧ ((∀ g, g < 6 → bit v.toNat g = true →
        bit (s.get F.CLK_GRP_CTL_MUZZLE) g = true ∧ bit (s.get F.CLK_GRP_STATUS_DRAINED) g = true) →
      ∃ t, exec (.groupReset o v) s = .next t ∧ t.resp = .ok
        ∧ (∀ g, g < 6 → bit (t.get F.CLK_GRP_STATUS_IN_RESET) g = (bit v.toNat g || bit (s.get F.CLK_GRP_STATUS_IN_RESET) g))
        ∧ (bit v.toNat 5 = true → t.tapIr = none) ∧ (bit v.toNat 5 = false → t.tapIr = s.tapIr)
        ∧ t.get F.CLK_GRP_CTL_FREEZE = s.get F.CLK_GRP_CTL_FREEZE ∧ t.get F.CLK_GRP_CTL_MUZZLE = s.get F.CLK_GRP_CTL_MUZZLE
        ∧ ((∀ g, g < 6 → bit v.toNat g = true → bit (s.get F.CLK_GRP_STATUS_CLOCK_PRESENT) g = true) →
          t.rd R.CLK_FLUSH_CNT = s.rd R.CLK_FLUSH_CNT)
        ∧ s.RegsBut t [R.CLK_GRP_CTL, R.CLK_GRP_STATUS, R.CLK_FLUSH_CNT] ∧ s.SameMemory t)
    ∧ (∀ g : Fin 6, ∃ t, exec (.groupResetEnd g) s = .next t
        ∧ (∀ k, k < 6 → bit (t.get F.CLK_GRP_STATUS_IN_RESET) k = (decide (k ≠ g.val) && bit (s.get F.CLK_GRP_STATUS_IN_RESET) k))
        ∧ t.get F.CLK_GRP_STATUS_DRAINED = s.get F.CLK_GRP_STATUS_DRAINED
        ∧ s.RegsBut t [R.CLK_GRP_STATUS] ∧ s.SameMemory t))

/-- R359 to R365, R380: arbitration, FREEZE and the grant watchdog. R311, R363, R367, R368: swaps of the class table and of the egress tables. That the class table is swapped at the phase after the write is R368's wrap; that a write at a later time finds it swapped is the model's choice (assumption 163). -/
def Obligations.ArbitrationAndTables : Prop :=
  ((∀ (q : Fin 32) (sent : Nat) (reqs : List MpaReq) (s : State), s.coreUp = true → s.classSwap = none → s.flag F.MPA_CTL = false →
      s.pcClosed q = false → s.waiterOf q = none →
      (reqs.map (fun x => x.requester)).Nodup → (∃ x ∈ reqs, s.mpaValid q x = true) →
      (s.holderOf q = none ∨ sent = 0) →
      ∃ w t, w ∈ reqs ∧ s.mpaValid q w = true ∧ (∀ x ∈ reqs, s.mpaValid q x = true → s.mpaClass w.requester ≤ s.mpaClass x.requester)
        ∧ exec (.mpaArbitration q ⟨sent, reqs⟩) s = .next t
        ∧ (s.holderOf q = none → t.holderOf q = some { req := w } ∧ t.waiterOf q = none ∧ t.flag (F.MPA_REQ_HOLDING w.requester) = true)
        ∧ (s.holderOf q ≠ none → t.holderOf q = s.holderOf q ∧ t.waiterOf q = some w)
        ∧ t.backOff w.requester q = 0
        ∧ (∀ x ∈ reqs, s.mpaValid q x = true → x.requester ≠ w.requester →
          t.backOff x.requester q = min (s.backOff x.requester q + 1) 10)
        ∧ s.RegsBut t (R.MPA_STATUS :: (List.range 44).map R.MPA_REQ) ∧ s.SameMemory t)
    ∧ (∀ (q : Fin 32) (h : MpaHold) (s : State), s.coreUp = true → s.classSwap = none → s.holderOf q = some h → 16 ≤ h.req.requester.val →
      bit h.req.ue h.moved = false →
      ∃ t, exec (.mpaArbitration q ⟨1, []⟩) s = .next t ∧ t.mpaK = s.mpaK
        ∧ (h.moved + 1 < h.req.bursts → t.holderOf q = some { h with moved := h.moved + 1 } ∧ t.waiterOf q = s.waiterOf q)
        ∧ (h.req.bursts ≤ h.moved + 1 → t.holderOf q = (s.waiterOf q).map (fun x => { req := x }) ∧ t.waiterOf q = none)
        ∧ s.RegsBut t (R.MPA_STATUS :: (List.range 44).map R.MPA_REQ) ∧ s.SameMemory t)
    ∧ (∀ (q : Fin 32) (reqs : List MpaReq) (s : State), s.coreUp = true → s.classSwap = none →
      s.pcClosed q = false → (s.flag F.MPA_CTL = true ∨ s.waiterOf q ≠ none) → exec (.mpaArbitration q ⟨0, reqs⟩) s = .next s)
    ∧ (∀ (q : Fin 32) (s : State), s.holderOf q = none → exec (.grantHeld q) s = .next s)
    ∧ (∀ (q : Fin 32) (s : State) (h : MpaHold), s.holderOf q = some h →
      (∃ t, exec (.grantHeld q) s = .next t ∧ t.flag F.MPA_STATUS_WDOG_BITE = true)
      ∧ (40 ≤ h.req.requester.val → ∃ t, exec (.grantHeld q) s = .next t ∧ t.holderOf q = (s.waiterOf q).map (fun x => { req := x })
        ∧ bit t.fences h.req.requester = true ∧ t.flag (F.MPA_REQ_FENCED h.req.requester) = true
        ∧ s.RegsBut t (R.MPA_STATUS :: (List.range 44).map R.MPA_REQ) ∧ s.SameMemory t
        ∧ (s.flag F.MPA_STATUS_WDOG_BITE = false →
          t.faultIn = s.faultIn ++ [⟨0x182, cWATCHDOG, 1, h.req.requester.val + q.val * 2 ^ 6, s.time % 2 ^ 15⟩])))
    ∧ (∀ (o : Origin) (v : Word) (s : State), ∃ t, exec (.mpaFreeze o v) s = .next t ∧ t.resp = .ok ∧ t.flag F.MPA_CTL = bit v.toNat 0
        ∧ (t.flag F.MPA_STATUS_DRAINED = true ↔ (bit v.toNat 0 = true ∧ ∀ i, i < 32 → s.holderOf i = none ∧ s.waiterOf i = none))
        ∧ s.RegsBut t [R.MPA_CTL, R.MPA_STATUS] ∧ s.SameMemory t))
    ∧ ((∀ (o : Origin) (s : State),
      (s.classSwap = some s.time → exec (.mpaClassSwap o) s = .next { s with resp := .busy })
      ∧ (s.classSwap = none → exec (.mpaClassSwap o) s = .next { s with
          classSwap := some s.time
          resp := .ok }))
    ∧ (∀ (q : Fin 32) (s : State), s.coreUp = true → s.classSwap ≠ none → s.holderOf q = none → s.waiterOf q = none →
      ∃ t, exec (.mpaArbitration q ⟨0, []⟩) s = .next t ∧ t.classSwap = none
        ∧ (∀ w, w < 3 → t.rd (R.MPA_CLASS_ACT w) = s.rd (R.MPA_CLASS_SH w))
        ∧ s.RegsBut t ((List.range 3).map R.MPA_CLASS_ACT) ∧ s.SameMemory t)
    ∧ (∀ (o : Origin) (x : Fin 2) (s : State), s.classSwap = none →
      (s.flag (slotPend x) = true → exec (.egressSlotSwap o x) s = .next { s with resp := .busy })
      ∧ (s.flag (slotPend x) = false → s.egressBad x = true → exec (.egressSlotSwap o x) s = .next { s with resp := .badOpcode })
      ∧ (s.flag (slotPend x) = false → s.egressBad x = false →
        ((s.get (F.LNK_STATUS_STATE x) = 2 ∨ s.get (F.LNK_STATUS_STATE x) = 3) →
          ∃ t, exec (.egressSlotSwap o x) s = .next t ∧ t.resp = .ok ∧ t.flag (slotPend x) = true
            ∧ s.RegsBut t [R.LNK_RX_STATUS] ∧ s.SameMemory t)
        ∧ (s.get (F.LNK_STATUS_STATE x) ≠ 2 → s.get (F.LNK_STATUS_STATE x) ≠ 3 →
          ∃ t, exec (.egressSlotSwap o x) s = .next t ∧ t.resp = .ok ∧ t.flag (slotPend x) = false
            ∧ (∀ i, i < 16 → t.rd (slotAct x + 4 * i) = s.rd (slotSh x + 4 * i))
            ∧ s.RegsBut t (R.LNK_RX_STATUS :: (List.range 16).map (fun i => slotAct x + 4 * i)) ∧ s.SameMemory t))))

/-- R356 to R358, R364, R365, R373, R378: copies between DRAM and MRAM, and the patrol scrub. That a copy whose range a muzzle or a fence has closed ends with ERR, how far it came being a free value, is the model's choice (assumption 73). -/
def Obligations.MramCopies : Prop :=
  (∀ (o : Origin) (v : Word) (s : State) (d m n : Nat), (d, m, n) = s.mrmRange →
      (s.flag F.MRM_STATUS_BUSY = true → exec (.mramCopyGo o v) s = .next { s with resp := .busy })
      ∧ (s.flag F.MRM_STATUS_BUSY = false →
        (bit v.toNat 0 = false → ∃ t, exec (.mramCopyGo o v) s = .next t ∧ t.resp = .ok ∧ t.flag F.MRM_CTL_DIR = bit v.toNat 1
          ∧ s.RegsBut t [R.MRM_CTL] ∧ s.SameMemory t)
        ∧ (bit v.toNat 0 = true → n = 0 → ∃ t, exec (.mramCopyGo o v) s = .next t ∧ t.resp = .ok
          ∧ t.flag F.MRM_STATUS_DONE = true ∧ t.flag F.MRM_STATUS_BUSY = false
          ∧ s.RegsBut t [R.MRM_CTL, R.MRM_STATUS] ∧ s.SameMemory t)
        ∧ (bit v.toNat 0 = true → 0 < n →
          ((2 ^ 35 < d + n ∨ 2 ^ 26 < m + n ∨ (bit v.toNat 1 = true ∧ mramWritable m n = false)) →
            exec (.mramCopyGo o v) s = .next { s with resp := .badAddress })
          ∧ (d + n ≤ 2 ^ 35 → m + n ≤ 2 ^ 26 → (bit v.toNat 1 = true → mramWritable m n = true) →
            (s.touchesMuzzledPc d n = true → exec (.mramCopyGo o v) s = .next { s with resp := .muzzled })
            ∧ (s.touchesMuzzledPc d n = false → bit s.fences 40 = true → exec (.mramCopyGo o v) s = .next { s with resp := .internal })
            ∧ (s.touchesMuzzledPc d n = false → bit s.fences 40 = false →
              ∃ t, exec (.mramCopyGo o v) s = .next t ∧ t.resp = .ok ∧ t.flag F.MRM_STATUS_BUSY = true
                ∧ t.flag F.MRM_CTL_DIR = bit v.toNat 1 ∧ t.mrmRange = s.mrmRange
                ∧ s.RegsBut t [R.MRM_CTL, R.MRM_STATUS] ∧ t.dram = s.dram
                ∧ (bit v.toNat 1 = false → t.mram = s.mram)
                ∧ (bit v.toNat 1 = true → t.mram = Memory.putNat s.mram (heldWord m n) 4 0))))))
    ∧ (∀ (s : State) (d m n : Nat), (d, m, n) = s.mrmRange → s.flag F.MRM_STATUS_BUSY = true → s.coreUp = true →
      s.touchesMuzzledPc d n = false → bit s.fences 40 = false → s.frozen = false → d + n ≤ 2 ^ 35 → m + n ≤ 2 ^ 26 →
      ∃ t, exec (.mramCopyDone []) s = .next t ∧ t.flag F.MRM_STATUS_BUSY = false ∧ t.flag F.MRM_STATUS_DONE = true
        ∧ t.flag F.MRM_STATUS_ERR = s.flag F.MRM_STATUS_ERR ∧ s.RegsBut t [R.MRM_STATUS]
        ∧ (s.flag F.MRM_CTL_DIR = true → t.dram = s.dram ∧ (∀ i, i < n → Memory.get t.mram (m + i) = s.dramByte (d + i))
          ∧ ∀ a, (a < m ∨ m + n ≤ a) → Memory.get t.mram a = Memory.get s.mram a)
        ∧ (s.flag F.MRM_CTL_DIR = false → t.mram = s.mram ∧ (∀ i, i < n → t.dramByte (d + i) = Memory.get s.mram (m + i))
          ∧ ∀ a, a < 2 ^ 35 → (a < d ∨ d + n ≤ a) → t.dramByte a = s.dramByte a))
    ∧ (∀ (s : State) (b : List Nat) (d m n : Nat), (d, m, n) = s.mrmRange → s.flag F.MRM_STATUS_BUSY = true → s.coreUp = true →
      (s.touchesMuzzledPc d n = true ∨ bit s.fences 40 = true) →
      ∃ t, exec (.mramCopyDone b) s = .next t ∧ t.flag F.MRM_STATUS_BUSY = false ∧ t.flag F.MRM_STATUS_DONE = true
        ∧ t.flag F.MRM_STATUS_ERR = true ∧ s.RegsBut t [R.MRM_STATUS]
        ∧ (s.flag F.MRM_CTL_DIR = true → t.dram = s.dram) ∧ (s.flag F.MRM_CTL_DIR = false → t.mram = s.mram))
    ∧ (∀ (s : State) (b : List Nat) (d m n : Nat), (d, m, n) = s.mrmRange → s.touchesMuzzledPc d n = false → bit s.fences 40 = false →
      s.frozen = true → exec (.mramCopyDone b) s = .next s)
    ∧ (∀ (s : State) (b : List Nat), (s.flag F.MRM_STATUS_BUSY = false ∨ s.coreUp = false) → exec (.mramCopyDone b) s = .next s)
    ∧ (∀ (s : State) (a : Nat), s.coreUp = true →
      exec (.patrolScrub true a false) s = .next (s.bump F.MRM_CE_CNT)
      ∧ exec (.patrolScrub false a false) s = .next (s.bump (F.DRM_CE_CNT (s.dramPc (64 * (a % 2 ^ 29)) / 16)))
      ∧ (∃ t, exec (.patrolScrub true a true) s = .next t ∧ t.flag F.MRM_STATUS_UE_SEEN = true ∧ s.RegsBut t [R.MRM_STATUS] ∧ s.SameMemory t)
      ∧ (∃ t c, exec (.patrolScrub false a true) s = .next t ∧ c = s.dramPc (64 * (a % 2 ^ 29)) / 16
        ∧ t.flag (F.DRM_STATUS_UE_SEEN c) = true ∧ t.get (F.DRM_UE_CNT c) = min (s.get (F.DRM_UE_CNT c) + 1) (2 ^ (F.DRM_UE_CNT c).w - 1)
        ∧ s.RegsBut t [R.DRM_STATUS c, (F.DRM_UE_CNT c).addr] ∧ s.SameMemory t))

/-- R34, R340 to R343: FLOW_LOAD, FLOW_UNLOAD, FLOW_START. -/
def Obligations.FlowCommands : Prop :=
  (∀ (h : CmdHdr) (pl : List Word) (s : State), s.Admits 0x20 h pl →
      (s.flag (F.SHP_FLOW_LOADED (word pl 0)) = true →
        ∃ t, exec (.flowLoad h pl) s = .next t ∧ t.Answers h .busy 0 [] ∧ t.regs = (s.homed h).regs ∧ s.SameMemory t)
      ∧ (s.flag (F.SHP_FLOW_LOADED (word pl 0)) = false →
        (∀ st, s.flowRefused (64 * word pl 1) = some st →
          ∃ t, exec (.flowLoad h pl) s = .next t ∧ t.Answers h st 0 [] ∧ t.regs = (s.homed h).regs ∧ s.SameMemory t)
        ∧ (s.flowRefused (64 * word pl 1) = none →
          ∃ t, exec (.flowLoad h pl) s = .next t ∧ t.Answers h .ok 0 [] ∧ t.flag (F.SHP_FLOW_LOADED (word pl 0)) = true
            ∧ t.get (F.SHP_FLOW_OFFSET (word pl 0)) = word pl 1 ∧ (s.homed h).RegsBut t [R.SHP_FLOW (word pl 0)] ∧ s.SameMemory t)))
    ∧ (∀ (h : CmdHdr) (pl : List Word) (s : State), s.Admits 0x21 h pl →
      (s.flowInUse (word pl 0) = true → ∃ t, exec (.flowUnload h pl) s = .next t ∧ t.Answers h .busy 0 [] ∧ t.regs = (s.homed h).regs ∧ s.SameMemory t)
      ∧ (s.flowInUse (word pl 0) = false →
        ∃ t, exec (.flowUnload h pl) s = .next t ∧ t.Answers h .ok 0 [] ∧ t.flag (F.SHP_FLOW_LOADED (word pl 0)) = false
          ∧ (∀ site im, Tab.get none t.lastFlow site ≠ some (word pl 0, im))
          ∧ (s.homed h).RegsBut t [R.SHP_FLOW (word pl 0)] ∧ s.SameMemory t))
    ∧ (∀ (h : CmdHdr) (pl : List Word) (s : State) (f : Nat) (sites : List Nat), s.Admits 0x22 h pl → f = word pl 0 →
      sites = siteRange (word pl 1) (word pl 2) →
      (word pl 2 = 0 → ∃ t, exec (.flowStart h pl) s = .next t ∧ t.Answers h .ok 0 [] ∧ t.regs = (s.homed h).regs ∧ s.SameMemory t)
      ∧ (word pl 2 ≠ 0 → (s.stopped = true ∨ s.flag (F.SHP_FLOW_LOADED f) = false) →
        ∃ t, exec (.flowStart h pl) s = .next t ∧ t.Answers h .badState 0 [] ∧ t.regs = (s.homed h).regs ∧ s.SameMemory t)
      ∧ (word pl 2 ≠ 0 → s.stopped = false → s.flag (F.SHP_FLOW_LOADED f) = true →
        (((∃ i ∈ sites, s.siteActive i = true) ∨ (∀ r, r < 16 → s.run r ≠ none)) →
          ∃ t, exec (.flowStart h pl) s = .next t ∧ t.Answers h .busy 0 [] ∧ t.regs = (s.homed h).regs ∧ s.SameMemory t)
        ∧ (∀ r, r < 16 → (∀ k, k < r → s.run k ≠ none) → s.run r = none → (∀ i ∈ sites, s.siteActive i = false) →
          (∃ i ∈ sites, s.siteState i ≠ 4 ∧ s.markOf i = 0) →
          ∃ t x, exec (.flowStart h pl) s = .next t ∧ t.run r = some x ∧ x.id = s.runSerial ∧ x.flow = f ∧ x.hdr = h
            ∧ x.image = 64 * s.get (F.SHP_FLOW_OFFSET f) ∧ x.step = none
            ∧ x.members = (sites.filter (fun i => s.siteState i != 4 && s.markOf i == 0)).map (fun i => (i, 0))
            ∧ (∀ i ∈ sites, s.siteState i = 4 → ∀ k, k < 8 → t.rd (0x88000 + 0x20 * i + 4 * k) = s.rd (0x88000 + 0x20 * i + 4 * k))
            ∧ (∀ i ∈ sites, s.siteState i ≠ 4 →
              t.siteState i = (if s.markOf i = 0 then 1 else 3) ∧ t.get (F.SHP_SITE_CTL_CAUSE i) = s.markOf i % 16
                ∧ t.get (F.SHP_SITE_CTL_BIN i) = 0 ∧ t.rd (R.SHP_SITE_FAILS i) = 0 ∧ t.rd (R.SHP_SITE_FLOW i) = 0
                ∧ t.rd (R.SHP_SITE_MEAS i) = 0)
            ∧ (s.homed h).RegsBut t (sites.flatMap (fun i => (List.range 8).map (fun k => 0x88000 + 0x20 * i + 4 * k))) ∧ s.SameMemory t)))

/-- R34, R340, R342: the site commands. -/
def Obligations.SiteCommands : Prop :=
  ∀ (h : CmdHdr) (pl : List Word) (s : State),
    (s.Admits 0x24 h pl → ∃ t, exec (.siteRead h pl) s = .next t ∧ t.regs = (s.homed h).regs ∧ s.SameMemory t
      ∧ t.Answers h .ok 0 ((siteRange (word pl 0) (word pl 1)).flatMap (fun i =>
        (List.range 8).map (fun w => BitVec.ofNat 32 (s.rd (0x88000 + 0x20 * i + 4 * w)))
        ++ (List.range 8).map (fun k => BitVec.ofNat 32 ((s.slotValue i k).getD 0)))))
    ∧ (s.Admits 0x25 h pl →
      ((∃ i ∈ siteRange (word pl 0) (word pl 1), s.siteActive i = true) →
        ∃ t, exec (.siteClear h pl) s = .next t ∧ t.Answers h .busy 0 [] ∧ t.regs = (s.homed h).regs ∧ s.SameMemory t)
      ∧ ((∀ i ∈ siteRange (word pl 0) (word pl 1), s.siteActive i = false) →
        ∃ t, exec (.siteClear h pl) s = .next t ∧ t.Answers h .ok 0 []
          ∧ (∀ i ∈ siteRange (word pl 0) (word pl 1), (∀ w, w < 7 → t.rd (0x88000 + 0x20 * i + 4 * w) = 0)
            ∧ (∀ k, k < 8 → t.slotValue i k = none) ∧ Tab.get none t.lastFlow i = none)
          ∧ (s.homed h).RegsBut t ((siteRange (word pl 0) (word pl 1)).flatMap (fun i => (List.range 7).map (fun w => 0x88000 + 0x20 * i + 4 * w)))
          ∧ s.SameMemory t))
    ∧ (s.Admits 0x26 h pl →
      (s.NoMapsSaved → ∃ t, exec (.siteMuzzle h pl) s = .next t ∧ t.siteState (word pl 0) = 4
        ∧ t.get (F.SHP_SITE_CTL_CAUSE (word pl 0)) = 0)
      ∧ (s.siteActive (word pl 0) = false →
        ∃ t, exec (.siteMuzzle h pl) s = .next t ∧ t.Answers h .ok 0 [] ∧ t.siteState (word pl 0) = 4
          ∧ (s.homed h).RegsBut t ([R.SHP_SITE_CTL (word pl 0), R.GPIO_ISO] ++ (List.range 32).map R.GPIO_ISO_IMG) ∧ s.SameMemory t
          ∧ (Tab.get none s.lastFlow (word pl 0) = none → (s.homed h).RegsBut t [R.SHP_SITE_CTL (word pl 0)])))
    ∧ (s.Admits 0x23 h pl → s.NoMapsSaved →
      ((∀ k x, s.run k = some x → x.step = none) →
        ∃ t, exec (.flowAbort h pl) s = .next t
          ∧ (∀ i ∈ siteRange (word pl 0) (word pl 1), s.siteActive i = true → t.siteState i = 3 ∧ t.get (F.SHP_SITE_CTL_CAUSE i) = 9)
          ∧ (∀ i, i < 1024 → (i ∉ siteRange (word pl 0) (word pl 1) ∨ s.siteActive i = false) → t.siteState i = s.siteState i))
      ∧ ((∀ k, s.run k = none) → ∃ t, exec (.flowAbort h pl) s = .next t ∧ t.Answers h .ok 0 []))

/-- R49, R333 to R336: the rows that begin a flow step. The serving functions of a step (pmuServe and its like) have their own statement. -/
def Obligations.FlowStepsBegin : Prop :=
  ∀ (s : State) (r : Fin 16) (x : Run) (i : Nat) (sites : List Nat),
    (s.StepDue r 6 x i sites → ∃ t, exec (.limitStep r) s = .next t
      ∧ s.RunIs t r { x.begun i sites with
          todo := []
          verdicts := sites.map (fun j => (j, if s.stepLimit x.image i = none then Verdict.noData
            else s.limitVerdict x.image ((s.stepLimit x.image i).getD 0) (s.slotValue j (s.stepSlot x.image i)))) })
    ∧ (s.StepDue r 7 x i sites → ∃ t, exec (.contactStep r) s = .next t
      ∧ s.RunIs t r { x.begun i sites with
          todo := []
          verdicts := sites.map (fun j => (j, s.contactVerdict j)) })
    ∧ (s.StepDue r 9 x i sites → ∃ t, exec (.waitStep r) s = .next t
      ∧ s.RunIs t r { x.begun i sites with
          todo := []
          verdicts := sites.map (fun j => (j, Verdict.pass)) })
    ∧ (∀ packs seg, s.StepDue r 1 x i sites → packs = packsOf (s.stepWord x.image i 4 % 2 ^ 16) →
      seg = bits (s.stepWord x.image i 4) 16 10 →
      (s.startCheck packs seg = some .busy → exec (.patternStep r) s = .next s)
      ∧ (s.startCheck packs seg = none → packs ≠ [] → ∃ u, exec (.patternStep r) s = .next (u.startGroup (.run x.id 0) packs seg 0)
        ∧ s.RunIs u r { x.begun i sites with
            todo := []
            busy := [(1024, 0)] })
      ∧ (∀ st, s.startCheck packs seg = some st → st ≠ .busy → packs ≠ [] → s.runById x.id = some r.val →
        ∃ t, exec (.patternStep r) s = .next t ∧ s.RunIs t r { x.begun i sites with
            todo := []
            busy := [(1024, 0)]
            results := [(0, st, [])] }))
    ∧ (s.StepDue r 2 x i sites →
      ((∃ j ∈ sites, ∃ n, s.siteChannel j (bits (s.stepWord x.image i 3) 16 5) = some n ∧ (s.seqRun (n / 32) = true ∨ s.pmuBusy n = true)) →
        exec (.pmuStep r) s = .next s)
      ∧ ((∀ j ∈ sites, ∀ n, s.siteChannel j (bits (s.stepWord x.image i 3) 16 5) = some n → s.seqRun (n / 32) = false ∧ s.pmuBusy n = false) →
        ∃ u, exec (.pmuStep r) s = .next ((u.forEach sites (fun j v => v.pmuServe r (x.begun i sites) i j)).allServed r)
          ∧ s.RunIs u r (x.begun i sites)))
    ∧ (∀ l, s.StepDue r 3 x i sites → l = s.stepPsms (bits (s.stepWord x.image i 3) 16 3) sites →
      ((∃ n ∈ l, (s.psm n).waiters ≠ [] ∨ (s.psm n).meas ≠ none) → exec (.psmForceStep r) s = .next s)
      ∧ ((∀ n ∈ l, (s.psm n).waiters = [] ∧ (s.psm n).meas = none ∧ s.psmMuzzled n = false) →
        ∃ u, exec (.psmForceStep r) s = .next (u.forEach l (fun n v => v.psmServe r (x.begun i sites) i n))
          ∧ s.RunIs u r { x.begun i sites with todo := [] }))
    ∧ (s.StepDue r 4 x i sites → ∃ u, exec (.tmuStep r) s = .next (u.forEach sites (fun j v => v.tmuServe r (x.begun i sites) i j))
      ∧ s.RunIs u r (x.begun i sites))
    ∧ (s.StepDue r 10 x i sites → ∃ u, exec (.repairStep r) s = .next (u.forEach sites (fun j v => v.repairServe r (x.begun i sites) i j))
      ∧ s.RunIs u r (x.begun i sites))
    ∧ (s.StepDue r 5 x i sites →
      ((∀ c, c < 8 → s.aeAble c = false) → ∃ u, exec (.aeStep r) s = .next (u.aeNone sites)
        ∧ s.RunIs u r { x.begun i sites with todo := [] })
      ∧ (∀ c, c < 8 → s.aeAble c = true →
        (bit (s.stepWord x.image i 4) 0 = false → ∃ u, exec (.aeStep r) s = .next (u.aeSubmit (s.aeBlock x i (sites.headD 0) 4096))
          ∧ s.RunIs u r { x.begun i sites with
              todo := []
              busy := [(1024, 4096)] })
        ∧ (bit (s.stepWord x.image i 4) 0 = true → ∃ u, exec (.aeStep r) s = .next (u.forEach sites (fun j v =>
            (v.editRun r (fun y => { y with busy := y.busy ++ [(j, 1024 + j)] })).aeSubmit (s.aeBlock x i j (1024 + j))))
          ∧ s.RunIs u r { x.begun i sites with todo := [] })))
    ∧ (s.StepDue r 0 x i sites → s.NoMapsSaved → (∀ j ∈ sites, j < 1024) →
      ∃ t, exec (.endStep r) s = .next t ∧ ∀ j ∈ sites, t.siteState j = 2 ∧ t.get (F.SHP_SITE_CTL_CAUSE j) = 0
        ∧ (s.get (F.SHP_SITE_CTL_BIN j) = 0 → t.get (F.SHP_SITE_CTL_BIN j) = s.stepWord x.image i 0 / 2 ^ 16)
        ∧ (s.get (F.SHP_SITE_CTL_BIN j) ≠ 0 → t.get (F.SHP_SITE_CTL_BIN j) = s.get (F.SHP_SITE_CTL_BIN j)))

/-- R49, R334: how a flow step serves its sites. -/
def Obligations.FlowStepsServe : Prop :=
  ∀ (s : State) (r : Nat) (x : Run) (i j : Nat), s.run r = some x →
    (s.siteChannel j (bits (s.stepWord x.image i 3) 16 5) = none →
      s.pmuServe r x i j = s.setRun r (some { x with verdicts := x.verdicts ++ [(j, Verdict.noData)] }))
    ∧ (∀ n c u, s.siteChannel j (bits (s.stepWord x.image i 3) 16 5) = some n → c = setBits (s.stepWord x.image i 4) 8 1 0 →
      runWrites [fun t => t.guarded (R.CH_PMU_CTL n) (writePmuCtl n c),
        fun t => t.guarded (R.CH_PMU_FORCE n) (writePmuForce n (s.stepWord x.image i 5)),
        fun t => t.guarded (R.CH_PMU_CLAMP n) (writePmuClamp n (s.stepWord x.image i 6)),
        fun t => t.guarded (R.CH_PMU_MEAS n) (fun v => .ok (v.store (R.CH_PMU_MEAS n) (s.stepWord x.image i 7))),
        fun t => t.guarded (R.CH_PMU_CTL n) (writePmuCtl n (setBits c 8 1 1))] s = (u, none) →
      u.run r = some x → u.pmuBusy n = true →
      ((s.pmuServe r x i j).chan n).pmuOwner = some (.run x.id n)
        ∧ (s.pmuServe r x i j).run r = some { x with busy := x.busy ++ [(j, n)] } ∧ (s.pmuServe r x i j).pmuBusy n = true)
    ∧ (∀ a b, s.siteChannel j (bits (s.stepWord x.image i 3) 16 5) = some a →
      s.siteChannel j (bits (s.stepWord x.image i 3) 21 5) = some b →
      (a / 32 ≠ b / 32 → s.RunIs (s.tmuServe r x i j) r { x with
        todo := x.todo.filter (fun k => k != j)
        verdicts := x.verdicts ++ [(j, Verdict.noData)] })
      ∧ (a / 32 = b / 32 → (∀ k, k < 4 → s.tmuMuzzled (4 * (a / 32) + k) = true) → s.tmuServe r x i j = s.untest [j] 3)
      ∧ (a / 32 = b / 32 → (∃ k, k < 4 ∧ s.tmuMuzzled (4 * (a / 32) + k) = false) → s.idleTmu (a / 32) = none → s.tmuServe r x i j = s)
      ∧ (∀ k u, a / 32 = b / 32 → s.idleTmu (a / 32) = some k →
        runWrites ((tmuImages k (s.tmuStepImages x i k a b)).take 5
          ++ [fun v => v.guarded (R.TMU_GO k) (writeTmuGo k 1 (some (.run x.id k)))]) s = (u, none) → u.run r = some x →
        (s.tmuServe r x i j).run r = some { x with
          todo := x.todo.filter (fun k => k != j)
          busy := x.busy ++ [(j, k)] } ∧ (s.tmuServe r x i j).regs = u.regs))
    ∧ ((s.siteChannel j (bits (s.stepWord x.image i 3) 16 5) = none ∨ s.siteChannel j (bits (s.stepWord x.image i 3) 21 5) = none) →
      s.RunIs (s.tmuServe r x i j) r { x with
        todo := x.todo.filter (fun k => k != j)
        verdicts := x.verdicts ++ [(j, Verdict.noData)] })
    ∧ (∀ p v, p = s.stepWord x.image i 4 % 16 → v = j + bits (s.stepWord x.image i 3) 16 1 * 2 ^ 10 + 2 ^ 11
        + bits (s.stepWord x.image i 3) 17 1 * 2 ^ 12 + bits (s.stepWord x.image i 3) 18 1 * 2 ^ 13 →
      (s.guarded (R.RA_REQ p) (writeRaReq p v) = .error .busy → s.repairServe r x i j = s)
      ∧ (∀ t, s.guarded (R.RA_REQ p) (writeRaReq p v) = .ok t → t.run r = some x →
        (s.repairServe r x i j).run r = some { x with
          todo := x.todo.filter (fun k => k != j)
          busy := x.busy ++ [(j, p)] } ∧ (s.repairServe r x i j).regs = t.regs)
      ∧ (∀ st, s.guarded (R.RA_REQ p) (writeRaReq p v) = .error st → st ≠ .busy → s.RunIs (s.repairServe r x i j) r { x with
          todo := x.todo.filter (fun k => k != j)
          verdicts := x.verdicts ++ [(j, Verdict.noData)] }))

/-- R326, R333, R335 to R337, R340: the end of a flow step and its actions. That the row waits while any routine runs is the model's choice (assumption 157). -/
def Obligations.FlowStepsEnd : Prop :=
  (∀ (s : State) (r : Fin 16) (x : Run) (i j act target : Nat), s.run r = some x → x.step = some i → x.todo = [] → x.results = [] →
      (s.routine ≠ none → exec (.flowStepEnd r) s = .next s)
      ∧ (s.coreUp = true → s.routine = none →
      (x.busy ≠ [] → x.standing ≠ [] → exec (.flowStepEnd r) s = .next s)
      ∧ (x.busy = [] → x.standing = [j] → j < 1024 → s.NoMapsSaved →
        (act, target) = s.stepAction x.image i (worstVerdict ((x.verdicts.filter (fun v => v.1 == j)).map (·.2))) →
        (∀ k, (act = 0 ∧ k = i + 1 ∨ act = 1 ∧ k = target) →
          ∃ t, exec (.flowStepEnd r) s = .next t ∧ t.get (F.SHP_SITE_FLOW_FLOW_STEP j) = k % 2 ^ 16
            ∧ t.run r = some { x.resting with members := x.members.map (fun m => if m.1 = j then (j, k) else m) }
            ∧ s.RegsBut t [R.SHP_SITE_FLOW j] ∧ s.SameMemory t)
        ∧ (act = 2 → s.get (F.SHP_SITE_FLOW_RETEST_COUNT j) < s.retestMax x.image →
          ∃ t, exec (.flowStepEnd r) s = .next t ∧ t.get (F.SHP_SITE_FLOW_FLOW_STEP j) = target % 2 ^ 16
            ∧ t.get (F.SHP_SITE_FLOW_RETEST_COUNT j) = s.get (F.SHP_SITE_FLOW_RETEST_COUNT j) + 1
            ∧ t.get (F.SHP_SITE_CTL_BIN j) = 0 ∧ t.get (F.SHP_SITE_MEAS j) = 0
            ∧ t.run r = some { x.resting with members := x.members.map (fun m => if m.1 = j then (j, target) else m) }
            ∧ s.RegsBut t [R.SHP_SITE_FLOW j, R.SHP_SITE_CTL j, R.SHP_SITE_MEAS j] ∧ s.SameMemory t)
        ∧ ((act = 3 ∨ act = 2 ∧ s.retestMax x.image ≤ s.get (F.SHP_SITE_FLOW_RETEST_COUNT j)) →
          ∃ t, exec (.flowStepEnd r) s = .next t ∧ t.siteState j = 2 ∧ t.get (F.SHP_SITE_CTL_CAUSE j) = 0
            ∧ (s.get (F.SHP_SITE_CTL_BIN j) = 0 → t.get (F.SHP_SITE_CTL_BIN j) = s.stepWord x.image i 0 / 2 ^ 16))
        ∧ (act = 4 → ∃ t, exec (.flowStepEnd r) s = .next t ∧ t.get (F.SHP_SITE_FLOW_FLOW_STEP j) = (i + 1) % 2 ^ 16
          ∧ (s.get (F.SHP_SITE_CTL_BIN j) = 0 → t.get (F.SHP_SITE_CTL_BIN j) = s.stepWord x.image i 0 / 2 ^ 16)
          ∧ (s.get (F.SHP_SITE_CTL_BIN j) ≠ 0 → t.get (F.SHP_SITE_CTL_BIN j) = s.get (F.SHP_SITE_CTL_BIN j))
          ∧ s.RegsBut t [R.SHP_SITE_FLOW j, R.SHP_SITE_CTL j] ∧ s.SameMemory t)
        ∧ (act = 5 → ∃ t, exec (.flowStepEnd r) s = .next t ∧ t.siteState j = 4))))
    ∧ (∀ (s : State) (r : Fin 16), s.run r = none → exec (.flowStepEnd r) s = .next s)
    ∧ (∀ (s : State) (r : Fin 16) (x : Run), s.run r = some x → x.step = none → exec (.flowStepEnd r) s = .next s)

/-- R47, R48, R339, R344: the MUX step. Which packs and PSMs a position involves (assumption 160), and that a lock the run's session already holds serves the step (assumption 122), are the model's choices. -/
def Obligations.MuxSteps : Prop :=
  ∀ (s : State) (r : Fin 16) (x : Run),
    (∀ i sites, s.StepDue r 8 x i sites → x.mux = none → s.leashOut 0 = false →
      (s.flag (F.SHP_LOCK_HELD 0) = false →
        ∃ t, exec (.muxStep r) s = .next t ∧ t.flag (F.SHP_LOCK_HELD 0) = true ∧ t.flag (F.SHP_LOCK_BY_RUN 0) = true
          ∧ t.get (F.SHP_LOCK_OWNER 0) = x.hdr.session.toNat
          ∧ t.run r = some { (x.begun i sites).resting with
              mux := some (i, 0)
              muxTodo := sites }
          ∧ s.RegsBut t [R.SHP_LOCK 0] ∧ s.SameMemory t)
      ∧ (s.flag (F.SHP_LOCK_HELD 0) = true → s.get (F.SHP_LOCK_OWNER 0) = x.hdr.session.toNat → Tab.get none s.lockRun 0 = none →
        ∃ t, exec (.muxStep r) s = .next t ∧ t.flag (F.SHP_LOCK_HELD 0) = true ∧ t.flag (F.SHP_LOCK_BY_RUN 0) = true
          ∧ t.run r = some { (x.begun i sites).resting with
              mux := some (i, 0)
              muxTodo := sites }
          ∧ s.RegsBut t [R.SHP_LOCK 0] ∧ s.SameMemory t)
      ∧ (s.flag (F.SHP_LOCK_HELD 0) = true → s.get (F.SHP_LOCK_OWNER 0) ≠ x.hdr.session.toNat → exec (.muxStep r) s = .next s))
    ∧ (∀ m k, s.run r = some x → x.mux = some (m, k) → x.muxSite = none → x.step = none → s.coreUp = true →
      (k < s.muxCount x.image m → s.muxReady x.image m k = false → exec (.muxStep r) s = .next s)
      ∧ (k < s.muxCount x.image m → s.muxReady x.image m k = true →
        (s.muxUnits x.image m k).2.any (fun n => s.psmMuzzled n) = false →
        ∃ t y, exec (.muxStep r) s = .next t ∧ t.run r = some y ∧ y.mux = some (m, k + 1)
          ∧ y.muxSite = (if x.muxTodo.contains (s.muxWord x.image m k 1 % 2 ^ 10) && x.members.contains (s.muxWord x.image m k 1 % 2 ^ 10, m)
              then some (s.muxWord x.image m k 1 % 2 ^ 10) else none)
          ∧ y.muxTodo = x.muxTodo.filter (fun j => j != s.muxWord x.image m k 1 % 2 ^ 10) ∧ s.SameMemory t
          ∧ (∀ b, b < 16 → bit (t.get F.GPIO_OUT) b =
              (if bit (s.muxWord x.image m k 0) (16 + b) then bit (s.muxWord x.image m k 0) b else bit (s.get F.GPIO_OUT) b)))
      ∧ (∀ j, k < s.muxCount x.image m → s.muxReady x.image m k = true →
        (s.muxUnits x.image m k).2.any (fun n => s.psmMuzzled n) = true → j = s.muxWord x.image m k 1 % 2 ^ 10 → (j, m) ∈ x.members →
        s.siteActive j = true → s.NoMapsSaved →
        ∃ t, exec (.muxStep r) s = .next t ∧ t.siteState j = 3 ∧ t.get (F.SHP_SITE_CTL_CAUSE j) = 2)
      ∧ (s.muxCount x.image m ≤ k → x.muxTodo = [] → x.saved = [] →
        ∃ t, exec (.muxStep r) s = .next t ∧ t.run r = some { x with mux := none }
          ∧ (Tab.get none s.lockRun 0 = some r.val → t.flag (F.SHP_LOCK_HELD 0) = false)
          ∧ s.RegsBut t [R.SHP_LOCK 0] ∧ s.SameMemory t))

/-- R418 to R420, R422, R423: temperature readings. The unit of the ADDRESS and the comparison bits are the model's reading (assumptions 61 and 55), and so is that COMPAT takes effect and ends at the wrap of the round (assumption 56). -/
def Obligations.DiodeReadings : Prop :=
  (∀ (i : Fin 5) (v : BitVec 16) (s : State), s.hkCompat = false → s.devState ≠ 3 →
      (∃ t, exec (.diodeReading i v) s = .next t ∧ t.get (F.HK_TEMP_READING i) = v.toNat
        ∧ (∀ j, j < 5 → j ≠ i.val → t.get (F.HK_TEMP_READING j) = s.get (F.HK_TEMP_READING j)) ∧ s.SameMemory t)
      ∧ (s.flag F.HK_CTL_XCHECK_EN = false → s.get F.HK_STATUS_BROKEN = 0 →
        ∃ t, exec (.diodeReading i v) s = .next t
          ∧ (∀ j, j < 5 → t.get (F.HK_TEMP_EFFECTIVE j) = t.get (F.HK_TEMP_READING j))
          ∧ (t.flag F.HK_STATUS_WARN_ACTIVE = true ↔ ∃ j, j < 5 ∧ 1600 ≤ t.getI (F.HK_TEMP_READING j))
          ∧ (t.flag F.HK_STATUS_STOP_ACTIVE = true ↔ ∃ j, j < 5 ∧ 1840 ≤ t.getI (F.HK_TEMP_READING j))
          ∧ (2000 ≤ v.toInt → t.flag F.HK_STATUS_TRIP = true)
          ∧ (∀ j, j < 5 → t.getI (F.HK_TEMP_READING j) ≤ t.getI F.HK_TMAX_TMAX)
          ∧ (∃ j, j < 5 ∧ t.getI (F.HK_TEMP_READING j) = t.getI F.HK_TMAX_TMAX)
          ∧ t.getI F.HK_TMAX_PEAK = max (t.getI F.HK_TMAX_TMAX) (s.getI F.HK_TMAX_PEAK)
          ∧ (1600 ≤ v.toInt → bit (Tab.get 0 s.hkFired i) 0 = false →
            ⟨0x001, cTHERMAL, 1, i.val + v.toNat * 2 ^ 16, s.time % 2 ^ 15⟩ ∈ t.faultIn)
          ∧ ((∀ p, p < 16 → s.flag (F.TIM_CTL_DRIFT_EN p) = false) →
            s.RegsBut t ([R.HK_STATUS, R.HK_TMAX] ++ (List.range 5).map R.HK_TEMP ++ (List.range 16).map R.TIM_STATUS
              ++ (s.groups.flatMap (·.packs)).map R.PK_STATUS)))
      ∧ (s.flag F.HK_CTL_XCHECK_EN = true → s.diodeOk i = true → (v.toInt < -880 ∨ 2400 < v.toInt) →
        ∃ t, exec (.diodeReading i v) s = .next t ∧ t.diodeOk i = false
          ∧ ⟨0x001, cTHERMAL, 5, i.val, s.time % 2 ^ 15⟩ ∈ t.faultIn))
    ∧ (∀ (d : Fin 2) (v : BitVec 8) (s : State), s.hkCompat = false → s.devState ≠ 3 →
      ∃ t, exec (.dramTempReading d v) s = .next t ∧ t.get (F.DRM_STATUS_TEMP d) = v.toNat
        ∧ t.flag ⟨R.HK_STATUS, 10 + d, 1⟩ = decide (95 ≤ v.toInt) ∧ t.flag ⟨R.HK_STATUS, 12 + d, 1⟩ = decide (105 ≤ v.toInt)
        ∧ (95 ≤ v.toInt → bit (Tab.get 0 s.hkFired (8 + d)) 6 = false →
          ⟨0x001, cTHERMAL, 6, d.val + v.toNat * 2 ^ 16, s.time % 2 ^ 15⟩ ∈ t.faultIn)
        ∧ (v.toInt < 95 → t.faultIn = s.faultIn)
        ∧ s.RegsBut t [R.DRM_STATUS d, R.HK_STATUS] ∧ s.SameMemory t)
    ∧ (∀ (i : Fin 5) (d : Fin 2) (v : BitVec 16) (w : BitVec 8) (s : State), (s.hkCompat = true ∨ s.devState = 3) →
      exec (.diodeReading i v) s = .next s ∧ exec (.dramTempReading d w) s = .next s)
    ∧ (∀ (v : BitVec 16) (s : State),
      ((s.flag F.HK_CTL_COMPAT = false ∧ s.hkCompat = false ∨ s.devState = 3) → exec (.hkRoundReading v) s = .next s)
      ∧ (s.devState ≠ 3 → (s.flag F.HK_CTL_COMPAT = true ∨ s.hkCompat = true) →
        ∃ t, exec (.hkRoundReading v) s = .next t ∧ t.hkRound = (s.hkRound + 1) % 64
          ∧ (s.hkRound ≠ 63 → t.hkCompat = true)
          ∧ (s.hkRound < 5 → t.get (F.HK_TEMP_READING s.hkRound) = v.toNat)
          ∧ (5 ≤ s.hkRound → s.hkRound < 14 → t.regs = s.regs ∧ t.faultIn = s.faultIn)
          ∧ (15 < s.hkRound → t.regs = s.regs ∧ t.faultIn = s.faultIn) ∧ s.SameMemory t))

/-- R411, R412, R446, R447, R449 to R451, R466: which start follows. -/
def Obligations.Starts : Prop :=
  (∀ (h : CmdHdr) (pl : List Word) (s : State), s.Admits 0x81 h pl →
      ∃ t, exec (.start h pl) s = .next t ∧ t.Answers h .ok 0 [] ∧ t.startDue = some (bit (word pl 0) 0) ∧ t.regs = (s.homed h).regs ∧ s.SameMemory t)
    ∧ (∀ (obs : StartObs) (s : State),
      (((s.startHeld = none ∧ s.startDue = none) ∨ s.vaux = false ∨ s.pwrgood = false ∨ s.devState = 3
          ∨ (s.devState = 2 ∧ s.condCauses ≠ []) ∨ (s.coreUp = true ∧ ∃ r ∈ s.replies, r.opcode = 0x81)) → exec (.startBegin obs) s = .next s)
      ∧ (∀ k, s.vaux = true → s.pwrgood = true → s.devState ≠ 3 → (s.devState = 2 → s.condCauses = []) →
          (s.coreUp = false ∨ ∀ r ∈ s.replies, r.opcode ≠ 0x81) → s.startHeld = some k → exec (.startBegin obs) s = .next (s.coldStart k obs))
      ∧ (∀ k, s.startHeld = none → s.startDue = some k → s.vaux = true → s.pwrgood = true → s.devState ≠ 3 →
          (s.devState = 2 → s.condCauses = []) → (s.coreUp = false ∨ ∀ r ∈ s.replies, r.opcode ≠ 0x81) →
          (k = true → exec (.startBegin obs) s = .next (({ s with startDue := none } : State).coldStart 1 obs))
          ∧ (k = false → exec (.startBegin obs) s = .next (({ s with startDue := none } : State).warmRequest obs)))
      ∧ ((s.vaux = false ∨ s.pwrgood = false ∨ s.devState = 3) → exec (.resetN obs) s = .next s)
      ∧ (s.vaux = true → s.pwrgood = true → s.devState < 2 → exec (.resetN obs) s = .next (s.warmRequest obs))
      ∧ (s.devState = 2 → s.condCauses.any (fun m => Tab.get 0 s.fltPend m.cls != 0) = true →
          exec (.resetN obs) s = .next s ∧ (s.vaux = true → exec (.clearSafe obs) s = .next { s with resp := .badState }))
      ∧ (s.devState = 2 → s.condCauses = [] → s.vaux = true →
          (s.pwrgood = true → exec (.clearSafe obs) s = .next (({ s with resp := .ok } : State).warmRequest obs)
            ∧ exec (.resetN obs) s = .next (s.warmRequest obs))
          ∧ (s.pwrgood = false → exec (.clearSafe obs) s = .next { s with resp := .ok }))
      ∧ ((s.devState ≠ 2 ∨ s.vaux = false) → exec (.clearSafe obs) s = .next s)
      ∧ (s.flag F.GLB_START_START_OK = false → s.warmRequest obs = s.coldStart 2 obs)
      ∧ (s.flag F.GLB_START_START_OK = true → s.flag F.SHP_STATUS_IMAGE_OK = true →
          (2 ≤ s.get F.GLB_START_WARM_FAILS + (obs.warmFails.takeWhile fatalAt).length → s.warmRequest obs = s.coldStart 3 obs)
          ∧ (s.get F.GLB_START_WARM_FAILS + (obs.warmFails.takeWhile fatalAt).length < 2 → s.warmRequest obs = s.warmStart obs))
      ∧ (s.warmStart obs).coreUp = true ∧ (s.warmStart obs).inflight = [] ∧ ∀ r, (s.warmStart obs).run r = none)

/-- R412, R446 to R449, R453: power and the cold start. R417, R424, R491: losses of supplies. -/
def Obligations.PowerAndSupplies : Prop :=
  ((∀ s : State, exec .vauxRise s = .next { s with vaux := true })
    ∧ (∀ s : State, s.vaux = false → exec .vauxFall s = .next s)
    ∧ (∀ s : State, s.vaux = true → ∃ t, exec .vauxFall s = .next t ∧ t.vaux = false ∧ t.pwrgood = false ∧ t.coreUp = false
        ∧ t.mram = s.mram ∧ t.dram = [] ∧ t.muzzles = [] ∧ t.flag F.GLB_START_START_OK = false ∧ t.flag F.SHP_STATUS_IMAGE_OK = false
        ∧ ∀ a, a ≠ R.GLB_START → a ≠ R.SHP_STATUS → t.rd a = (coldWord a).toNat)
    ∧ (∀ s : State, s.pwrgood = false → exec .pwrgoodFall s = .next s)
    ∧ (∀ s : State, s.pwrgood = true → ∃ t, exec .pwrgoodFall s = .next t ∧ t.pwrgood = false ∧ 2 ≤ t.devState
        ∧ ∀ n, n < 96 → (t.psm n).stage = 0)
    ∧ (∀ (s : State) (n : Nat), (s.vaux = false ∨ s.pwrgood = false ∨ s.coreUp = false ∨ 2 ≤ s.get F.GLB_REST_STATE) → s.driver n = .z)
    ∧ (∀ (obs : StartObs) (s : State), (s.vaux = false ∨ s.pwrgood = true) → exec (.coldStart obs) s = .next s)
    ∧ (∀ (obs : StartObs) (s : State), s.vaux = true → s.pwrgood = false →
      (s.devState = 3 → exec (.coldStart obs) s = .next { s with pwrgood := true })
      ∧ (s.devState ≠ 3 → obs.railsOut = true →
        ∃ t, exec (.coldStart obs) s = .next t ∧ t.coreUp = false ∧ t.pwrgood = true ∧ t.startHeld = some 0 ∧ t.get F.GLB_START_STEP = 1
          ∧ t.flag F.GLB_START_START_OK = false ∧ t.mram = s.mram ∧ t.dram = [])
      ∧ (∀ n, s.devState ≠ 3 → obs.railsOut = false → obs.fatalStep = some n → 2 ≤ n → n ≤ 4 →
        ∃ t, exec (.coldStart obs) s = .next t ∧ t.coreUp = false ∧ t.pwrgood = true ∧ t.devState = 2
          ∧ t.flag F.GLB_START_START_OK = false ∧ t.flag F.GLB_START_START_FAIL = true ∧ t.get F.GLB_START_STEP = n
          ∧ t.get F.GLB_ID_DEV_ID = obs.devId.toNat ∧ t.flag F.SHP_STATUS_IMAGE_OK = false ∧ t.mram = s.mram ∧ t.dram = [])
      ∧ (s.devState ≠ 3 → obs.railsOut = false → obs.fatalStep = none →
        ∃ t, exec (.coldStart obs) s = .next t ∧ t.coreUp = true ∧ t.pwrgood = true ∧ t.inflight = []
          ∧ ∀ r, t.run r = none)))
    ∧ (∀ s : State,
    (∀ k : Fin 4, ∃ t, exec (.pfeInterfaceStop k) s = .next t ∧ s.SameMemory t
      ∧ (∀ n, n / 128 = k.val → (t.chan n).drive = .z ∧ (t.chan n).loadOn = false)
      ∧ ((∀ n, n / 24 = k.val → (s.psm n).stage = 0) → t.regs = s.regs ∧ ∀ n, n / 128 ≠ k.val → t.chan n = s.chan n))
    ∧ (∀ k : Fin 4, bit (s.get F.GLB_AVAIL_PFE_AVAIL) k = true → exec (.pfeLost k) s = .next { s with
        faultIn := s.faultIn ++ [⟨0x004 + k.val, cDATA, 0x01, k.val, s.time % 2 ^ 15⟩] })
    ∧ (∀ k : Fin 4, bit (s.get F.GLB_AVAIL_PFE_AVAIL) k = false → exec (.pfeLost k) s = .next s)
    ∧ (∀ r : Fin 9, r.val ≠ 0 → exec (.railUv r) s = .next { s with
        faultIn := s.faultIn ++ [⟨0x002, cANALOG, 0x01, r.val, s.time % 2 ^ 15⟩] })
    ∧ (∃ t, exec (.railUv 0) s = .next t ∧ t.coreUp = false ∧ t.faultIn = s.faultIn ++ [⟨0x002, cANALOG, 0x01, 0, s.time % 2 ^ 15⟩]
      ∧ s.SameMemory t))

/-- R365, R370, R371, R454 to R456: checkpoints and the datalog. That a fence keeps a checkpoint due is the model's choice (assumption 151). -/
def Obligations.CheckpointsAndDatalog : Prop :=
  (∀ (s t : State), (exec (.checkpointTimer true) s = .next t ∧ s.coreUp = true ∧ s.frozen = false ∧ (s.ckptDue = true ∨ (s.ctxChanged = true ∧ s.get F.GLB_CKPT ≠ 0))) →
      t.regs = s.regs ∧ t.dram = s.dram ∧ t.ckptDue = bit s.fences 40 ∧ t.ctxChanged = false
        ∧ (s.flag F.TWN_CTL_MIRROR_EN = true → bit s.fences 40 = false → t.mirrorQ = s.mirrorQ ++ [⟨3, 0, 0, false, false⟩])
        ∧ ((s.flag F.TWN_CTL_MIRROR_EN = false ∨ bit s.fences 40 = true) → t.mirrorQ = s.mirrorQ)
        ∧ ∃ a, (a = ctxBase ∨ a = ctxBase + ctxSize) ∧ Memory.getNat t.mram (a + 64 + 32768) 4 = ctxCommit
          ∧ ∀ i w, i < 1024 → w < 8 → Memory.getNat t.mram (a + 64 + 32 * i + 4 * w) 4 = s.rd (R.SHP_SITE_CTL i + 4 * w))
    ∧ (∀ (s : State), s.coreUp = true → s.frozen = false → (s.ckptDue = true ∨ (s.ctxChanged = true ∧ s.get F.GLB_CKPT ≠ 0)) →
      exec (.checkpointTimer true) s = .next s.checkpoint)
    ∧ (∀ (s : State) (b : Bool), (s.coreUp = false ∨ b = false ∨ s.frozen = true ∨ (s.ckptDue = false ∧ (s.ctxChanged = false ∨ s.get F.GLB_CKPT = 0))) →
      exec (.checkpointTimer b) s = .next s)
    ∧ (∀ (h : CmdHdr) (pl : List Word) (s : State), s.Admits 0x84 h pl →
      (s.frozen = false → ∃ t, exec (.ckptWrite h pl true) s = .next t
        ∧ t.Answers h (if bit s.fences 40 then .internal else .ok) 0 [] ∧ t.regs = (s.homed h).regs ∧ t.mram = s.checkpoint.mram
        ∧ t.dram = s.dram ∧ t.ckptDue = bit s.fences 40 ∧ t.ctxChanged = false)
      ∧ (∃ t, exec (.ckptWrite h pl false) s = .next t ∧ t.Answers h .internal 0 [] ∧ t.regs = (s.homed h).regs ∧ s.SameMemory t))
    ∧ (∀ (o : Origin) (v : Word) (s : State) (x : Nat), x = s.dlogStage + v.toNat * 2 ^ 32 →
      (s.rd64 R.DLOG_RD_LO ≤ x → x ≤ s.rd64 R.DLOG_WR_LO →
        ∃ t, exec (.dlogRdHi o v) s = .next t ∧ t.resp = .ok ∧ t.rd64 R.DLOG_RD_LO = x
          ∧ s.RegsBut t [R.DLOG_RD_LO, R.DLOG_RD_HI] ∧ s.SameMemory t)
      ∧ ((x < s.rd64 R.DLOG_RD_LO ∨ s.rd64 R.DLOG_WR_LO < x) → exec (.dlogRdHi o v) s = .next { s with resp := .badState }))

/-- R374, R435, R457 to R459, R466: Rest and waking. -/
def Obligations.RestAndWake : Prop :=
  (∀ (h : CmdHdr) (pl : List Word) (s : State), s.Admits 0x82 h pl →
      ((s.stopped = true ∨ s.get F.GLB_REST_STATE ≠ 0) →
        ∃ t, exec (.restEnter h pl) s = .next t ∧ t.Answers h .badState 0 [] ∧ t.regs = (s.homed h).regs ∧ s.SameMemory t)
      ∧ (s.stopped = false → s.get F.GLB_REST_STATE = 0 → (s.admitted 0x82 h pl).restIdle = false →
        ∃ t, exec (.restEnter h pl) s = .next t ∧ t.Answers h .busy 0 [] ∧ t.regs = (s.homed h).regs ∧ s.SameMemory t)
      ∧ (s.stopped = false → s.get F.GLB_REST_STATE = 0 → (s.admitted 0x82 h pl).restIdle = true →
        ∃ t, exec (.restEnter h pl) s = .next t ∧ t.get F.GLB_REST_STATE = 1))
    ∧ (∀ s : State, (s.get F.GLB_REST_STATE ≠ 1 ∨ s.calGap ≠ none) → exec .restEntered s = .next s)
    ∧ (∀ s : State, s.get F.GLB_REST_STATE = 1 → s.calGap = none →
      ∃ t, exec .restEntered s = .next t ∧ t.get F.GLB_REST_STATE = (if s.restWake then 3 else 2))
    ∧ (∀ (h : CmdHdr) (pl : List Word) (s : State), s.Admits 0x83 h pl →
      (s.get F.GLB_REST_STATE = 0 → ∃ t, exec (.restExit h pl) s = .next t ∧ t.Answers h .ok 0 [] ∧ t.regs = (s.homed h).regs ∧ s.SameMemory t)
      ∧ (s.get F.GLB_REST_STATE = 1 → exec (.restExit h pl) s = .next { s.admitted 0x83 h pl with restWake := true })
      ∧ (s.get F.GLB_REST_STATE = 2 → ∃ t, exec (.restExit h pl) s = .next t ∧ t.get F.GLB_REST_STATE = 3
        ∧ t.flag (F.DRM_STATUS_SELF_REFRESH 0) = false ∧ t.flag (F.DRM_STATUS_SELF_REFRESH 1) = false ∧ s.SameMemory t))
    ∧ (∀ (o : Origin) (s : State), o ≠ .msp → exec (.wake o) s = .next { s with resp := .ok })
    ∧ (∀ s : State,
      ((s.get F.GLB_REST_STATE = 0 ∨ s.get F.GLB_REST_STATE = 3) → exec (.wake .msp) s = .next { s with resp := .ok })
      ∧ (s.get F.GLB_REST_STATE = 1 → exec (.wake .msp) s = .next { s with
          restWake := true
          resp := .ok })
      ∧ (s.get F.GLB_REST_STATE = 2 → ∃ t, exec (.wake .msp) s = .next t ∧ t.resp = .ok ∧ t.get F.GLB_REST_STATE = 3
        ∧ t.flag (F.DRM_STATUS_SELF_REFRESH 0) = false ∧ t.flag (F.DRM_STATUS_SELF_REFRESH 1) = false ∧ s.SameMemory t))
    ∧ (∀ (l : List (Fin 32)) (s : State), (s.get F.GLB_REST_STATE ≠ 3 ∨ s.portMode 0 = 1 ∨ s.portMode 1 = 1) →
      exec (.restAwake l) s = .next s)
    ∧ (∀ (l : List (Fin 32)) (s : State), s.get F.GLB_REST_STATE = 3 → s.portMode 0 ≠ 1 → s.portMode 1 ≠ 1 →
      ∃ t, exec (.restAwake l) s = .next t ∧ t.get F.GLB_REST_STATE = 0
        ∧ (∀ r, r < 64 → s.flag (F.SHP_LOCK_HELD r) = true →
          t.get (F.SHP_LOCK_REMAIN_MS r) = Tab.get 0 s.leashLen r % 2 ^ (F.SHP_LOCK_REMAIN_MS r).w)
        ∧ (∀ q ∈ l, t.pcMuzzled q = true)
        ∧ s.RegsBut t ([R.GLB_REST, R.DRM_STATUS 0, R.DRM_STATUS 1] ++ (List.range 64).map R.SHP_LOCK
            ++ (if l = [] then [] else [R.GLB_AVAIL, R.CLK_SEQ_ON, R.DRM_PC_MUZZLED 0, R.DRM_PC_MUZZLED 1] ++ (List.range 8).map R.AE_STATUS))
        ∧ s.SameMemory t)

/-- R475, R482: the isolation chain. That GO without the enable shifts nothing is the model's choice (assumption 92). R388, R389, R476: the TAP. BYPASS as all ones is presumed from IEEE 1149.1 (assumption 68). -/
def Obligations.TestPorts : Prop :=
  ((∀ (o : Origin) (v : Word) (s : State),
      (1024 < bits v.toNat 0 11 → exec (.isoGo o v) s = .next { s with resp := .badOpcode })
      ∧ (bits v.toNat 0 11 ≤ 1024 → bit v.toNat 17 = true → s.flag F.GPIO_ISO_BUSY = true →
        exec (.isoGo o v) s = .next { s with resp := .busy })
      ∧ (bits v.toNat 0 11 ≤ 1024 → (bit v.toNat 17 = false ∨ s.flag F.GPIO_ISO_BUSY = false) →
        ∃ t, exec (.isoGo o v) s = .next t ∧ t.resp = .ok ∧ t.get F.GPIO_ISO_ISO_LEN = bits v.toNat 0 11
          ∧ t.flag F.GPIO_ISO_ISO_EN = bit v.toNat 16
          ∧ t.flag F.GPIO_ISO_BUSY = (s.flag F.GPIO_ISO_BUSY || (bit v.toNat 17 && bit v.toNat 16))
          ∧ s.RegsBut t [R.GPIO_ISO] ∧ s.SameMemory t))
    ∧ (∀ s : State, s.flag F.GPIO_ISO_BUSY = false → exec .isoShiftDone s = .next s)
    ∧ (∀ s : State, s.flag F.GPIO_ISO_BUSY = true →
      ∃ t, exec .isoShiftDone s = .next t ∧ t.flag F.GPIO_ISO_BUSY = s.isoAgain ∧ t.isoAgain = false
        ∧ (∀ j, j < 1024 → bit t.isoOut j =
          (if j < s.get F.GPIO_ISO_ISO_LEN then bit (s.rd (R.GPIO_ISO_IMG (j / 32))) (j % 32) else bit s.isoOut j))
        ∧ s.RegsBut t [R.GPIO_ISO] ∧ s.SameMemory t))
    ∧ (∀ (ir : BitVec 8) (s : State),
    ((ir.toNat = tapBypass ∨ s.devState = 2 ∨ s.pwrgood = false) →
      exec (.tapUpdateIr ir) s = .next { s with tapIr := some ir.toNat })
    ∧ (ir.toNat ≠ tapBypass → s.devState ≠ 2 → s.pwrgood = true →
      ∃ t, exec (.tapUpdateIr ir) s = .next t ∧ t.tapIr = some (if tapRestricted (tapOf ir.toNat) then tapBypass else ir.toNat)
        ∧ t.flag F.MSP_TAP = ((tapRestricted (tapOf ir.toNat) && !s.grpShut 5) || s.flag F.MSP_TAP)
        ∧ s.RegsBut t [R.MSP_TAP] ∧ s.SameMemory t)
    ∧ exec .trstN s = .next { s with tapIr := none })

/-- R187, R189 to R191, R193, R197: Whistle time and synchronisation. How DELAY is rounded, and that a phase error outside its field shows a free value, are the model's choices (assumption 66). -/
def Obligations.WhistleTimeAndSync : Prop :=
  (∀ (b : Bool) (s : State), s.coreUp = false → exec (.whistleFrameStart b) s = .next s)
    ∧ (∀ (b : Bool) (s : State) (tick : Nat), s.coreUp = true → tick = max s.whNext (s.time / 256 * 256) →
      (tick % 16384 ≠ 0 → ∃ t, exec (.whistleFrameStart b) s = .next t ∧ t.time = max s.time tick ∧ t.whNext = tick + 256
        ∧ (∀ x, s.whSwap = some x → x ≤ tick → t.whSwap = none ∧ t.flag F.WH_STATUS_SWAP_PENDING = false
          ∧ ∀ i, i < 128 → t.rd (R.WH_SLOT_ACT i) = s.rd (R.WH_SLOT_SH i))
        ∧ ((s.whSwap = none ∨ ∃ x, s.whSwap = some x ∧ tick < x) → t.whSwap = s.whSwap ∧ s.RegsBut t [R.WH_STATUS])
        ∧ s.RegsBut t (R.WH_STATUS :: (List.range 128).map R.WH_SLOT_ACT) ∧ s.SameMemory t
        ∧ (s.whMaster = true → b = true → bit (max s.time tick / 16384 * 16384) (tick / 256 % 64) = false →
          t.flag F.WH_STATUS_MASTER_CONFLICT = true))
      ∧ (∀ v, tick % 16384 = 0 → s.whMaster = true → s.whSet = some v →
        ∃ t, exec (.whistleFrameStart b) s = .next t ∧ t.time = v ∧ t.whSet = none ∧ s.SameMemory t))
    ∧ (∀ (s : State), s.coreUp = true → s.whMaster = false → (s.whState = 2 ∨ s.whState = 3) →
      (∀ x l, 8000 ≤ x → x ≤ 20000 → l = (x :: s.sync.rts).take 16 →
        ∃ t, exec (.echoLaunch (some x)) s = .next t ∧ t.sync.rts = l ∧ t.sync.accepted = s.sync.accepted + 1 ∧ t.sync.misses = 0
          ∧ t.get F.WH_DELAY_DELAY = (l.foldl (· + ·) 0 - 8000 * l.length) / (2 * l.length) % 2 ^ F.WH_DELAY_DELAY.w
          ∧ s.RegsBut t [R.WH_DELAY] ∧ s.SameMemory t)
      ∧ (∀ r, (∀ x, r = some x → x < 8000 ∨ 20000 < x) →
        ∃ t, exec (.echoLaunch r) s = .next t ∧ t.sync = { s.sync with
              misses := s.sync.misses + 1
              echoOut := true }
          ∧ ((s.sync.misses + 1) % 4 = 0 → t.flag F.WH_STATUS_ECHO_MISS = true) ∧ s.RegsBut t [R.WH_STATUS] ∧ s.SameMemory t))
    ∧ (∀ (r : Option Nat) (s : State), (s.coreUp = false ∨ s.whMaster = true ∨ s.whState < 2) → exec (.echoLaunch r) s = .next s)
    ∧ (∀ s : State, s.coreUp = true → s.whMaster = true →
      exec .echoAnswer s = .next { s with sync := { s.sync with echoOut := true } })
    ∧ (∀ s : State, (s.coreUp = false ∨ s.whMaster = false) → exec .echoAnswer s = .next s)
    ∧ (∀ (e : Int) (b : Bool) (s : State), (s.coreUp = false ∨ s.whMaster = true ∨ s.whState = 0) →
      exec (.framePulseReceive e b) s = .next s)
    ∧ (∀ (e : Int) (b : Bool) (s : State), s.coreUp = true → s.whMaster = false → s.grpShut 3 = false →
      -32768 ≤ e → e ≤ 32767 →
      ((s.whState = 1 ∨ s.whState = 4) → ∃ t, exec (.framePulseReceive e b) s = .next t ∧ t.whState = 2 ∧ t.getI F.WH_DELAY_PHASE_ERR = e
        ∧ s.RegsBut t [R.WH_STATUS, R.WH_DELAY] ∧ s.SameMemory t)
      ∧ (s.whState = 2 → 16 ≤ s.sync.accepted → s.sync.timeSet = true → e.natAbs ≤ 100 →
        ∃ t, exec (.framePulseReceive e b) s = .next t ∧ t.whState = 3 ∧ t.sync.wasLocked = true ∧ t.getI F.WH_DELAY_PHASE_ERR = e
          ∧ s.RegsBut t [R.WH_STATUS, R.WH_DELAY] ∧ s.SameMemory t)
      ∧ (s.whState = 3 → 2000 < e.natAbs →
        ∃ t, exec (.framePulseReceive e b) s = .next t ∧ t.whState = 2 ∧ t.flag F.WH_STATUS_TIME_SLIP = true
          ∧ s.RegsBut t [R.WH_STATUS, R.WH_DELAY] ∧ s.SameMemory t)
      ∧ (s.whState = 3 → e.natAbs ≤ 2000 → s.time / 256 % 64 ≠ 63 →
        ∃ t, exec (.framePulseReceive e b) s = .next t ∧ t.whState = 3 ∧ t.getI F.WH_DELAY_PHASE_ERR = e
          ∧ s.RegsBut t [R.WH_DELAY] ∧ s.SameMemory t))
    ∧ (∀ s : State, s.coreUp = true → s.whMaster = false →
      (s.whState = 3 → ∃ t, exec .syncLost s = .next t ∧ t.whState = 4 ∧ t.flag F.WH_STATUS_SYNC_LOST = true
        ∧ s.RegsBut t [R.WH_STATUS] ∧ s.SameMemory t)
      ∧ (s.whState = 2 → s.sync.wasLocked = false → exec .syncLost s = .next (s.set F.WH_STATUS_STATE 1)))

/-- R191, R388, R391, R394: the Whistle clock. R189, R193, R194, R196, R198: writes of the Whistle registers. -/
def Obligations.WhistleClockAndRegisters : Prop :=
  (∀ s : State,
    (∃ t, exec .whsLost s = .next t ∧ bit (t.get F.CLK_GRP_STATUS_CLOCK_PRESENT) 3 = false ∧ bit (t.get F.CLK_GRP_STATUS_DRAINED) 3 = true
      ∧ t.flag F.CLK_STATUS_WHS_OK = false ∧ t.flag F.CLK_STATUS_TTB_FROM_ROOT = true
      ∧ s.RegsBut t [R.CLK_GRP_STATUS, R.WH_STATUS, R.CLK_STATUS] ∧ s.SameMemory t
      ∧ (s.coreUp = true → bit (s.get F.CLK_GRP_CTL_MUZZLE) 3 = false →
        t.whState = 0 ∧ t.flag F.WH_STATUS_WHS_LOST = true
        ∧ (s.flag F.WH_STATUS_WHS_LOST = false →
          t.faultIn = s.faultIn ++ [⟨0x170, cLINK, 4, s.whNode, s.time % 2 ^ 15⟩]))
      ∧ ((s.coreUp = false ∨ bit (s.get F.CLK_GRP_CTL_MUZZLE) 3 = true) →
        s.RegsBut t [R.CLK_GRP_STATUS, R.CLK_STATUS] ∧ t.faultIn = s.faultIn))
    ∧ (∃ t, exec .whClkReturn s = .next t ∧ bit (t.get F.CLK_GRP_STATUS_CLOCK_PRESENT) 3 = true
      ∧ t.flag F.CLK_STATUS_WHS_OK = true ∧ t.flag F.CLK_STATUS_TTB_FROM_ROOT = false
      ∧ s.RegsBut t [R.CLK_GRP_STATUS, R.WH_STATUS, R.CLK_STATUS] ∧ s.SameMemory t
      ∧ (s.coreUp = true → bit (s.get F.CLK_GRP_CTL_MUZZLE) 3 = false →
        (s.whState = 0 → t.whState = (if s.whMaster then 3 else 1)) ∧ (s.whState ≠ 0 → t.whState = s.whState))))
    ∧ (∀ (o : Origin) (v : Word) (s : State),
    (bit v.toNat 0 = true → s.whMaster = false → s.holdsLock 33 (originSession o) = false →
      exec (.whMasterWrite o v) s = .next { s with resp := .locked })
    ∧ (bit v.toNat 0 = true → s.whMaster = false → s.holdsLock 33 (originSession o) = true →
      ∃ t, exec (.whMasterWrite o v) s = .next t ∧ t.resp = .ok ∧ t.whMaster = true
        ∧ t.whState = (if s.whState = 0 then 0 else 3) ∧ s.RegsBut t [R.WH_CTL, R.WH_STATUS] ∧ s.SameMemory t)
    ∧ ((bit v.toNat 0 = false ∨ s.whMaster = true) →
      ∃ t, exec (.whMasterWrite o v) s = .next t ∧ t.resp = .ok ∧ t.whMaster = bit v.toNat 0
        ∧ s.RegsBut t [R.WH_CTL] ∧ s.SameMemory t)
    ∧ (s.whMaster = false → exec (.whTimeSetHi o v) s = .next { s with resp := .badState })
    ∧ (s.whMaster = true → ∃ t, exec (.whTimeSetHi o v) s = .next t ∧ t.resp = .ok ∧ t.rd R.WH_TIME_SET_HI = v.toNat
        ∧ t.whSet = some (s.rd R.WH_TIME_SET_LO + 2 ^ 32 * v.toNat) ∧ s.RegsBut t [R.WH_TIME_SET_HI] ∧ s.SameMemory t)
    ∧ (s.flag F.WH_STATUS_SWAP_PENDING = true → exec (.whSwapHi o v) s = .next { s with resp := .busy })
    ∧ (s.flag F.WH_STATUS_SWAP_PENDING = false → s.slotBad = true → exec (.whSwapHi o v) s = .next { s with resp := .badOpcode })
    ∧ (s.flag F.WH_STATUS_SWAP_PENDING = false → s.slotBad = false →
      ∃ t, exec (.whSwapHi o v) s = .next t ∧ t.resp = .ok ∧ t.flag F.WH_STATUS_SWAP_PENDING = true
        ∧ t.whSwap = some (s.rd R.WH_SWAP_LO + 2 ^ 32 * v.toNat) ∧ s.RegsBut t [R.WH_SWAP_HI, R.WH_STATUS] ∧ s.SameMemory t)
    ∧ (∃ t, exec (.whEmit o v) s = .next t ∧ t.resp = .ok
        ∧ (∀ l, l < 7 → bit t.whReq l = (bit v.toNat l || bit s.whReq l))
        ∧ s.RegsBut t ((List.range 7).map (fun l => (F.WH_MERGE_CNT l).addr)) ∧ s.SameMemory t)
    ∧ exec (.whAllstop o v) s = .next (if bit v.toNat 0 = true ∧ s.devState ≠ 3 then { s with
        wh7 := true
        wh7In := true
        resp := .ok } else { s with resp := .ok }))

/-- R194 to R196: events and ALL-STOP. That an assertion of WH7 with ALLSTOP_IN 0 only waits for its release (assumption 67), and that WHISTLE_EVENT_ACT takes the line's own event first (assumption 69), are the model's choices. -/
def Obligations.WhistleEventsAndAllstop : Prop :=
  (∀ (l : Fin 7) (s : State),
      (s.coreUp = true → bit s.whReq l = true →
        (∀ a, s.whSlot l = some a →
          ∃ t, exec (.whistleEventSend l) s = .next t ∧ bit t.whReq l = false ∧ t.whSent = s.whSent ++ [(l.val, a + 40)]
            ∧ t.time = max s.time a ∧ (∀ k, k ≠ l.val → bit t.whReq k = bit s.whReq k) ∧ t.regs = s.regs ∧ s.SameMemory t)
        ∧ (s.whSlot l = none → exec (.whistleEventSend l) s = .next s))
      ∧ ((s.coreUp = false ∨ bit s.whReq l = false) → exec (.whistleEventSend l) s = .next s)
      ∧ (∀ a, s.whSlot l = some a →
        s.slotUsable l (a / 4 % 64) = true ∧ Tab.get 0 s.whReqAt l + 4 ≤ a ∧ a % 4 = 0)
      ∧ (s.coreUp = true → (∃ t, exec (.whistleEventAct l) s = .next t
          ∧ t.get (F.WH_EVT_CNT l) = min (s.get (F.WH_EVT_CNT l) + 1) (2 ^ (F.WH_EVT_CNT l).w - 1))
        ∧ (∀ e, s.whSent.find? (fun e => e.1 == l.val) = some e →
          exec (.whistleEventAct l) s = .next (({ s with
            time := max s.time e.2
            whSent := s.whSent.erase e } : State).whAct l e.2)))
      ∧ (s.coreUp = false → exec (.whistleEventAct l) s = .next s))
    ∧ (∀ s : State, (s.wh7Armed = false ∨ s.devState = 3) → exec .allstop s = .next { s with wh7In := true })
    ∧ (∀ s : State, s.wh7Armed = true → s.devState ≠ 3 → s.flag F.WH_CTL_ALLSTOP_IN = false → exec .allstop s = .next { s with
        wh7In := true
        wh7Armed := false })
    ∧ (∀ s : State, s.wh7Armed = true → s.devState ≠ 3 → s.flag F.WH_CTL_ALLSTOP_IN = true →
        ∃ t, exec .allstop s = .next t ∧ t.wh7In = true ∧ t.wh7Armed = false ∧ 1 ≤ t.devState
          ∧ (s.flag F.HK_STATUS_TRIP = false → t.flag F.WH_STATUS_ALLSTOP_SEEN = true))
    ∧ (∀ s : State, exec .allstopRelease s = .next { s with wh7 := false })
    ∧ (∀ s : State, s.wh7 = true → exec .allstopRearm s = .next s)
    ∧ (∀ s : State, s.wh7 = false → exec .allstopRearm s = .next { s with
        wh7In := false
        wh7Armed := true })

/-- R285, R382, R391, R408, R416, R460, R461, R464 to R466: the twin. That a HEARTBEAT goes ahead of the unsent items and is not doubled (assumption 86), that a device which has heard no twin stays ALONE on silence (assumption 87), that TWIN_RESYNC with nothing to send completes at once (assumption 88), what a muzzled pseudo-channel of the mirror keeps (assumption 89), that MIRROR_READ completes INTERNAL while Shepherd is fenced (assumption 151), and that ports A and B send KEEPALIVE with the twin link (assumption 175), are the model's choices. -/
def Obligations.TwinAndMirror : Prop :=
  (∀ (k : KeepInfo) (s : State), s.devState ≠ 3 → s.grpShut 2 = false → (k.coreUp = false ∨ k.safe = true) →
      (s.get F.TWN_STATUS_STATE = 2 → exec (.keepalive k) s = .next s)
      ∧ (s.get F.TWN_STATUS_STATE ≠ 2 → exec (.keepalive k) s = .next (s.twinGone 2)))
    ∧ (∀ (k : KeepInfo) (s : State), s.devState ≠ 3 → s.grpShut 2 = false → k.coreUp = true → k.safe = false →
      ((s.get F.TWN_STATUS_STATE < 2 ∨ s.twinKnown = false) → exec (.keepalive k) s = .next s)
      ∧ (2 ≤ s.get F.TWN_STATUS_STATE → s.twinKnown = true → ∃ t, exec (.keepalive k) s = .next t ∧ t.get F.TWN_STATUS_STATE = 1
        ∧ (s.flag F.TWN_CTL_MIRROR_EN = true → ∀ i, i < 1024 → ⟨1, i, 0, false, false⟩ ∈ t.mirrorQ)
        ∧ s.RegsBut t [R.TWN_STATUS] ∧ s.SameMemory t))
    ∧ (∀ (k : KeepInfo) (s : State), s.devState = 3 → exec (.keepalive k) s = .next s ∧ exec .twinSilenceTimeout s = .next s)
    ∧ (∀ (k : KeepInfo) (s : State), s.grpShut 2 = true → exec (.keepalive k) s = .next s)
    ∧ (∀ s : State, (s.devState ≠ 3 → (s.get F.TWN_STATUS_STATE = 1 ∨ s.get F.TWN_STATUS_STATE = 2) → exec .twinSilenceTimeout s = .next (s.twinGone 3))
      ∧ ((s.get F.TWN_STATUS_STATE = 0 ∨ s.get F.TWN_STATUS_STATE = 3) → exec .twinSilenceTimeout s = .next s))
    ∧ (∀ (s : State) (n : Nat), n = 2 ∨ n = 3 →
      (s.twinGone n).get F.TWN_STATUS_STATE = n ∧ (s.twinGone n).flag F.TWN_STATUS_TWIN_LOST = true ∧ s.RegsBut (s.twinGone n) [R.TWN_STATUS]
      ∧ (s.twinGone n).mram = s.mram ∧ (s.flag F.TWN_CTL_MIRROR_EN = false → (s.twinGone n).dram = s.dram)
      ∧ (s.flag F.TWN_CTL_MIRROR_EN = true → s.mirrorBase + 32768 ≤ 2 ^ 35 →
        (∀ i, i < 1024 → (s.twinGone n).dramWord (s.mirrorBase + 32 * i) =
          (if bits (s.dramWord (s.mirrorBase + 32 * i)) 0 3 = 1 ∧ s.pcClosed (s.dramPc (s.mirrorBase + 32 * i)) = false then setBits (setBits (s.dramWord (s.mirrorBase + 32 * i)) 0 3 3) 4 4 10
            else s.dramWord (s.mirrorBase + 32 * i)))
        ∧ ∀ a, a < 2 ^ 35 → (a < s.mirrorBase ∨ s.mirrorBase + 32768 ≤ a ∨ 4 ≤ (a - s.mirrorBase) % 32) →
          (s.twinGone n).dramByte a = s.dramByte a))
    ∧ (∀ (s : State) (k : KeepInfo),
      k = ⟨s.coreUp, decide (2 ≤ s.devState), decide (s.get F.GLB_REST_STATE = 2), BitVec.ofNat 5 s.devId⟩ →
      s.vaux = true → s.pwrgood = true → (s.coreUp = true ∨ s.flag F.CLK_STATUS_REF_OK = true ∧ s.devState ≠ 3) →
      exec .twinKeepaliveSend s = .next { s with
        keepOut := some k
        keepPorts := [(0, some k), (1, some k)] })
    ∧ (∀ s : State, (s.vaux = false ∨ s.pwrgood = false ∨ s.coreUp = false ∧ (s.flag F.CLK_STATUS_REF_OK = false ∨ s.devState = 3)) →
      exec .twinKeepaliveSend s = .next s)
    ∧ (∀ s : State, s.coreUp = true → s.get F.GLB_REST_STATE ≠ 2 → s.flag F.TWN_CTL_MIRROR_EN = true → s.flag F.TWN_STATUS_LINK_UP = false →
      ((∃ m ∈ s.mirrorQ, m.item = 4 ∧ m.sent = false) → exec .heartbeat s = .next s)
      ∧ ((∀ m ∈ s.mirrorQ, m.item = 4 → m.sent = true) → ∃ t a b, exec .heartbeat s = .next t ∧ s.mirrorQ = a ++ b
        ∧ t.mirrorQ = a ++ ⟨4, 0, 0, false, false⟩ :: b ∧ (∀ m ∈ a, m.sent = true) ∧ (∀ m, b.head? = some m → m.sent = false)
        ∧ t.regs = s.regs ∧ s.SameMemory t))
    ∧ (∀ s : State, (s.coreUp = false ∨ s.get F.GLB_REST_STATE = 2 ∨ s.flag F.TWN_CTL_MIRROR_EN = false ∨ s.flag F.TWN_STATUS_LINK_UP = true) →
      exec .heartbeat s = .next s)
    ∧ (∀ (h : CmdHdr) (pl : List Word) (s : State), s.Admits 0x85 h pl →
      (s.flag F.TWN_CTL_MIRROR_EN = false → ∃ t, exec (.mirrorRead h pl) s = .next t ∧ t.Answers h .badState 0 [] ∧ t.regs = (s.homed h).regs ∧ s.SameMemory t)
      ∧ (s.flag F.TWN_CTL_MIRROR_EN = true →
        (s.touchesMuzzledPc (s.mirrorBase + 32 * word pl 0) (32 * word pl 1) = true →
          ∃ t, exec (.mirrorRead h pl) s = .next t ∧ t.Answers h .muzzled 0 [] ∧ t.regs = (s.homed h).regs ∧ s.SameMemory t)
        ∧ (s.touchesMuzzledPc (s.mirrorBase + 32 * word pl 0) (32 * word pl 1) = false → bit s.fences 40 = true →
          ∃ t, exec (.mirrorRead h pl) s = .next t ∧ t.Answers h .internal 0 [] ∧ t.regs = (s.homed h).regs ∧ s.SameMemory t)
        ∧ (s.touchesMuzzledPc (s.mirrorBase + 32 * word pl 0) (32 * word pl 1) = false → bit s.fences 40 = false → s.frozen = false →
          ∃ t, exec (.mirrorRead h pl) s = .next t
            ∧ t.Answers h .ok 0 (s.dramWords (s.mirrorBase + 32 * word pl 0) (8 * word pl 1)) ∧ t.regs = (s.homed h).regs ∧ s.SameMemory t)))
    ∧ (∀ (h : CmdHdr) (pl : List Word) (s : State), s.Admits 0x86 h pl →
      (s.get F.TWN_STATUS_STATE ≠ 1 → ∃ t, exec (.twinResync h pl) s = .next t ∧ t.Answers h .badState 0 [] ∧ t.regs = (s.homed h).regs ∧ s.SameMemory t)
      ∧ (s.get F.TWN_STATUS_STATE = 1 → s.flag F.TWN_CTL_MIRROR_EN = true →
        ∃ t, exec (.twinResync h pl) s = .next t ∧ (∀ i, i < 1024 → ⟨1, i, 0, false, false⟩ ∈ t.mirrorQ)
          ∧ t.resyncs = s.resyncs ++ [(h, t.mirrorQ.length)] ∧ t.regs = (s.homed h).regs ∧ s.SameMemory t)
      ∧ (s.get F.TWN_STATUS_STATE = 1 → s.flag F.TWN_CTL_MIRROR_EN = false → s.mirrorQ = [] →
        ∃ t, exec (.twinResync h pl) s = .next t ∧ t.Answers h .ok 0 [] ∧ t.regs = (s.homed h).regs ∧ s.SameMemory t))

/-- R390, R391, R468 to R473, R477: the management serial port. That a frame with a wrong CRC is counted on any of the six rows (assumption 118), and that a frame held by its group is answered as a bad one (assumption 187), are the model's choices. -/
def Obligations.ManagementPort : Prop :=
  (∀ (m : MspFrame) (s : State), s.vaux = true → m.overtaken = false → ∀ f, f = mspTaken m →
      (∀ a, s.MspGood 0 f → mspWindow (mspAddr f) = some a →
        ∃ t, exec (.mspRead m) s = .next t ∧ s.MspReplies t f ((s.mspRef f).mspGet a).1
          ∧ t.regs = ((s.mspRef f).mspGet a).2.regs ∧ s.SameMemory t)
      ∧ (∀ (a : Nat) (r : RegRow), s.MspGood 1 f → mspWindow (mspAddr f) = some a → blockOf a = some (.device 2) → rowAt a = some r →
        s.coreUp = true →
        ∃ t, exec (.mspWrite m) s = .next t ∧ t.rd a = r.store (mspData f) (s.rd a) % 2 ^ 32
          ∧ s.MspReplies t f (t.rd a) ∧ s.RegsBut t [a, R.MSP_ALIVE] ∧ s.SameMemory t)
      ∧ (s.MspGood 2 f →
        ∃ t l, exec (.mspSafe m) s = .next t ∧ 2 ≤ t.devState ∧ mspAddr t.mspReply = mspAddr f
          ∧ ∃ x, t.faultIn = l ++ [x] ∧ x.src = 0x183 ∧ x.cls = cPROTOCOL ∧ x.kind = 2)
      ∧ (s.MspGood 3 f →
        ∃ t, exec (.indAddr m) s = .next t ∧ t.rd R.MSP_IND_ADDR = mspData f ∧ s.MspReplies t f 0
          ∧ t.mspSdo = (min m.length 80, s.mspReply / 2 ^ (80 - min m.length 80))
          ∧ s.RegsBut t [R.MSP_IND_ADDR, R.MSP_ALIVE] ∧ s.SameMemory t)
      ∧ (s.coreUp = true → s.flag F.SHP_STATUS_IMAGE_OK = true →
        (s.MspGood 4 f → ∃ t, exec (.indRead m) s = .next t ∧ t.mspInd = some (false, s.rd R.MSP_IND_ADDR, 0)
          ∧ t.flag F.MSP_IND_STATUS_BUSY = true ∧ s.MspReplies t f 0 ∧ s.RegsBut t [R.MSP_IND_STATUS, R.MSP_ALIVE] ∧ s.SameMemory t)
        ∧ (s.MspGood 5 f → ∃ t, exec (.indWrite m) s = .next t ∧ t.mspInd = some (true, s.rd R.MSP_IND_ADDR, mspData f)
          ∧ t.flag F.MSP_IND_STATUS_BUSY = true ∧ s.MspReplies t f 0 ∧ s.RegsBut t [R.MSP_IND_STATUS, R.MSP_ALIVE] ∧ s.SameMemory t))
      ∧ (s.coreUp = false →
        (s.MspGood 4 f → ∃ t, exec (.indRead m) s = .next t ∧ t.get F.MSP_IND_STATUS_CODE = Status.badState.code
          ∧ t.flag F.MSP_IND_STATUS_DONE = true ∧ t.flag F.MSP_IND_STATUS_BUSY = false)
        ∧ (s.MspGood 5 f → ∃ t, exec (.indWrite m) s = .next t ∧ t.get F.MSP_IND_STATUS_CODE = Status.badState.code
          ∧ t.flag F.MSP_IND_STATUS_DONE = true ∧ t.flag F.MSP_IND_STATUS_BUSY = false)))
    ∧ (∀ s : State, s.mspInd = none → exec .mspIndDone s = .next s)
    ∧ (∀ (s : State) (w : Bool) (a d : Nat), s.mspInd = some (w, a, d) → s.coreUp = true →
      s.gate (if w then 1 else 0) [BitVec.ofNat 32 a] = none →
      (addressBad a = true → ∃ t, exec .mspIndDone s = .next t ∧ t.get F.MSP_IND_STATUS_CODE = Status.badAddress.code ∧ t.mspInd = none
        ∧ t.flag F.MSP_IND_STATUS_BUSY = false ∧ t.flag F.MSP_IND_STATUS_DONE = true ∧ s.RegsBut t [R.MSP_IND_STATUS] ∧ s.SameMemory t)
      ∧ (w = false → blockOf a = some (.device 2) → (rowAt a).isSome = true → addressBad a = false → Tab.get none s.latches 0 = none →
        ∃ t, exec .mspIndDone s = .next t ∧ t.rd R.MSP_IND_DATA = s.rd a ∧ t.mspInd = none
          ∧ t.flag F.MSP_IND_STATUS_BUSY = false ∧ t.flag F.MSP_IND_STATUS_DONE = true
          ∧ s.RegsBut t [R.MSP_IND_STATUS, R.MSP_IND_DATA] ∧ s.SameMemory t))
    ∧ (∀ (m : MspFrame) (s : State) (f : Nat), f = mspTaken m → ∀ (c : Nat) (i : Instr),
      (c, i) ∈ [(0, Instr.mspRead m), (1, .mspWrite m), (2, .mspSafe m), (3, .indAddr m), (4, .indRead m), (5, .indWrite m)] →
      (s.vaux = false → exec i s = .next s)
      ∧ (s.vaux = true → (crc16 f ≠ f % 2 ^ 16 ∨ (m.overtaken = true ∨ s.grpShut 4 = true) ∧ (mspCmd f = c ∨ 5 < mspCmd f)) →
        ∃ t, exec i s = .next t ∧ t.flag F.MSP_ALIVE_BAD_FRAME = true
          ∧ t.mspSdo = (min m.length 80, s.mspReply / 2 ^ (80 - min m.length 80))
          ∧ t.get F.MSP_ALIVE_MSP_BAD_CNT = min (s.get F.MSP_ALIVE_MSP_BAD_CNT + 1) (2 ^ F.MSP_ALIVE_MSP_BAD_CNT.w - 1)
          ∧ s.RegsBut t [R.MSP_ALIVE] ∧ s.SameMemory t))

/-- R42: writes of PK_PSMMAP. -/
def Obligations.PsmMapWrites : Prop :=
  ∀ (o : Origin) (p : Fin 16) (n : Fin 6) (v : Word) (s : State), s.coreUp = true → s.packMuzzled p = false →
    (bit v.toNat 31 = true → bits v.toNat 10 10 < bits v.toNat 0 10 →
      exec (.plainRegisterWrite o (BitVec.ofNat 32 (R.PK_PSMMAP p n)) v) s = .next { s with resp := .badOpcode })
    ∧ ((bit v.toNat 31 = false ∨ bits v.toNat 0 10 ≤ bits v.toNat 10 10) →
      ∃ t, exec (.plainRegisterWrite o (BitVec.ofNat 32 (R.PK_PSMMAP p n)) v) s = .next t ∧ t.resp = .ok
        ∧ t.rd (R.PK_PSMMAP p n) = bits v.toNat 0 20 + bits v.toNat 31 1 * 2 ^ 31 + bits (s.rd (R.PK_PSMMAP p n)) 20 11 * 2 ^ 20
        ∧ s.RegsBut t [R.PK_PSMMAP p n] ∧ s.SameMemory t
        ∧ ∀ i, i ∈ t.sitesOfPsm (6 * p + n) ↔ (bit v.toNat 31 = true ∧ bits v.toNat 0 10 ≤ i ∧ i ≤ bits v.toNat 10 10))

/-- R396: the class codes. -/
def Obligations.MessageClasses : Prop :=
  (cTIMING = 0 ∧ cDATA = 1 ∧ cANALOG = 2 ∧ cTHERMAL = 3 ∧ cLINK = 4 ∧ cMEMORY = 5 ∧ cPROTOCOL = 6 ∧ cWATCHDOG = 7)
    ∧ (∀ m : FaultMsg, bits m.word 9 8 = m.kind % 2 ^ 5 + m.cls % 2 ^ 3 * 2 ^ 5)
    ∧ ∀ m : FaultMsg, m.cls = cANALOG → m.kind = 0x01 → bits m.word 9 8 = 0x41
end

