-- ==== Sys2Proof/Laws/Tab.lean ====
section
/-! SUPPORT. The laws of tables and byte memories: a read after a write, and the canonical form. -/

namespace Sys2Proof.Machine

@[simp] theorem Tab.get_nil {α : Type} (d : α) (a : Nat) : Tab.get d [] a = d := rfl

theorem Tab.get_insert_same {α : Type} (d : α) (t : Tab α) (a : Nat) (v : α) : Tab.get d (Tab.insert t a v) a = v := by
  induction t with
  | nil => simp [Tab.insert, Tab.get]
  | cons e t ih =>
    obtain ⟨k, w⟩ := e
    rw [Tab.insert]
    split
    · simp [Tab.get]
    · split
      · next h => simp [Tab.get, h]
      · next h => simp [Tab.get, h, ih]

theorem Tab.get_insert_other {α : Type} (d : α) (t : Tab α) (a b : Nat) (v : α) (h : b ≠ a) :
    Tab.get d (Tab.insert t a v) b = Tab.get d t b := by
  induction t with
  | nil => simp [Tab.insert, Tab.get, h]
  | cons e t ih =>
    obtain ⟨k, w⟩ := e
    rw [Tab.insert]
    split
    · simp [Tab.get, h]
    · split
      · next hk => subst hk; simp [Tab.get, h]
      · by_cases hb : b = k <;> simp [Tab.get, hb, ih]

theorem Tab.get_filter_same {α : Type} (d : α) (t : Tab α) (a : Nat) : Tab.get d (t.filter (fun e => e.1 != a)) a = d := by
  induction t with
  | nil => rfl
  | cons e t ih =>
    obtain ⟨k, w⟩ := e
    by_cases h : k = a
    · simp [h, ih]
    · have : a ≠ k := fun e => h e.symm
      simp [h, Tab.get, this, ih]

theorem Tab.get_filter_other {α : Type} (d : α) (t : Tab α) (a b : Nat) (h : b ≠ a) :
    Tab.get d (t.filter (fun e => e.1 != a)) b = Tab.get d t b := by
  induction t with
  | nil => rfl
  | cons e t ih =>
    obtain ⟨k, w⟩ := e
    by_cases hk : k = a
    · have : b ≠ k := fun e => h (e.trans hk)
      simp [hk, ih, Tab.get, h]
    · simp [hk, Tab.get, ih]

/-- A read of the key written gives the value written. -/
@[simp] theorem Tab.get_put_same {α : Type} [DecidableEq α] (d : α) (t : Tab α) (a : Nat) (v : α) :
    Tab.get d (Tab.put d t a v) a = v := by
  unfold Tab.put
  split
  · next h => rw [Tab.get_filter_same, h]
  · exact Tab.get_insert_same d t a v

/-- A write leaves every other key alone, whatever that key reads unlisted. -/
theorem Tab.get_put_other' {α : Type} [DecidableEq α] (d x : α) (t : Tab α) (a b : Nat) (v : α) (h : b ≠ a) :
    Tab.get x (Tab.put d t a v) b = Tab.get x t b := by
  unfold Tab.put
  split
  · exact Tab.get_filter_other x t a b h
  · exact Tab.get_insert_other x t a b v h

/-- A write leaves every other key alone. -/
@[simp] theorem Tab.get_put_other {α : Type} [DecidableEq α] (d : α) (t : Tab α) (a b : Nat) (v : α) (h : b ≠ a) :
    Tab.get d (Tab.put d t a v) b = Tab.get d t b := Tab.get_put_other' d d t a b v h

/-- The form in terms of list predicates: keys strictly rising, no entry equal to what its key reads unlisted. -/
theorem Tab.wf_iff {α : Type} [DecidableEq α] (d : Nat → α) (t : Tab α) :
    Tab.wf d t = true ↔ t.Pairwise (fun x y => x.1 < y.1) ∧ ∀ e ∈ t, e.2 ≠ d e.1 := by
  induction t with
  | nil => simp [Tab.wf]
  | cons e t ih =>
    obtain ⟨k, v⟩ := e
    cases t with
    | nil => simp [Tab.wf]
    | cons e' t =>
      obtain ⟨k', v'⟩ := e'
      rw [Tab.wf, Bool.and_eq_true, Bool.and_eq_true, decide_eq_true_eq, decide_eq_true_eq, ih]
      constructor
      · rintro ⟨⟨hv, hk⟩, hp, ha⟩
        refine ⟨List.pairwise_cons.2 ⟨?_, hp⟩, ?_⟩
        · intro x hx
          rcases List.mem_cons.1 hx with rfl | hx
          · exact hk
          · exact Nat.lt_trans hk ((List.pairwise_cons.1 hp).1 x hx)
        · intro x hx
          rcases List.mem_cons.1 hx with rfl | hx
          · exact hv
          · exact ha x hx
      · rintro ⟨hp, ha⟩
        have hp' := List.pairwise_cons.1 hp
        exact ⟨⟨ha (k, v) (by simp), hp'.1 (k', v') (by simp)⟩, hp'.2, fun x hx => ha x (by simp [hx])⟩

theorem Tab.mem_insert {α : Type} (t : Tab α) (a : Nat) (v : α) (e : Nat × α)
    (h : e ∈ Tab.insert t a v) : e ∈ t ∨ e = (a, v) := by
  induction t with
  | nil => exact .inr (by simpa [Tab.insert] using h)
  | cons x t ih =>
    obtain ⟨k, w⟩ := x
    rw [Tab.insert] at h
    split at h
    · rcases List.mem_cons.1 h with rfl | h
      · exact .inr rfl
      · exact .inl h
    · split at h
      · next hk =>
        rcases List.mem_cons.1 h with rfl | h
        · exact .inr (by rw [hk])
        · exact .inl (by simp [h])
      · rcases List.mem_cons.1 h with rfl | h
        · exact .inl (by simp)
        · rcases ih h with h | h
          · exact .inl (by simp [h])
          · exact .inr h

/-- Every entry of a table after a write is an old one or the one written. -/
theorem Tab.mem_put {α : Type} [DecidableEq α] (d : α) (t : Tab α) (a : Nat) (v : α) (e : Nat × α)
    (h : e ∈ Tab.put d t a v) : e ∈ t ∨ (e = (a, v) ∧ v ≠ d) := by
  unfold Tab.put at h
  split at h
  · exact .inl (List.mem_filter.1 h).1
  · next hv =>
    rcases Tab.mem_insert t a v e h with h | h
    · exact .inl h
    · exact .inr ⟨h, hv⟩

theorem Tab.insert_pairwise {α : Type} (t : Tab α) (a : Nat) (v : α)
    (hs : t.Pairwise (fun x y => x.1 < y.1)) : (Tab.insert t a v).Pairwise (fun x y => x.1 < y.1) := by
  induction t with
  | nil => simp [Tab.insert]
  | cons e t ih =>
    obtain ⟨k, w⟩ := e
    have hp := List.pairwise_cons.1 hs
    rw [Tab.insert]
    split
    · next hk =>
      refine List.pairwise_cons.2 ⟨?_, hs⟩
      intro x hx
      rcases List.mem_cons.1 hx with rfl | hx
      · exact hk
      · exact Nat.lt_trans hk (hp.1 x hx)
    · next hk =>
      split
      · exact List.pairwise_cons.2 ⟨hp.1, hp.2⟩
      · next hne =>
        refine List.pairwise_cons.2 ⟨?_, ih hp.2⟩
        intro x hx
        rcases Tab.mem_insert t a v x hx with hx | rfl
        · exact hp.1 x hx
        · simp only; omega

/-- A write keeps the keys strictly rising. -/
theorem Tab.put_pairwise {α : Type} [DecidableEq α] (d : α) (t : Tab α) (a : Nat) (v : α)
    (hs : t.Pairwise (fun x y => x.1 < y.1)) : (Tab.put d t a v).Pairwise (fun x y => x.1 < y.1) := by
  unfold Tab.put
  split
  · exact hs.sublist List.filter_sublist
  · exact Tab.insert_pairwise t a v hs

/-- A write whose default is what its key reads unlisted keeps the canonical form. -/
theorem Tab.put_wf {α : Type} [DecidableEq α] (d : Nat → α) (t : Tab α) (a : Nat) (v : α)
    (h : Tab.wf d t = true) : Tab.wf d (Tab.put (d a) t a v) = true := by
  obtain ⟨hp, ha⟩ := (Tab.wf_iff d t).1 h
  refine (Tab.wf_iff d _).2 ⟨Tab.put_pairwise _ t a v hp, ?_⟩
  intro e he
  rcases Tab.mem_put _ t a v e he with he | ⟨rfl, hv⟩
  · exact ha e he
  · exact hv

/-- A part of a canonical table is canonical. -/
theorem Tab.filter_wf {α : Type} [DecidableEq α] (d : Nat → α) (t : Tab α) (p : Nat × α → Bool)
    (h : Tab.wf d t = true) : Tab.wf d (t.filter p) = true := by
  obtain ⟨hp, ha⟩ := (Tab.wf_iff d t).1 h
  exact (Tab.wf_iff d _).2 ⟨hp.sublist List.filter_sublist, fun e he => ha e (List.mem_filter.1 he).1⟩

/-- A map of entries that keeps keys and drops what reads as unlisted keeps the canonical form. -/
theorem Tab.filterMap_wf {α : Type} [DecidableEq α] (d : Nat → α) (t : Tab α) (f : Nat × α → Option (Nat × α))
    (hf : ∀ e x, e.2 ≠ d e.1 → f e = some x → x.1 = e.1 ∧ x.2 ≠ d x.1)
    (h : Tab.wf d t = true) : Tab.wf d (t.filterMap f) = true := by
  obtain ⟨hp, ha⟩ := (Tab.wf_iff d t).1 h
  refine (Tab.wf_iff d _).2 ⟨?_, ?_⟩
  · rw [List.pairwise_filterMap]
    refine hp.imp_of_mem ?_
    intro x y hx hy hxy b hb c hc
    rw [(hf x b (ha x hx) hb).1, (hf y c (ha y hy) hc).1]
    exact hxy
  · intro e he
    obtain ⟨x, hx, hfx⟩ := List.mem_filterMap.1 he
    exact (hf x e (ha x hx) hfx).2

/-- A write of one byte keeps the canonical form. -/
theorem Memory.put_wf (m : Memory) (a : Nat) (b : Byte) (h : Memory.wf m = true) : Memory.wf (Memory.put m a b) = true :=
  Tab.put_wf (fun _ => (0#8 : Byte)) m a b h

/-- A write of bytes keeps the canonical form. -/
theorem Memory.putBytes_wf (m : Memory) (a : Nat) (bs : List Byte) (h : Memory.wf m = true) :
    Memory.wf (Memory.putBytes m a bs) = true := by
  induction bs generalizing m a with
  | nil => exact h
  | cons b bs ih => exact ih _ _ (Memory.put_wf m a b h)

/-- A write of a number keeps the canonical form. -/
theorem Memory.putNat_wf (m : Memory) (a n v : Nat) (h : Memory.wf m = true) : Memory.wf (Memory.putNat m a n v) = true :=
  Memory.putBytes_wf m a _ h

/-- The byte written is read back. -/
theorem Memory.get_put_same (m : Memory) (a : Nat) (b : Byte) : Memory.get (Memory.put m a b) a = b :=
  Tab.get_put_same 0#8 m a b

/-- A write leaves every other byte alone. -/
theorem Memory.get_put_other (m : Memory) (a x : Nat) (b : Byte) (hx : x ≠ a) :
    Memory.get (Memory.put m a b) x = Memory.get m x :=
  Tab.get_put_other 0#8 m a x b hx

end Sys2Proof.Machine
end

