-- ==== Sys2Proof/Laws/State.lean ====
section
/-! SUPPORT. What a register access, a field update and a fault message do to each part of the state: one lemma per
field of State and update, true by rfl, and the laws of reading a word or a field after a write. -/

namespace Sys2Proof.Machine

/-! ## Bit fields -/

theorem setBits_lo (x lo w v : Nat) : setBits x lo w v % 2 ^ lo = x % 2 ^ lo := by
  unfold setBits
  rw [Nat.pow_add, Nat.mul_comm (2 ^ lo) (2 ^ w), ← Nat.mul_assoc, Nat.add_mul_mod_self_right, Nat.add_mul_mod_self_right]
  exact Nat.mod_eq_of_lt (Nat.mod_lt _ (Nat.two_pow_pos lo))

theorem setBits_div (x lo w v : Nat) : setBits x lo w v / 2 ^ lo = v % 2 ^ w + x / 2 ^ (lo + w) * 2 ^ w := by
  unfold setBits
  rw [show x % 2 ^ lo + v % 2 ^ w * 2 ^ lo + x / 2 ^ (lo + w) * 2 ^ (lo + w)
      = x % 2 ^ lo + (v % 2 ^ w + x / 2 ^ (lo + w) * 2 ^ w) * 2 ^ lo by
    rw [Nat.add_mul, Nat.mul_assoc, ← Nat.pow_add, Nat.add_comm w lo, Nat.add_assoc]]
  rw [Nat.add_mul_div_right _ _ (Nat.two_pow_pos lo), Nat.div_eq_of_lt (Nat.mod_lt _ (Nat.two_pow_pos lo)), Nat.zero_add]

/-- The field written reads as the value written, cut to its width. -/
theorem bits_setBits_same (x lo w v : Nat) : bits (setBits x lo w v) lo w = v % 2 ^ w := by
  unfold bits
  rw [setBits_div, Nat.add_mul_mod_self_right, Nat.mod_mod]

theorem setBits_high (x lo w v : Nat) : setBits x lo w v / 2 ^ (lo + w) = x / 2 ^ (lo + w) := by
  rw [Nat.pow_add, ← Nat.div_div_eq_div_mul, setBits_div, ← Nat.pow_add,
    Nat.add_mul_div_right _ _ (Nat.two_pow_pos w), Nat.div_eq_of_lt (Nat.mod_lt _ (Nat.two_pow_pos w)), Nat.zero_add]

/-- A field that lies above or below the one written is unchanged. -/
theorem bits_setBits_other (x lo w v lo' w' : Nat) (h : lo' + w' ≤ lo ∨ lo + w ≤ lo') :
    bits (setBits x lo w v) lo' w' = bits x lo' w' := by
  unfold bits
  rcases h with h | h
  · obtain ⟨k, rfl⟩ := Nat.exists_eq_add_of_le h
    rw [← Nat.mod_mul_right_div_self, ← Nat.mod_mul_right_div_self, ← Nat.pow_add,
      ← Nat.mod_mod_of_dvd (setBits x (lo' + w' + k) w v) (Nat.pow_dvd_pow 2 (Nat.le_add_right (lo' + w') k)),
      setBits_lo, Nat.mod_mod_of_dvd _ (Nat.pow_dvd_pow 2 (Nat.le_add_right (lo' + w') k))]
  · obtain ⟨k, rfl⟩ := Nat.exists_eq_add_of_le h
    rw [Nat.pow_add, ← Nat.div_div_eq_div_mul, ← Nat.div_div_eq_div_mul, setBits_high]

theorem setBits_lt (x lo w v : Nat) (hx : x < 2 ^ 32) (h : lo + w ≤ 32) : setBits x lo w v < 2 ^ 32 := by
  have e : setBits x lo w v = setBits x lo w v % 2 ^ (lo + w) + 2 ^ (lo + w) * (x / 2 ^ (lo + w)) := by
    rw [← setBits_high x lo w v]; exact (Nat.mod_add_div _ _).symm
  obtain ⟨k, hk⟩ := Nat.exists_eq_add_of_le h
  have l := Nat.mod_lt (setBits x lo w v) (Nat.two_pow_pos (lo + w))
  have d : x / 2 ^ (lo + w) < 2 ^ k := by
    rw [Nat.div_lt_iff_lt_mul (Nat.two_pow_pos _), ← Nat.pow_add, Nat.add_comm k, ← hk]; exact hx
  have m : 2 ^ (lo + w) * (x / 2 ^ (lo + w) + 1) ≤ 2 ^ (lo + w) * 2 ^ k := Nat.mul_le_mul_left _ d
  rw [← Nat.pow_add, ← hk, Nat.mul_add, Nat.mul_one] at m
  omega

/-! ## Words and fields of the register map -/

theorem State.rd_lt (s : State) (a : Nat) : s.rd a < 2 ^ 32 := (Tab.get (coldWord a) s.regs a).isLt

@[simp] theorem State.rd_wr_same (s : State) (a v : Nat) : (s.wr a v).rd a = v % 2 ^ 32 := by
  unfold State.rd State.wr; rw [Tab.get_put_same]; simp

theorem State.rd_wr_other (s : State) (a b v : Nat) (h : b ≠ a) : (s.wr a v).rd b = s.rd b := by
  unfold State.rd State.wr
  dsimp only
  by_cases hd : coldWord b = coldWord a
  · rw [hd, Tab.get_put_other _ _ _ _ _ h]
  · exact congrArg BitVec.toNat (Tab.get_put_other' _ _ _ _ _ _ h)

/-- The word a field update leaves. -/
theorem State.rd_set_same (s : State) (r : Ref) (v : Nat) (h : r.lo + r.w ≤ 32) :
    (s.set r v).rd r.addr = setBits (s.rd r.addr) r.lo r.w v := by
  unfold State.set
  rw [State.rd_wr_same, Nat.mod_eq_of_lt (setBits_lt _ _ _ _ (s.rd_lt _) h)]

theorem State.rd_set_other (s : State) (r : Ref) (v a : Nat) (h : a ≠ r.addr) : (s.set r v).rd a = s.rd a :=
  State.rd_wr_other _ _ _ _ h

/-- A field reads as it was set, cut to its width. -/
theorem State.get_set_same (s : State) (r : Ref) (v : Nat) (h : r.lo + r.w ≤ 32) : (s.set r v).get r = v % 2 ^ r.w := by
  unfold State.get
  rw [State.rd_set_same _ _ _ h, bits_setBits_same]

/-- A field of another word is unchanged. -/
theorem State.get_set_other (s : State) (r x : Ref) (v : Nat) (h : x.addr ≠ r.addr) : (s.set r v).get x = s.get x := by
  unfold State.get
  rw [State.rd_set_other _ _ _ _ h]

/-- A field beside the one set is unchanged. -/
theorem State.get_set_beside (s : State) (r x : Ref) (v : Nat) (h : r.lo + r.w ≤ 32)
    (hx : x.lo + x.w ≤ r.lo ∨ r.lo + r.w ≤ x.lo) : (s.set r v).get x = s.get x := by
  by_cases e : x.addr = r.addr
  · unfold State.get
    rw [e, State.rd_set_same _ _ _ h, bits_setBits_other _ _ _ _ _ _ hx]
  · exact State.get_set_other _ _ _ _ e

/-! ## What each update leaves alone -/

@[simp] theorem State.wr_pending (s : State) (a v : Nat) : (s.wr a v).pending = s.pending := rfl
@[simp] theorem State.wr_dram (s : State) (a v : Nat) : (s.wr a v).dram = s.dram := rfl
@[simp] theorem State.wr_mram (s : State) (a v : Nat) : (s.wr a v).mram = s.mram := rfl
@[simp] theorem State.wr_time (s : State) (a v : Nat) : (s.wr a v).time = s.time := rfl
@[simp] theorem State.wr_free (s : State) (a v : Nat) : (s.wr a v).free = s.free := rfl
@[simp] theorem State.wr_resp (s : State) (a v : Nat) : (s.wr a v).resp = s.resp := rfl
@[simp] theorem State.wr_respData (s : State) (a v : Nat) : (s.wr a v).respData = s.respData := rfl
@[simp] theorem State.wr_latches (s : State) (a v : Nat) : (s.wr a v).latches = s.latches := rfl
@[simp] theorem State.wr_muzzles (s : State) (a v : Nat) : (s.wr a v).muzzles = s.muzzles := rfl
@[simp] theorem State.wr_faultIn (s : State) (a v : Nat) : (s.wr a v).faultIn = s.faultIn := rfl
@[simp] theorem State.wr_fltPend (s : State) (a v : Nat) : (s.wr a v).fltPend = s.fltPend := rfl
@[simp] theorem State.wr_condCauses (s : State) (a v : Nat) : (s.wr a v).condCauses = s.condCauses := rfl
@[simp] theorem State.wr_inflight (s : State) (a v : Nat) : (s.wr a v).inflight = s.inflight := rfl
@[simp] theorem State.wr_replies (s : State) (a v : Nat) : (s.wr a v).replies = s.replies := rfl
@[simp] theorem State.wr_events (s : State) (a v : Nat) : (s.wr a v).events = s.events := rfl
@[simp] theorem State.wr_evtSeq (s : State) (a v : Nat) : (s.wr a v).evtSeq = s.evtSeq := rfl
@[simp] theorem State.wr_evtLost (s : State) (a v : Nat) : (s.wr a v).evtLost = s.evtLost := rfl
@[simp] theorem State.wr_coreUp (s : State) (a v : Nat) : (s.wr a v).coreUp = s.coreUp := rfl
@[simp] theorem State.wr_chans (s : State) (a v : Nat) : (s.wr a v).chans = s.chans := rfl
@[simp] theorem State.wr_apgs (s : State) (a v : Nat) : (s.wr a v).apgs = s.apgs := rfl
@[simp] theorem State.wr_calAges (s : State) (a v : Nat) : (s.wr a v).calAges = s.calAges := rfl
@[simp] theorem State.wr_gradHist (s : State) (a v : Nat) : (s.wr a v).gradHist = s.gradHist := rfl
@[simp] theorem State.wr_startHeld (s : State) (a v : Nat) : (s.wr a v).startHeld = s.startHeld := rfl
@[simp] theorem State.wr_mspSdo (s : State) (a v : Nat) : (s.wr a v).mspSdo = s.mspSdo := rfl
@[simp] theorem State.wr_strobeAt (s : State) (a v : Nat) : (s.wr a v).strobeAt = s.strobeAt := rfl
@[simp] theorem State.wr_twinPeer (s : State) (a v : Nat) : (s.wr a v).twinPeer = s.twinPeer := rfl
@[simp] theorem State.wr_twinOut (s : State) (a v : Nat) : (s.wr a v).twinOut = s.twinOut := rfl
@[simp] theorem State.wr_keepPorts (s : State) (a v : Nat) : (s.wr a v).keepPorts = s.keepPorts := rfl
@[simp] theorem State.wr_ends (s : State) (a v : Nat) : (s.wr a v).ends = s.ends := rfl
@[simp] theorem State.wr_chains (s : State) (a v : Nat) : (s.wr a v).chains = s.chains := rfl
@[simp] theorem State.wr_siteWork (s : State) (a v : Nat) : (s.wr a v).siteWork = s.siteWork := rfl
@[simp] theorem State.wr_parked (s : State) (a v : Nat) : (s.wr a v).parked = s.parked := rfl
@[simp] theorem State.wr_classSwap (s : State) (a v : Nat) : (s.wr a v).classSwap = s.classSwap := rfl
@[simp] theorem State.wr_mpaWait (s : State) (a v : Nat) : (s.wr a v).mpaWait = s.mpaWait := rfl
@[simp] theorem State.wr_laneKept (s : State) (a v : Nat) : (s.wr a v).laneKept = s.laneKept := rfl
@[simp] theorem State.wr_ueCount (s : State) (a v : Nat) : (s.wr a v).ueCount = s.ueCount := rfl
@[simp] theorem State.wr_runSerial (s : State) (a v : Nat) : (s.wr a v).runSerial = s.runSerial := rfl
@[simp] theorem State.wr_routine (s : State) (a v : Nat) : (s.wr a v).routine = s.routine := rfl
@[simp] theorem State.wr_leashFrozen (s : State) (a v : Nat) : (s.wr a v).leashFrozen = s.leashFrozen := rfl
@[simp] theorem State.wr_isoOut (s : State) (a v : Nat) : (s.wr a v).isoOut = s.isoOut := rfl
@[simp] theorem State.wr_isoAgain (s : State) (a v : Nat) : (s.wr a v).isoAgain = s.isoAgain := rfl
@[simp] theorem State.wr_runs (s : State) (a v : Nat) : (s.wr a v).runs = s.runs := rfl
@[simp] theorem State.wr_lockRun (s : State) (a v : Nat) : (s.wr a v).lockRun = s.lockRun := rfl
@[simp] theorem State.wr_leashLen (s : State) (a v : Nat) : (s.wr a v).leashLen = s.leashLen := rfl
@[simp] theorem State.wr_lastFlow (s : State) (a v : Nat) : (s.wr a v).lastFlow = s.lastFlow := rfl
@[simp] theorem State.wr_slots (s : State) (a v : Nat) : (s.wr a v).slots = s.slots := rfl
@[simp] theorem State.wr_marks (s : State) (a v : Nat) : (s.wr a v).marks = s.marks := rfl
@[simp] theorem State.wr_siteStops (s : State) (a v : Nat) : (s.wr a v).siteStops = s.siteStops := rfl
@[simp] theorem State.wr_ckptDue (s : State) (a v : Nat) : (s.wr a v).ckptDue = s.ckptDue := rfl
@[simp] theorem State.wr_ctxChanged (s : State) (a v : Nat) : (s.wr a v).ctxChanged = s.ctxChanged := rfl
@[simp] theorem State.wr_mirrorQ (s : State) (a v : Nat) : (s.wr a v).mirrorQ = s.mirrorQ := rfl
@[simp] theorem State.wr_caps (s : State) (a v : Nat) : (s.wr a v).caps = s.caps := rfl
@[simp] theorem State.wr_seqs (s : State) (a v : Nat) : (s.wr a v).seqs = s.seqs := rfl
@[simp] theorem State.wr_groups (s : State) (a v : Nat) : (s.wr a v).groups = s.groups := rfl
@[simp] theorem State.wr_pauses (s : State) (a v : Nat) : (s.wr a v).pauses = s.pauses := rfl
@[simp] theorem State.wr_jumpCmds (s : State) (a v : Nat) : (s.wr a v).jumpCmds = s.jumpCmds := rfl
@[simp] theorem State.wr_tsetSwaps (s : State) (a v : Nat) : (s.wr a v).tsetSwaps = s.tsetSwaps := rfl
@[simp] theorem State.wr_swapCmds (s : State) (a v : Nat) : (s.wr a v).swapCmds = s.swapCmds := rfl
@[simp] theorem State.wr_cues (s : State) (a v : Nat) : (s.wr a v).cues = s.cues := rfl
@[simp] theorem State.wr_cueAt (s : State) (a v : Nat) : (s.wr a v).cueAt = s.cueAt := rfl
@[simp] theorem State.wr_whReq (s : State) (a v : Nat) : (s.wr a v).whReq = s.whReq := rfl
@[simp] theorem State.wr_wh7 (s : State) (a v : Nat) : (s.wr a v).wh7 = s.wh7 := rfl
@[simp] theorem State.wr_fences (s : State) (a v : Nat) : (s.wr a v).fences = s.fences := rfl
@[simp] theorem State.wr_tmus (s : State) (a v : Nat) : (s.wr a v).tmus = s.tmus := rfl
@[simp] theorem State.wr_passes (s : State) (a v : Nat) : (s.wr a v).passes = s.passes := rfl
@[simp] theorem State.wr_alignCmds (s : State) (a v : Nat) : (s.wr a v).alignCmds = s.alignCmds := rfl
@[simp] theorem State.wr_paths (s : State) (a v : Nat) : (s.wr a v).paths = s.paths := rfl
@[simp] theorem State.wr_contactRan (s : State) (a v : Nat) : (s.wr a v).contactRan = s.contactRan := rfl
@[simp] theorem State.wr_calUnits (s : State) (a v : Nat) : (s.wr a v).calUnits = s.calUnits := rfl
@[simp] theorem State.wr_calTasks (s : State) (a v : Nat) : (s.wr a v).calTasks = s.calTasks := rfl
@[simp] theorem State.wr_calGap (s : State) (a v : Nat) : (s.wr a v).calGap = s.calGap := rfl
@[simp] theorem State.wr_calEnds (s : State) (a v : Nat) : (s.wr a v).calEnds = s.calEnds := rfl
@[simp] theorem State.wr_calLate (s : State) (a v : Nat) : (s.wr a v).calLate = s.calLate := rfl
@[simp] theorem State.wr_calStore (s : State) (a v : Nat) : (s.wr a v).calStore = s.calStore := rfl
@[simp] theorem State.wr_lastStore (s : State) (a v : Nat) : (s.wr a v).lastStore = s.lastStore := rfl
@[simp] theorem State.wr_psms (s : State) (a v : Nat) : (s.wr a v).psms = s.psms := rfl
@[simp] theorem State.wr_aes (s : State) (a v : Nat) : (s.wr a v).aes = s.aes := rfl
@[simp] theorem State.wr_aeQueue (s : State) (a v : Nat) : (s.wr a v).aeQueue = s.aeQueue := rfl
@[simp] theorem State.wr_histCount (s : State) (a v : Nat) : (s.wr a v).histCount = s.histCount := rfl
@[simp] theorem State.wr_histDrops (s : State) (a v : Nat) : (s.wr a v).histDrops = s.histDrops := rfl
@[simp] theorem State.wr_histNext (s : State) (a v : Nat) : (s.wr a v).histNext = s.histNext := rfl
@[simp] theorem State.wr_hkFired (s : State) (a v : Nat) : (s.wr a v).hkFired = s.hkFired := rfl
@[simp] theorem State.wr_hkMiss (s : State) (a v : Nat) : (s.wr a v).hkMiss = s.hkMiss := rfl
@[simp] theorem State.wr_hkRound (s : State) (a v : Nat) : (s.wr a v).hkRound = s.hkRound := rfl
@[simp] theorem State.wr_wh7In (s : State) (a v : Nat) : (s.wr a v).wh7In = s.wh7In := rfl
@[simp] theorem State.wr_wh7Armed (s : State) (a v : Nat) : (s.wr a v).wh7Armed = s.wh7Armed := rfl
@[simp] theorem State.wr_hkCompat (s : State) (a v : Nat) : (s.wr a v).hkCompat = s.hkCompat := rfl
@[simp] theorem State.wr_whReqAt (s : State) (a v : Nat) : (s.wr a v).whReqAt = s.whReqAt := rfl
@[simp] theorem State.wr_whSent (s : State) (a v : Nat) : (s.wr a v).whSent = s.whSent := rfl
@[simp] theorem State.wr_whSet (s : State) (a v : Nat) : (s.wr a v).whSet = s.whSet := rfl
@[simp] theorem State.wr_whSwap (s : State) (a v : Nat) : (s.wr a v).whSwap = s.whSwap := rfl
@[simp] theorem State.wr_whNext (s : State) (a v : Nat) : (s.wr a v).whNext = s.whNext := rfl
@[simp] theorem State.wr_sync (s : State) (a v : Nat) : (s.wr a v).sync = s.sync := rfl
@[simp] theorem State.wr_mpaK (s : State) (a v : Nat) : (s.wr a v).mpaK = s.mpaK := rfl
@[simp] theorem State.wr_mpaLast (s : State) (a v : Nat) : (s.wr a v).mpaLast = s.mpaLast := rfl
@[simp] theorem State.wr_mpaHold (s : State) (a v : Nat) : (s.wr a v).mpaHold = s.mpaHold := rfl
@[simp] theorem State.wr_ueHit (s : State) (a v : Nat) : (s.wr a v).ueHit = s.ueHit := rfl
@[simp] theorem State.wr_tapIr (s : State) (a v : Nat) : (s.wr a v).tapIr = s.tapIr := rfl
@[simp] theorem State.wr_pwrgood (s : State) (a v : Nat) : (s.wr a v).pwrgood = s.pwrgood := rfl
@[simp] theorem State.wr_vaux (s : State) (a v : Nat) : (s.wr a v).vaux = s.vaux := rfl
@[simp] theorem State.wr_ports (s : State) (a v : Nat) : (s.wr a v).ports = s.ports := rfl
@[simp] theorem State.wr_dmaJobs (s : State) (a v : Nat) : (s.wr a v).dmaJobs = s.dmaJobs := rfl
@[simp] theorem State.wr_strSeq (s : State) (a v : Nat) : (s.wr a v).strSeq = s.strSeq := rfl
@[simp] theorem State.wr_mirSeq (s : State) (a v : Nat) : (s.wr a v).mirSeq = s.mirSeq := rfl
@[simp] theorem State.wr_resyncs (s : State) (a v : Nat) : (s.wr a v).resyncs = s.resyncs := rfl
@[simp] theorem State.wr_dlogStage (s : State) (a v : Nat) : (s.wr a v).dlogStage = s.dlogStage := rfl
@[simp] theorem State.wr_restWake (s : State) (a v : Nat) : (s.wr a v).restWake = s.restWake := rfl
@[simp] theorem State.wr_startDue (s : State) (a v : Nat) : (s.wr a v).startDue = s.startDue := rfl
@[simp] theorem State.wr_mspReply (s : State) (a v : Nat) : (s.wr a v).mspReply = s.mspReply := rfl
@[simp] theorem State.wr_mspCount (s : State) (a v : Nat) : (s.wr a v).mspCount = s.mspCount := rfl
@[simp] theorem State.wr_mspInd (s : State) (a v : Nat) : (s.wr a v).mspInd = s.mspInd := rfl
@[simp] theorem State.wr_polls (s : State) (a v : Nat) : (s.wr a v).polls = s.polls := rfl
@[simp] theorem State.wr_keepOut (s : State) (a v : Nat) : (s.wr a v).keepOut = s.keepOut := rfl

@[simp] theorem State.set_pending (s : State) (r : Ref) (v : Nat) : (s.set r v).pending = s.pending := rfl
@[simp] theorem State.set_dram (s : State) (r : Ref) (v : Nat) : (s.set r v).dram = s.dram := rfl
@[simp] theorem State.set_mram (s : State) (r : Ref) (v : Nat) : (s.set r v).mram = s.mram := rfl
@[simp] theorem State.set_time (s : State) (r : Ref) (v : Nat) : (s.set r v).time = s.time := rfl
@[simp] theorem State.set_free (s : State) (r : Ref) (v : Nat) : (s.set r v).free = s.free := rfl
@[simp] theorem State.set_resp (s : State) (r : Ref) (v : Nat) : (s.set r v).resp = s.resp := rfl
@[simp] theorem State.set_respData (s : State) (r : Ref) (v : Nat) : (s.set r v).respData = s.respData := rfl
@[simp] theorem State.set_latches (s : State) (r : Ref) (v : Nat) : (s.set r v).latches = s.latches := rfl
@[simp] theorem State.set_muzzles (s : State) (r : Ref) (v : Nat) : (s.set r v).muzzles = s.muzzles := rfl
@[simp] theorem State.set_faultIn (s : State) (r : Ref) (v : Nat) : (s.set r v).faultIn = s.faultIn := rfl
@[simp] theorem State.set_fltPend (s : State) (r : Ref) (v : Nat) : (s.set r v).fltPend = s.fltPend := rfl
@[simp] theorem State.set_condCauses (s : State) (r : Ref) (v : Nat) : (s.set r v).condCauses = s.condCauses := rfl
@[simp] theorem State.set_inflight (s : State) (r : Ref) (v : Nat) : (s.set r v).inflight = s.inflight := rfl
@[simp] theorem State.set_replies (s : State) (r : Ref) (v : Nat) : (s.set r v).replies = s.replies := rfl
@[simp] theorem State.set_events (s : State) (r : Ref) (v : Nat) : (s.set r v).events = s.events := rfl
@[simp] theorem State.set_evtSeq (s : State) (r : Ref) (v : Nat) : (s.set r v).evtSeq = s.evtSeq := rfl
@[simp] theorem State.set_evtLost (s : State) (r : Ref) (v : Nat) : (s.set r v).evtLost = s.evtLost := rfl
@[simp] theorem State.set_coreUp (s : State) (r : Ref) (v : Nat) : (s.set r v).coreUp = s.coreUp := rfl
@[simp] theorem State.set_chans (s : State) (r : Ref) (v : Nat) : (s.set r v).chans = s.chans := rfl
@[simp] theorem State.set_apgs (s : State) (r : Ref) (v : Nat) : (s.set r v).apgs = s.apgs := rfl
@[simp] theorem State.set_calAges (s : State) (r : Ref) (v : Nat) : (s.set r v).calAges = s.calAges := rfl
@[simp] theorem State.set_gradHist (s : State) (r : Ref) (v : Nat) : (s.set r v).gradHist = s.gradHist := rfl
@[simp] theorem State.set_startHeld (s : State) (r : Ref) (v : Nat) : (s.set r v).startHeld = s.startHeld := rfl
@[simp] theorem State.set_mspSdo (s : State) (r : Ref) (v : Nat) : (s.set r v).mspSdo = s.mspSdo := rfl
@[simp] theorem State.set_strobeAt (s : State) (r : Ref) (v : Nat) : (s.set r v).strobeAt = s.strobeAt := rfl
@[simp] theorem State.set_twinPeer (s : State) (r : Ref) (v : Nat) : (s.set r v).twinPeer = s.twinPeer := rfl
@[simp] theorem State.set_twinOut (s : State) (r : Ref) (v : Nat) : (s.set r v).twinOut = s.twinOut := rfl
@[simp] theorem State.set_keepPorts (s : State) (r : Ref) (v : Nat) : (s.set r v).keepPorts = s.keepPorts := rfl
@[simp] theorem State.set_ends (s : State) (r : Ref) (v : Nat) : (s.set r v).ends = s.ends := rfl
@[simp] theorem State.set_chains (s : State) (r : Ref) (v : Nat) : (s.set r v).chains = s.chains := rfl
@[simp] theorem State.set_siteWork (s : State) (r : Ref) (v : Nat) : (s.set r v).siteWork = s.siteWork := rfl
@[simp] theorem State.set_parked (s : State) (r : Ref) (v : Nat) : (s.set r v).parked = s.parked := rfl
@[simp] theorem State.set_classSwap (s : State) (r : Ref) (v : Nat) : (s.set r v).classSwap = s.classSwap := rfl
@[simp] theorem State.set_mpaWait (s : State) (r : Ref) (v : Nat) : (s.set r v).mpaWait = s.mpaWait := rfl
@[simp] theorem State.set_laneKept (s : State) (r : Ref) (v : Nat) : (s.set r v).laneKept = s.laneKept := rfl
@[simp] theorem State.set_ueCount (s : State) (r : Ref) (v : Nat) : (s.set r v).ueCount = s.ueCount := rfl
@[simp] theorem State.set_runSerial (s : State) (r : Ref) (v : Nat) : (s.set r v).runSerial = s.runSerial := rfl
@[simp] theorem State.set_routine (s : State) (r : Ref) (v : Nat) : (s.set r v).routine = s.routine := rfl
@[simp] theorem State.set_leashFrozen (s : State) (r : Ref) (v : Nat) : (s.set r v).leashFrozen = s.leashFrozen := rfl
@[simp] theorem State.set_isoOut (s : State) (r : Ref) (v : Nat) : (s.set r v).isoOut = s.isoOut := rfl
@[simp] theorem State.set_isoAgain (s : State) (r : Ref) (v : Nat) : (s.set r v).isoAgain = s.isoAgain := rfl
@[simp] theorem State.set_runs (s : State) (r : Ref) (v : Nat) : (s.set r v).runs = s.runs := rfl
@[simp] theorem State.set_lockRun (s : State) (r : Ref) (v : Nat) : (s.set r v).lockRun = s.lockRun := rfl
@[simp] theorem State.set_leashLen (s : State) (r : Ref) (v : Nat) : (s.set r v).leashLen = s.leashLen := rfl
@[simp] theorem State.set_lastFlow (s : State) (r : Ref) (v : Nat) : (s.set r v).lastFlow = s.lastFlow := rfl
@[simp] theorem State.set_slots (s : State) (r : Ref) (v : Nat) : (s.set r v).slots = s.slots := rfl
@[simp] theorem State.set_marks (s : State) (r : Ref) (v : Nat) : (s.set r v).marks = s.marks := rfl
@[simp] theorem State.set_siteStops (s : State) (r : Ref) (v : Nat) : (s.set r v).siteStops = s.siteStops := rfl
@[simp] theorem State.set_ckptDue (s : State) (r : Ref) (v : Nat) : (s.set r v).ckptDue = s.ckptDue := rfl
@[simp] theorem State.set_ctxChanged (s : State) (r : Ref) (v : Nat) : (s.set r v).ctxChanged = s.ctxChanged := rfl
@[simp] theorem State.set_mirrorQ (s : State) (r : Ref) (v : Nat) : (s.set r v).mirrorQ = s.mirrorQ := rfl
@[simp] theorem State.set_caps (s : State) (r : Ref) (v : Nat) : (s.set r v).caps = s.caps := rfl
@[simp] theorem State.set_seqs (s : State) (r : Ref) (v : Nat) : (s.set r v).seqs = s.seqs := rfl
@[simp] theorem State.set_groups (s : State) (r : Ref) (v : Nat) : (s.set r v).groups = s.groups := rfl
@[simp] theorem State.set_pauses (s : State) (r : Ref) (v : Nat) : (s.set r v).pauses = s.pauses := rfl
@[simp] theorem State.set_jumpCmds (s : State) (r : Ref) (v : Nat) : (s.set r v).jumpCmds = s.jumpCmds := rfl
@[simp] theorem State.set_tsetSwaps (s : State) (r : Ref) (v : Nat) : (s.set r v).tsetSwaps = s.tsetSwaps := rfl
@[simp] theorem State.set_swapCmds (s : State) (r : Ref) (v : Nat) : (s.set r v).swapCmds = s.swapCmds := rfl
@[simp] theorem State.set_cues (s : State) (r : Ref) (v : Nat) : (s.set r v).cues = s.cues := rfl
@[simp] theorem State.set_cueAt (s : State) (r : Ref) (v : Nat) : (s.set r v).cueAt = s.cueAt := rfl
@[simp] theorem State.set_whReq (s : State) (r : Ref) (v : Nat) : (s.set r v).whReq = s.whReq := rfl
@[simp] theorem State.set_wh7 (s : State) (r : Ref) (v : Nat) : (s.set r v).wh7 = s.wh7 := rfl
@[simp] theorem State.set_fences (s : State) (r : Ref) (v : Nat) : (s.set r v).fences = s.fences := rfl
@[simp] theorem State.set_tmus (s : State) (r : Ref) (v : Nat) : (s.set r v).tmus = s.tmus := rfl
@[simp] theorem State.set_passes (s : State) (r : Ref) (v : Nat) : (s.set r v).passes = s.passes := rfl
@[simp] theorem State.set_alignCmds (s : State) (r : Ref) (v : Nat) : (s.set r v).alignCmds = s.alignCmds := rfl
@[simp] theorem State.set_paths (s : State) (r : Ref) (v : Nat) : (s.set r v).paths = s.paths := rfl
@[simp] theorem State.set_contactRan (s : State) (r : Ref) (v : Nat) : (s.set r v).contactRan = s.contactRan := rfl
@[simp] theorem State.set_calUnits (s : State) (r : Ref) (v : Nat) : (s.set r v).calUnits = s.calUnits := rfl
@[simp] theorem State.set_calTasks (s : State) (r : Ref) (v : Nat) : (s.set r v).calTasks = s.calTasks := rfl
@[simp] theorem State.set_calGap (s : State) (r : Ref) (v : Nat) : (s.set r v).calGap = s.calGap := rfl
@[simp] theorem State.set_calEnds (s : State) (r : Ref) (v : Nat) : (s.set r v).calEnds = s.calEnds := rfl
@[simp] theorem State.set_calLate (s : State) (r : Ref) (v : Nat) : (s.set r v).calLate = s.calLate := rfl
@[simp] theorem State.set_calStore (s : State) (r : Ref) (v : Nat) : (s.set r v).calStore = s.calStore := rfl
@[simp] theorem State.set_lastStore (s : State) (r : Ref) (v : Nat) : (s.set r v).lastStore = s.lastStore := rfl
@[simp] theorem State.set_psms (s : State) (r : Ref) (v : Nat) : (s.set r v).psms = s.psms := rfl
@[simp] theorem State.set_aes (s : State) (r : Ref) (v : Nat) : (s.set r v).aes = s.aes := rfl
@[simp] theorem State.set_aeQueue (s : State) (r : Ref) (v : Nat) : (s.set r v).aeQueue = s.aeQueue := rfl
@[simp] theorem State.set_histCount (s : State) (r : Ref) (v : Nat) : (s.set r v).histCount = s.histCount := rfl
@[simp] theorem State.set_histDrops (s : State) (r : Ref) (v : Nat) : (s.set r v).histDrops = s.histDrops := rfl
@[simp] theorem State.set_histNext (s : State) (r : Ref) (v : Nat) : (s.set r v).histNext = s.histNext := rfl
@[simp] theorem State.set_hkFired (s : State) (r : Ref) (v : Nat) : (s.set r v).hkFired = s.hkFired := rfl
@[simp] theorem State.set_hkMiss (s : State) (r : Ref) (v : Nat) : (s.set r v).hkMiss = s.hkMiss := rfl
@[simp] theorem State.set_hkRound (s : State) (r : Ref) (v : Nat) : (s.set r v).hkRound = s.hkRound := rfl
@[simp] theorem State.set_wh7In (s : State) (r : Ref) (v : Nat) : (s.set r v).wh7In = s.wh7In := rfl
@[simp] theorem State.set_wh7Armed (s : State) (r : Ref) (v : Nat) : (s.set r v).wh7Armed = s.wh7Armed := rfl
@[simp] theorem State.set_hkCompat (s : State) (r : Ref) (v : Nat) : (s.set r v).hkCompat = s.hkCompat := rfl
@[simp] theorem State.set_whReqAt (s : State) (r : Ref) (v : Nat) : (s.set r v).whReqAt = s.whReqAt := rfl
@[simp] theorem State.set_whSent (s : State) (r : Ref) (v : Nat) : (s.set r v).whSent = s.whSent := rfl
@[simp] theorem State.set_whSet (s : State) (r : Ref) (v : Nat) : (s.set r v).whSet = s.whSet := rfl
@[simp] theorem State.set_whSwap (s : State) (r : Ref) (v : Nat) : (s.set r v).whSwap = s.whSwap := rfl
@[simp] theorem State.set_whNext (s : State) (r : Ref) (v : Nat) : (s.set r v).whNext = s.whNext := rfl
@[simp] theorem State.set_sync (s : State) (r : Ref) (v : Nat) : (s.set r v).sync = s.sync := rfl
@[simp] theorem State.set_mpaK (s : State) (r : Ref) (v : Nat) : (s.set r v).mpaK = s.mpaK := rfl
@[simp] theorem State.set_mpaLast (s : State) (r : Ref) (v : Nat) : (s.set r v).mpaLast = s.mpaLast := rfl
@[simp] theorem State.set_mpaHold (s : State) (r : Ref) (v : Nat) : (s.set r v).mpaHold = s.mpaHold := rfl
@[simp] theorem State.set_ueHit (s : State) (r : Ref) (v : Nat) : (s.set r v).ueHit = s.ueHit := rfl
@[simp] theorem State.set_tapIr (s : State) (r : Ref) (v : Nat) : (s.set r v).tapIr = s.tapIr := rfl
@[simp] theorem State.set_pwrgood (s : State) (r : Ref) (v : Nat) : (s.set r v).pwrgood = s.pwrgood := rfl
@[simp] theorem State.set_vaux (s : State) (r : Ref) (v : Nat) : (s.set r v).vaux = s.vaux := rfl
@[simp] theorem State.set_ports (s : State) (r : Ref) (v : Nat) : (s.set r v).ports = s.ports := rfl
@[simp] theorem State.set_dmaJobs (s : State) (r : Ref) (v : Nat) : (s.set r v).dmaJobs = s.dmaJobs := rfl
@[simp] theorem State.set_strSeq (s : State) (r : Ref) (v : Nat) : (s.set r v).strSeq = s.strSeq := rfl
@[simp] theorem State.set_mirSeq (s : State) (r : Ref) (v : Nat) : (s.set r v).mirSeq = s.mirSeq := rfl
@[simp] theorem State.set_resyncs (s : State) (r : Ref) (v : Nat) : (s.set r v).resyncs = s.resyncs := rfl
@[simp] theorem State.set_dlogStage (s : State) (r : Ref) (v : Nat) : (s.set r v).dlogStage = s.dlogStage := rfl
@[simp] theorem State.set_restWake (s : State) (r : Ref) (v : Nat) : (s.set r v).restWake = s.restWake := rfl
@[simp] theorem State.set_startDue (s : State) (r : Ref) (v : Nat) : (s.set r v).startDue = s.startDue := rfl
@[simp] theorem State.set_mspReply (s : State) (r : Ref) (v : Nat) : (s.set r v).mspReply = s.mspReply := rfl
@[simp] theorem State.set_mspCount (s : State) (r : Ref) (v : Nat) : (s.set r v).mspCount = s.mspCount := rfl
@[simp] theorem State.set_mspInd (s : State) (r : Ref) (v : Nat) : (s.set r v).mspInd = s.mspInd := rfl
@[simp] theorem State.set_polls (s : State) (r : Ref) (v : Nat) : (s.set r v).polls = s.polls := rfl
@[simp] theorem State.set_keepOut (s : State) (r : Ref) (v : Nat) : (s.set r v).keepOut = s.keepOut := rfl

@[simp] theorem State.setB_pending (s : State) (r : Ref) (b : Bool) : (s.setB r b).pending = s.pending := rfl
@[simp] theorem State.setB_dram (s : State) (r : Ref) (b : Bool) : (s.setB r b).dram = s.dram := rfl
@[simp] theorem State.setB_mram (s : State) (r : Ref) (b : Bool) : (s.setB r b).mram = s.mram := rfl
@[simp] theorem State.setB_time (s : State) (r : Ref) (b : Bool) : (s.setB r b).time = s.time := rfl
@[simp] theorem State.setB_free (s : State) (r : Ref) (b : Bool) : (s.setB r b).free = s.free := rfl
@[simp] theorem State.setB_resp (s : State) (r : Ref) (b : Bool) : (s.setB r b).resp = s.resp := rfl
@[simp] theorem State.setB_respData (s : State) (r : Ref) (b : Bool) : (s.setB r b).respData = s.respData := rfl
@[simp] theorem State.setB_latches (s : State) (r : Ref) (b : Bool) : (s.setB r b).latches = s.latches := rfl
@[simp] theorem State.setB_muzzles (s : State) (r : Ref) (b : Bool) : (s.setB r b).muzzles = s.muzzles := rfl
@[simp] theorem State.setB_faultIn (s : State) (r : Ref) (b : Bool) : (s.setB r b).faultIn = s.faultIn := rfl
@[simp] theorem State.setB_fltPend (s : State) (r : Ref) (b : Bool) : (s.setB r b).fltPend = s.fltPend := rfl
@[simp] theorem State.setB_condCauses (s : State) (r : Ref) (b : Bool) : (s.setB r b).condCauses = s.condCauses := rfl
@[simp] theorem State.setB_inflight (s : State) (r : Ref) (b : Bool) : (s.setB r b).inflight = s.inflight := rfl
@[simp] theorem State.setB_replies (s : State) (r : Ref) (b : Bool) : (s.setB r b).replies = s.replies := rfl
@[simp] theorem State.setB_events (s : State) (r : Ref) (b : Bool) : (s.setB r b).events = s.events := rfl
@[simp] theorem State.setB_evtSeq (s : State) (r : Ref) (b : Bool) : (s.setB r b).evtSeq = s.evtSeq := rfl
@[simp] theorem State.setB_evtLost (s : State) (r : Ref) (b : Bool) : (s.setB r b).evtLost = s.evtLost := rfl
@[simp] theorem State.setB_coreUp (s : State) (r : Ref) (b : Bool) : (s.setB r b).coreUp = s.coreUp := rfl
@[simp] theorem State.setB_chans (s : State) (r : Ref) (b : Bool) : (s.setB r b).chans = s.chans := rfl
@[simp] theorem State.setB_apgs (s : State) (r : Ref) (b : Bool) : (s.setB r b).apgs = s.apgs := rfl
@[simp] theorem State.setB_calAges (s : State) (r : Ref) (b : Bool) : (s.setB r b).calAges = s.calAges := rfl
@[simp] theorem State.setB_gradHist (s : State) (r : Ref) (b : Bool) : (s.setB r b).gradHist = s.gradHist := rfl
@[simp] theorem State.setB_startHeld (s : State) (r : Ref) (b : Bool) : (s.setB r b).startHeld = s.startHeld := rfl
@[simp] theorem State.setB_mspSdo (s : State) (r : Ref) (b : Bool) : (s.setB r b).mspSdo = s.mspSdo := rfl
@[simp] theorem State.setB_strobeAt (s : State) (r : Ref) (b : Bool) : (s.setB r b).strobeAt = s.strobeAt := rfl
@[simp] theorem State.setB_twinPeer (s : State) (r : Ref) (b : Bool) : (s.setB r b).twinPeer = s.twinPeer := rfl
@[simp] theorem State.setB_twinOut (s : State) (r : Ref) (b : Bool) : (s.setB r b).twinOut = s.twinOut := rfl
@[simp] theorem State.setB_keepPorts (s : State) (r : Ref) (b : Bool) : (s.setB r b).keepPorts = s.keepPorts := rfl
@[simp] theorem State.setB_ends (s : State) (r : Ref) (b : Bool) : (s.setB r b).ends = s.ends := rfl
@[simp] theorem State.setB_chains (s : State) (r : Ref) (b : Bool) : (s.setB r b).chains = s.chains := rfl
@[simp] theorem State.setB_siteWork (s : State) (r : Ref) (b : Bool) : (s.setB r b).siteWork = s.siteWork := rfl
@[simp] theorem State.setB_parked (s : State) (r : Ref) (b : Bool) : (s.setB r b).parked = s.parked := rfl
@[simp] theorem State.setB_classSwap (s : State) (r : Ref) (b : Bool) : (s.setB r b).classSwap = s.classSwap := rfl
@[simp] theorem State.setB_mpaWait (s : State) (r : Ref) (b : Bool) : (s.setB r b).mpaWait = s.mpaWait := rfl
@[simp] theorem State.setB_laneKept (s : State) (r : Ref) (b : Bool) : (s.setB r b).laneKept = s.laneKept := rfl
@[simp] theorem State.setB_ueCount (s : State) (r : Ref) (b : Bool) : (s.setB r b).ueCount = s.ueCount := rfl
@[simp] theorem State.setB_runSerial (s : State) (r : Ref) (b : Bool) : (s.setB r b).runSerial = s.runSerial := rfl
@[simp] theorem State.setB_routine (s : State) (r : Ref) (b : Bool) : (s.setB r b).routine = s.routine := rfl
@[simp] theorem State.setB_leashFrozen (s : State) (r : Ref) (b : Bool) : (s.setB r b).leashFrozen = s.leashFrozen := rfl
@[simp] theorem State.setB_isoOut (s : State) (r : Ref) (b : Bool) : (s.setB r b).isoOut = s.isoOut := rfl
@[simp] theorem State.setB_isoAgain (s : State) (r : Ref) (b : Bool) : (s.setB r b).isoAgain = s.isoAgain := rfl
@[simp] theorem State.setB_runs (s : State) (r : Ref) (b : Bool) : (s.setB r b).runs = s.runs := rfl
@[simp] theorem State.setB_lockRun (s : State) (r : Ref) (b : Bool) : (s.setB r b).lockRun = s.lockRun := rfl
@[simp] theorem State.setB_leashLen (s : State) (r : Ref) (b : Bool) : (s.setB r b).leashLen = s.leashLen := rfl
@[simp] theorem State.setB_lastFlow (s : State) (r : Ref) (b : Bool) : (s.setB r b).lastFlow = s.lastFlow := rfl
@[simp] theorem State.setB_slots (s : State) (r : Ref) (b : Bool) : (s.setB r b).slots = s.slots := rfl
@[simp] theorem State.setB_marks (s : State) (r : Ref) (b : Bool) : (s.setB r b).marks = s.marks := rfl
@[simp] theorem State.setB_siteStops (s : State) (r : Ref) (b : Bool) : (s.setB r b).siteStops = s.siteStops := rfl
@[simp] theorem State.setB_ckptDue (s : State) (r : Ref) (b : Bool) : (s.setB r b).ckptDue = s.ckptDue := rfl
@[simp] theorem State.setB_ctxChanged (s : State) (r : Ref) (b : Bool) : (s.setB r b).ctxChanged = s.ctxChanged := rfl
@[simp] theorem State.setB_mirrorQ (s : State) (r : Ref) (b : Bool) : (s.setB r b).mirrorQ = s.mirrorQ := rfl
@[simp] theorem State.setB_caps (s : State) (r : Ref) (b : Bool) : (s.setB r b).caps = s.caps := rfl
@[simp] theorem State.setB_seqs (s : State) (r : Ref) (b : Bool) : (s.setB r b).seqs = s.seqs := rfl
@[simp] theorem State.setB_groups (s : State) (r : Ref) (b : Bool) : (s.setB r b).groups = s.groups := rfl
@[simp] theorem State.setB_pauses (s : State) (r : Ref) (b : Bool) : (s.setB r b).pauses = s.pauses := rfl
@[simp] theorem State.setB_jumpCmds (s : State) (r : Ref) (b : Bool) : (s.setB r b).jumpCmds = s.jumpCmds := rfl
@[simp] theorem State.setB_tsetSwaps (s : State) (r : Ref) (b : Bool) : (s.setB r b).tsetSwaps = s.tsetSwaps := rfl
@[simp] theorem State.setB_swapCmds (s : State) (r : Ref) (b : Bool) : (s.setB r b).swapCmds = s.swapCmds := rfl
@[simp] theorem State.setB_cues (s : State) (r : Ref) (b : Bool) : (s.setB r b).cues = s.cues := rfl
@[simp] theorem State.setB_cueAt (s : State) (r : Ref) (b : Bool) : (s.setB r b).cueAt = s.cueAt := rfl
@[simp] theorem State.setB_whReq (s : State) (r : Ref) (b : Bool) : (s.setB r b).whReq = s.whReq := rfl
@[simp] theorem State.setB_wh7 (s : State) (r : Ref) (b : Bool) : (s.setB r b).wh7 = s.wh7 := rfl
@[simp] theorem State.setB_fences (s : State) (r : Ref) (b : Bool) : (s.setB r b).fences = s.fences := rfl
@[simp] theorem State.setB_tmus (s : State) (r : Ref) (b : Bool) : (s.setB r b).tmus = s.tmus := rfl
@[simp] theorem State.setB_passes (s : State) (r : Ref) (b : Bool) : (s.setB r b).passes = s.passes := rfl
@[simp] theorem State.setB_alignCmds (s : State) (r : Ref) (b : Bool) : (s.setB r b).alignCmds = s.alignCmds := rfl
@[simp] theorem State.setB_paths (s : State) (r : Ref) (b : Bool) : (s.setB r b).paths = s.paths := rfl
@[simp] theorem State.setB_contactRan (s : State) (r : Ref) (b : Bool) : (s.setB r b).contactRan = s.contactRan := rfl
@[simp] theorem State.setB_calUnits (s : State) (r : Ref) (b : Bool) : (s.setB r b).calUnits = s.calUnits := rfl
@[simp] theorem State.setB_calTasks (s : State) (r : Ref) (b : Bool) : (s.setB r b).calTasks = s.calTasks := rfl
@[simp] theorem State.setB_calGap (s : State) (r : Ref) (b : Bool) : (s.setB r b).calGap = s.calGap := rfl
@[simp] theorem State.setB_calEnds (s : State) (r : Ref) (b : Bool) : (s.setB r b).calEnds = s.calEnds := rfl
@[simp] theorem State.setB_calLate (s : State) (r : Ref) (b : Bool) : (s.setB r b).calLate = s.calLate := rfl
@[simp] theorem State.setB_calStore (s : State) (r : Ref) (b : Bool) : (s.setB r b).calStore = s.calStore := rfl
@[simp] theorem State.setB_lastStore (s : State) (r : Ref) (b : Bool) : (s.setB r b).lastStore = s.lastStore := rfl
@[simp] theorem State.setB_psms (s : State) (r : Ref) (b : Bool) : (s.setB r b).psms = s.psms := rfl
@[simp] theorem State.setB_aes (s : State) (r : Ref) (b : Bool) : (s.setB r b).aes = s.aes := rfl
@[simp] theorem State.setB_aeQueue (s : State) (r : Ref) (b : Bool) : (s.setB r b).aeQueue = s.aeQueue := rfl
@[simp] theorem State.setB_histCount (s : State) (r : Ref) (b : Bool) : (s.setB r b).histCount = s.histCount := rfl
@[simp] theorem State.setB_histDrops (s : State) (r : Ref) (b : Bool) : (s.setB r b).histDrops = s.histDrops := rfl
@[simp] theorem State.setB_histNext (s : State) (r : Ref) (b : Bool) : (s.setB r b).histNext = s.histNext := rfl
@[simp] theorem State.setB_hkFired (s : State) (r : Ref) (b : Bool) : (s.setB r b).hkFired = s.hkFired := rfl
@[simp] theorem State.setB_hkMiss (s : State) (r : Ref) (b : Bool) : (s.setB r b).hkMiss = s.hkMiss := rfl
@[simp] theorem State.setB_hkRound (s : State) (r : Ref) (b : Bool) : (s.setB r b).hkRound = s.hkRound := rfl
@[simp] theorem State.setB_wh7In (s : State) (r : Ref) (b : Bool) : (s.setB r b).wh7In = s.wh7In := rfl
@[simp] theorem State.setB_wh7Armed (s : State) (r : Ref) (b : Bool) : (s.setB r b).wh7Armed = s.wh7Armed := rfl
@[simp] theorem State.setB_hkCompat (s : State) (r : Ref) (b : Bool) : (s.setB r b).hkCompat = s.hkCompat := rfl
@[simp] theorem State.setB_whReqAt (s : State) (r : Ref) (b : Bool) : (s.setB r b).whReqAt = s.whReqAt := rfl
@[simp] theorem State.setB_whSent (s : State) (r : Ref) (b : Bool) : (s.setB r b).whSent = s.whSent := rfl
@[simp] theorem State.setB_whSet (s : State) (r : Ref) (b : Bool) : (s.setB r b).whSet = s.whSet := rfl
@[simp] theorem State.setB_whSwap (s : State) (r : Ref) (b : Bool) : (s.setB r b).whSwap = s.whSwap := rfl
@[simp] theorem State.setB_whNext (s : State) (r : Ref) (b : Bool) : (s.setB r b).whNext = s.whNext := rfl
@[simp] theorem State.setB_sync (s : State) (r : Ref) (b : Bool) : (s.setB r b).sync = s.sync := rfl
@[simp] theorem State.setB_mpaK (s : State) (r : Ref) (b : Bool) : (s.setB r b).mpaK = s.mpaK := rfl
@[simp] theorem State.setB_mpaLast (s : State) (r : Ref) (b : Bool) : (s.setB r b).mpaLast = s.mpaLast := rfl
@[simp] theorem State.setB_mpaHold (s : State) (r : Ref) (b : Bool) : (s.setB r b).mpaHold = s.mpaHold := rfl
@[simp] theorem State.setB_ueHit (s : State) (r : Ref) (b : Bool) : (s.setB r b).ueHit = s.ueHit := rfl
@[simp] theorem State.setB_tapIr (s : State) (r : Ref) (b : Bool) : (s.setB r b).tapIr = s.tapIr := rfl
@[simp] theorem State.setB_pwrgood (s : State) (r : Ref) (b : Bool) : (s.setB r b).pwrgood = s.pwrgood := rfl
@[simp] theorem State.setB_vaux (s : State) (r : Ref) (b : Bool) : (s.setB r b).vaux = s.vaux := rfl
@[simp] theorem State.setB_ports (s : State) (r : Ref) (b : Bool) : (s.setB r b).ports = s.ports := rfl
@[simp] theorem State.setB_dmaJobs (s : State) (r : Ref) (b : Bool) : (s.setB r b).dmaJobs = s.dmaJobs := rfl
@[simp] theorem State.setB_strSeq (s : State) (r : Ref) (b : Bool) : (s.setB r b).strSeq = s.strSeq := rfl
@[simp] theorem State.setB_mirSeq (s : State) (r : Ref) (b : Bool) : (s.setB r b).mirSeq = s.mirSeq := rfl
@[simp] theorem State.setB_resyncs (s : State) (r : Ref) (b : Bool) : (s.setB r b).resyncs = s.resyncs := rfl
@[simp] theorem State.setB_dlogStage (s : State) (r : Ref) (b : Bool) : (s.setB r b).dlogStage = s.dlogStage := rfl
@[simp] theorem State.setB_restWake (s : State) (r : Ref) (b : Bool) : (s.setB r b).restWake = s.restWake := rfl
@[simp] theorem State.setB_startDue (s : State) (r : Ref) (b : Bool) : (s.setB r b).startDue = s.startDue := rfl
@[simp] theorem State.setB_mspReply (s : State) (r : Ref) (b : Bool) : (s.setB r b).mspReply = s.mspReply := rfl
@[simp] theorem State.setB_mspCount (s : State) (r : Ref) (b : Bool) : (s.setB r b).mspCount = s.mspCount := rfl
@[simp] theorem State.setB_mspInd (s : State) (r : Ref) (b : Bool) : (s.setB r b).mspInd = s.mspInd := rfl
@[simp] theorem State.setB_polls (s : State) (r : Ref) (b : Bool) : (s.setB r b).polls = s.polls := rfl
@[simp] theorem State.setB_keepOut (s : State) (r : Ref) (b : Bool) : (s.setB r b).keepOut = s.keepOut := rfl

@[simp] theorem State.setI_pending (s : State) (r : Ref) (v : Int) : (s.setI r v).pending = s.pending := rfl
@[simp] theorem State.setI_dram (s : State) (r : Ref) (v : Int) : (s.setI r v).dram = s.dram := rfl
@[simp] theorem State.setI_mram (s : State) (r : Ref) (v : Int) : (s.setI r v).mram = s.mram := rfl
@[simp] theorem State.setI_time (s : State) (r : Ref) (v : Int) : (s.setI r v).time = s.time := rfl
@[simp] theorem State.setI_free (s : State) (r : Ref) (v : Int) : (s.setI r v).free = s.free := rfl
@[simp] theorem State.setI_resp (s : State) (r : Ref) (v : Int) : (s.setI r v).resp = s.resp := rfl
@[simp] theorem State.setI_respData (s : State) (r : Ref) (v : Int) : (s.setI r v).respData = s.respData := rfl
@[simp] theorem State.setI_latches (s : State) (r : Ref) (v : Int) : (s.setI r v).latches = s.latches := rfl
@[simp] theorem State.setI_muzzles (s : State) (r : Ref) (v : Int) : (s.setI r v).muzzles = s.muzzles := rfl
@[simp] theorem State.setI_faultIn (s : State) (r : Ref) (v : Int) : (s.setI r v).faultIn = s.faultIn := rfl
@[simp] theorem State.setI_fltPend (s : State) (r : Ref) (v : Int) : (s.setI r v).fltPend = s.fltPend := rfl
@[simp] theorem State.setI_condCauses (s : State) (r : Ref) (v : Int) : (s.setI r v).condCauses = s.condCauses := rfl
@[simp] theorem State.setI_inflight (s : State) (r : Ref) (v : Int) : (s.setI r v).inflight = s.inflight := rfl
@[simp] theorem State.setI_replies (s : State) (r : Ref) (v : Int) : (s.setI r v).replies = s.replies := rfl
@[simp] theorem State.setI_events (s : State) (r : Ref) (v : Int) : (s.setI r v).events = s.events := rfl
@[simp] theorem State.setI_evtSeq (s : State) (r : Ref) (v : Int) : (s.setI r v).evtSeq = s.evtSeq := rfl
@[simp] theorem State.setI_evtLost (s : State) (r : Ref) (v : Int) : (s.setI r v).evtLost = s.evtLost := rfl
@[simp] theorem State.setI_coreUp (s : State) (r : Ref) (v : Int) : (s.setI r v).coreUp = s.coreUp := rfl
@[simp] theorem State.setI_chans (s : State) (r : Ref) (v : Int) : (s.setI r v).chans = s.chans := rfl
@[simp] theorem State.setI_apgs (s : State) (r : Ref) (v : Int) : (s.setI r v).apgs = s.apgs := rfl
@[simp] theorem State.setI_calAges (s : State) (r : Ref) (v : Int) : (s.setI r v).calAges = s.calAges := rfl
@[simp] theorem State.setI_gradHist (s : State) (r : Ref) (v : Int) : (s.setI r v).gradHist = s.gradHist := rfl
@[simp] theorem State.setI_startHeld (s : State) (r : Ref) (v : Int) : (s.setI r v).startHeld = s.startHeld := rfl
@[simp] theorem State.setI_mspSdo (s : State) (r : Ref) (v : Int) : (s.setI r v).mspSdo = s.mspSdo := rfl
@[simp] theorem State.setI_strobeAt (s : State) (r : Ref) (v : Int) : (s.setI r v).strobeAt = s.strobeAt := rfl
@[simp] theorem State.setI_twinPeer (s : State) (r : Ref) (v : Int) : (s.setI r v).twinPeer = s.twinPeer := rfl
@[simp] theorem State.setI_twinOut (s : State) (r : Ref) (v : Int) : (s.setI r v).twinOut = s.twinOut := rfl
@[simp] theorem State.setI_keepPorts (s : State) (r : Ref) (v : Int) : (s.setI r v).keepPorts = s.keepPorts := rfl
@[simp] theorem State.setI_ends (s : State) (r : Ref) (v : Int) : (s.setI r v).ends = s.ends := rfl
@[simp] theorem State.setI_chains (s : State) (r : Ref) (v : Int) : (s.setI r v).chains = s.chains := rfl
@[simp] theorem State.setI_siteWork (s : State) (r : Ref) (v : Int) : (s.setI r v).siteWork = s.siteWork := rfl
@[simp] theorem State.setI_parked (s : State) (r : Ref) (v : Int) : (s.setI r v).parked = s.parked := rfl
@[simp] theorem State.setI_classSwap (s : State) (r : Ref) (v : Int) : (s.setI r v).classSwap = s.classSwap := rfl
@[simp] theorem State.setI_mpaWait (s : State) (r : Ref) (v : Int) : (s.setI r v).mpaWait = s.mpaWait := rfl
@[simp] theorem State.setI_laneKept (s : State) (r : Ref) (v : Int) : (s.setI r v).laneKept = s.laneKept := rfl
@[simp] theorem State.setI_ueCount (s : State) (r : Ref) (v : Int) : (s.setI r v).ueCount = s.ueCount := rfl
@[simp] theorem State.setI_runSerial (s : State) (r : Ref) (v : Int) : (s.setI r v).runSerial = s.runSerial := rfl
@[simp] theorem State.setI_routine (s : State) (r : Ref) (v : Int) : (s.setI r v).routine = s.routine := rfl
@[simp] theorem State.setI_leashFrozen (s : State) (r : Ref) (v : Int) : (s.setI r v).leashFrozen = s.leashFrozen := rfl
@[simp] theorem State.setI_isoOut (s : State) (r : Ref) (v : Int) : (s.setI r v).isoOut = s.isoOut := rfl
@[simp] theorem State.setI_isoAgain (s : State) (r : Ref) (v : Int) : (s.setI r v).isoAgain = s.isoAgain := rfl
@[simp] theorem State.setI_runs (s : State) (r : Ref) (v : Int) : (s.setI r v).runs = s.runs := rfl
@[simp] theorem State.setI_lockRun (s : State) (r : Ref) (v : Int) : (s.setI r v).lockRun = s.lockRun := rfl
@[simp] theorem State.setI_leashLen (s : State) (r : Ref) (v : Int) : (s.setI r v).leashLen = s.leashLen := rfl
@[simp] theorem State.setI_lastFlow (s : State) (r : Ref) (v : Int) : (s.setI r v).lastFlow = s.lastFlow := rfl
@[simp] theorem State.setI_slots (s : State) (r : Ref) (v : Int) : (s.setI r v).slots = s.slots := rfl
@[simp] theorem State.setI_marks (s : State) (r : Ref) (v : Int) : (s.setI r v).marks = s.marks := rfl
@[simp] theorem State.setI_siteStops (s : State) (r : Ref) (v : Int) : (s.setI r v).siteStops = s.siteStops := rfl
@[simp] theorem State.setI_ckptDue (s : State) (r : Ref) (v : Int) : (s.setI r v).ckptDue = s.ckptDue := rfl
@[simp] theorem State.setI_ctxChanged (s : State) (r : Ref) (v : Int) : (s.setI r v).ctxChanged = s.ctxChanged := rfl
@[simp] theorem State.setI_mirrorQ (s : State) (r : Ref) (v : Int) : (s.setI r v).mirrorQ = s.mirrorQ := rfl
@[simp] theorem State.setI_caps (s : State) (r : Ref) (v : Int) : (s.setI r v).caps = s.caps := rfl
@[simp] theorem State.setI_seqs (s : State) (r : Ref) (v : Int) : (s.setI r v).seqs = s.seqs := rfl
@[simp] theorem State.setI_groups (s : State) (r : Ref) (v : Int) : (s.setI r v).groups = s.groups := rfl
@[simp] theorem State.setI_pauses (s : State) (r : Ref) (v : Int) : (s.setI r v).pauses = s.pauses := rfl
@[simp] theorem State.setI_jumpCmds (s : State) (r : Ref) (v : Int) : (s.setI r v).jumpCmds = s.jumpCmds := rfl
@[simp] theorem State.setI_tsetSwaps (s : State) (r : Ref) (v : Int) : (s.setI r v).tsetSwaps = s.tsetSwaps := rfl
@[simp] theorem State.setI_swapCmds (s : State) (r : Ref) (v : Int) : (s.setI r v).swapCmds = s.swapCmds := rfl
@[simp] theorem State.setI_cues (s : State) (r : Ref) (v : Int) : (s.setI r v).cues = s.cues := rfl
@[simp] theorem State.setI_cueAt (s : State) (r : Ref) (v : Int) : (s.setI r v).cueAt = s.cueAt := rfl
@[simp] theorem State.setI_whReq (s : State) (r : Ref) (v : Int) : (s.setI r v).whReq = s.whReq := rfl
@[simp] theorem State.setI_wh7 (s : State) (r : Ref) (v : Int) : (s.setI r v).wh7 = s.wh7 := rfl
@[simp] theorem State.setI_fences (s : State) (r : Ref) (v : Int) : (s.setI r v).fences = s.fences := rfl
@[simp] theorem State.setI_tmus (s : State) (r : Ref) (v : Int) : (s.setI r v).tmus = s.tmus := rfl
@[simp] theorem State.setI_passes (s : State) (r : Ref) (v : Int) : (s.setI r v).passes = s.passes := rfl
@[simp] theorem State.setI_alignCmds (s : State) (r : Ref) (v : Int) : (s.setI r v).alignCmds = s.alignCmds := rfl
@[simp] theorem State.setI_paths (s : State) (r : Ref) (v : Int) : (s.setI r v).paths = s.paths := rfl
@[simp] theorem State.setI_contactRan (s : State) (r : Ref) (v : Int) : (s.setI r v).contactRan = s.contactRan := rfl
@[simp] theorem State.setI_calUnits (s : State) (r : Ref) (v : Int) : (s.setI r v).calUnits = s.calUnits := rfl
@[simp] theorem State.setI_calTasks (s : State) (r : Ref) (v : Int) : (s.setI r v).calTasks = s.calTasks := rfl
@[simp] theorem State.setI_calGap (s : State) (r : Ref) (v : Int) : (s.setI r v).calGap = s.calGap := rfl
@[simp] theorem State.setI_calEnds (s : State) (r : Ref) (v : Int) : (s.setI r v).calEnds = s.calEnds := rfl
@[simp] theorem State.setI_calLate (s : State) (r : Ref) (v : Int) : (s.setI r v).calLate = s.calLate := rfl
@[simp] theorem State.setI_calStore (s : State) (r : Ref) (v : Int) : (s.setI r v).calStore = s.calStore := rfl
@[simp] theorem State.setI_lastStore (s : State) (r : Ref) (v : Int) : (s.setI r v).lastStore = s.lastStore := rfl
@[simp] theorem State.setI_psms (s : State) (r : Ref) (v : Int) : (s.setI r v).psms = s.psms := rfl
@[simp] theorem State.setI_aes (s : State) (r : Ref) (v : Int) : (s.setI r v).aes = s.aes := rfl
@[simp] theorem State.setI_aeQueue (s : State) (r : Ref) (v : Int) : (s.setI r v).aeQueue = s.aeQueue := rfl
@[simp] theorem State.setI_histCount (s : State) (r : Ref) (v : Int) : (s.setI r v).histCount = s.histCount := rfl
@[simp] theorem State.setI_histDrops (s : State) (r : Ref) (v : Int) : (s.setI r v).histDrops = s.histDrops := rfl
@[simp] theorem State.setI_histNext (s : State) (r : Ref) (v : Int) : (s.setI r v).histNext = s.histNext := rfl
@[simp] theorem State.setI_hkFired (s : State) (r : Ref) (v : Int) : (s.setI r v).hkFired = s.hkFired := rfl
@[simp] theorem State.setI_hkMiss (s : State) (r : Ref) (v : Int) : (s.setI r v).hkMiss = s.hkMiss := rfl
@[simp] theorem State.setI_hkRound (s : State) (r : Ref) (v : Int) : (s.setI r v).hkRound = s.hkRound := rfl
@[simp] theorem State.setI_wh7In (s : State) (r : Ref) (v : Int) : (s.setI r v).wh7In = s.wh7In := rfl
@[simp] theorem State.setI_wh7Armed (s : State) (r : Ref) (v : Int) : (s.setI r v).wh7Armed = s.wh7Armed := rfl
@[simp] theorem State.setI_hkCompat (s : State) (r : Ref) (v : Int) : (s.setI r v).hkCompat = s.hkCompat := rfl
@[simp] theorem State.setI_whReqAt (s : State) (r : Ref) (v : Int) : (s.setI r v).whReqAt = s.whReqAt := rfl
@[simp] theorem State.setI_whSent (s : State) (r : Ref) (v : Int) : (s.setI r v).whSent = s.whSent := rfl
@[simp] theorem State.setI_whSet (s : State) (r : Ref) (v : Int) : (s.setI r v).whSet = s.whSet := rfl
@[simp] theorem State.setI_whSwap (s : State) (r : Ref) (v : Int) : (s.setI r v).whSwap = s.whSwap := rfl
@[simp] theorem State.setI_whNext (s : State) (r : Ref) (v : Int) : (s.setI r v).whNext = s.whNext := rfl
@[simp] theorem State.setI_sync (s : State) (r : Ref) (v : Int) : (s.setI r v).sync = s.sync := rfl
@[simp] theorem State.setI_mpaK (s : State) (r : Ref) (v : Int) : (s.setI r v).mpaK = s.mpaK := rfl
@[simp] theorem State.setI_mpaLast (s : State) (r : Ref) (v : Int) : (s.setI r v).mpaLast = s.mpaLast := rfl
@[simp] theorem State.setI_mpaHold (s : State) (r : Ref) (v : Int) : (s.setI r v).mpaHold = s.mpaHold := rfl
@[simp] theorem State.setI_ueHit (s : State) (r : Ref) (v : Int) : (s.setI r v).ueHit = s.ueHit := rfl
@[simp] theorem State.setI_tapIr (s : State) (r : Ref) (v : Int) : (s.setI r v).tapIr = s.tapIr := rfl
@[simp] theorem State.setI_pwrgood (s : State) (r : Ref) (v : Int) : (s.setI r v).pwrgood = s.pwrgood := rfl
@[simp] theorem State.setI_vaux (s : State) (r : Ref) (v : Int) : (s.setI r v).vaux = s.vaux := rfl
@[simp] theorem State.setI_ports (s : State) (r : Ref) (v : Int) : (s.setI r v).ports = s.ports := rfl
@[simp] theorem State.setI_dmaJobs (s : State) (r : Ref) (v : Int) : (s.setI r v).dmaJobs = s.dmaJobs := rfl
@[simp] theorem State.setI_strSeq (s : State) (r : Ref) (v : Int) : (s.setI r v).strSeq = s.strSeq := rfl
@[simp] theorem State.setI_mirSeq (s : State) (r : Ref) (v : Int) : (s.setI r v).mirSeq = s.mirSeq := rfl
@[simp] theorem State.setI_resyncs (s : State) (r : Ref) (v : Int) : (s.setI r v).resyncs = s.resyncs := rfl
@[simp] theorem State.setI_dlogStage (s : State) (r : Ref) (v : Int) : (s.setI r v).dlogStage = s.dlogStage := rfl
@[simp] theorem State.setI_restWake (s : State) (r : Ref) (v : Int) : (s.setI r v).restWake = s.restWake := rfl
@[simp] theorem State.setI_startDue (s : State) (r : Ref) (v : Int) : (s.setI r v).startDue = s.startDue := rfl
@[simp] theorem State.setI_mspReply (s : State) (r : Ref) (v : Int) : (s.setI r v).mspReply = s.mspReply := rfl
@[simp] theorem State.setI_mspCount (s : State) (r : Ref) (v : Int) : (s.setI r v).mspCount = s.mspCount := rfl
@[simp] theorem State.setI_mspInd (s : State) (r : Ref) (v : Int) : (s.setI r v).mspInd = s.mspInd := rfl
@[simp] theorem State.setI_polls (s : State) (r : Ref) (v : Int) : (s.setI r v).polls = s.polls := rfl
@[simp] theorem State.setI_keepOut (s : State) (r : Ref) (v : Int) : (s.setI r v).keepOut = s.keepOut := rfl

@[simp] theorem State.bumpBy_pending (s : State) (r : Ref) (n : Nat) : (s.bumpBy r n).pending = s.pending := rfl
@[simp] theorem State.bumpBy_dram (s : State) (r : Ref) (n : Nat) : (s.bumpBy r n).dram = s.dram := rfl
@[simp] theorem State.bumpBy_mram (s : State) (r : Ref) (n : Nat) : (s.bumpBy r n).mram = s.mram := rfl
@[simp] theorem State.bumpBy_time (s : State) (r : Ref) (n : Nat) : (s.bumpBy r n).time = s.time := rfl
@[simp] theorem State.bumpBy_free (s : State) (r : Ref) (n : Nat) : (s.bumpBy r n).free = s.free := rfl
@[simp] theorem State.bumpBy_resp (s : State) (r : Ref) (n : Nat) : (s.bumpBy r n).resp = s.resp := rfl
@[simp] theorem State.bumpBy_respData (s : State) (r : Ref) (n : Nat) : (s.bumpBy r n).respData = s.respData := rfl
@[simp] theorem State.bumpBy_latches (s : State) (r : Ref) (n : Nat) : (s.bumpBy r n).latches = s.latches := rfl
@[simp] theorem State.bumpBy_muzzles (s : State) (r : Ref) (n : Nat) : (s.bumpBy r n).muzzles = s.muzzles := rfl
@[simp] theorem State.bumpBy_faultIn (s : State) (r : Ref) (n : Nat) : (s.bumpBy r n).faultIn = s.faultIn := rfl
@[simp] theorem State.bumpBy_fltPend (s : State) (r : Ref) (n : Nat) : (s.bumpBy r n).fltPend = s.fltPend := rfl
@[simp] theorem State.bumpBy_condCauses (s : State) (r : Ref) (n : Nat) : (s.bumpBy r n).condCauses = s.condCauses := rfl
@[simp] theorem State.bumpBy_inflight (s : State) (r : Ref) (n : Nat) : (s.bumpBy r n).inflight = s.inflight := rfl
@[simp] theorem State.bumpBy_replies (s : State) (r : Ref) (n : Nat) : (s.bumpBy r n).replies = s.replies := rfl
@[simp] theorem State.bumpBy_events (s : State) (r : Ref) (n : Nat) : (s.bumpBy r n).events = s.events := rfl
@[simp] theorem State.bumpBy_evtSeq (s : State) (r : Ref) (n : Nat) : (s.bumpBy r n).evtSeq = s.evtSeq := rfl
@[simp] theorem State.bumpBy_evtLost (s : State) (r : Ref) (n : Nat) : (s.bumpBy r n).evtLost = s.evtLost := rfl
@[simp] theorem State.bumpBy_coreUp (s : State) (r : Ref) (n : Nat) : (s.bumpBy r n).coreUp = s.coreUp := rfl
@[simp] theorem State.bumpBy_chans (s : State) (r : Ref) (n : Nat) : (s.bumpBy r n).chans = s.chans := rfl
@[simp] theorem State.bumpBy_apgs (s : State) (r : Ref) (n : Nat) : (s.bumpBy r n).apgs = s.apgs := rfl
@[simp] theorem State.bumpBy_calAges (s : State) (r : Ref) (n : Nat) : (s.bumpBy r n).calAges = s.calAges := rfl
@[simp] theorem State.bumpBy_gradHist (s : State) (r : Ref) (n : Nat) : (s.bumpBy r n).gradHist = s.gradHist := rfl
@[simp] theorem State.bumpBy_startHeld (s : State) (r : Ref) (n : Nat) : (s.bumpBy r n).startHeld = s.startHeld := rfl
@[simp] theorem State.bumpBy_mspSdo (s : State) (r : Ref) (n : Nat) : (s.bumpBy r n).mspSdo = s.mspSdo := rfl
@[simp] theorem State.bumpBy_strobeAt (s : State) (r : Ref) (n : Nat) : (s.bumpBy r n).strobeAt = s.strobeAt := rfl
@[simp] theorem State.bumpBy_twinPeer (s : State) (r : Ref) (n : Nat) : (s.bumpBy r n).twinPeer = s.twinPeer := rfl
@[simp] theorem State.bumpBy_twinOut (s : State) (r : Ref) (n : Nat) : (s.bumpBy r n).twinOut = s.twinOut := rfl
@[simp] theorem State.bumpBy_keepPorts (s : State) (r : Ref) (n : Nat) : (s.bumpBy r n).keepPorts = s.keepPorts := rfl
@[simp] theorem State.bumpBy_ends (s : State) (r : Ref) (n : Nat) : (s.bumpBy r n).ends = s.ends := rfl
@[simp] theorem State.bumpBy_chains (s : State) (r : Ref) (n : Nat) : (s.bumpBy r n).chains = s.chains := rfl
@[simp] theorem State.bumpBy_siteWork (s : State) (r : Ref) (n : Nat) : (s.bumpBy r n).siteWork = s.siteWork := rfl
@[simp] theorem State.bumpBy_parked (s : State) (r : Ref) (n : Nat) : (s.bumpBy r n).parked = s.parked := rfl
@[simp] theorem State.bumpBy_classSwap (s : State) (r : Ref) (n : Nat) : (s.bumpBy r n).classSwap = s.classSwap := rfl
@[simp] theorem State.bumpBy_mpaWait (s : State) (r : Ref) (n : Nat) : (s.bumpBy r n).mpaWait = s.mpaWait := rfl
@[simp] theorem State.bumpBy_laneKept (s : State) (r : Ref) (n : Nat) : (s.bumpBy r n).laneKept = s.laneKept := rfl
@[simp] theorem State.bumpBy_ueCount (s : State) (r : Ref) (n : Nat) : (s.bumpBy r n).ueCount = s.ueCount := rfl
@[simp] theorem State.bumpBy_runSerial (s : State) (r : Ref) (n : Nat) : (s.bumpBy r n).runSerial = s.runSerial := rfl
@[simp] theorem State.bumpBy_routine (s : State) (r : Ref) (n : Nat) : (s.bumpBy r n).routine = s.routine := rfl
@[simp] theorem State.bumpBy_leashFrozen (s : State) (r : Ref) (n : Nat) : (s.bumpBy r n).leashFrozen = s.leashFrozen := rfl
@[simp] theorem State.bumpBy_isoOut (s : State) (r : Ref) (n : Nat) : (s.bumpBy r n).isoOut = s.isoOut := rfl
@[simp] theorem State.bumpBy_isoAgain (s : State) (r : Ref) (n : Nat) : (s.bumpBy r n).isoAgain = s.isoAgain := rfl
@[simp] theorem State.bumpBy_runs (s : State) (r : Ref) (n : Nat) : (s.bumpBy r n).runs = s.runs := rfl
@[simp] theorem State.bumpBy_lockRun (s : State) (r : Ref) (n : Nat) : (s.bumpBy r n).lockRun = s.lockRun := rfl
@[simp] theorem State.bumpBy_leashLen (s : State) (r : Ref) (n : Nat) : (s.bumpBy r n).leashLen = s.leashLen := rfl
@[simp] theorem State.bumpBy_lastFlow (s : State) (r : Ref) (n : Nat) : (s.bumpBy r n).lastFlow = s.lastFlow := rfl
@[simp] theorem State.bumpBy_slots (s : State) (r : Ref) (n : Nat) : (s.bumpBy r n).slots = s.slots := rfl
@[simp] theorem State.bumpBy_marks (s : State) (r : Ref) (n : Nat) : (s.bumpBy r n).marks = s.marks := rfl
@[simp] theorem State.bumpBy_siteStops (s : State) (r : Ref) (n : Nat) : (s.bumpBy r n).siteStops = s.siteStops := rfl
@[simp] theorem State.bumpBy_ckptDue (s : State) (r : Ref) (n : Nat) : (s.bumpBy r n).ckptDue = s.ckptDue := rfl
@[simp] theorem State.bumpBy_ctxChanged (s : State) (r : Ref) (n : Nat) : (s.bumpBy r n).ctxChanged = s.ctxChanged := rfl
@[simp] theorem State.bumpBy_mirrorQ (s : State) (r : Ref) (n : Nat) : (s.bumpBy r n).mirrorQ = s.mirrorQ := rfl
@[simp] theorem State.bumpBy_caps (s : State) (r : Ref) (n : Nat) : (s.bumpBy r n).caps = s.caps := rfl
@[simp] theorem State.bumpBy_seqs (s : State) (r : Ref) (n : Nat) : (s.bumpBy r n).seqs = s.seqs := rfl
@[simp] theorem State.bumpBy_groups (s : State) (r : Ref) (n : Nat) : (s.bumpBy r n).groups = s.groups := rfl
@[simp] theorem State.bumpBy_pauses (s : State) (r : Ref) (n : Nat) : (s.bumpBy r n).pauses = s.pauses := rfl
@[simp] theorem State.bumpBy_jumpCmds (s : State) (r : Ref) (n : Nat) : (s.bumpBy r n).jumpCmds = s.jumpCmds := rfl
@[simp] theorem State.bumpBy_tsetSwaps (s : State) (r : Ref) (n : Nat) : (s.bumpBy r n).tsetSwaps = s.tsetSwaps := rfl
@[simp] theorem State.bumpBy_swapCmds (s : State) (r : Ref) (n : Nat) : (s.bumpBy r n).swapCmds = s.swapCmds := rfl
@[simp] theorem State.bumpBy_cues (s : State) (r : Ref) (n : Nat) : (s.bumpBy r n).cues = s.cues := rfl
@[simp] theorem State.bumpBy_cueAt (s : State) (r : Ref) (n : Nat) : (s.bumpBy r n).cueAt = s.cueAt := rfl
@[simp] theorem State.bumpBy_whReq (s : State) (r : Ref) (n : Nat) : (s.bumpBy r n).whReq = s.whReq := rfl
@[simp] theorem State.bumpBy_wh7 (s : State) (r : Ref) (n : Nat) : (s.bumpBy r n).wh7 = s.wh7 := rfl
@[simp] theorem State.bumpBy_fences (s : State) (r : Ref) (n : Nat) : (s.bumpBy r n).fences = s.fences := rfl
@[simp] theorem State.bumpBy_tmus (s : State) (r : Ref) (n : Nat) : (s.bumpBy r n).tmus = s.tmus := rfl
@[simp] theorem State.bumpBy_passes (s : State) (r : Ref) (n : Nat) : (s.bumpBy r n).passes = s.passes := rfl
@[simp] theorem State.bumpBy_alignCmds (s : State) (r : Ref) (n : Nat) : (s.bumpBy r n).alignCmds = s.alignCmds := rfl
@[simp] theorem State.bumpBy_paths (s : State) (r : Ref) (n : Nat) : (s.bumpBy r n).paths = s.paths := rfl
@[simp] theorem State.bumpBy_contactRan (s : State) (r : Ref) (n : Nat) : (s.bumpBy r n).contactRan = s.contactRan := rfl
@[simp] theorem State.bumpBy_calUnits (s : State) (r : Ref) (n : Nat) : (s.bumpBy r n).calUnits = s.calUnits := rfl
@[simp] theorem State.bumpBy_calTasks (s : State) (r : Ref) (n : Nat) : (s.bumpBy r n).calTasks = s.calTasks := rfl
@[simp] theorem State.bumpBy_calGap (s : State) (r : Ref) (n : Nat) : (s.bumpBy r n).calGap = s.calGap := rfl
@[simp] theorem State.bumpBy_calEnds (s : State) (r : Ref) (n : Nat) : (s.bumpBy r n).calEnds = s.calEnds := rfl
@[simp] theorem State.bumpBy_calLate (s : State) (r : Ref) (n : Nat) : (s.bumpBy r n).calLate = s.calLate := rfl
@[simp] theorem State.bumpBy_calStore (s : State) (r : Ref) (n : Nat) : (s.bumpBy r n).calStore = s.calStore := rfl
@[simp] theorem State.bumpBy_lastStore (s : State) (r : Ref) (n : Nat) : (s.bumpBy r n).lastStore = s.lastStore := rfl
@[simp] theorem State.bumpBy_psms (s : State) (r : Ref) (n : Nat) : (s.bumpBy r n).psms = s.psms := rfl
@[simp] theorem State.bumpBy_aes (s : State) (r : Ref) (n : Nat) : (s.bumpBy r n).aes = s.aes := rfl
@[simp] theorem State.bumpBy_aeQueue (s : State) (r : Ref) (n : Nat) : (s.bumpBy r n).aeQueue = s.aeQueue := rfl
@[simp] theorem State.bumpBy_histCount (s : State) (r : Ref) (n : Nat) : (s.bumpBy r n).histCount = s.histCount := rfl
@[simp] theorem State.bumpBy_histDrops (s : State) (r : Ref) (n : Nat) : (s.bumpBy r n).histDrops = s.histDrops := rfl
@[simp] theorem State.bumpBy_histNext (s : State) (r : Ref) (n : Nat) : (s.bumpBy r n).histNext = s.histNext := rfl
@[simp] theorem State.bumpBy_hkFired (s : State) (r : Ref) (n : Nat) : (s.bumpBy r n).hkFired = s.hkFired := rfl
@[simp] theorem State.bumpBy_hkMiss (s : State) (r : Ref) (n : Nat) : (s.bumpBy r n).hkMiss = s.hkMiss := rfl
@[simp] theorem State.bumpBy_hkRound (s : State) (r : Ref) (n : Nat) : (s.bumpBy r n).hkRound = s.hkRound := rfl
@[simp] theorem State.bumpBy_wh7In (s : State) (r : Ref) (n : Nat) : (s.bumpBy r n).wh7In = s.wh7In := rfl
@[simp] theorem State.bumpBy_wh7Armed (s : State) (r : Ref) (n : Nat) : (s.bumpBy r n).wh7Armed = s.wh7Armed := rfl
@[simp] theorem State.bumpBy_hkCompat (s : State) (r : Ref) (n : Nat) : (s.bumpBy r n).hkCompat = s.hkCompat := rfl
@[simp] theorem State.bumpBy_whReqAt (s : State) (r : Ref) (n : Nat) : (s.bumpBy r n).whReqAt = s.whReqAt := rfl
@[simp] theorem State.bumpBy_whSent (s : State) (r : Ref) (n : Nat) : (s.bumpBy r n).whSent = s.whSent := rfl
@[simp] theorem State.bumpBy_whSet (s : State) (r : Ref) (n : Nat) : (s.bumpBy r n).whSet = s.whSet := rfl
@[simp] theorem State.bumpBy_whSwap (s : State) (r : Ref) (n : Nat) : (s.bumpBy r n).whSwap = s.whSwap := rfl
@[simp] theorem State.bumpBy_whNext (s : State) (r : Ref) (n : Nat) : (s.bumpBy r n).whNext = s.whNext := rfl
@[simp] theorem State.bumpBy_sync (s : State) (r : Ref) (n : Nat) : (s.bumpBy r n).sync = s.sync := rfl
@[simp] theorem State.bumpBy_mpaK (s : State) (r : Ref) (n : Nat) : (s.bumpBy r n).mpaK = s.mpaK := rfl
@[simp] theorem State.bumpBy_mpaLast (s : State) (r : Ref) (n : Nat) : (s.bumpBy r n).mpaLast = s.mpaLast := rfl
@[simp] theorem State.bumpBy_mpaHold (s : State) (r : Ref) (n : Nat) : (s.bumpBy r n).mpaHold = s.mpaHold := rfl
@[simp] theorem State.bumpBy_ueHit (s : State) (r : Ref) (n : Nat) : (s.bumpBy r n).ueHit = s.ueHit := rfl
@[simp] theorem State.bumpBy_tapIr (s : State) (r : Ref) (n : Nat) : (s.bumpBy r n).tapIr = s.tapIr := rfl
@[simp] theorem State.bumpBy_pwrgood (s : State) (r : Ref) (n : Nat) : (s.bumpBy r n).pwrgood = s.pwrgood := rfl
@[simp] theorem State.bumpBy_vaux (s : State) (r : Ref) (n : Nat) : (s.bumpBy r n).vaux = s.vaux := rfl
@[simp] theorem State.bumpBy_ports (s : State) (r : Ref) (n : Nat) : (s.bumpBy r n).ports = s.ports := rfl
@[simp] theorem State.bumpBy_dmaJobs (s : State) (r : Ref) (n : Nat) : (s.bumpBy r n).dmaJobs = s.dmaJobs := rfl
@[simp] theorem State.bumpBy_strSeq (s : State) (r : Ref) (n : Nat) : (s.bumpBy r n).strSeq = s.strSeq := rfl
@[simp] theorem State.bumpBy_mirSeq (s : State) (r : Ref) (n : Nat) : (s.bumpBy r n).mirSeq = s.mirSeq := rfl
@[simp] theorem State.bumpBy_resyncs (s : State) (r : Ref) (n : Nat) : (s.bumpBy r n).resyncs = s.resyncs := rfl
@[simp] theorem State.bumpBy_dlogStage (s : State) (r : Ref) (n : Nat) : (s.bumpBy r n).dlogStage = s.dlogStage := rfl
@[simp] theorem State.bumpBy_restWake (s : State) (r : Ref) (n : Nat) : (s.bumpBy r n).restWake = s.restWake := rfl
@[simp] theorem State.bumpBy_startDue (s : State) (r : Ref) (n : Nat) : (s.bumpBy r n).startDue = s.startDue := rfl
@[simp] theorem State.bumpBy_mspReply (s : State) (r : Ref) (n : Nat) : (s.bumpBy r n).mspReply = s.mspReply := rfl
@[simp] theorem State.bumpBy_mspCount (s : State) (r : Ref) (n : Nat) : (s.bumpBy r n).mspCount = s.mspCount := rfl
@[simp] theorem State.bumpBy_mspInd (s : State) (r : Ref) (n : Nat) : (s.bumpBy r n).mspInd = s.mspInd := rfl
@[simp] theorem State.bumpBy_polls (s : State) (r : Ref) (n : Nat) : (s.bumpBy r n).polls = s.polls := rfl
@[simp] theorem State.bumpBy_keepOut (s : State) (r : Ref) (n : Nat) : (s.bumpBy r n).keepOut = s.keepOut := rfl

@[simp] theorem State.bump_pending (s : State) (r : Ref) : (s.bump r).pending = s.pending := rfl
@[simp] theorem State.bump_dram (s : State) (r : Ref) : (s.bump r).dram = s.dram := rfl
@[simp] theorem State.bump_mram (s : State) (r : Ref) : (s.bump r).mram = s.mram := rfl
@[simp] theorem State.bump_time (s : State) (r : Ref) : (s.bump r).time = s.time := rfl
@[simp] theorem State.bump_free (s : State) (r : Ref) : (s.bump r).free = s.free := rfl
@[simp] theorem State.bump_resp (s : State) (r : Ref) : (s.bump r).resp = s.resp := rfl
@[simp] theorem State.bump_respData (s : State) (r : Ref) : (s.bump r).respData = s.respData := rfl
@[simp] theorem State.bump_latches (s : State) (r : Ref) : (s.bump r).latches = s.latches := rfl
@[simp] theorem State.bump_muzzles (s : State) (r : Ref) : (s.bump r).muzzles = s.muzzles := rfl
@[simp] theorem State.bump_faultIn (s : State) (r : Ref) : (s.bump r).faultIn = s.faultIn := rfl
@[simp] theorem State.bump_fltPend (s : State) (r : Ref) : (s.bump r).fltPend = s.fltPend := rfl
@[simp] theorem State.bump_condCauses (s : State) (r : Ref) : (s.bump r).condCauses = s.condCauses := rfl
@[simp] theorem State.bump_inflight (s : State) (r : Ref) : (s.bump r).inflight = s.inflight := rfl
@[simp] theorem State.bump_replies (s : State) (r : Ref) : (s.bump r).replies = s.replies := rfl
@[simp] theorem State.bump_events (s : State) (r : Ref) : (s.bump r).events = s.events := rfl
@[simp] theorem State.bump_evtSeq (s : State) (r : Ref) : (s.bump r).evtSeq = s.evtSeq := rfl
@[simp] theorem State.bump_evtLost (s : State) (r : Ref) : (s.bump r).evtLost = s.evtLost := rfl
@[simp] theorem State.bump_coreUp (s : State) (r : Ref) : (s.bump r).coreUp = s.coreUp := rfl
@[simp] theorem State.bump_chans (s : State) (r : Ref) : (s.bump r).chans = s.chans := rfl
@[simp] theorem State.bump_apgs (s : State) (r : Ref) : (s.bump r).apgs = s.apgs := rfl
@[simp] theorem State.bump_calAges (s : State) (r : Ref) : (s.bump r).calAges = s.calAges := rfl
@[simp] theorem State.bump_gradHist (s : State) (r : Ref) : (s.bump r).gradHist = s.gradHist := rfl
@[simp] theorem State.bump_startHeld (s : State) (r : Ref) : (s.bump r).startHeld = s.startHeld := rfl
@[simp] theorem State.bump_mspSdo (s : State) (r : Ref) : (s.bump r).mspSdo = s.mspSdo := rfl
@[simp] theorem State.bump_strobeAt (s : State) (r : Ref) : (s.bump r).strobeAt = s.strobeAt := rfl
@[simp] theorem State.bump_twinPeer (s : State) (r : Ref) : (s.bump r).twinPeer = s.twinPeer := rfl
@[simp] theorem State.bump_twinOut (s : State) (r : Ref) : (s.bump r).twinOut = s.twinOut := rfl
@[simp] theorem State.bump_keepPorts (s : State) (r : Ref) : (s.bump r).keepPorts = s.keepPorts := rfl
@[simp] theorem State.bump_ends (s : State) (r : Ref) : (s.bump r).ends = s.ends := rfl
@[simp] theorem State.bump_chains (s : State) (r : Ref) : (s.bump r).chains = s.chains := rfl
@[simp] theorem State.bump_siteWork (s : State) (r : Ref) : (s.bump r).siteWork = s.siteWork := rfl
@[simp] theorem State.bump_parked (s : State) (r : Ref) : (s.bump r).parked = s.parked := rfl
@[simp] theorem State.bump_classSwap (s : State) (r : Ref) : (s.bump r).classSwap = s.classSwap := rfl
@[simp] theorem State.bump_mpaWait (s : State) (r : Ref) : (s.bump r).mpaWait = s.mpaWait := rfl
@[simp] theorem State.bump_laneKept (s : State) (r : Ref) : (s.bump r).laneKept = s.laneKept := rfl
@[simp] theorem State.bump_ueCount (s : State) (r : Ref) : (s.bump r).ueCount = s.ueCount := rfl
@[simp] theorem State.bump_runSerial (s : State) (r : Ref) : (s.bump r).runSerial = s.runSerial := rfl
@[simp] theorem State.bump_routine (s : State) (r : Ref) : (s.bump r).routine = s.routine := rfl
@[simp] theorem State.bump_leashFrozen (s : State) (r : Ref) : (s.bump r).leashFrozen = s.leashFrozen := rfl
@[simp] theorem State.bump_isoOut (s : State) (r : Ref) : (s.bump r).isoOut = s.isoOut := rfl
@[simp] theorem State.bump_isoAgain (s : State) (r : Ref) : (s.bump r).isoAgain = s.isoAgain := rfl
@[simp] theorem State.bump_runs (s : State) (r : Ref) : (s.bump r).runs = s.runs := rfl
@[simp] theorem State.bump_lockRun (s : State) (r : Ref) : (s.bump r).lockRun = s.lockRun := rfl
@[simp] theorem State.bump_leashLen (s : State) (r : Ref) : (s.bump r).leashLen = s.leashLen := rfl
@[simp] theorem State.bump_lastFlow (s : State) (r : Ref) : (s.bump r).lastFlow = s.lastFlow := rfl
@[simp] theorem State.bump_slots (s : State) (r : Ref) : (s.bump r).slots = s.slots := rfl
@[simp] theorem State.bump_marks (s : State) (r : Ref) : (s.bump r).marks = s.marks := rfl
@[simp] theorem State.bump_siteStops (s : State) (r : Ref) : (s.bump r).siteStops = s.siteStops := rfl
@[simp] theorem State.bump_ckptDue (s : State) (r : Ref) : (s.bump r).ckptDue = s.ckptDue := rfl
@[simp] theorem State.bump_ctxChanged (s : State) (r : Ref) : (s.bump r).ctxChanged = s.ctxChanged := rfl
@[simp] theorem State.bump_mirrorQ (s : State) (r : Ref) : (s.bump r).mirrorQ = s.mirrorQ := rfl
@[simp] theorem State.bump_caps (s : State) (r : Ref) : (s.bump r).caps = s.caps := rfl
@[simp] theorem State.bump_seqs (s : State) (r : Ref) : (s.bump r).seqs = s.seqs := rfl
@[simp] theorem State.bump_groups (s : State) (r : Ref) : (s.bump r).groups = s.groups := rfl
@[simp] theorem State.bump_pauses (s : State) (r : Ref) : (s.bump r).pauses = s.pauses := rfl
@[simp] theorem State.bump_jumpCmds (s : State) (r : Ref) : (s.bump r).jumpCmds = s.jumpCmds := rfl
@[simp] theorem State.bump_tsetSwaps (s : State) (r : Ref) : (s.bump r).tsetSwaps = s.tsetSwaps := rfl
@[simp] theorem State.bump_swapCmds (s : State) (r : Ref) : (s.bump r).swapCmds = s.swapCmds := rfl
@[simp] theorem State.bump_cues (s : State) (r : Ref) : (s.bump r).cues = s.cues := rfl
@[simp] theorem State.bump_cueAt (s : State) (r : Ref) : (s.bump r).cueAt = s.cueAt := rfl
@[simp] theorem State.bump_whReq (s : State) (r : Ref) : (s.bump r).whReq = s.whReq := rfl
@[simp] theorem State.bump_wh7 (s : State) (r : Ref) : (s.bump r).wh7 = s.wh7 := rfl
@[simp] theorem State.bump_fences (s : State) (r : Ref) : (s.bump r).fences = s.fences := rfl
@[simp] theorem State.bump_tmus (s : State) (r : Ref) : (s.bump r).tmus = s.tmus := rfl
@[simp] theorem State.bump_passes (s : State) (r : Ref) : (s.bump r).passes = s.passes := rfl
@[simp] theorem State.bump_alignCmds (s : State) (r : Ref) : (s.bump r).alignCmds = s.alignCmds := rfl
@[simp] theorem State.bump_paths (s : State) (r : Ref) : (s.bump r).paths = s.paths := rfl
@[simp] theorem State.bump_contactRan (s : State) (r : Ref) : (s.bump r).contactRan = s.contactRan := rfl
@[simp] theorem State.bump_calUnits (s : State) (r : Ref) : (s.bump r).calUnits = s.calUnits := rfl
@[simp] theorem State.bump_calTasks (s : State) (r : Ref) : (s.bump r).calTasks = s.calTasks := rfl
@[simp] theorem State.bump_calGap (s : State) (r : Ref) : (s.bump r).calGap = s.calGap := rfl
@[simp] theorem State.bump_calEnds (s : State) (r : Ref) : (s.bump r).calEnds = s.calEnds := rfl
@[simp] theorem State.bump_calLate (s : State) (r : Ref) : (s.bump r).calLate = s.calLate := rfl
@[simp] theorem State.bump_calStore (s : State) (r : Ref) : (s.bump r).calStore = s.calStore := rfl
@[simp] theorem State.bump_lastStore (s : State) (r : Ref) : (s.bump r).lastStore = s.lastStore := rfl
@[simp] theorem State.bump_psms (s : State) (r : Ref) : (s.bump r).psms = s.psms := rfl
@[simp] theorem State.bump_aes (s : State) (r : Ref) : (s.bump r).aes = s.aes := rfl
@[simp] theorem State.bump_aeQueue (s : State) (r : Ref) : (s.bump r).aeQueue = s.aeQueue := rfl
@[simp] theorem State.bump_histCount (s : State) (r : Ref) : (s.bump r).histCount = s.histCount := rfl
@[simp] theorem State.bump_histDrops (s : State) (r : Ref) : (s.bump r).histDrops = s.histDrops := rfl
@[simp] theorem State.bump_histNext (s : State) (r : Ref) : (s.bump r).histNext = s.histNext := rfl
@[simp] theorem State.bump_hkFired (s : State) (r : Ref) : (s.bump r).hkFired = s.hkFired := rfl
@[simp] theorem State.bump_hkMiss (s : State) (r : Ref) : (s.bump r).hkMiss = s.hkMiss := rfl
@[simp] theorem State.bump_hkRound (s : State) (r : Ref) : (s.bump r).hkRound = s.hkRound := rfl
@[simp] theorem State.bump_wh7In (s : State) (r : Ref) : (s.bump r).wh7In = s.wh7In := rfl
@[simp] theorem State.bump_wh7Armed (s : State) (r : Ref) : (s.bump r).wh7Armed = s.wh7Armed := rfl
@[simp] theorem State.bump_hkCompat (s : State) (r : Ref) : (s.bump r).hkCompat = s.hkCompat := rfl
@[simp] theorem State.bump_whReqAt (s : State) (r : Ref) : (s.bump r).whReqAt = s.whReqAt := rfl
@[simp] theorem State.bump_whSent (s : State) (r : Ref) : (s.bump r).whSent = s.whSent := rfl
@[simp] theorem State.bump_whSet (s : State) (r : Ref) : (s.bump r).whSet = s.whSet := rfl
@[simp] theorem State.bump_whSwap (s : State) (r : Ref) : (s.bump r).whSwap = s.whSwap := rfl
@[simp] theorem State.bump_whNext (s : State) (r : Ref) : (s.bump r).whNext = s.whNext := rfl
@[simp] theorem State.bump_sync (s : State) (r : Ref) : (s.bump r).sync = s.sync := rfl
@[simp] theorem State.bump_mpaK (s : State) (r : Ref) : (s.bump r).mpaK = s.mpaK := rfl
@[simp] theorem State.bump_mpaLast (s : State) (r : Ref) : (s.bump r).mpaLast = s.mpaLast := rfl
@[simp] theorem State.bump_mpaHold (s : State) (r : Ref) : (s.bump r).mpaHold = s.mpaHold := rfl
@[simp] theorem State.bump_ueHit (s : State) (r : Ref) : (s.bump r).ueHit = s.ueHit := rfl
@[simp] theorem State.bump_tapIr (s : State) (r : Ref) : (s.bump r).tapIr = s.tapIr := rfl
@[simp] theorem State.bump_pwrgood (s : State) (r : Ref) : (s.bump r).pwrgood = s.pwrgood := rfl
@[simp] theorem State.bump_vaux (s : State) (r : Ref) : (s.bump r).vaux = s.vaux := rfl
@[simp] theorem State.bump_ports (s : State) (r : Ref) : (s.bump r).ports = s.ports := rfl
@[simp] theorem State.bump_dmaJobs (s : State) (r : Ref) : (s.bump r).dmaJobs = s.dmaJobs := rfl
@[simp] theorem State.bump_strSeq (s : State) (r : Ref) : (s.bump r).strSeq = s.strSeq := rfl
@[simp] theorem State.bump_mirSeq (s : State) (r : Ref) : (s.bump r).mirSeq = s.mirSeq := rfl
@[simp] theorem State.bump_resyncs (s : State) (r : Ref) : (s.bump r).resyncs = s.resyncs := rfl
@[simp] theorem State.bump_dlogStage (s : State) (r : Ref) : (s.bump r).dlogStage = s.dlogStage := rfl
@[simp] theorem State.bump_restWake (s : State) (r : Ref) : (s.bump r).restWake = s.restWake := rfl
@[simp] theorem State.bump_startDue (s : State) (r : Ref) : (s.bump r).startDue = s.startDue := rfl
@[simp] theorem State.bump_mspReply (s : State) (r : Ref) : (s.bump r).mspReply = s.mspReply := rfl
@[simp] theorem State.bump_mspCount (s : State) (r : Ref) : (s.bump r).mspCount = s.mspCount := rfl
@[simp] theorem State.bump_mspInd (s : State) (r : Ref) : (s.bump r).mspInd = s.mspInd := rfl
@[simp] theorem State.bump_polls (s : State) (r : Ref) : (s.bump r).polls = s.polls := rfl
@[simp] theorem State.bump_keepOut (s : State) (r : Ref) : (s.bump r).keepOut = s.keepOut := rfl

@[simp] theorem State.wr64_pending (s : State) (a v : Nat) : (s.wr64 a v).pending = s.pending := rfl
@[simp] theorem State.wr64_dram (s : State) (a v : Nat) : (s.wr64 a v).dram = s.dram := rfl
@[simp] theorem State.wr64_mram (s : State) (a v : Nat) : (s.wr64 a v).mram = s.mram := rfl
@[simp] theorem State.wr64_time (s : State) (a v : Nat) : (s.wr64 a v).time = s.time := rfl
@[simp] theorem State.wr64_free (s : State) (a v : Nat) : (s.wr64 a v).free = s.free := rfl
@[simp] theorem State.wr64_resp (s : State) (a v : Nat) : (s.wr64 a v).resp = s.resp := rfl
@[simp] theorem State.wr64_respData (s : State) (a v : Nat) : (s.wr64 a v).respData = s.respData := rfl
@[simp] theorem State.wr64_latches (s : State) (a v : Nat) : (s.wr64 a v).latches = s.latches := rfl
@[simp] theorem State.wr64_muzzles (s : State) (a v : Nat) : (s.wr64 a v).muzzles = s.muzzles := rfl
@[simp] theorem State.wr64_faultIn (s : State) (a v : Nat) : (s.wr64 a v).faultIn = s.faultIn := rfl
@[simp] theorem State.wr64_fltPend (s : State) (a v : Nat) : (s.wr64 a v).fltPend = s.fltPend := rfl
@[simp] theorem State.wr64_condCauses (s : State) (a v : Nat) : (s.wr64 a v).condCauses = s.condCauses := rfl
@[simp] theorem State.wr64_inflight (s : State) (a v : Nat) : (s.wr64 a v).inflight = s.inflight := rfl
@[simp] theorem State.wr64_replies (s : State) (a v : Nat) : (s.wr64 a v).replies = s.replies := rfl
@[simp] theorem State.wr64_events (s : State) (a v : Nat) : (s.wr64 a v).events = s.events := rfl
@[simp] theorem State.wr64_evtSeq (s : State) (a v : Nat) : (s.wr64 a v).evtSeq = s.evtSeq := rfl
@[simp] theorem State.wr64_evtLost (s : State) (a v : Nat) : (s.wr64 a v).evtLost = s.evtLost := rfl
@[simp] theorem State.wr64_coreUp (s : State) (a v : Nat) : (s.wr64 a v).coreUp = s.coreUp := rfl
@[simp] theorem State.wr64_chans (s : State) (a v : Nat) : (s.wr64 a v).chans = s.chans := rfl
@[simp] theorem State.wr64_apgs (s : State) (a v : Nat) : (s.wr64 a v).apgs = s.apgs := rfl
@[simp] theorem State.wr64_calAges (s : State) (a v : Nat) : (s.wr64 a v).calAges = s.calAges := rfl
@[simp] theorem State.wr64_gradHist (s : State) (a v : Nat) : (s.wr64 a v).gradHist = s.gradHist := rfl
@[simp] theorem State.wr64_startHeld (s : State) (a v : Nat) : (s.wr64 a v).startHeld = s.startHeld := rfl
@[simp] theorem State.wr64_mspSdo (s : State) (a v : Nat) : (s.wr64 a v).mspSdo = s.mspSdo := rfl
@[simp] theorem State.wr64_strobeAt (s : State) (a v : Nat) : (s.wr64 a v).strobeAt = s.strobeAt := rfl
@[simp] theorem State.wr64_twinPeer (s : State) (a v : Nat) : (s.wr64 a v).twinPeer = s.twinPeer := rfl
@[simp] theorem State.wr64_twinOut (s : State) (a v : Nat) : (s.wr64 a v).twinOut = s.twinOut := rfl
@[simp] theorem State.wr64_keepPorts (s : State) (a v : Nat) : (s.wr64 a v).keepPorts = s.keepPorts := rfl
@[simp] theorem State.wr64_ends (s : State) (a v : Nat) : (s.wr64 a v).ends = s.ends := rfl
@[simp] theorem State.wr64_chains (s : State) (a v : Nat) : (s.wr64 a v).chains = s.chains := rfl
@[simp] theorem State.wr64_siteWork (s : State) (a v : Nat) : (s.wr64 a v).siteWork = s.siteWork := rfl
@[simp] theorem State.wr64_parked (s : State) (a v : Nat) : (s.wr64 a v).parked = s.parked := rfl
@[simp] theorem State.wr64_classSwap (s : State) (a v : Nat) : (s.wr64 a v).classSwap = s.classSwap := rfl
@[simp] theorem State.wr64_mpaWait (s : State) (a v : Nat) : (s.wr64 a v).mpaWait = s.mpaWait := rfl
@[simp] theorem State.wr64_laneKept (s : State) (a v : Nat) : (s.wr64 a v).laneKept = s.laneKept := rfl
@[simp] theorem State.wr64_ueCount (s : State) (a v : Nat) : (s.wr64 a v).ueCount = s.ueCount := rfl
@[simp] theorem State.wr64_runSerial (s : State) (a v : Nat) : (s.wr64 a v).runSerial = s.runSerial := rfl
@[simp] theorem State.wr64_routine (s : State) (a v : Nat) : (s.wr64 a v).routine = s.routine := rfl
@[simp] theorem State.wr64_leashFrozen (s : State) (a v : Nat) : (s.wr64 a v).leashFrozen = s.leashFrozen := rfl
@[simp] theorem State.wr64_isoOut (s : State) (a v : Nat) : (s.wr64 a v).isoOut = s.isoOut := rfl
@[simp] theorem State.wr64_isoAgain (s : State) (a v : Nat) : (s.wr64 a v).isoAgain = s.isoAgain := rfl
@[simp] theorem State.wr64_runs (s : State) (a v : Nat) : (s.wr64 a v).runs = s.runs := rfl
@[simp] theorem State.wr64_lockRun (s : State) (a v : Nat) : (s.wr64 a v).lockRun = s.lockRun := rfl
@[simp] theorem State.wr64_leashLen (s : State) (a v : Nat) : (s.wr64 a v).leashLen = s.leashLen := rfl
@[simp] theorem State.wr64_lastFlow (s : State) (a v : Nat) : (s.wr64 a v).lastFlow = s.lastFlow := rfl
@[simp] theorem State.wr64_slots (s : State) (a v : Nat) : (s.wr64 a v).slots = s.slots := rfl
@[simp] theorem State.wr64_marks (s : State) (a v : Nat) : (s.wr64 a v).marks = s.marks := rfl
@[simp] theorem State.wr64_siteStops (s : State) (a v : Nat) : (s.wr64 a v).siteStops = s.siteStops := rfl
@[simp] theorem State.wr64_ckptDue (s : State) (a v : Nat) : (s.wr64 a v).ckptDue = s.ckptDue := rfl
@[simp] theorem State.wr64_ctxChanged (s : State) (a v : Nat) : (s.wr64 a v).ctxChanged = s.ctxChanged := rfl
@[simp] theorem State.wr64_mirrorQ (s : State) (a v : Nat) : (s.wr64 a v).mirrorQ = s.mirrorQ := rfl
@[simp] theorem State.wr64_caps (s : State) (a v : Nat) : (s.wr64 a v).caps = s.caps := rfl
@[simp] theorem State.wr64_seqs (s : State) (a v : Nat) : (s.wr64 a v).seqs = s.seqs := rfl
@[simp] theorem State.wr64_groups (s : State) (a v : Nat) : (s.wr64 a v).groups = s.groups := rfl
@[simp] theorem State.wr64_pauses (s : State) (a v : Nat) : (s.wr64 a v).pauses = s.pauses := rfl
@[simp] theorem State.wr64_jumpCmds (s : State) (a v : Nat) : (s.wr64 a v).jumpCmds = s.jumpCmds := rfl
@[simp] theorem State.wr64_tsetSwaps (s : State) (a v : Nat) : (s.wr64 a v).tsetSwaps = s.tsetSwaps := rfl
@[simp] theorem State.wr64_swapCmds (s : State) (a v : Nat) : (s.wr64 a v).swapCmds = s.swapCmds := rfl
@[simp] theorem State.wr64_cues (s : State) (a v : Nat) : (s.wr64 a v).cues = s.cues := rfl
@[simp] theorem State.wr64_cueAt (s : State) (a v : Nat) : (s.wr64 a v).cueAt = s.cueAt := rfl
@[simp] theorem State.wr64_whReq (s : State) (a v : Nat) : (s.wr64 a v).whReq = s.whReq := rfl
@[simp] theorem State.wr64_wh7 (s : State) (a v : Nat) : (s.wr64 a v).wh7 = s.wh7 := rfl
@[simp] theorem State.wr64_fences (s : State) (a v : Nat) : (s.wr64 a v).fences = s.fences := rfl
@[simp] theorem State.wr64_tmus (s : State) (a v : Nat) : (s.wr64 a v).tmus = s.tmus := rfl
@[simp] theorem State.wr64_passes (s : State) (a v : Nat) : (s.wr64 a v).passes = s.passes := rfl
@[simp] theorem State.wr64_alignCmds (s : State) (a v : Nat) : (s.wr64 a v).alignCmds = s.alignCmds := rfl
@[simp] theorem State.wr64_paths (s : State) (a v : Nat) : (s.wr64 a v).paths = s.paths := rfl
@[simp] theorem State.wr64_contactRan (s : State) (a v : Nat) : (s.wr64 a v).contactRan = s.contactRan := rfl
@[simp] theorem State.wr64_calUnits (s : State) (a v : Nat) : (s.wr64 a v).calUnits = s.calUnits := rfl
@[simp] theorem State.wr64_calTasks (s : State) (a v : Nat) : (s.wr64 a v).calTasks = s.calTasks := rfl
@[simp] theorem State.wr64_calGap (s : State) (a v : Nat) : (s.wr64 a v).calGap = s.calGap := rfl
@[simp] theorem State.wr64_calEnds (s : State) (a v : Nat) : (s.wr64 a v).calEnds = s.calEnds := rfl
@[simp] theorem State.wr64_calLate (s : State) (a v : Nat) : (s.wr64 a v).calLate = s.calLate := rfl
@[simp] theorem State.wr64_calStore (s : State) (a v : Nat) : (s.wr64 a v).calStore = s.calStore := rfl
@[simp] theorem State.wr64_lastStore (s : State) (a v : Nat) : (s.wr64 a v).lastStore = s.lastStore := rfl
@[simp] theorem State.wr64_psms (s : State) (a v : Nat) : (s.wr64 a v).psms = s.psms := rfl
@[simp] theorem State.wr64_aes (s : State) (a v : Nat) : (s.wr64 a v).aes = s.aes := rfl
@[simp] theorem State.wr64_aeQueue (s : State) (a v : Nat) : (s.wr64 a v).aeQueue = s.aeQueue := rfl
@[simp] theorem State.wr64_histCount (s : State) (a v : Nat) : (s.wr64 a v).histCount = s.histCount := rfl
@[simp] theorem State.wr64_histDrops (s : State) (a v : Nat) : (s.wr64 a v).histDrops = s.histDrops := rfl
@[simp] theorem State.wr64_histNext (s : State) (a v : Nat) : (s.wr64 a v).histNext = s.histNext := rfl
@[simp] theorem State.wr64_hkFired (s : State) (a v : Nat) : (s.wr64 a v).hkFired = s.hkFired := rfl
@[simp] theorem State.wr64_hkMiss (s : State) (a v : Nat) : (s.wr64 a v).hkMiss = s.hkMiss := rfl
@[simp] theorem State.wr64_hkRound (s : State) (a v : Nat) : (s.wr64 a v).hkRound = s.hkRound := rfl
@[simp] theorem State.wr64_wh7In (s : State) (a v : Nat) : (s.wr64 a v).wh7In = s.wh7In := rfl
@[simp] theorem State.wr64_wh7Armed (s : State) (a v : Nat) : (s.wr64 a v).wh7Armed = s.wh7Armed := rfl
@[simp] theorem State.wr64_hkCompat (s : State) (a v : Nat) : (s.wr64 a v).hkCompat = s.hkCompat := rfl
@[simp] theorem State.wr64_whReqAt (s : State) (a v : Nat) : (s.wr64 a v).whReqAt = s.whReqAt := rfl
@[simp] theorem State.wr64_whSent (s : State) (a v : Nat) : (s.wr64 a v).whSent = s.whSent := rfl
@[simp] theorem State.wr64_whSet (s : State) (a v : Nat) : (s.wr64 a v).whSet = s.whSet := rfl
@[simp] theorem State.wr64_whSwap (s : State) (a v : Nat) : (s.wr64 a v).whSwap = s.whSwap := rfl
@[simp] theorem State.wr64_whNext (s : State) (a v : Nat) : (s.wr64 a v).whNext = s.whNext := rfl
@[simp] theorem State.wr64_sync (s : State) (a v : Nat) : (s.wr64 a v).sync = s.sync := rfl
@[simp] theorem State.wr64_mpaK (s : State) (a v : Nat) : (s.wr64 a v).mpaK = s.mpaK := rfl
@[simp] theorem State.wr64_mpaLast (s : State) (a v : Nat) : (s.wr64 a v).mpaLast = s.mpaLast := rfl
@[simp] theorem State.wr64_mpaHold (s : State) (a v : Nat) : (s.wr64 a v).mpaHold = s.mpaHold := rfl
@[simp] theorem State.wr64_ueHit (s : State) (a v : Nat) : (s.wr64 a v).ueHit = s.ueHit := rfl
@[simp] theorem State.wr64_tapIr (s : State) (a v : Nat) : (s.wr64 a v).tapIr = s.tapIr := rfl
@[simp] theorem State.wr64_pwrgood (s : State) (a v : Nat) : (s.wr64 a v).pwrgood = s.pwrgood := rfl
@[simp] theorem State.wr64_vaux (s : State) (a v : Nat) : (s.wr64 a v).vaux = s.vaux := rfl
@[simp] theorem State.wr64_ports (s : State) (a v : Nat) : (s.wr64 a v).ports = s.ports := rfl
@[simp] theorem State.wr64_dmaJobs (s : State) (a v : Nat) : (s.wr64 a v).dmaJobs = s.dmaJobs := rfl
@[simp] theorem State.wr64_strSeq (s : State) (a v : Nat) : (s.wr64 a v).strSeq = s.strSeq := rfl
@[simp] theorem State.wr64_mirSeq (s : State) (a v : Nat) : (s.wr64 a v).mirSeq = s.mirSeq := rfl
@[simp] theorem State.wr64_resyncs (s : State) (a v : Nat) : (s.wr64 a v).resyncs = s.resyncs := rfl
@[simp] theorem State.wr64_dlogStage (s : State) (a v : Nat) : (s.wr64 a v).dlogStage = s.dlogStage := rfl
@[simp] theorem State.wr64_restWake (s : State) (a v : Nat) : (s.wr64 a v).restWake = s.restWake := rfl
@[simp] theorem State.wr64_startDue (s : State) (a v : Nat) : (s.wr64 a v).startDue = s.startDue := rfl
@[simp] theorem State.wr64_mspReply (s : State) (a v : Nat) : (s.wr64 a v).mspReply = s.mspReply := rfl
@[simp] theorem State.wr64_mspCount (s : State) (a v : Nat) : (s.wr64 a v).mspCount = s.mspCount := rfl
@[simp] theorem State.wr64_mspInd (s : State) (a v : Nat) : (s.wr64 a v).mspInd = s.mspInd := rfl
@[simp] theorem State.wr64_polls (s : State) (a v : Nat) : (s.wr64 a v).polls = s.polls := rfl
@[simp] theorem State.wr64_keepOut (s : State) (a v : Nat) : (s.wr64 a v).keepOut = s.keepOut := rfl

@[simp] theorem State.raise_pending (s : State) (a b c d : Nat) : (s.raise a b c d).pending = s.pending := rfl
@[simp] theorem State.raise_regs (s : State) (a b c d : Nat) : (s.raise a b c d).regs = s.regs := rfl
@[simp] theorem State.raise_dram (s : State) (a b c d : Nat) : (s.raise a b c d).dram = s.dram := rfl
@[simp] theorem State.raise_mram (s : State) (a b c d : Nat) : (s.raise a b c d).mram = s.mram := rfl
@[simp] theorem State.raise_time (s : State) (a b c d : Nat) : (s.raise a b c d).time = s.time := rfl
@[simp] theorem State.raise_free (s : State) (a b c d : Nat) : (s.raise a b c d).free = s.free := rfl
@[simp] theorem State.raise_resp (s : State) (a b c d : Nat) : (s.raise a b c d).resp = s.resp := rfl
@[simp] theorem State.raise_respData (s : State) (a b c d : Nat) : (s.raise a b c d).respData = s.respData := rfl
@[simp] theorem State.raise_latches (s : State) (a b c d : Nat) : (s.raise a b c d).latches = s.latches := rfl
@[simp] theorem State.raise_muzzles (s : State) (a b c d : Nat) : (s.raise a b c d).muzzles = s.muzzles := rfl
@[simp] theorem State.raise_fltPend (s : State) (a b c d : Nat) : (s.raise a b c d).fltPend = s.fltPend := rfl
@[simp] theorem State.raise_condCauses (s : State) (a b c d : Nat) : (s.raise a b c d).condCauses = s.condCauses := rfl
@[simp] theorem State.raise_inflight (s : State) (a b c d : Nat) : (s.raise a b c d).inflight = s.inflight := rfl
@[simp] theorem State.raise_replies (s : State) (a b c d : Nat) : (s.raise a b c d).replies = s.replies := rfl
@[simp] theorem State.raise_events (s : State) (a b c d : Nat) : (s.raise a b c d).events = s.events := rfl
@[simp] theorem State.raise_evtSeq (s : State) (a b c d : Nat) : (s.raise a b c d).evtSeq = s.evtSeq := rfl
@[simp] theorem State.raise_evtLost (s : State) (a b c d : Nat) : (s.raise a b c d).evtLost = s.evtLost := rfl
@[simp] theorem State.raise_coreUp (s : State) (a b c d : Nat) : (s.raise a b c d).coreUp = s.coreUp := rfl
@[simp] theorem State.raise_chans (s : State) (a b c d : Nat) : (s.raise a b c d).chans = s.chans := rfl
@[simp] theorem State.raise_apgs (s : State) (a b c d : Nat) : (s.raise a b c d).apgs = s.apgs := rfl
@[simp] theorem State.raise_calAges (s : State) (a b c d : Nat) : (s.raise a b c d).calAges = s.calAges := rfl
@[simp] theorem State.raise_gradHist (s : State) (a b c d : Nat) : (s.raise a b c d).gradHist = s.gradHist := rfl
@[simp] theorem State.raise_startHeld (s : State) (a b c d : Nat) : (s.raise a b c d).startHeld = s.startHeld := rfl
@[simp] theorem State.raise_mspSdo (s : State) (a b c d : Nat) : (s.raise a b c d).mspSdo = s.mspSdo := rfl
@[simp] theorem State.raise_strobeAt (s : State) (a b c d : Nat) : (s.raise a b c d).strobeAt = s.strobeAt := rfl
@[simp] theorem State.raise_twinPeer (s : State) (a b c d : Nat) : (s.raise a b c d).twinPeer = s.twinPeer := rfl
@[simp] theorem State.raise_twinOut (s : State) (a b c d : Nat) : (s.raise a b c d).twinOut = s.twinOut := rfl
@[simp] theorem State.raise_keepPorts (s : State) (a b c d : Nat) : (s.raise a b c d).keepPorts = s.keepPorts := rfl
@[simp] theorem State.raise_ends (s : State) (a b c d : Nat) : (s.raise a b c d).ends = s.ends := rfl
@[simp] theorem State.raise_chains (s : State) (a b c d : Nat) : (s.raise a b c d).chains = s.chains := rfl
@[simp] theorem State.raise_siteWork (s : State) (a b c d : Nat) : (s.raise a b c d).siteWork = s.siteWork := rfl
@[simp] theorem State.raise_parked (s : State) (a b c d : Nat) : (s.raise a b c d).parked = s.parked := rfl
@[simp] theorem State.raise_classSwap (s : State) (a b c d : Nat) : (s.raise a b c d).classSwap = s.classSwap := rfl
@[simp] theorem State.raise_mpaWait (s : State) (a b c d : Nat) : (s.raise a b c d).mpaWait = s.mpaWait := rfl
@[simp] theorem State.raise_laneKept (s : State) (a b c d : Nat) : (s.raise a b c d).laneKept = s.laneKept := rfl
@[simp] theorem State.raise_ueCount (s : State) (a b c d : Nat) : (s.raise a b c d).ueCount = s.ueCount := rfl
@[simp] theorem State.raise_runSerial (s : State) (a b c d : Nat) : (s.raise a b c d).runSerial = s.runSerial := rfl
@[simp] theorem State.raise_routine (s : State) (a b c d : Nat) : (s.raise a b c d).routine = s.routine := rfl
@[simp] theorem State.raise_leashFrozen (s : State) (a b c d : Nat) : (s.raise a b c d).leashFrozen = s.leashFrozen := rfl
@[simp] theorem State.raise_isoOut (s : State) (a b c d : Nat) : (s.raise a b c d).isoOut = s.isoOut := rfl
@[simp] theorem State.raise_isoAgain (s : State) (a b c d : Nat) : (s.raise a b c d).isoAgain = s.isoAgain := rfl
@[simp] theorem State.raise_runs (s : State) (a b c d : Nat) : (s.raise a b c d).runs = s.runs := rfl
@[simp] theorem State.raise_lockRun (s : State) (a b c d : Nat) : (s.raise a b c d).lockRun = s.lockRun := rfl
@[simp] theorem State.raise_leashLen (s : State) (a b c d : Nat) : (s.raise a b c d).leashLen = s.leashLen := rfl
@[simp] theorem State.raise_lastFlow (s : State) (a b c d : Nat) : (s.raise a b c d).lastFlow = s.lastFlow := rfl
@[simp] theorem State.raise_slots (s : State) (a b c d : Nat) : (s.raise a b c d).slots = s.slots := rfl
@[simp] theorem State.raise_marks (s : State) (a b c d : Nat) : (s.raise a b c d).marks = s.marks := rfl
@[simp] theorem State.raise_siteStops (s : State) (a b c d : Nat) : (s.raise a b c d).siteStops = s.siteStops := rfl
@[simp] theorem State.raise_ckptDue (s : State) (a b c d : Nat) : (s.raise a b c d).ckptDue = s.ckptDue := rfl
@[simp] theorem State.raise_ctxChanged (s : State) (a b c d : Nat) : (s.raise a b c d).ctxChanged = s.ctxChanged := rfl
@[simp] theorem State.raise_mirrorQ (s : State) (a b c d : Nat) : (s.raise a b c d).mirrorQ = s.mirrorQ := rfl
@[simp] theorem State.raise_caps (s : State) (a b c d : Nat) : (s.raise a b c d).caps = s.caps := rfl
@[simp] theorem State.raise_seqs (s : State) (a b c d : Nat) : (s.raise a b c d).seqs = s.seqs := rfl
@[simp] theorem State.raise_groups (s : State) (a b c d : Nat) : (s.raise a b c d).groups = s.groups := rfl
@[simp] theorem State.raise_pauses (s : State) (a b c d : Nat) : (s.raise a b c d).pauses = s.pauses := rfl
@[simp] theorem State.raise_jumpCmds (s : State) (a b c d : Nat) : (s.raise a b c d).jumpCmds = s.jumpCmds := rfl
@[simp] theorem State.raise_tsetSwaps (s : State) (a b c d : Nat) : (s.raise a b c d).tsetSwaps = s.tsetSwaps := rfl
@[simp] theorem State.raise_swapCmds (s : State) (a b c d : Nat) : (s.raise a b c d).swapCmds = s.swapCmds := rfl
@[simp] theorem State.raise_cues (s : State) (a b c d : Nat) : (s.raise a b c d).cues = s.cues := rfl
@[simp] theorem State.raise_cueAt (s : State) (a b c d : Nat) : (s.raise a b c d).cueAt = s.cueAt := rfl
@[simp] theorem State.raise_whReq (s : State) (a b c d : Nat) : (s.raise a b c d).whReq = s.whReq := rfl
@[simp] theorem State.raise_wh7 (s : State) (a b c d : Nat) : (s.raise a b c d).wh7 = s.wh7 := rfl
@[simp] theorem State.raise_fences (s : State) (a b c d : Nat) : (s.raise a b c d).fences = s.fences := rfl
@[simp] theorem State.raise_tmus (s : State) (a b c d : Nat) : (s.raise a b c d).tmus = s.tmus := rfl
@[simp] theorem State.raise_passes (s : State) (a b c d : Nat) : (s.raise a b c d).passes = s.passes := rfl
@[simp] theorem State.raise_alignCmds (s : State) (a b c d : Nat) : (s.raise a b c d).alignCmds = s.alignCmds := rfl
@[simp] theorem State.raise_paths (s : State) (a b c d : Nat) : (s.raise a b c d).paths = s.paths := rfl
@[simp] theorem State.raise_contactRan (s : State) (a b c d : Nat) : (s.raise a b c d).contactRan = s.contactRan := rfl
@[simp] theorem State.raise_calUnits (s : State) (a b c d : Nat) : (s.raise a b c d).calUnits = s.calUnits := rfl
@[simp] theorem State.raise_calTasks (s : State) (a b c d : Nat) : (s.raise a b c d).calTasks = s.calTasks := rfl
@[simp] theorem State.raise_calGap (s : State) (a b c d : Nat) : (s.raise a b c d).calGap = s.calGap := rfl
@[simp] theorem State.raise_calEnds (s : State) (a b c d : Nat) : (s.raise a b c d).calEnds = s.calEnds := rfl
@[simp] theorem State.raise_calLate (s : State) (a b c d : Nat) : (s.raise a b c d).calLate = s.calLate := rfl
@[simp] theorem State.raise_calStore (s : State) (a b c d : Nat) : (s.raise a b c d).calStore = s.calStore := rfl
@[simp] theorem State.raise_lastStore (s : State) (a b c d : Nat) : (s.raise a b c d).lastStore = s.lastStore := rfl
@[simp] theorem State.raise_psms (s : State) (a b c d : Nat) : (s.raise a b c d).psms = s.psms := rfl
@[simp] theorem State.raise_aes (s : State) (a b c d : Nat) : (s.raise a b c d).aes = s.aes := rfl
@[simp] theorem State.raise_aeQueue (s : State) (a b c d : Nat) : (s.raise a b c d).aeQueue = s.aeQueue := rfl
@[simp] theorem State.raise_histCount (s : State) (a b c d : Nat) : (s.raise a b c d).histCount = s.histCount := rfl
@[simp] theorem State.raise_histDrops (s : State) (a b c d : Nat) : (s.raise a b c d).histDrops = s.histDrops := rfl
@[simp] theorem State.raise_histNext (s : State) (a b c d : Nat) : (s.raise a b c d).histNext = s.histNext := rfl
@[simp] theorem State.raise_hkFired (s : State) (a b c d : Nat) : (s.raise a b c d).hkFired = s.hkFired := rfl
@[simp] theorem State.raise_hkMiss (s : State) (a b c d : Nat) : (s.raise a b c d).hkMiss = s.hkMiss := rfl
@[simp] theorem State.raise_hkRound (s : State) (a b c d : Nat) : (s.raise a b c d).hkRound = s.hkRound := rfl
@[simp] theorem State.raise_wh7In (s : State) (a b c d : Nat) : (s.raise a b c d).wh7In = s.wh7In := rfl
@[simp] theorem State.raise_wh7Armed (s : State) (a b c d : Nat) : (s.raise a b c d).wh7Armed = s.wh7Armed := rfl
@[simp] theorem State.raise_hkCompat (s : State) (a b c d : Nat) : (s.raise a b c d).hkCompat = s.hkCompat := rfl
@[simp] theorem State.raise_whReqAt (s : State) (a b c d : Nat) : (s.raise a b c d).whReqAt = s.whReqAt := rfl
@[simp] theorem State.raise_whSent (s : State) (a b c d : Nat) : (s.raise a b c d).whSent = s.whSent := rfl
@[simp] theorem State.raise_whSet (s : State) (a b c d : Nat) : (s.raise a b c d).whSet = s.whSet := rfl
@[simp] theorem State.raise_whSwap (s : State) (a b c d : Nat) : (s.raise a b c d).whSwap = s.whSwap := rfl
@[simp] theorem State.raise_whNext (s : State) (a b c d : Nat) : (s.raise a b c d).whNext = s.whNext := rfl
@[simp] theorem State.raise_sync (s : State) (a b c d : Nat) : (s.raise a b c d).sync = s.sync := rfl
@[simp] theorem State.raise_mpaK (s : State) (a b c d : Nat) : (s.raise a b c d).mpaK = s.mpaK := rfl
@[simp] theorem State.raise_mpaLast (s : State) (a b c d : Nat) : (s.raise a b c d).mpaLast = s.mpaLast := rfl
@[simp] theorem State.raise_mpaHold (s : State) (a b c d : Nat) : (s.raise a b c d).mpaHold = s.mpaHold := rfl
@[simp] theorem State.raise_ueHit (s : State) (a b c d : Nat) : (s.raise a b c d).ueHit = s.ueHit := rfl
@[simp] theorem State.raise_tapIr (s : State) (a b c d : Nat) : (s.raise a b c d).tapIr = s.tapIr := rfl
@[simp] theorem State.raise_pwrgood (s : State) (a b c d : Nat) : (s.raise a b c d).pwrgood = s.pwrgood := rfl
@[simp] theorem State.raise_vaux (s : State) (a b c d : Nat) : (s.raise a b c d).vaux = s.vaux := rfl
@[simp] theorem State.raise_ports (s : State) (a b c d : Nat) : (s.raise a b c d).ports = s.ports := rfl
@[simp] theorem State.raise_dmaJobs (s : State) (a b c d : Nat) : (s.raise a b c d).dmaJobs = s.dmaJobs := rfl
@[simp] theorem State.raise_strSeq (s : State) (a b c d : Nat) : (s.raise a b c d).strSeq = s.strSeq := rfl
@[simp] theorem State.raise_mirSeq (s : State) (a b c d : Nat) : (s.raise a b c d).mirSeq = s.mirSeq := rfl
@[simp] theorem State.raise_resyncs (s : State) (a b c d : Nat) : (s.raise a b c d).resyncs = s.resyncs := rfl
@[simp] theorem State.raise_dlogStage (s : State) (a b c d : Nat) : (s.raise a b c d).dlogStage = s.dlogStage := rfl
@[simp] theorem State.raise_restWake (s : State) (a b c d : Nat) : (s.raise a b c d).restWake = s.restWake := rfl
@[simp] theorem State.raise_startDue (s : State) (a b c d : Nat) : (s.raise a b c d).startDue = s.startDue := rfl
@[simp] theorem State.raise_mspReply (s : State) (a b c d : Nat) : (s.raise a b c d).mspReply = s.mspReply := rfl
@[simp] theorem State.raise_mspCount (s : State) (a b c d : Nat) : (s.raise a b c d).mspCount = s.mspCount := rfl
@[simp] theorem State.raise_mspInd (s : State) (a b c d : Nat) : (s.raise a b c d).mspInd = s.mspInd := rfl
@[simp] theorem State.raise_polls (s : State) (a b c d : Nat) : (s.raise a b c d).polls = s.polls := rfl
@[simp] theorem State.raise_keepOut (s : State) (a b c d : Nat) : (s.raise a b c d).keepOut = s.keepOut := rfl
@[simp] theorem State.raise_faultIn (s : State) (a b c d : Nat) :
    (s.raise a b c d).faultIn = s.faultIn ++ [⟨a, b, c, d % 2 ^ 32, s.time % 2 ^ 15⟩] := rfl
@[simp] theorem State.raise_rd (s : State) (a b c d x : Nat) : (s.raise a b c d).rd x = s.rd x := rfl
@[simp] theorem State.raise_get (s : State) (a b c d : Nat) (x : Ref) : (s.raise a b c d).get x = s.get x := rfl
@[simp] theorem State.raise_flag (s : State) (a b c d : Nat) (x : Ref) : (s.raise a b c d).flag x = s.flag x := rfl

/-! ## A register write's answer -/

/-- An accepted write answers OK. -/
@[simp] theorem State.respond_ok (s t : State) : s.respond (.ok t) = { t with resp := .ok } := rfl

/-- A rejected write leaves everything but the answer. -/
@[simp] theorem State.respond_error (s : State) (st : Status) : s.respond (.error st) = { s with resp := st } := rfl

/-- A write outside a muzzled pack or core reaches its register (R29). -/
theorem State.guarded_open (s : State) (a : Nat) (f : State → Res) (h : s.addrMuzzled a = false) : s.guarded a f = f s := by
  simp [State.guarded, h]

/-- In a muzzled pack or core a register without W1C fields answers MUZZLED (R29). -/
theorem State.guarded_muzzled (s : State) (a : Nat) (f : State → Res) (h : s.addrMuzzled a = true) (w : hasW1C a = false) :
    s.guarded a f = .error .muzzled := by
  simp [State.guarded, h, w]

/-! ## Completions -/

/-- Completing BARRIERs takes no completion back. -/
theorem State.settleBarriers_replies (n : Nat) (s : State) (r : Reply) (h : r ∈ s.replies) :
    r ∈ (s.settleBarriers n).replies := by
  induction n generalizing s with
  | zero => exact h
  | succ n ih =>
    unfold State.settleBarriers
    split
    · exact h
    · refine ih _ ?_
      unfold State.retire State.addReply
      dsimp only
      split
      · exact h
      · exact List.mem_append_left _ h

/-- A completed command that SESSION_RESET has not silenced has its completion queued. -/
theorem State.complete_replies (s : State) (h : CmdHdr) (st : Status) (d : Nat) (pl : List Word) (e : InFlight)
    (he : s.entryOf h = some e) (hs : e.suppressed = false) :
    (⟨e.opcode, e.hdr.session.toNat, e.hdr.tag.toNat, e.hdr.port, bit e.domains 16, true, st, d, pl⟩ : Reply)
      ∈ (s.complete h st d pl).replies := by
  unfold State.complete
  rw [he]
  refine State.settleBarriers_replies _ _ _ ?_
  unfold State.retire State.addReply
  simp [hs]

/-- Completing a command changes the in-flight table and the completions only. -/
theorem State.complete_eq (s : State) (h : CmdHdr) (st : Status) (d : Nat) (pl : List Word) :
    ∃ i r, s.complete h st d pl = { s with inflight := i, replies := r } := by
  have st1 : ∀ (e : InFlight) (t : State), ∃ i r, t.retire e st d pl = { t with inflight := i, replies := r } := by
    intro e t
    unfold State.retire State.addReply
    dsimp only
    split
    · exact ⟨_, _, rfl⟩
    · exact ⟨_, _, rfl⟩
  have st2 : ∀ (n : Nat) (t : State), ∃ i r, t.settleBarriers n = { t with inflight := i, replies := r } := by
    intro n
    induction n with
    | zero => exact fun t => ⟨_, _, rfl⟩
    | succ n ih =>
      intro t
      unfold State.settleBarriers
      split
      · exact ⟨_, _, rfl⟩
      · next e _ =>
        obtain ⟨i, r, h2⟩ := ih (t.retire e .ok 0 [])
        rw [h2]
        unfold State.retire State.addReply
        dsimp only
        split
        · exact ⟨_, _, rfl⟩
        · exact ⟨_, _, rfl⟩
  unfold State.complete
  split
  · exact ⟨_, _, rfl⟩
  · next e _ =>
    obtain ⟨i, r, h1⟩ := st1 e s
    obtain ⟨i2, r2, h2⟩ := st2 s.inflight.length (s.retire e st d pl)
    rw [h2, h1]
    exact ⟨_, _, rfl⟩

@[simp] theorem State.complete_pending (s : State) (h : CmdHdr) (st : Status) (d : Nat) (pl : List Word) :
    (s.complete h st d pl).pending = s.pending := by obtain ⟨_, _, e⟩ := s.complete_eq h st d pl; rw [e]
@[simp] theorem State.done_pending (s : State) (h : CmdHdr) (st : Status) : (s.done h st).pending = s.pending := State.complete_pending ..
@[simp] theorem State.complete_regs (s : State) (h : CmdHdr) (st : Status) (d : Nat) (pl : List Word) :
    (s.complete h st d pl).regs = s.regs := by obtain ⟨_, _, e⟩ := s.complete_eq h st d pl; rw [e]
@[simp] theorem State.done_regs (s : State) (h : CmdHdr) (st : Status) : (s.done h st).regs = s.regs := State.complete_regs ..
@[simp] theorem State.complete_dram (s : State) (h : CmdHdr) (st : Status) (d : Nat) (pl : List Word) :
    (s.complete h st d pl).dram = s.dram := by obtain ⟨_, _, e⟩ := s.complete_eq h st d pl; rw [e]
@[simp] theorem State.done_dram (s : State) (h : CmdHdr) (st : Status) : (s.done h st).dram = s.dram := State.complete_dram ..
@[simp] theorem State.complete_mram (s : State) (h : CmdHdr) (st : Status) (d : Nat) (pl : List Word) :
    (s.complete h st d pl).mram = s.mram := by obtain ⟨_, _, e⟩ := s.complete_eq h st d pl; rw [e]
@[simp] theorem State.done_mram (s : State) (h : CmdHdr) (st : Status) : (s.done h st).mram = s.mram := State.complete_mram ..
@[simp] theorem State.complete_time (s : State) (h : CmdHdr) (st : Status) (d : Nat) (pl : List Word) :
    (s.complete h st d pl).time = s.time := by obtain ⟨_, _, e⟩ := s.complete_eq h st d pl; rw [e]
@[simp] theorem State.done_time (s : State) (h : CmdHdr) (st : Status) : (s.done h st).time = s.time := State.complete_time ..
@[simp] theorem State.complete_free (s : State) (h : CmdHdr) (st : Status) (d : Nat) (pl : List Word) :
    (s.complete h st d pl).free = s.free := by obtain ⟨_, _, e⟩ := s.complete_eq h st d pl; rw [e]
@[simp] theorem State.done_free (s : State) (h : CmdHdr) (st : Status) : (s.done h st).free = s.free := State.complete_free ..
@[simp] theorem State.complete_resp (s : State) (h : CmdHdr) (st : Status) (d : Nat) (pl : List Word) :
    (s.complete h st d pl).resp = s.resp := by obtain ⟨_, _, e⟩ := s.complete_eq h st d pl; rw [e]
@[simp] theorem State.done_resp (s : State) (h : CmdHdr) (st : Status) : (s.done h st).resp = s.resp := State.complete_resp ..
@[simp] theorem State.complete_respData (s : State) (h : CmdHdr) (st : Status) (d : Nat) (pl : List Word) :
    (s.complete h st d pl).respData = s.respData := by obtain ⟨_, _, e⟩ := s.complete_eq h st d pl; rw [e]
@[simp] theorem State.done_respData (s : State) (h : CmdHdr) (st : Status) : (s.done h st).respData = s.respData := State.complete_respData ..
@[simp] theorem State.complete_latches (s : State) (h : CmdHdr) (st : Status) (d : Nat) (pl : List Word) :
    (s.complete h st d pl).latches = s.latches := by obtain ⟨_, _, e⟩ := s.complete_eq h st d pl; rw [e]
@[simp] theorem State.done_latches (s : State) (h : CmdHdr) (st : Status) : (s.done h st).latches = s.latches := State.complete_latches ..
@[simp] theorem State.complete_muzzles (s : State) (h : CmdHdr) (st : Status) (d : Nat) (pl : List Word) :
    (s.complete h st d pl).muzzles = s.muzzles := by obtain ⟨_, _, e⟩ := s.complete_eq h st d pl; rw [e]
@[simp] theorem State.done_muzzles (s : State) (h : CmdHdr) (st : Status) : (s.done h st).muzzles = s.muzzles := State.complete_muzzles ..
@[simp] theorem State.complete_faultIn (s : State) (h : CmdHdr) (st : Status) (d : Nat) (pl : List Word) :
    (s.complete h st d pl).faultIn = s.faultIn := by obtain ⟨_, _, e⟩ := s.complete_eq h st d pl; rw [e]
@[simp] theorem State.done_faultIn (s : State) (h : CmdHdr) (st : Status) : (s.done h st).faultIn = s.faultIn := State.complete_faultIn ..
@[simp] theorem State.complete_fltPend (s : State) (h : CmdHdr) (st : Status) (d : Nat) (pl : List Word) :
    (s.complete h st d pl).fltPend = s.fltPend := by obtain ⟨_, _, e⟩ := s.complete_eq h st d pl; rw [e]
@[simp] theorem State.done_fltPend (s : State) (h : CmdHdr) (st : Status) : (s.done h st).fltPend = s.fltPend := State.complete_fltPend ..
@[simp] theorem State.complete_condCauses (s : State) (h : CmdHdr) (st : Status) (d : Nat) (pl : List Word) :
    (s.complete h st d pl).condCauses = s.condCauses := by obtain ⟨_, _, e⟩ := s.complete_eq h st d pl; rw [e]
@[simp] theorem State.done_condCauses (s : State) (h : CmdHdr) (st : Status) : (s.done h st).condCauses = s.condCauses := State.complete_condCauses ..
@[simp] theorem State.complete_events (s : State) (h : CmdHdr) (st : Status) (d : Nat) (pl : List Word) :
    (s.complete h st d pl).events = s.events := by obtain ⟨_, _, e⟩ := s.complete_eq h st d pl; rw [e]
@[simp] theorem State.done_events (s : State) (h : CmdHdr) (st : Status) : (s.done h st).events = s.events := State.complete_events ..
@[simp] theorem State.complete_evtSeq (s : State) (h : CmdHdr) (st : Status) (d : Nat) (pl : List Word) :
    (s.complete h st d pl).evtSeq = s.evtSeq := by obtain ⟨_, _, e⟩ := s.complete_eq h st d pl; rw [e]
@[simp] theorem State.done_evtSeq (s : State) (h : CmdHdr) (st : Status) : (s.done h st).evtSeq = s.evtSeq := State.complete_evtSeq ..
@[simp] theorem State.complete_evtLost (s : State) (h : CmdHdr) (st : Status) (d : Nat) (pl : List Word) :
    (s.complete h st d pl).evtLost = s.evtLost := by obtain ⟨_, _, e⟩ := s.complete_eq h st d pl; rw [e]
@[simp] theorem State.done_evtLost (s : State) (h : CmdHdr) (st : Status) : (s.done h st).evtLost = s.evtLost := State.complete_evtLost ..
@[simp] theorem State.complete_coreUp (s : State) (h : CmdHdr) (st : Status) (d : Nat) (pl : List Word) :
    (s.complete h st d pl).coreUp = s.coreUp := by obtain ⟨_, _, e⟩ := s.complete_eq h st d pl; rw [e]
@[simp] theorem State.done_coreUp (s : State) (h : CmdHdr) (st : Status) : (s.done h st).coreUp = s.coreUp := State.complete_coreUp ..
@[simp] theorem State.complete_chans (s : State) (h : CmdHdr) (st : Status) (d : Nat) (pl : List Word) :
    (s.complete h st d pl).chans = s.chans := by obtain ⟨_, _, e⟩ := s.complete_eq h st d pl; rw [e]
@[simp] theorem State.done_chans (s : State) (h : CmdHdr) (st : Status) : (s.done h st).chans = s.chans := State.complete_chans ..
@[simp] theorem State.complete_apgs (s : State) (h : CmdHdr) (st : Status) (d : Nat) (pl : List Word) :
    (s.complete h st d pl).apgs = s.apgs := by obtain ⟨_, _, e⟩ := s.complete_eq h st d pl; rw [e]
@[simp] theorem State.complete_calAges (s : State) (h : CmdHdr) (st : Status) (d : Nat) (pl : List Word) :
    (s.complete h st d pl).calAges = s.calAges := by obtain ⟨_, _, e⟩ := s.complete_eq h st d pl; rw [e]
@[simp] theorem State.complete_gradHist (s : State) (h : CmdHdr) (st : Status) (d : Nat) (pl : List Word) :
    (s.complete h st d pl).gradHist = s.gradHist := by obtain ⟨_, _, e⟩ := s.complete_eq h st d pl; rw [e]
@[simp] theorem State.complete_startHeld (s : State) (h : CmdHdr) (st : Status) (d : Nat) (pl : List Word) :
    (s.complete h st d pl).startHeld = s.startHeld := by obtain ⟨_, _, e⟩ := s.complete_eq h st d pl; rw [e]
@[simp] theorem State.complete_mspSdo (s : State) (h : CmdHdr) (st : Status) (d : Nat) (pl : List Word) :
    (s.complete h st d pl).mspSdo = s.mspSdo := by obtain ⟨_, _, e⟩ := s.complete_eq h st d pl; rw [e]
@[simp] theorem State.complete_strobeAt (s : State) (h : CmdHdr) (st : Status) (d : Nat) (pl : List Word) :
    (s.complete h st d pl).strobeAt = s.strobeAt := by obtain ⟨_, _, e⟩ := s.complete_eq h st d pl; rw [e]
@[simp] theorem State.complete_twinPeer (s : State) (h : CmdHdr) (st : Status) (d : Nat) (pl : List Word) :
    (s.complete h st d pl).twinPeer = s.twinPeer := by obtain ⟨_, _, e⟩ := s.complete_eq h st d pl; rw [e]
@[simp] theorem State.complete_twinOut (s : State) (h : CmdHdr) (st : Status) (d : Nat) (pl : List Word) :
    (s.complete h st d pl).twinOut = s.twinOut := by obtain ⟨_, _, e⟩ := s.complete_eq h st d pl; rw [e]
@[simp] theorem State.complete_keepPorts (s : State) (h : CmdHdr) (st : Status) (d : Nat) (pl : List Word) :
    (s.complete h st d pl).keepPorts = s.keepPorts := by obtain ⟨_, _, e⟩ := s.complete_eq h st d pl; rw [e]
@[simp] theorem State.complete_ends (s : State) (h : CmdHdr) (st : Status) (d : Nat) (pl : List Word) :
    (s.complete h st d pl).ends = s.ends := by obtain ⟨_, _, e⟩ := s.complete_eq h st d pl; rw [e]
@[simp] theorem State.complete_chains (s : State) (h : CmdHdr) (st : Status) (d : Nat) (pl : List Word) :
    (s.complete h st d pl).chains = s.chains := by obtain ⟨_, _, e⟩ := s.complete_eq h st d pl; rw [e]
@[simp] theorem State.complete_siteWork (s : State) (h : CmdHdr) (st : Status) (d : Nat) (pl : List Word) :
    (s.complete h st d pl).siteWork = s.siteWork := by obtain ⟨_, _, e⟩ := s.complete_eq h st d pl; rw [e]
@[simp] theorem State.complete_parked (s : State) (h : CmdHdr) (st : Status) (d : Nat) (pl : List Word) :
    (s.complete h st d pl).parked = s.parked := by obtain ⟨_, _, e⟩ := s.complete_eq h st d pl; rw [e]
@[simp] theorem State.complete_classSwap (s : State) (h : CmdHdr) (st : Status) (d : Nat) (pl : List Word) :
    (s.complete h st d pl).classSwap = s.classSwap := by obtain ⟨_, _, e⟩ := s.complete_eq h st d pl; rw [e]
@[simp] theorem State.complete_mpaWait (s : State) (h : CmdHdr) (st : Status) (d : Nat) (pl : List Word) :
    (s.complete h st d pl).mpaWait = s.mpaWait := by obtain ⟨_, _, e⟩ := s.complete_eq h st d pl; rw [e]
@[simp] theorem State.complete_laneKept (s : State) (h : CmdHdr) (st : Status) (d : Nat) (pl : List Word) :
    (s.complete h st d pl).laneKept = s.laneKept := by obtain ⟨_, _, e⟩ := s.complete_eq h st d pl; rw [e]
@[simp] theorem State.done_apgs (s : State) (h : CmdHdr) (st : Status) : (s.done h st).apgs = s.apgs := State.complete_apgs ..
@[simp] theorem State.done_calAges (s : State) (h : CmdHdr) (st : Status) : (s.done h st).calAges = s.calAges := State.complete_calAges ..
@[simp] theorem State.done_gradHist (s : State) (h : CmdHdr) (st : Status) : (s.done h st).gradHist = s.gradHist := State.complete_gradHist ..
@[simp] theorem State.done_startHeld (s : State) (h : CmdHdr) (st : Status) : (s.done h st).startHeld = s.startHeld := State.complete_startHeld ..
@[simp] theorem State.done_mspSdo (s : State) (h : CmdHdr) (st : Status) : (s.done h st).mspSdo = s.mspSdo := State.complete_mspSdo ..
@[simp] theorem State.done_strobeAt (s : State) (h : CmdHdr) (st : Status) : (s.done h st).strobeAt = s.strobeAt := State.complete_strobeAt ..
@[simp] theorem State.done_twinPeer (s : State) (h : CmdHdr) (st : Status) : (s.done h st).twinPeer = s.twinPeer := State.complete_twinPeer ..
@[simp] theorem State.done_twinOut (s : State) (h : CmdHdr) (st : Status) : (s.done h st).twinOut = s.twinOut := State.complete_twinOut ..
@[simp] theorem State.done_keepPorts (s : State) (h : CmdHdr) (st : Status) : (s.done h st).keepPorts = s.keepPorts := State.complete_keepPorts ..
@[simp] theorem State.done_ends (s : State) (h : CmdHdr) (st : Status) : (s.done h st).ends = s.ends := State.complete_ends ..
@[simp] theorem State.done_chains (s : State) (h : CmdHdr) (st : Status) : (s.done h st).chains = s.chains := State.complete_chains ..
@[simp] theorem State.done_siteWork (s : State) (h : CmdHdr) (st : Status) : (s.done h st).siteWork = s.siteWork := State.complete_siteWork ..
@[simp] theorem State.done_parked (s : State) (h : CmdHdr) (st : Status) : (s.done h st).parked = s.parked := State.complete_parked ..
@[simp] theorem State.done_classSwap (s : State) (h : CmdHdr) (st : Status) : (s.done h st).classSwap = s.classSwap := State.complete_classSwap ..
@[simp] theorem State.done_mpaWait (s : State) (h : CmdHdr) (st : Status) : (s.done h st).mpaWait = s.mpaWait := State.complete_mpaWait ..
@[simp] theorem State.done_laneKept (s : State) (h : CmdHdr) (st : Status) : (s.done h st).laneKept = s.laneKept := State.complete_laneKept ..
@[simp] theorem State.complete_ueCount (s : State) (h : CmdHdr) (st : Status) (d : Nat) (pl : List Word) :
    (s.complete h st d pl).ueCount = s.ueCount := by obtain ⟨_, _, e⟩ := s.complete_eq h st d pl; rw [e]
@[simp] theorem State.done_ueCount (s : State) (h : CmdHdr) (st : Status) : (s.done h st).ueCount = s.ueCount := State.complete_ueCount ..
@[simp] theorem State.complete_runSerial (s : State) (h : CmdHdr) (st : Status) (d : Nat) (pl : List Word) :
    (s.complete h st d pl).runSerial = s.runSerial := by obtain ⟨_, _, e⟩ := s.complete_eq h st d pl; rw [e]
@[simp] theorem State.done_runSerial (s : State) (h : CmdHdr) (st : Status) : (s.done h st).runSerial = s.runSerial := State.complete_runSerial ..
@[simp] theorem State.complete_routine (s : State) (h : CmdHdr) (st : Status) (d : Nat) (pl : List Word) :
    (s.complete h st d pl).routine = s.routine := by obtain ⟨_, _, e⟩ := s.complete_eq h st d pl; rw [e]
@[simp] theorem State.done_routine (s : State) (h : CmdHdr) (st : Status) : (s.done h st).routine = s.routine := State.complete_routine ..
@[simp] theorem State.complete_leashFrozen (s : State) (h : CmdHdr) (st : Status) (d : Nat) (pl : List Word) :
    (s.complete h st d pl).leashFrozen = s.leashFrozen := by obtain ⟨_, _, e⟩ := s.complete_eq h st d pl; rw [e]
@[simp] theorem State.done_leashFrozen (s : State) (h : CmdHdr) (st : Status) : (s.done h st).leashFrozen = s.leashFrozen := State.complete_leashFrozen ..
@[simp] theorem State.complete_isoOut (s : State) (h : CmdHdr) (st : Status) (d : Nat) (pl : List Word) :
    (s.complete h st d pl).isoOut = s.isoOut := by obtain ⟨_, _, e⟩ := s.complete_eq h st d pl; rw [e]
@[simp] theorem State.done_isoOut (s : State) (h : CmdHdr) (st : Status) : (s.done h st).isoOut = s.isoOut := State.complete_isoOut ..
@[simp] theorem State.complete_isoAgain (s : State) (h : CmdHdr) (st : Status) (d : Nat) (pl : List Word) :
    (s.complete h st d pl).isoAgain = s.isoAgain := by obtain ⟨_, _, e⟩ := s.complete_eq h st d pl; rw [e]
@[simp] theorem State.done_isoAgain (s : State) (h : CmdHdr) (st : Status) : (s.done h st).isoAgain = s.isoAgain := State.complete_isoAgain ..
@[simp] theorem State.complete_runs (s : State) (h : CmdHdr) (st : Status) (d : Nat) (pl : List Word) :
    (s.complete h st d pl).runs = s.runs := by obtain ⟨_, _, e⟩ := s.complete_eq h st d pl; rw [e]
@[simp] theorem State.done_runs (s : State) (h : CmdHdr) (st : Status) : (s.done h st).runs = s.runs := State.complete_runs ..
@[simp] theorem State.complete_lockRun (s : State) (h : CmdHdr) (st : Status) (d : Nat) (pl : List Word) :
    (s.complete h st d pl).lockRun = s.lockRun := by obtain ⟨_, _, e⟩ := s.complete_eq h st d pl; rw [e]
@[simp] theorem State.done_lockRun (s : State) (h : CmdHdr) (st : Status) : (s.done h st).lockRun = s.lockRun := State.complete_lockRun ..
@[simp] theorem State.complete_leashLen (s : State) (h : CmdHdr) (st : Status) (d : Nat) (pl : List Word) :
    (s.complete h st d pl).leashLen = s.leashLen := by obtain ⟨_, _, e⟩ := s.complete_eq h st d pl; rw [e]
@[simp] theorem State.done_leashLen (s : State) (h : CmdHdr) (st : Status) : (s.done h st).leashLen = s.leashLen := State.complete_leashLen ..
@[simp] theorem State.complete_lastFlow (s : State) (h : CmdHdr) (st : Status) (d : Nat) (pl : List Word) :
    (s.complete h st d pl).lastFlow = s.lastFlow := by obtain ⟨_, _, e⟩ := s.complete_eq h st d pl; rw [e]
@[simp] theorem State.done_lastFlow (s : State) (h : CmdHdr) (st : Status) : (s.done h st).lastFlow = s.lastFlow := State.complete_lastFlow ..
@[simp] theorem State.complete_slots (s : State) (h : CmdHdr) (st : Status) (d : Nat) (pl : List Word) :
    (s.complete h st d pl).slots = s.slots := by obtain ⟨_, _, e⟩ := s.complete_eq h st d pl; rw [e]
@[simp] theorem State.done_slots (s : State) (h : CmdHdr) (st : Status) : (s.done h st).slots = s.slots := State.complete_slots ..
@[simp] theorem State.complete_marks (s : State) (h : CmdHdr) (st : Status) (d : Nat) (pl : List Word) :
    (s.complete h st d pl).marks = s.marks := by obtain ⟨_, _, e⟩ := s.complete_eq h st d pl; rw [e]
@[simp] theorem State.done_marks (s : State) (h : CmdHdr) (st : Status) : (s.done h st).marks = s.marks := State.complete_marks ..
@[simp] theorem State.complete_siteStops (s : State) (h : CmdHdr) (st : Status) (d : Nat) (pl : List Word) :
    (s.complete h st d pl).siteStops = s.siteStops := by obtain ⟨_, _, e⟩ := s.complete_eq h st d pl; rw [e]
@[simp] theorem State.done_siteStops (s : State) (h : CmdHdr) (st : Status) : (s.done h st).siteStops = s.siteStops := State.complete_siteStops ..
@[simp] theorem State.complete_ckptDue (s : State) (h : CmdHdr) (st : Status) (d : Nat) (pl : List Word) :
    (s.complete h st d pl).ckptDue = s.ckptDue := by obtain ⟨_, _, e⟩ := s.complete_eq h st d pl; rw [e]
@[simp] theorem State.done_ckptDue (s : State) (h : CmdHdr) (st : Status) : (s.done h st).ckptDue = s.ckptDue := State.complete_ckptDue ..
@[simp] theorem State.complete_ctxChanged (s : State) (h : CmdHdr) (st : Status) (d : Nat) (pl : List Word) :
    (s.complete h st d pl).ctxChanged = s.ctxChanged := by obtain ⟨_, _, e⟩ := s.complete_eq h st d pl; rw [e]
@[simp] theorem State.done_ctxChanged (s : State) (h : CmdHdr) (st : Status) : (s.done h st).ctxChanged = s.ctxChanged := State.complete_ctxChanged ..
@[simp] theorem State.complete_mirrorQ (s : State) (h : CmdHdr) (st : Status) (d : Nat) (pl : List Word) :
    (s.complete h st d pl).mirrorQ = s.mirrorQ := by obtain ⟨_, _, e⟩ := s.complete_eq h st d pl; rw [e]
@[simp] theorem State.done_mirrorQ (s : State) (h : CmdHdr) (st : Status) : (s.done h st).mirrorQ = s.mirrorQ := State.complete_mirrorQ ..
@[simp] theorem State.complete_caps (s : State) (h : CmdHdr) (st : Status) (d : Nat) (pl : List Word) :
    (s.complete h st d pl).caps = s.caps := by obtain ⟨_, _, e⟩ := s.complete_eq h st d pl; rw [e]
@[simp] theorem State.done_caps (s : State) (h : CmdHdr) (st : Status) : (s.done h st).caps = s.caps := State.complete_caps ..
@[simp] theorem State.complete_seqs (s : State) (h : CmdHdr) (st : Status) (d : Nat) (pl : List Word) :
    (s.complete h st d pl).seqs = s.seqs := by obtain ⟨_, _, e⟩ := s.complete_eq h st d pl; rw [e]
@[simp] theorem State.done_seqs (s : State) (h : CmdHdr) (st : Status) : (s.done h st).seqs = s.seqs := State.complete_seqs ..
@[simp] theorem State.complete_groups (s : State) (h : CmdHdr) (st : Status) (d : Nat) (pl : List Word) :
    (s.complete h st d pl).groups = s.groups := by obtain ⟨_, _, e⟩ := s.complete_eq h st d pl; rw [e]
@[simp] theorem State.done_groups (s : State) (h : CmdHdr) (st : Status) : (s.done h st).groups = s.groups := State.complete_groups ..
@[simp] theorem State.complete_pauses (s : State) (h : CmdHdr) (st : Status) (d : Nat) (pl : List Word) :
    (s.complete h st d pl).pauses = s.pauses := by obtain ⟨_, _, e⟩ := s.complete_eq h st d pl; rw [e]
@[simp] theorem State.done_pauses (s : State) (h : CmdHdr) (st : Status) : (s.done h st).pauses = s.pauses := State.complete_pauses ..
@[simp] theorem State.complete_jumpCmds (s : State) (h : CmdHdr) (st : Status) (d : Nat) (pl : List Word) :
    (s.complete h st d pl).jumpCmds = s.jumpCmds := by obtain ⟨_, _, e⟩ := s.complete_eq h st d pl; rw [e]
@[simp] theorem State.done_jumpCmds (s : State) (h : CmdHdr) (st : Status) : (s.done h st).jumpCmds = s.jumpCmds := State.complete_jumpCmds ..
@[simp] theorem State.complete_tsetSwaps (s : State) (h : CmdHdr) (st : Status) (d : Nat) (pl : List Word) :
    (s.complete h st d pl).tsetSwaps = s.tsetSwaps := by obtain ⟨_, _, e⟩ := s.complete_eq h st d pl; rw [e]
@[simp] theorem State.done_tsetSwaps (s : State) (h : CmdHdr) (st : Status) : (s.done h st).tsetSwaps = s.tsetSwaps := State.complete_tsetSwaps ..
@[simp] theorem State.complete_swapCmds (s : State) (h : CmdHdr) (st : Status) (d : Nat) (pl : List Word) :
    (s.complete h st d pl).swapCmds = s.swapCmds := by obtain ⟨_, _, e⟩ := s.complete_eq h st d pl; rw [e]
@[simp] theorem State.done_swapCmds (s : State) (h : CmdHdr) (st : Status) : (s.done h st).swapCmds = s.swapCmds := State.complete_swapCmds ..
@[simp] theorem State.complete_cues (s : State) (h : CmdHdr) (st : Status) (d : Nat) (pl : List Word) :
    (s.complete h st d pl).cues = s.cues := by obtain ⟨_, _, e⟩ := s.complete_eq h st d pl; rw [e]
@[simp] theorem State.done_cues (s : State) (h : CmdHdr) (st : Status) : (s.done h st).cues = s.cues := State.complete_cues ..
@[simp] theorem State.complete_cueAt (s : State) (h : CmdHdr) (st : Status) (d : Nat) (pl : List Word) :
    (s.complete h st d pl).cueAt = s.cueAt := by obtain ⟨_, _, e⟩ := s.complete_eq h st d pl; rw [e]
@[simp] theorem State.done_cueAt (s : State) (h : CmdHdr) (st : Status) : (s.done h st).cueAt = s.cueAt := State.complete_cueAt ..
@[simp] theorem State.complete_whReq (s : State) (h : CmdHdr) (st : Status) (d : Nat) (pl : List Word) :
    (s.complete h st d pl).whReq = s.whReq := by obtain ⟨_, _, e⟩ := s.complete_eq h st d pl; rw [e]
@[simp] theorem State.done_whReq (s : State) (h : CmdHdr) (st : Status) : (s.done h st).whReq = s.whReq := State.complete_whReq ..
@[simp] theorem State.complete_wh7 (s : State) (h : CmdHdr) (st : Status) (d : Nat) (pl : List Word) :
    (s.complete h st d pl).wh7 = s.wh7 := by obtain ⟨_, _, e⟩ := s.complete_eq h st d pl; rw [e]
@[simp] theorem State.done_wh7 (s : State) (h : CmdHdr) (st : Status) : (s.done h st).wh7 = s.wh7 := State.complete_wh7 ..
@[simp] theorem State.complete_fences (s : State) (h : CmdHdr) (st : Status) (d : Nat) (pl : List Word) :
    (s.complete h st d pl).fences = s.fences := by obtain ⟨_, _, e⟩ := s.complete_eq h st d pl; rw [e]
@[simp] theorem State.done_fences (s : State) (h : CmdHdr) (st : Status) : (s.done h st).fences = s.fences := State.complete_fences ..
@[simp] theorem State.complete_tmus (s : State) (h : CmdHdr) (st : Status) (d : Nat) (pl : List Word) :
    (s.complete h st d pl).tmus = s.tmus := by obtain ⟨_, _, e⟩ := s.complete_eq h st d pl; rw [e]
@[simp] theorem State.done_tmus (s : State) (h : CmdHdr) (st : Status) : (s.done h st).tmus = s.tmus := State.complete_tmus ..
@[simp] theorem State.complete_passes (s : State) (h : CmdHdr) (st : Status) (d : Nat) (pl : List Word) :
    (s.complete h st d pl).passes = s.passes := by obtain ⟨_, _, e⟩ := s.complete_eq h st d pl; rw [e]
@[simp] theorem State.done_passes (s : State) (h : CmdHdr) (st : Status) : (s.done h st).passes = s.passes := State.complete_passes ..
@[simp] theorem State.complete_alignCmds (s : State) (h : CmdHdr) (st : Status) (d : Nat) (pl : List Word) :
    (s.complete h st d pl).alignCmds = s.alignCmds := by obtain ⟨_, _, e⟩ := s.complete_eq h st d pl; rw [e]
@[simp] theorem State.done_alignCmds (s : State) (h : CmdHdr) (st : Status) : (s.done h st).alignCmds = s.alignCmds := State.complete_alignCmds ..
@[simp] theorem State.complete_paths (s : State) (h : CmdHdr) (st : Status) (d : Nat) (pl : List Word) :
    (s.complete h st d pl).paths = s.paths := by obtain ⟨_, _, e⟩ := s.complete_eq h st d pl; rw [e]
@[simp] theorem State.done_paths (s : State) (h : CmdHdr) (st : Status) : (s.done h st).paths = s.paths := State.complete_paths ..
@[simp] theorem State.complete_contactRan (s : State) (h : CmdHdr) (st : Status) (d : Nat) (pl : List Word) :
    (s.complete h st d pl).contactRan = s.contactRan := by obtain ⟨_, _, e⟩ := s.complete_eq h st d pl; rw [e]
@[simp] theorem State.done_contactRan (s : State) (h : CmdHdr) (st : Status) : (s.done h st).contactRan = s.contactRan := State.complete_contactRan ..
@[simp] theorem State.complete_calUnits (s : State) (h : CmdHdr) (st : Status) (d : Nat) (pl : List Word) :
    (s.complete h st d pl).calUnits = s.calUnits := by obtain ⟨_, _, e⟩ := s.complete_eq h st d pl; rw [e]
@[simp] theorem State.done_calUnits (s : State) (h : CmdHdr) (st : Status) : (s.done h st).calUnits = s.calUnits := State.complete_calUnits ..
@[simp] theorem State.complete_calTasks (s : State) (h : CmdHdr) (st : Status) (d : Nat) (pl : List Word) :
    (s.complete h st d pl).calTasks = s.calTasks := by obtain ⟨_, _, e⟩ := s.complete_eq h st d pl; rw [e]
@[simp] theorem State.done_calTasks (s : State) (h : CmdHdr) (st : Status) : (s.done h st).calTasks = s.calTasks := State.complete_calTasks ..
@[simp] theorem State.complete_calGap (s : State) (h : CmdHdr) (st : Status) (d : Nat) (pl : List Word) :
    (s.complete h st d pl).calGap = s.calGap := by obtain ⟨_, _, e⟩ := s.complete_eq h st d pl; rw [e]
@[simp] theorem State.done_calGap (s : State) (h : CmdHdr) (st : Status) : (s.done h st).calGap = s.calGap := State.complete_calGap ..
@[simp] theorem State.complete_calEnds (s : State) (h : CmdHdr) (st : Status) (d : Nat) (pl : List Word) :
    (s.complete h st d pl).calEnds = s.calEnds := by obtain ⟨_, _, e⟩ := s.complete_eq h st d pl; rw [e]
@[simp] theorem State.done_calEnds (s : State) (h : CmdHdr) (st : Status) : (s.done h st).calEnds = s.calEnds := State.complete_calEnds ..
@[simp] theorem State.complete_calLate (s : State) (h : CmdHdr) (st : Status) (d : Nat) (pl : List Word) :
    (s.complete h st d pl).calLate = s.calLate := by obtain ⟨_, _, e⟩ := s.complete_eq h st d pl; rw [e]
@[simp] theorem State.done_calLate (s : State) (h : CmdHdr) (st : Status) : (s.done h st).calLate = s.calLate := State.complete_calLate ..
@[simp] theorem State.complete_calStore (s : State) (h : CmdHdr) (st : Status) (d : Nat) (pl : List Word) :
    (s.complete h st d pl).calStore = s.calStore := by obtain ⟨_, _, e⟩ := s.complete_eq h st d pl; rw [e]
@[simp] theorem State.done_calStore (s : State) (h : CmdHdr) (st : Status) : (s.done h st).calStore = s.calStore := State.complete_calStore ..
@[simp] theorem State.complete_lastStore (s : State) (h : CmdHdr) (st : Status) (d : Nat) (pl : List Word) :
    (s.complete h st d pl).lastStore = s.lastStore := by obtain ⟨_, _, e⟩ := s.complete_eq h st d pl; rw [e]
@[simp] theorem State.done_lastStore (s : State) (h : CmdHdr) (st : Status) : (s.done h st).lastStore = s.lastStore := State.complete_lastStore ..
@[simp] theorem State.complete_psms (s : State) (h : CmdHdr) (st : Status) (d : Nat) (pl : List Word) :
    (s.complete h st d pl).psms = s.psms := by obtain ⟨_, _, e⟩ := s.complete_eq h st d pl; rw [e]
@[simp] theorem State.done_psms (s : State) (h : CmdHdr) (st : Status) : (s.done h st).psms = s.psms := State.complete_psms ..
@[simp] theorem State.complete_aes (s : State) (h : CmdHdr) (st : Status) (d : Nat) (pl : List Word) :
    (s.complete h st d pl).aes = s.aes := by obtain ⟨_, _, e⟩ := s.complete_eq h st d pl; rw [e]
@[simp] theorem State.done_aes (s : State) (h : CmdHdr) (st : Status) : (s.done h st).aes = s.aes := State.complete_aes ..
@[simp] theorem State.complete_aeQueue (s : State) (h : CmdHdr) (st : Status) (d : Nat) (pl : List Word) :
    (s.complete h st d pl).aeQueue = s.aeQueue := by obtain ⟨_, _, e⟩ := s.complete_eq h st d pl; rw [e]
@[simp] theorem State.done_aeQueue (s : State) (h : CmdHdr) (st : Status) : (s.done h st).aeQueue = s.aeQueue := State.complete_aeQueue ..
@[simp] theorem State.complete_histCount (s : State) (h : CmdHdr) (st : Status) (d : Nat) (pl : List Word) :
    (s.complete h st d pl).histCount = s.histCount := by obtain ⟨_, _, e⟩ := s.complete_eq h st d pl; rw [e]
@[simp] theorem State.done_histCount (s : State) (h : CmdHdr) (st : Status) : (s.done h st).histCount = s.histCount := State.complete_histCount ..
@[simp] theorem State.complete_histDrops (s : State) (h : CmdHdr) (st : Status) (d : Nat) (pl : List Word) :
    (s.complete h st d pl).histDrops = s.histDrops := by obtain ⟨_, _, e⟩ := s.complete_eq h st d pl; rw [e]
@[simp] theorem State.done_histDrops (s : State) (h : CmdHdr) (st : Status) : (s.done h st).histDrops = s.histDrops := State.complete_histDrops ..
@[simp] theorem State.complete_histNext (s : State) (h : CmdHdr) (st : Status) (d : Nat) (pl : List Word) :
    (s.complete h st d pl).histNext = s.histNext := by obtain ⟨_, _, e⟩ := s.complete_eq h st d pl; rw [e]
@[simp] theorem State.done_histNext (s : State) (h : CmdHdr) (st : Status) : (s.done h st).histNext = s.histNext := State.complete_histNext ..
@[simp] theorem State.complete_hkFired (s : State) (h : CmdHdr) (st : Status) (d : Nat) (pl : List Word) :
    (s.complete h st d pl).hkFired = s.hkFired := by obtain ⟨_, _, e⟩ := s.complete_eq h st d pl; rw [e]
@[simp] theorem State.done_hkFired (s : State) (h : CmdHdr) (st : Status) : (s.done h st).hkFired = s.hkFired := State.complete_hkFired ..
@[simp] theorem State.complete_hkMiss (s : State) (h : CmdHdr) (st : Status) (d : Nat) (pl : List Word) :
    (s.complete h st d pl).hkMiss = s.hkMiss := by obtain ⟨_, _, e⟩ := s.complete_eq h st d pl; rw [e]
@[simp] theorem State.done_hkMiss (s : State) (h : CmdHdr) (st : Status) : (s.done h st).hkMiss = s.hkMiss := State.complete_hkMiss ..
@[simp] theorem State.complete_hkRound (s : State) (h : CmdHdr) (st : Status) (d : Nat) (pl : List Word) :
    (s.complete h st d pl).hkRound = s.hkRound := by obtain ⟨_, _, e⟩ := s.complete_eq h st d pl; rw [e]
@[simp] theorem State.done_hkRound (s : State) (h : CmdHdr) (st : Status) : (s.done h st).hkRound = s.hkRound := State.complete_hkRound ..
@[simp] theorem State.complete_wh7In (s : State) (h : CmdHdr) (st : Status) (d : Nat) (pl : List Word) :
    (s.complete h st d pl).wh7In = s.wh7In := by obtain ⟨_, _, e⟩ := s.complete_eq h st d pl; rw [e]
@[simp] theorem State.done_wh7In (s : State) (h : CmdHdr) (st : Status) : (s.done h st).wh7In = s.wh7In := State.complete_wh7In ..
@[simp] theorem State.complete_wh7Armed (s : State) (h : CmdHdr) (st : Status) (d : Nat) (pl : List Word) :
    (s.complete h st d pl).wh7Armed = s.wh7Armed := by obtain ⟨_, _, e⟩ := s.complete_eq h st d pl; rw [e]
@[simp] theorem State.done_wh7Armed (s : State) (h : CmdHdr) (st : Status) : (s.done h st).wh7Armed = s.wh7Armed := State.complete_wh7Armed ..
@[simp] theorem State.complete_hkCompat (s : State) (h : CmdHdr) (st : Status) (d : Nat) (pl : List Word) :
    (s.complete h st d pl).hkCompat = s.hkCompat := by obtain ⟨_, _, e⟩ := s.complete_eq h st d pl; rw [e]
@[simp] theorem State.done_hkCompat (s : State) (h : CmdHdr) (st : Status) : (s.done h st).hkCompat = s.hkCompat := State.complete_hkCompat ..
@[simp] theorem State.complete_whReqAt (s : State) (h : CmdHdr) (st : Status) (d : Nat) (pl : List Word) :
    (s.complete h st d pl).whReqAt = s.whReqAt := by obtain ⟨_, _, e⟩ := s.complete_eq h st d pl; rw [e]
@[simp] theorem State.done_whReqAt (s : State) (h : CmdHdr) (st : Status) : (s.done h st).whReqAt = s.whReqAt := State.complete_whReqAt ..
@[simp] theorem State.complete_whSent (s : State) (h : CmdHdr) (st : Status) (d : Nat) (pl : List Word) :
    (s.complete h st d pl).whSent = s.whSent := by obtain ⟨_, _, e⟩ := s.complete_eq h st d pl; rw [e]
@[simp] theorem State.done_whSent (s : State) (h : CmdHdr) (st : Status) : (s.done h st).whSent = s.whSent := State.complete_whSent ..
@[simp] theorem State.complete_whSet (s : State) (h : CmdHdr) (st : Status) (d : Nat) (pl : List Word) :
    (s.complete h st d pl).whSet = s.whSet := by obtain ⟨_, _, e⟩ := s.complete_eq h st d pl; rw [e]
@[simp] theorem State.done_whSet (s : State) (h : CmdHdr) (st : Status) : (s.done h st).whSet = s.whSet := State.complete_whSet ..
@[simp] theorem State.complete_whSwap (s : State) (h : CmdHdr) (st : Status) (d : Nat) (pl : List Word) :
    (s.complete h st d pl).whSwap = s.whSwap := by obtain ⟨_, _, e⟩ := s.complete_eq h st d pl; rw [e]
@[simp] theorem State.done_whSwap (s : State) (h : CmdHdr) (st : Status) : (s.done h st).whSwap = s.whSwap := State.complete_whSwap ..
@[simp] theorem State.complete_whNext (s : State) (h : CmdHdr) (st : Status) (d : Nat) (pl : List Word) :
    (s.complete h st d pl).whNext = s.whNext := by obtain ⟨_, _, e⟩ := s.complete_eq h st d pl; rw [e]
@[simp] theorem State.done_whNext (s : State) (h : CmdHdr) (st : Status) : (s.done h st).whNext = s.whNext := State.complete_whNext ..
@[simp] theorem State.complete_sync (s : State) (h : CmdHdr) (st : Status) (d : Nat) (pl : List Word) :
    (s.complete h st d pl).sync = s.sync := by obtain ⟨_, _, e⟩ := s.complete_eq h st d pl; rw [e]
@[simp] theorem State.done_sync (s : State) (h : CmdHdr) (st : Status) : (s.done h st).sync = s.sync := State.complete_sync ..
@[simp] theorem State.complete_mpaK (s : State) (h : CmdHdr) (st : Status) (d : Nat) (pl : List Word) :
    (s.complete h st d pl).mpaK = s.mpaK := by obtain ⟨_, _, e⟩ := s.complete_eq h st d pl; rw [e]
@[simp] theorem State.done_mpaK (s : State) (h : CmdHdr) (st : Status) : (s.done h st).mpaK = s.mpaK := State.complete_mpaK ..
@[simp] theorem State.complete_mpaLast (s : State) (h : CmdHdr) (st : Status) (d : Nat) (pl : List Word) :
    (s.complete h st d pl).mpaLast = s.mpaLast := by obtain ⟨_, _, e⟩ := s.complete_eq h st d pl; rw [e]
@[simp] theorem State.done_mpaLast (s : State) (h : CmdHdr) (st : Status) : (s.done h st).mpaLast = s.mpaLast := State.complete_mpaLast ..
@[simp] theorem State.complete_mpaHold (s : State) (h : CmdHdr) (st : Status) (d : Nat) (pl : List Word) :
    (s.complete h st d pl).mpaHold = s.mpaHold := by obtain ⟨_, _, e⟩ := s.complete_eq h st d pl; rw [e]
@[simp] theorem State.done_mpaHold (s : State) (h : CmdHdr) (st : Status) : (s.done h st).mpaHold = s.mpaHold := State.complete_mpaHold ..
@[simp] theorem State.complete_ueHit (s : State) (h : CmdHdr) (st : Status) (d : Nat) (pl : List Word) :
    (s.complete h st d pl).ueHit = s.ueHit := by obtain ⟨_, _, e⟩ := s.complete_eq h st d pl; rw [e]
@[simp] theorem State.done_ueHit (s : State) (h : CmdHdr) (st : Status) : (s.done h st).ueHit = s.ueHit := State.complete_ueHit ..
@[simp] theorem State.complete_tapIr (s : State) (h : CmdHdr) (st : Status) (d : Nat) (pl : List Word) :
    (s.complete h st d pl).tapIr = s.tapIr := by obtain ⟨_, _, e⟩ := s.complete_eq h st d pl; rw [e]
@[simp] theorem State.done_tapIr (s : State) (h : CmdHdr) (st : Status) : (s.done h st).tapIr = s.tapIr := State.complete_tapIr ..
@[simp] theorem State.complete_pwrgood (s : State) (h : CmdHdr) (st : Status) (d : Nat) (pl : List Word) :
    (s.complete h st d pl).pwrgood = s.pwrgood := by obtain ⟨_, _, e⟩ := s.complete_eq h st d pl; rw [e]
@[simp] theorem State.done_pwrgood (s : State) (h : CmdHdr) (st : Status) : (s.done h st).pwrgood = s.pwrgood := State.complete_pwrgood ..
@[simp] theorem State.complete_vaux (s : State) (h : CmdHdr) (st : Status) (d : Nat) (pl : List Word) :
    (s.complete h st d pl).vaux = s.vaux := by obtain ⟨_, _, e⟩ := s.complete_eq h st d pl; rw [e]
@[simp] theorem State.done_vaux (s : State) (h : CmdHdr) (st : Status) : (s.done h st).vaux = s.vaux := State.complete_vaux ..
@[simp] theorem State.complete_ports (s : State) (h : CmdHdr) (st : Status) (d : Nat) (pl : List Word) :
    (s.complete h st d pl).ports = s.ports := by obtain ⟨_, _, e⟩ := s.complete_eq h st d pl; rw [e]
@[simp] theorem State.done_ports (s : State) (h : CmdHdr) (st : Status) : (s.done h st).ports = s.ports := State.complete_ports ..
@[simp] theorem State.complete_dmaJobs (s : State) (h : CmdHdr) (st : Status) (d : Nat) (pl : List Word) :
    (s.complete h st d pl).dmaJobs = s.dmaJobs := by obtain ⟨_, _, e⟩ := s.complete_eq h st d pl; rw [e]
@[simp] theorem State.done_dmaJobs (s : State) (h : CmdHdr) (st : Status) : (s.done h st).dmaJobs = s.dmaJobs := State.complete_dmaJobs ..
@[simp] theorem State.complete_strSeq (s : State) (h : CmdHdr) (st : Status) (d : Nat) (pl : List Word) :
    (s.complete h st d pl).strSeq = s.strSeq := by obtain ⟨_, _, e⟩ := s.complete_eq h st d pl; rw [e]
@[simp] theorem State.done_strSeq (s : State) (h : CmdHdr) (st : Status) : (s.done h st).strSeq = s.strSeq := State.complete_strSeq ..
@[simp] theorem State.complete_mirSeq (s : State) (h : CmdHdr) (st : Status) (d : Nat) (pl : List Word) :
    (s.complete h st d pl).mirSeq = s.mirSeq := by obtain ⟨_, _, e⟩ := s.complete_eq h st d pl; rw [e]
@[simp] theorem State.done_mirSeq (s : State) (h : CmdHdr) (st : Status) : (s.done h st).mirSeq = s.mirSeq := State.complete_mirSeq ..
@[simp] theorem State.complete_resyncs (s : State) (h : CmdHdr) (st : Status) (d : Nat) (pl : List Word) :
    (s.complete h st d pl).resyncs = s.resyncs := by obtain ⟨_, _, e⟩ := s.complete_eq h st d pl; rw [e]
@[simp] theorem State.done_resyncs (s : State) (h : CmdHdr) (st : Status) : (s.done h st).resyncs = s.resyncs := State.complete_resyncs ..
@[simp] theorem State.complete_dlogStage (s : State) (h : CmdHdr) (st : Status) (d : Nat) (pl : List Word) :
    (s.complete h st d pl).dlogStage = s.dlogStage := by obtain ⟨_, _, e⟩ := s.complete_eq h st d pl; rw [e]
@[simp] theorem State.done_dlogStage (s : State) (h : CmdHdr) (st : Status) : (s.done h st).dlogStage = s.dlogStage := State.complete_dlogStage ..
@[simp] theorem State.complete_restWake (s : State) (h : CmdHdr) (st : Status) (d : Nat) (pl : List Word) :
    (s.complete h st d pl).restWake = s.restWake := by obtain ⟨_, _, e⟩ := s.complete_eq h st d pl; rw [e]
@[simp] theorem State.done_restWake (s : State) (h : CmdHdr) (st : Status) : (s.done h st).restWake = s.restWake := State.complete_restWake ..
@[simp] theorem State.complete_startDue (s : State) (h : CmdHdr) (st : Status) (d : Nat) (pl : List Word) :
    (s.complete h st d pl).startDue = s.startDue := by obtain ⟨_, _, e⟩ := s.complete_eq h st d pl; rw [e]
@[simp] theorem State.done_startDue (s : State) (h : CmdHdr) (st : Status) : (s.done h st).startDue = s.startDue := State.complete_startDue ..
@[simp] theorem State.complete_mspReply (s : State) (h : CmdHdr) (st : Status) (d : Nat) (pl : List Word) :
    (s.complete h st d pl).mspReply = s.mspReply := by obtain ⟨_, _, e⟩ := s.complete_eq h st d pl; rw [e]
@[simp] theorem State.done_mspReply (s : State) (h : CmdHdr) (st : Status) : (s.done h st).mspReply = s.mspReply := State.complete_mspReply ..
@[simp] theorem State.complete_mspCount (s : State) (h : CmdHdr) (st : Status) (d : Nat) (pl : List Word) :
    (s.complete h st d pl).mspCount = s.mspCount := by obtain ⟨_, _, e⟩ := s.complete_eq h st d pl; rw [e]
@[simp] theorem State.done_mspCount (s : State) (h : CmdHdr) (st : Status) : (s.done h st).mspCount = s.mspCount := State.complete_mspCount ..
@[simp] theorem State.complete_mspInd (s : State) (h : CmdHdr) (st : Status) (d : Nat) (pl : List Word) :
    (s.complete h st d pl).mspInd = s.mspInd := by obtain ⟨_, _, e⟩ := s.complete_eq h st d pl; rw [e]
@[simp] theorem State.done_mspInd (s : State) (h : CmdHdr) (st : Status) : (s.done h st).mspInd = s.mspInd := State.complete_mspInd ..
@[simp] theorem State.complete_polls (s : State) (h : CmdHdr) (st : Status) (d : Nat) (pl : List Word) :
    (s.complete h st d pl).polls = s.polls := by obtain ⟨_, _, e⟩ := s.complete_eq h st d pl; rw [e]
@[simp] theorem State.done_polls (s : State) (h : CmdHdr) (st : Status) : (s.done h st).polls = s.polls := State.complete_polls ..
@[simp] theorem State.complete_keepOut (s : State) (h : CmdHdr) (st : Status) (d : Nat) (pl : List Word) :
    (s.complete h st d pl).keepOut = s.keepOut := by obtain ⟨_, _, e⟩ := s.complete_eq h st d pl; rw [e]
@[simp] theorem State.done_keepOut (s : State) (h : CmdHdr) (st : Status) : (s.done h st).keepOut = s.keepOut := State.complete_keepOut ..
@[simp] theorem State.complete_rd (s : State) (h : CmdHdr) (st : Status) (d : Nat) (pl : List Word) (a : Nat) :
    (s.complete h st d pl).rd a = s.rd a := by unfold State.rd; rw [State.complete_regs]
@[simp] theorem State.done_rd (s : State) (h : CmdHdr) (st : Status) (a : Nat) : (s.done h st).rd a = s.rd a := State.complete_rd ..

end Sys2Proof.Machine
end

