-- ==== Sys2Proof/Laws/Command.lean ====
section
/-! SUPPORT. What the shared operations of the link commands do: a command that starts at once runs its body, and a
command that completes has its completion queued. -/

namespace Sys2Proof.Machine

/-- Admission changes neither the device state nor IMAGE_OK. -/
theorem State.gate_admitted (s : State) (op : Nat) (h : CmdHdr) (pl : List Word) :
    ((s.homed h).enlist op h pl .running).gate op pl = s.gate op pl := by
  have e (r : Ref) (n : r.addr ≠ R.LNK_SESSION) : ((s.homed h).enlist op h pl .running).get r = s.get r :=
    State.get_set_other s ⟨R.LNK_SESSION, 4 + h.session.toNat, 1⟩ r _ n
  unfold State.gate State.flag
  rw [e _ (by decide), e _ (by decide)]

/-- A command that starts at once runs its body with the command in flight. -/
theorem State.cmd_admits (s : State) (op : Nat) (h : CmdHdr) (pl : List Word) (body : State → State)
    (a : s.Admits op h pl) : s.cmd op h pl body = body (s.admitted op h pl) := by
  unfold State.cmd
  rw [if_pos a.core, a.fresh]
  dsimp only
  rw [if_neg (by simp [a.free])]
  unfold State.runBody
  rw [State.gate_admitted s op h pl, a.gate, a.form]
  rfl

/-- With the core down a command row changes nothing. -/
theorem State.cmd_down (s : State) (op : Nat) (h : CmdHdr) (pl : List Word) (body : State → State)
    (d : s.coreUp = false) : s.cmd op h pl body = s := by
  unfold State.cmd; simp [d]

theorem sameCmd_self (h : CmdHdr) : sameCmd h h = true := by simp [sameCmd]

/-- The entry of a command just admitted. -/
theorem State.entryOf_admitted (s : State) (op : Nat) (h : CmdHdr) (pl : List Word) (f : s.entryOf h = none) :
    (s.admitted op h pl).entryOf h = some ⟨h, op, pl, domainsOf op pl, .running, false, false⟩ := by
  unfold State.entryOf State.admitted State.enlist State.homed at *
  simp only [List.find?_append, State.set_inflight, f, Option.none_or]
  simp [List.find?, sameCmd_self]

/-- Completing a command that is in flight and not silenced queues its completion. -/
theorem State.complete_answers (s : State) (h : CmdHdr) (st : Status) (d : Nat) (pl : List Word) (e : InFlight)
    (he : s.entryOf h = some e) (hs : e.suppressed = false) (hh : e.hdr = h) : (s.complete h st d pl).Answers h st d pl :=
  ⟨_, State.complete_replies s h st d pl e he hs, by simp [hh], by simp [hh], rfl, rfl, rfl⟩

/-- A command just admitted that completes at once has its completion queued. -/
theorem State.admitted_answers (s : State) (op : Nat) (h : CmdHdr) (pl : List Word) (st : Status) (d : Nat) (w : List Word)
    (f : s.entryOf h = none) : ((s.admitted op h pl).complete h st d w).Answers h st d w :=
  State.complete_answers _ h st d w _ (State.entryOf_admitted s op h pl f) rfl rfl

end Sys2Proof.Machine
end

