-- ==== Sys2Proof/Laws/Dram.lean ====
section
/-! SUPPORT. DRAM: the address map puts different addresses at different places, a byte or word written is read back,
and every other address reads as before. -/

namespace Sys2Proof.Machine

theorem xor_cancel_right (x y k : Nat) (h : x ^^^ k = y ^^^ k) : x = y := by
  have e : (x ^^^ k) ^^^ k = (y ^^^ k) ^^^ k := by rw [h]
  rwa [Nat.xor_assoc, Nat.xor_assoc, Nat.xor_self, Nat.xor_zero, Nat.xor_zero] at e

/-- A memory key is below 2^35: 5 bits of pseudo-channel over 30 bits of offset. -/
theorem dramPlace_lt (i : Bool) (a : Nat) : (dramPlace i a).1 < 32 ∧ (dramPlace i a).2 < 2 ^ 30 := by
  unfold dramPlace bits
  cases i
  · simp only [Bool.false_eq_true, if_false]; omega
  · simp only [if_true]
    have h := Nat.xor_lt_two_pow (n := 4) (Nat.mod_lt (a / 2 ^ 9) (Nat.two_pow_pos 4)) (Nat.mod_lt (a / 2 ^ 13) (Nat.two_pow_pos 4))
    omega

/-- Different addresses lie at different places (R351). -/
theorem dramPlace_inj (i : Bool) (a b : Nat) (ha : a < 2 ^ 35) (hb : b < 2 ^ 35) (h : dramPlace i a = dramPlace i b) :
    a = b := by
  unfold dramPlace bits at h
  cases i
  · simp only [Bool.false_eq_true, if_false, Prod.mk.injEq] at h
    omega
  · simp only [if_true, Prod.mk.injEq] at h
    have x1 := Nat.xor_lt_two_pow (n := 4) (Nat.mod_lt (a / 2 ^ 9) (Nat.two_pow_pos 4)) (Nat.mod_lt (a / 2 ^ 13) (Nat.two_pow_pos 4))
    have x2 := Nat.xor_lt_two_pow (n := 4) (Nat.mod_lt (b / 2 ^ 9) (Nat.two_pow_pos 4)) (Nat.mod_lt (b / 2 ^ 13) (Nat.two_pow_pos 4))
    have e13 : a / 2 ^ 13 = b / 2 ^ 13 := by omega
    have e : a / 2 ^ 9 % 2 ^ 4 ^^^ a / 2 ^ 13 % 2 ^ 4 = b / 2 ^ 9 % 2 ^ 4 ^^^ a / 2 ^ 13 % 2 ^ 4 := by
      rw [e13] at h x1 ⊢
      omega
    have e9 := xor_cancel_right _ _ _ e
    omega

theorem State.dramKey_inj (s : State) (a b : Nat) (ha : a < 2 ^ 35) (hb : b < 2 ^ 35) (h : s.dramKey a = s.dramKey b) :
    a = b := by
  unfold State.dramKey at h
  have l1 := dramPlace_lt s.interleaved a
  have l2 := dramPlace_lt s.interleaved b
  refine dramPlace_inj s.interleaved a b ha hb (Prod.ext ?_ ?_)
  · dsimp only at h; omega
  · dsimp only at h; omega

@[simp] theorem State.putDramByte_regs (s : State) (a : Nat) (b : Byte) : (s.putDramByte a b).regs = s.regs := rfl
@[simp] theorem State.putDramByte_rd (s : State) (a x : Nat) (b : Byte) : (s.putDramByte a b).rd x = s.rd x := rfl
@[simp] theorem State.putDramByte_key (s : State) (a x : Nat) (b : Byte) : (s.putDramByte a b).dramKey x = s.dramKey x := rfl

/-- The byte written is read back. -/
@[simp] theorem State.dramByte_put_same (s : State) (a : Nat) (b : Byte) : (s.putDramByte a b).dramByte a = b :=
  Memory.get_put_same s.dram (s.dramKey a) b

/-- Every other address reads as before. -/
theorem State.dramByte_put_other (s : State) (a x : Nat) (b : Byte) (ha : a < 2 ^ 35) (hx : x < 2 ^ 35) (h : x ≠ a) :
    (s.putDramByte a b).dramByte x = s.dramByte x :=
  Memory.get_put_other s.dram (s.dramKey a) (s.dramKey x) b (fun e => h (s.dramKey_inj x a hx ha e))

/-- A write of bytes changes DRAM only. -/
theorem State.putDram_eq (s : State) (a : Nat) (bs : List Byte) : ∃ m, s.putDram a bs = { s with dram := m } := by
  induction bs generalizing s a with
  | nil => exact ⟨s.dram, rfl⟩
  | cons b bs ih =>
    obtain ⟨m, e⟩ := ih (s.putDramByte a b) (a + 1)
    exact ⟨m, e⟩

theorem State.dramByte_putDram_other (s : State) (a x : Nat) (bs : List Byte) (ha : a + bs.length ≤ 2 ^ 35) (hx : x < 2 ^ 35)
    (h : x < a ∨ a + bs.length ≤ x) : (s.putDram a bs).dramByte x = s.dramByte x := by
  induction bs generalizing s a with
  | nil => rfl
  | cons b bs ih =>
    rw [List.length_cons] at ha h
    show (State.putDram (s.putDramByte a b) (a + 1) bs).dramByte x = _
    rw [ih _ _ (by omega) (by omega), State.dramByte_put_other _ _ _ _ (by omega) hx (by omega)]

theorem State.dramByte_putDram_in (s : State) (a k : Nat) (bs : List Byte) (ha : a + bs.length ≤ 2 ^ 35) (hk : k < bs.length) :
    (s.putDram a bs).dramByte (a + k) = bs[k] := by
  induction bs generalizing s a k with
  | nil => simp at hk
  | cons b bs ih =>
    rw [List.length_cons] at ha hk
    show (State.putDram (s.putDramByte a b) (a + 1) bs).dramByte (a + k) = _
    cases k with
    | zero =>
      rw [Nat.add_zero, State.dramByte_putDram_other _ _ _ _ (by omega) (by omega) (by omega)]
      simp
    | succ k =>
      rw [show a + (k + 1) = a + 1 + k by omega, ih _ _ _ (by omega) (by omega)]
      rfl

/-- A write of words changes DRAM only. -/
theorem State.putDramWords_eq (s : State) (a : Nat) (ws : List Word) : ∃ m, s.putDramWords a ws = { s with dram := m } := by
  induction ws generalizing s a with
  | nil => exact ⟨s.dram, rfl⟩
  | cons w ws ih =>
    obtain ⟨m1, e1⟩ := State.putDram_eq s a (Memory.toBytes 4 w.toNat)
    obtain ⟨m, e⟩ := ih (s.putDramNat a 4 w.toNat) (a + 4)
    refine ⟨m, ?_⟩
    show State.putDramWords (s.putDramNat a 4 w.toNat) (a + 4) ws = _
    rw [e]
    unfold State.putDramNat
    rw [e1]

theorem State.dramByte_putWords_other (s : State) (a x : Nat) (ws : List Word) (ha : a + 4 * ws.length ≤ 2 ^ 35)
    (hx : x < 2 ^ 35) (h : x < a ∨ a + 4 * ws.length ≤ x) : (s.putDramWords a ws).dramByte x = s.dramByte x := by
  induction ws generalizing s a with
  | nil => rfl
  | cons w ws ih =>
    rw [List.length_cons] at ha h
    show (State.putDramWords (s.putDramNat a 4 w.toNat) (a + 4) ws).dramByte x = _
    rw [ih _ _ (by omega) (by omega)]
    unfold State.putDramNat
    exact State.dramByte_putDram_other _ _ _ _ (by simp [Memory.toBytes]; omega) hx (by simp [Memory.toBytes]; omega)

theorem ofBytes_toBytes (v : Nat) (h : v < 2 ^ 32) : Memory.ofBytes (Memory.toBytes 4 v) = v := by
  simp only [Memory.toBytes, Memory.ofBytes, BitVec.toNat_ofNat]
  omega

/-- A word written is read back. -/
theorem State.dramWord_putDramNat (s : State) (a v : Nat) (hv : v < 2 ^ 32) (ha : a + 4 ≤ 2 ^ 35) :
    (s.putDramNat a 4 v).dramWord a = v := by
  unfold State.dramWord State.dramNat State.putDramNat
  have l : (Memory.toBytes 4 v).length = 4 := rfl
  have g : ∀ k (h : k < 4), (s.putDram a (Memory.toBytes 4 v)).dramByte (a + k) = (Memory.toBytes 4 v)[k]'(by rw [l]; exact h) :=
    fun k h => State.dramByte_putDram_in s a k _ (by rw [l]; exact ha) (by rw [l]; exact h)
  simp only [State.dramBytes]
  rw [show a + 1 + 1 + 1 = a + 3 by rfl, show a + 1 + 1 = a + 2 by rfl]
  have g0 := g 0 (by omega)
  rw [Nat.add_zero] at g0
  rw [g0, g 1 (by omega), g 2 (by omega), g 3 (by omega)]
  exact ofBytes_toBytes v hv

theorem State.dramWord_congr (s t : State) (a : Nat) (h : ∀ k, k < 4 → t.dramByte (a + k) = s.dramByte (a + k)) :
    t.dramWord a = s.dramWord a := by
  unfold State.dramWord State.dramNat
  simp only [State.dramBytes]
  have h0 := h 0 (by omega)
  rw [Nat.add_zero] at h0
  rw [show a + 1 + 1 + 1 = a + 3 by rfl, show a + 1 + 1 = a + 2 by rfl, h0, h 1 (by omega), h 2 (by omega), h 3 (by omega)]

/-- Words written are read back, each at its place. -/
theorem State.dramWord_putWords (s : State) (a k : Nat) (ws : List Word) (ha : a + 4 * ws.length ≤ 2 ^ 35) (hk : k < ws.length) :
    (s.putDramWords a ws).dramWord (a + 4 * k) = ws[k].toNat := by
  induction ws generalizing s a k with
  | nil => simp at hk
  | cons w ws ih =>
    rw [List.length_cons] at ha hk
    show (State.putDramWords (s.putDramNat a 4 w.toNat) (a + 4) ws).dramWord (a + 4 * k) = _
    cases k with
    | zero =>
      rw [Nat.mul_zero, Nat.add_zero, State.dramWord_congr (s.putDramNat a 4 w.toNat)]
      · exact State.dramWord_putDramNat _ _ _ w.isLt (by omega)
      · intro k hk4
        exact State.dramByte_putWords_other _ _ _ _ (by omega) (by omega) (by omega)
    | succ k =>
      rw [show a + 4 * (k + 1) = a + 4 + 4 * k by omega, ih _ _ _ (by omega) (by omega)]
      rfl

end Sys2Proof.Machine
end

