-- ==== Sys2Proof/Laws/Keep.lean ====
section
/-! SUPPORT. The invariant of every operation: the stores stay canonical, and no operation touches the queue of
waiting commands. -/

namespace Sys2Proof.Machine

/-- The stores are canonical and the queue is q. -/
structure Good (q : List Instr) (s : State) : Prop where
  pending : s.pending = q
  canon : s.Canon

/-- The same of an outcome, of a register write's answer and of an optional state. -/
structure GoodO (q : List Instr) (o : Out) : Prop where
  gets : ∀ t, o = .next t → Good q t
structure GoodR (q : List Instr) (r : Res) : Prop where
  gets : ∀ t, r = .ok t → Good q t
structure GoodP (q : List Instr) (r : Option State) : Prop where
  gets : ∀ t, r = some t → Good q t
structure GoodY (q : List Instr) (r : Option Ready) : Prop where
  gets : ∀ y, r = some y → Good q y.after

/-- Every register write of a list. -/
structure GoodL (q : List Instr) (l : List (State → Res)) : Prop where
  gets : ∀ f ∈ l, ∀ t, Good q t → GoodR q (f t)

theorem Good.cut {q : List Instr} {P : Prop} (s : State) (a : Good q s) (b : Good q s → P) : P := b a
theorem Good.cutF {q : List Instr} {P : Prop} (f : State → State) (a : ∀ t, Good q t → Good q (f t))
    (b : (∀ t, Good q t → Good q (f t)) → P) : P := b a
theorem Good.cutG {α : Type} {q : List Instr} {P : Prop} (f : α → State → State) (a : ∀ x t, Good q t → Good q (f x t))
    (b : (∀ x t, Good q t → Good q (f x t)) → P) : P := b a
theorem Good.cutH {α : Type} {q : List Instr} {P : Prop} (f : α → State) (a : ∀ x, Good q (f x))
    (b : (∀ x, Good q (f x)) → P) : P := b a
theorem Good.cutS {α : Type} {q : List Instr} {P : Prop} (f : α × State) (a : Good q f.2) (b : Good q f.2 → P) : P := b a
theorem Good.cutR {q : List Instr} {P : Prop} (f : Res) (a : GoodR q f) (b : GoodR q f → P) : P := b a
theorem Good.cutT {q : List Instr} {P : Prop} (f : Option State) (a : GoodP q f) (b : GoodP q f → P) : P := b a
theorem Good.cutK {q : List Instr} {P : Prop} (f : State → Res) (a : ∀ t, Good q t → GoodR q (f t))
    (b : (∀ t, Good q t → GoodR q (f t)) → P) : P := b a
theorem Good.cutL {q : List Instr} {P : Prop} (f : List (State → Res)) (a : GoodL q f) (b : GoodL q f → P) : P := b a

theorem GoodL.nil {q : List Instr} : GoodL q [] := ⟨by intro f h; cases h⟩
theorem GoodL.cons {q : List Instr} {f : State → Res} {l : List (State → Res)} (a : ∀ t, Good q t → GoodR q (f t))
    (b : GoodL q l) : GoodL q (f :: l) := ⟨by
  intro g hg
  cases hg with
  | head => exact a
  | tail _ h => exact b.gets g h⟩
theorem GoodL.append {q : List Instr} {l m : List (State → Res)} (a : GoodL q l) (b : GoodL q m) : GoodL q (l ++ m) :=
  ⟨fun f hf => (List.mem_append.1 hf).elim (a.gets f) (b.gets f)⟩
theorem GoodL.take {q : List Instr} {n : Nat} {l : List (State → Res)} (a : GoodL q l) : GoodL q (l.take n) :=
  ⟨fun f hf => a.gets f (List.mem_of_mem_take hf)⟩
theorem GoodL.map {α : Type} {q : List Instr} {f : α → State → Res} {l : List α}
    (a : ∀ x t, Good q t → GoodR q (f x t)) : GoodL q (l.map f) := ⟨by
  intro g hg
  obtain ⟨x, _, rfl⟩ := List.mem_map.1 hg
  exact a x⟩

theorem GoodO.next {q : List Instr} {t : State} (h : Good q t) : GoodO q (.next t) := ⟨by intro u hu; cases hu; exact h⟩
theorem GoodR.ok {q : List Instr} {t : State} (h : Good q t) : GoodR q (.ok t) := ⟨by intro u hu; cases hu; exact h⟩
theorem GoodR.error {q : List Instr} {e : Status} : GoodR q (.error e) := ⟨by intro u hu; cases hu⟩
theorem GoodP.some {q : List Instr} {t : State} (h : Good q t) : GoodP q (.some t) := ⟨by intro u hu; cases hu; exact h⟩
theorem GoodY.some {q : List Instr} {y : Ready} (h : Good q y.after) : GoodY q (.some y) := ⟨by intro u hu; cases hu; exact h⟩
theorem GoodY.none {q : List Instr} : GoodY q .none := ⟨by intro u hu; cases hu⟩
theorem GoodP.none {q : List Instr} : GoodP q .none := ⟨by intro u hu; cases hu⟩
theorem GoodP.map {q : List Instr} {f : State → State} {o : Option State} (h : GoodP q o)
    (hf : ∀ t, Good q t → Good q (f t)) : GoodP q (o.map f) := by
  cases o with
  | none => exact GoodP.none
  | some t => exact GoodP.some (hf t (h.gets t rfl))
theorem GoodP.bind {q : List Instr} {f : State → Option State} {o : Option State} (h : GoodP q o)
    (hf : ∀ t, Good q t → GoodP q (f t)) : GoodP q (o.bind f) := by
  cases o with
  | none => exact GoodP.none
  | some t => exact hf t (h.gets t rfl)
theorem GoodR.map {q : List Instr} {f : State → State} {r : Res} (h : GoodR q r) (hf : ∀ t, Good q t → Good q (f t)) :
    GoodR q (r.map f) := by
  cases r with
  | error e => exact GoodR.error
  | ok t => exact GoodR.ok (hf t (h.gets t rfl))
theorem GoodP.getD {q : List Instr} {o : Option State} {s : State} (h : GoodP q o) (hs : Good q s) : Good q (o.getD s) := by
  cases o with
  | none => exact hs
  | some t => exact h.gets t rfl
theorem GoodP.mapY {q : List Instr} {f : Ready → State} {o : Option Ready} (h : GoodY q o)
    (hf : ∀ y, Good q y.after → Good q (f y)) : GoodP q (o.map f) := by
  cases o with
  | none => exact GoodP.none
  | some y => exact GoodP.some (hf y (h.gets y rfl))
theorem Good.ite {q : List Instr} {c : Prop} [Decidable c] {x y : State} (a : Good q x) (b : Good q y) :
    Good q (if c then x else y) := by split <;> assumption
theorem GoodR.ite {q : List Instr} {c : Prop} [Decidable c] {x y : Res} (a : GoodR q x) (b : GoodR q y) :
    GoodR q (if c then x else y) := by split <;> assumption
theorem GoodP.ite {q : List Instr} {c : Prop} [Decidable c] {x y : Option State} (a : GoodP q x) (b : GoodP q y) :
    GoodP q (if c then x else y) := by split <;> assumption
theorem GoodO.ite {q : List Instr} {c : Prop} [Decidable c] {x y : Out} (a : GoodO q x) (b : GoodO q y) :
    GoodO q (if c then x else y) := by split <;> assumption
theorem GoodY.filter {q : List Instr} {p : Ready → Bool} {o : Option Ready} (h : GoodY q o) : GoodY q (o.filter p) :=
  ⟨fun y e => h.gets y (Option.filter_eq_some_iff.1 e).1⟩
theorem GoodY.ite {q : List Instr} {c : Prop} [Decidable c] {x y : Option Ready} (a : GoodY q x) (b : GoodY q y) :
    GoodY q (if c then x else y) := by split <;> assumption
theorem Good.cutY {q : List Instr} {P : Prop} (f : Option Ready) (a : GoodY q f) (b : GoodY q f → P) : P := b a
theorem GoodY.of_somev {q : List Instr} {y : Ready} (h : GoodY q (.some y)) : Good q y.after := h.gets y rfl
theorem Good.of_okv {q : List Instr} {t : State} (h : GoodR q (.ok t)) : Good q t := h.gets t rfl
theorem Good.of_somev {q : List Instr} {t : State} (h : GoodP q (.some t)) : Good q t := h.gets t rfl
theorem Good.of_ok {q : List Instr} {t : State} {r : Res} (e : r = .ok t) (h : GoodR q r) : Good q t := h.gets t e
theorem Good.of_some {q : List Instr} {t : State} {r : Option State} (e : r = .some t) (h : GoodP q r) : Good q t := h.gets t e
theorem Good.of_snd {α : Type} {q : List Instr} {t : State} {a : α} {p : α × State} (e : p = (a, t)) (h : Good q p.2) :
    Good q t := by subst e; exact h
theorem Good.of_fst {α : Type} {q : List Instr} {t : State} {a : α} {p : State × α} (e : p = (t, a)) (h : Good q p.1) :
    Good q t := by subst e; exact h
theorem Good.of_thd {α β : Type} {q : List Instr} {t : State} {a : α} {b : β} {p : α × β × State} (e : p = (a, b, t))
    (h : Good q p.2.2) : Good q t := by subst e; exact h
theorem Good.of_fst3 {α β : Type} {q : List Instr} {t : State} {a : α} {b : β} {p : State × α × β} (e : p = (t, a, b))
    (h : Good q p.1) : Good q t := by subst e; exact h
theorem GoodY.of_some {q : List Instr} {y : Ready} {r : Option Ready} (e : r = .some y) (h : GoodY q r) : Good q y.after :=
  h.gets y e
/-- An update of any other field. -/
theorem Good.mk_of {q : List Instr} (t : State) (h : Good q t) (f4) (f5) (f6) (f7) (f8) (f9) (f10) (f11) (f12) (f13) (f14) (f15) (f16) (f17) (f18) (f19) (f20) (f21) (f22) (f23) (f24) (f25) (f26) (f27) (f28) (f29) (f30) (f31) (f32) (f33) (f34) (f35) (f36) (f37) (f38) (f39) (f40) (f41) (f42) (f43) (f44) (f45) (f46) (f47) (f48) (f49) (f50) (f51) (f52) (f53) (f54) (f55) (f56) (f57) (f58) (f59) (f60) (f61) (f62) (f63) (f64) (f65) (f66) (f67) (f68) (f69) (f70) (f71) (f72) (f73) (f74) (f75) (f76) (f77) (f78) (f79) (f80) (f81) (f82) (f83) (f84) (f85) (f86) (f87) (f88) (f89) (f90) (f91) (f92) (f93) (f94) (f95) (f96) (f97) (f98) (f99) (f100) (f101) (f102) (f103) (f104) (f105) (f106) (f107) (f108) (f109) (f110) (f111) (f112) (f113) :
    Good q (State.mk t.pending t.regs t.dram t.mram f4 f5 f6 f7 f8 f9 f10 f11 f12 f13 f14 f15 f16 f17 f18 f19 f20 f21 f22 f23 f24 f25 f26 f27 f28 f29 f30 f31 f32 f33 f34 f35 f36 f37 f38 f39 f40 f41 f42 f43 f44 f45 f46 f47 f48 f49 f50 f51 f52 f53 f54 f55 f56 f57 f58 f59 f60 f61 f62 f63 f64 f65 f66 f67 f68 f69 f70 f71 f72 f73 f74 f75 f76 f77 f78 f79 f80 f81 f82 f83 f84 f85 f86 f87 f88 f89 f90 f91 f92 f93 f94 f95 f96 f97 f98 f99 f100 f101 f102 f103 f104 f105 f106 f107 f108 f109 f110 f111 f112 f113) := ⟨h.1, h.2.1, h.2.2, h.2.3⟩

end Sys2Proof.Machine
end

