-- ==== Sys2Proof/Laws/KeepOps.lean ====
section
/-! SUPPORT. Every operation of Machine/Ops.lean keeps the stores canonical and leaves the queue alone. -/

namespace Sys2Proof.Machine

theorem State.wr_good {q : List Instr} (s : State) (a v : Nat) (h : Good q s) : Good q (State.wr s a v) :=
  ⟨h.1, Tab.put_wf coldWord s.regs a _ h.2.1, h.2.2, h.2.3⟩

theorem State.set_good {q : List Instr} (s : State) (x1) (x2) (h : Good q s) : Good q (State.set s x1 x2) := by
  unfold State.set
  iterate 40 all_goals (try first
    | with_reducible assumption
    | with_reducible apply State.wr_good)

theorem State.setB_good {q : List Instr} (s : State) (x1) (x2) (h : Good q s) : Good q (State.setB s x1 x2) := by
  unfold State.setB
  iterate 40 all_goals (try first
    | with_reducible assumption
    | with_reducible apply State.set_good)

theorem State.setI_good {q : List Instr} (s : State) (x1) (x2) (h : Good q s) : Good q (State.setI s x1 x2) := by
  unfold State.setI
  iterate 40 all_goals (try first
    | with_reducible assumption
    | with_reducible apply State.set_good)

theorem State.bumpBy_good {q : List Instr} (s : State) (x1) (x2) (h : Good q s) : Good q (State.bumpBy s x1 x2) := by
  unfold State.bumpBy
  iterate 40 all_goals (try first
    | with_reducible assumption
    | with_reducible apply State.set_good)

theorem State.bump_good {q : List Instr} (s : State) (x1) (h : Good q s) : Good q (State.bump s x1) := by
  unfold State.bump
  iterate 40 all_goals (try first
    | with_reducible assumption
    | with_reducible apply State.bumpBy_good)

theorem State.wr64_good {q : List Instr} (s : State) (x1) (x2) (h : Good q s) : Good q (State.wr64 s x1 x2) := by
  unfold State.wr64
  iterate 40 all_goals (try first
    | with_reducible assumption
    | with_reducible apply State.wr_good)

theorem State.forEach_good {α : Type} {q : List Instr} (l : List α) (f : α → State → State) (s : State) (h : Good q s)
    (hf : ∀ a t, Good q t → Good q (f a t)) : Good q (State.forEach l f s) := by
  unfold State.forEach
  induction l generalizing s with
  | nil => exact h
  | cons a l ih => exact ih _ (hf a s h)

theorem State.drawWord_good {q : List Instr} (s : State) (h : Good q s) : Good q (State.drawWord s).2 := by
  unfold State.drawWord
  iterate 40 all_goals (try first
    | with_reducible assumption
    | with_reducible apply Good.mk_of)

theorem State.drawBool_good {q : List Instr} (s : State) (h : Good q s) : Good q (State.drawBool s).2 := by
  unfold State.drawBool
  iterate 40 all_goals (try first
    | with_reducible assumption
    | with_reducible apply Good.mk_of)

theorem State.store_good {q : List Instr} (s : State) (x1) (x2) (h : Good q s) : Good q (State.store s x1 x2) := by
  unfold State.store
  iterate 40 all_goals (try first
    | with_reducible assumption
    | with_reducible apply State.wr_good
    | split)

theorem State.raise_good {q : List Instr} (s : State) (x1) (x2) (x3) (x4) (h : Good q s) : Good q (State.raise s x1 x2 x3 x4) := by
  unfold State.raise
  iterate 40 all_goals (try first
    | with_reducible assumption
    | with_reducible apply Good.mk_of)

theorem State.raiseOnce_good {q : List Instr} (s : State) (x1) (x2) (x3) (x4) (x5) (h : Good q s) : Good q (State.raiseOnce s x1 x2 x3 x4 x5) := by
  unfold State.raiseOnce
  iterate 40 all_goals (try first
    | with_reducible assumption
    | with_reducible apply State.raise_good
    | with_reducible apply State.set_good
    | with_reducible apply Good.ite)

theorem State.addMuzzle_good {q : List Instr} (s : State) (x1) (x2) (h : Good q s) : Good q (State.addMuzzle s x1 x2) := by
  unfold State.addMuzzle
  iterate 40 all_goals (try first
    | with_reducible assumption
    | with_reducible apply Good.ite
    | with_reducible apply Good.mk_of)

theorem State.guarded_good {q : List Instr} (s : State) (x1) (f2 : State → Res) (h : Good q s) (hf2 : ∀ t, Good q t → GoodR q (f2 t)) : GoodR q (State.guarded s x1 f2) := by
  unfold State.guarded
  iterate 40 all_goals (try first
    | with_reducible assumption
    | with_reducible exact GoodR.error
    | with_reducible apply hf2
    | with_reducible apply GoodR.ite)

theorem State.respond_good {q : List Instr} (s : State) (f1 : Res) (h : Good q s) (hf1 : GoodR q f1) : Good q (State.respond s f1) := by
  unfold State.respond
  iterate 40 all_goals (try first
    | with_reducible assumption
    | with_reducible exact Good.of_okv (by assumption)
    | split
    | with_reducible apply Good.mk_of)

theorem State.pushEvent_good {q : List Instr} (s : State) (x1) (x2) (x3) (x4) (h : Good q s) : Good q (State.pushEvent s x1 x2 x3 x4) := by
  unfold State.pushEvent
  iterate 40 all_goals (try first
    | with_reducible assumption
    | (extract_lets +onlyGivenNames l; refine Good.cut (q := q) l ?_ (fun g => ?_); rotate_left; clear_value l; rotate_left; subst l)
    | with_reducible apply State.bump_good
    | with_reducible apply Good.ite
    | with_reducible apply Good.mk_of)

theorem State.notice_good {q : List Instr} (s : State) (x1) (x2) (x3) (h : Good q s) : Good q (State.notice s x1 x2 x3) := by
  unfold State.notice
  iterate 40 all_goals (try first
    | with_reducible assumption
    | with_reducible apply State.pushEvent_good)

theorem State.putDramByte_good {q : List Instr} (s : State) (a : Nat) (b : Byte) (h : Good q s) :
    Good q (State.putDramByte s a b) := ⟨h.1, h.2.1, Memory.put_wf _ _ _ h.2.2, h.2.3⟩

theorem State.putDram_good {q : List Instr} (s : State) (a : Nat) (bs : List Byte) (h : Good q s) :
    Good q (State.putDram s a bs) := by
  induction bs generalizing s a with
  | nil => exact h
  | cons b bs ih => exact ih _ _ (State.putDramByte_good _ _ _ h)

theorem State.putDramNat_good {q : List Instr} (s : State) (x1) (x2) (x3) (h : Good q s) : Good q (State.putDramNat s x1 x2 x3) := by
  unfold State.putDramNat
  iterate 40 all_goals (try first
    | with_reducible assumption
    | with_reducible apply State.putDram_good)

theorem State.putDramWords_good {q : List Instr} (s : State) (a : Nat) (ws : List Word) (h : Good q s) :
    Good q (State.putDramWords s a ws) := by
  induction ws generalizing s a with
  | nil => exact h
  | cons b bs ih => exact ih _ _ (State.putDramNat_good _ _ _ _ h)

theorem State.dramUe_good {q : List Instr} (s : State) (x1) (h : Good q s) : Good q (State.dramUe s x1) := by
  unfold State.dramUe
  iterate 40 all_goals (try first
    | with_reducible assumption
    | with_reducible apply State.raiseOnce_good
    | with_reducible apply State.bump_good
    | with_reducible apply Good.ite
    | with_reducible apply Good.mk_of)

theorem State.putMram_good {q : List Instr} (s : State) (a : Nat) (bs : List Byte) (h : Good q s) :
    Good q (State.putMram s a bs) := ⟨h.1, h.2.1, h.2.2, Memory.putBytes_wf _ _ _ h.2.3⟩

theorem State.putMramNat_good {q : List Instr} (s : State) (a n v : Nat) (h : Good q s) :
    Good q (State.putMramNat s a n v) := ⟨h.1, h.2.1, h.2.2, Memory.putNat_wf _ _ _ _ h.2.3⟩

theorem State.crossOverrun_good {q : List Instr} (s : State) (x1) (x2) (h : Good q s) : Good q (State.crossOverrun s x1 x2) := by
  unfold State.crossOverrun
  iterate 40 all_goals (try first
    | with_reducible assumption
    | with_reducible apply State.raiseOnce_good)

theorem State.crossJump_good {q : List Instr} (s : State) (x1) (x2) (h : Good q s) : Good q (State.crossJump s x1 x2) := by
  unfold State.crossJump
  iterate 40 all_goals (try first
    | with_reducible assumption
    | with_reducible apply State.raiseOnce_good)

theorem State.keepSend_good {q : List Instr} (s : State) (h : Good q s) : Good q (State.keepSend s) := by
  unfold State.keepSend
  iterate 40 all_goals (try first
    | with_reducible assumption
    | with_reducible apply Good.ite
    | with_reducible apply Good.mk_of)

theorem State.coreStop_good {q : List Instr} (s : State) (h : Good q s) : Good q (State.coreStop s) := by
  unfold State.coreStop
  iterate 40 all_goals (try first
    | with_reducible assumption
    | intro _ _ _
    | (extract_lets +onlyGivenNames l; refine Good.cut (q := q) l ?_ (fun g => ?_); rotate_left; clear_value l; rotate_left; subst l)
    | with_reducible apply State.forEach_good
    | with_reducible apply State.bump_good
    | with_reducible apply State.set_good
    | with_reducible apply State.keepSend_good
    | with_reducible apply Good.ite
    | with_reducible apply Good.mk_of)

theorem State.deferNote_good {q : List Instr} (s : State) (h : Good q s) : Good q (State.deferNote s) := by
  unfold State.deferNote
  iterate 40 all_goals (try first
    | with_reducible assumption
    | intro _ _ _
    | (extract_lets +onlyGivenNames l; refine Good.cut (q := q) l ?_ (fun g => ?_); rotate_left; clear_value l; rotate_left; subst l)
    | with_reducible apply State.forEach_good
    | with_reducible apply State.setB_good
    | (extract_lets +onlyGivenNames l; clear_value l)
    | with_reducible apply Good.mk_of)

end Sys2Proof.Machine
end

