-- ==== Sys2Proof/Laws/KeepCmd.lean ====
section
/-! SUPPORT. Every operation of Machine/Cmd.lean keeps the stores canonical and leaves the queue alone. -/

namespace Sys2Proof.Machine

theorem State.addReply_good {q : List Instr} (s : State) (x1) (x2) (x3) (x4) (h : Good q s) : Good q (State.addReply s x1 x2 x3 x4) := by
  unfold State.addReply
  iterate 40 all_goals (try first
    | with_reducible assumption
    | with_reducible apply Good.mk_of)

theorem State.retire_good {q : List Instr} (s : State) (x1) (x2) (x3) (x4) (h : Good q s) : Good q (State.retire s x1 x2 x3 x4) := by
  unfold State.retire
  iterate 40 all_goals (try first
    | with_reducible assumption
    | (extract_lets +onlyGivenNames l; refine Good.cut (q := q) l ?_ (fun g => ?_); rotate_left; clear_value l; rotate_left; subst l)
    | with_reducible apply State.addReply_good
    | with_reducible apply Good.ite
    | with_reducible apply Good.mk_of)

theorem State.settleBarriers_good {q : List Instr} (s : State) (x1) (h : Good q s) : Good q (State.settleBarriers s x1) := by
  induction x1 generalizing s with
  | zero =>
    unfold State.settleBarriers
    iterate 40 all_goals (try first
      | with_reducible assumption)
  | succ n ih =>
    unfold State.settleBarriers
    iterate 40 all_goals (try first
      | with_reducible assumption
      | with_reducible apply ih
      | with_reducible apply State.retire_good
      | split)

theorem State.complete_good {q : List Instr} (s : State) (x1) (x2) (x3) (x4) (h : Good q s) : Good q (State.complete s x1 x2 x3 x4) := by
  unfold State.complete
  iterate 40 all_goals (try first
    | with_reducible assumption
    | with_reducible apply State.settleBarriers_good
    | with_reducible apply State.retire_good
    | split)

theorem State.done_good {q : List Instr} (s : State) (x1) (x2) (h : Good q s) : Good q (State.done s x1 x2) := by
  unfold State.done
  iterate 40 all_goals (try first
    | with_reducible assumption
    | with_reducible apply State.complete_good)

theorem State.markRunning_good {q : List Instr} (s : State) (x1) (h : Good q s) : Good q (State.markRunning s x1) := by
  unfold State.markRunning
  iterate 40 all_goals (try first
    | with_reducible assumption
    | with_reducible apply Good.mk_of)

theorem State.setCalUnit_good {q : List Instr} (s : State) (x1) (x2) (x3) (h : Good q s) : Good q (State.setCalUnit s x1 x2 x3) := by
  unfold State.setCalUnit
  iterate 40 all_goals (try first
    | with_reducible assumption
    | with_reducible apply Good.mk_of)

theorem State.homed_good {q : List Instr} (s : State) (x1) (h : Good q s) : Good q (State.homed s x1) := by
  unfold State.homed
  iterate 40 all_goals (try first
    | with_reducible assumption
    | with_reducible apply State.set_good)

theorem State.enlist_good {q : List Instr} (s : State) (x1) (x2) (x3) (x4) (h : Good q s) : Good q (State.enlist s x1 x2 x3 x4) := by
  unfold State.enlist
  iterate 40 all_goals (try first
    | with_reducible assumption
    | with_reducible apply Good.mk_of)

theorem State.runBody_good {q : List Instr} (s : State) (x1) (x2) (x3) (f4 : State → State) (h : Good q s) (hf4 : ∀ t, Good q t → Good q (f4 t)) : Good q (State.runBody s x1 x2 x3 f4) := by
  unfold State.runBody
  iterate 40 all_goals (try first
    | with_reducible assumption
    | with_reducible apply State.done_good
    | with_reducible apply hf4
    | split)

theorem State.cmdAgain_good {q : List Instr} (s : State) (x1) (h : Good q s) : Good q (State.cmdAgain s x1) := by
  unfold State.cmdAgain
  iterate 40 all_goals (try first
    | with_reducible assumption
    | with_reducible apply Good.mk_of)

theorem State.cmd_good {q : List Instr} (s : State) (x1) (x2) (x3) (f4 : State → State) (h : Good q s) (hf4 : ∀ t, Good q t → Good q (f4 t)) : Good q (State.cmd s x1 x2 x3 f4) := by
  unfold State.cmd
  iterate 40 all_goals (try first
    | with_reducible assumption
    | with_reducible apply State.runBody_good
    | with_reducible apply State.markRunning_good
    | with_reducible apply State.enlist_good
    | with_reducible apply State.homed_good
    | with_reducible apply Good.ite
    | split)

theorem State.setRun_good {q : List Instr} (s : State) (x1) (x2) (h : Good q s) : Good q (State.setRun s x1 x2) := by
  unfold State.setRun
  iterate 40 all_goals (try first
    | with_reducible assumption
    | with_reducible apply Good.mk_of)

theorem State.answer_good {q : List Instr} (s : State) (x1) (x2) (x3) (x4) (h : Good q s) : Good q (State.answer s x1 x2 x3 x4) := by
  unfold State.answer
  iterate 40 all_goals (try first
    | with_reducible assumption
    | with_reducible apply State.complete_good
    | with_reducible apply State.setRun_good
    | with_reducible apply Good.ite
    | split
    | with_reducible apply Good.mk_of)

theorem State.finish_good {q : List Instr} (s : State) (x1) (x2) (h : Good q s) : Good q (State.finish s x1 x2) := by
  unfold State.finish
  iterate 40 all_goals (try first
    | with_reducible assumption
    | with_reducible apply State.answer_good)

theorem State.endsDrain_good {q : List Instr} (s : State) (h : Good q s) : Good q (State.endsDrain s) := by
  unfold State.endsDrain
  iterate 40 all_goals (try first
    | with_reducible assumption
    | intro _ _ _
    | with_reducible apply State.forEach_good
    | with_reducible apply State.complete_good
    | with_reducible apply Good.mk_of)

end Sys2Proof.Machine
end

