-- ==== Sys2Proof/Laws/KeepChannel.lean ====
section
/-! SUPPORT. Every operation of Machine/Channel.lean keeps the stores canonical and leaves the queue alone. -/

namespace Sys2Proof.Machine

theorem State.setChan_good {q : List Instr} (s : State) (x1) (x2) (h : Good q s) : Good q (State.setChan s x1 x2) := by
  unfold State.setChan
  iterate 40 all_goals (try first
    | with_reducible assumption
    | with_reducible apply Good.mk_of)

theorem State.cmpThresholds_good {q : List Instr} (s : State) (x1) (h : Good q s) : Good q (State.cmpThresholds s x1).2 := by
  unfold State.cmpThresholds
  iterate 40 all_goals (try first
    | with_reducible assumption
    | with_reducible apply State.drawWord_good
    | (extract_lets +onlyGivenNames l; clear_value l)
    | split)

theorem State.comparePad_good {q : List Instr} (s : State) (x1) (x2) (h : Good q s) : Good q (State.comparePad s x1 x2).2 := by
  unfold State.comparePad
  iterate 40 all_goals (try first
    | with_reducible assumption
    | with_reducible apply State.cmpThresholds_good
    | with_reducible apply State.setChan_good)

theorem State.cmpStart_good {q : List Instr} (s : State) (x1) (h : Good q s) : Good q (State.cmpStart s x1) := by
  unfold State.cmpStart
  iterate 40 all_goals (try first
    | with_reducible assumption
    | with_reducible apply State.setChan_good)

theorem State.trimTake_good {q : List Instr} (s : State) (x1) (h : Good q s) : Good q (State.trimTake s x1) := by
  unfold State.trimTake
  iterate 40 all_goals (try first
    | with_reducible assumption
    | (extract_lets +onlyGivenNames l; refine Good.cut (q := q) l ?_ (fun g => ?_); rotate_left; clear_value l; rotate_left; subst l)
    | with_reducible apply State.setCalUnit_good
    | with_reducible apply State.setChan_good
    | with_reducible apply Good.ite)

theorem State.applyChan_good {q : List Instr} (s : State) (x1) (h : Good q s) : Good q (State.applyChan s x1) := by
  unfold State.applyChan
  iterate 40 all_goals (try first
    | with_reducible assumption
    | (extract_lets +onlyGivenNames l; refine Good.cut (q := q) l ?_ (fun g => ?_); rotate_left; clear_value l; rotate_left; subst l)
    | with_reducible apply State.trimTake_good
    | with_reducible apply State.set_good
    | with_reducible apply State.setChan_good)

theorem writeChApply_good {q : List Instr} (x0) (x1) (s : State) (h : Good q s) : GoodR q (writeChApply x0 x1 s) := by
  unfold writeChApply
  iterate 40 all_goals (try first
    | with_reducible assumption
    | intro _ _ _
    | with_reducible apply State.forEach_good
    | with_reducible apply State.applyChan_good
    | with_reducible exact GoodR.error
    | with_reducible apply GoodR.ok
    | with_reducible apply GoodR.ite)

theorem writeLevel_good {q : List Instr} (x0) (x1) (x2) (s : State) (h : Good q s) : GoodR q (writeLevel x0 x1 x2 s) := by
  unfold writeLevel
  iterate 40 all_goals (try first
    | with_reducible assumption
    | with_reducible apply State.set_good
    | with_reducible apply State.store_good
    | with_reducible exact GoodR.error
    | with_reducible apply GoodR.ok
    | with_reducible apply GoodR.ite)

theorem writeLoad_good {q : List Instr} (x0) (x1) (s : State) (h : Good q s) : GoodR q (writeLoad x0 x1 s) := by
  unfold writeLoad
  iterate 40 all_goals (try first
    | with_reducible assumption
    | with_reducible apply State.set_good
    | with_reducible apply State.store_good
    | with_reducible exact GoodR.error
    | with_reducible apply GoodR.ok
    | with_reducible apply GoodR.ite)

theorem State.laneMembers_good {q : List Instr} (s : State) (x1) (x2) (h : Good q s) : Good q (State.laneMembers s x1 x2) := by
  unfold State.laneMembers
  iterate 40 all_goals (try first
    | with_reducible assumption
    | with_reducible apply State.setB_good)

theorem writeLane_good {q : List Instr} (x0) (x1) (x2) (s : State) (h : Good q s) : GoodR q (writeLane x0 x1 x2 s) := by
  unfold writeLane
  iterate 40 all_goals (try first
    | with_reducible assumption
    | (extract_lets +onlyGivenNames l; refine Good.cut (q := q) l ?_ (fun g => ?_); rotate_left; clear_value l; rotate_left; subst l)
    | with_reducible apply State.laneMembers_good
    | with_reducible apply State.store_good
    | with_reducible exact GoodR.error
    | with_reducible apply GoodR.ok
    | with_reducible apply GoodR.ite
    | with_reducible apply Good.mk_of)

theorem State.laneSettle_good {q : List Instr} (s : State) (x1) (h : Good q s) : Good q (State.laneSettle s x1) := by
  unfold State.laneSettle
  iterate 40 all_goals (try first
    | with_reducible assumption
    | with_reducible apply State.laneMembers_good
    | with_reducible apply Good.ite
    | with_reducible apply Good.mk_of)

theorem State.pmuStart_good {q : List Instr} (s : State) (x1) (h : Good q s) : Good q (State.pmuStart s x1) := by
  unfold State.pmuStart
  iterate 40 all_goals (try first
    | with_reducible assumption
    | (extract_lets +onlyGivenNames l; refine Good.cut (q := q) l ?_ (fun g => ?_); rotate_left; clear_value l; rotate_left; subst l)
    | with_reducible apply State.set_good
    | with_reducible apply State.setChan_good
    | with_reducible apply Good.ite)

theorem writePmuCtl_good {q : List Instr} (x0) (x1) (s : State) (h : Good q s) : GoodR q (writePmuCtl x0 x1 s) := by
  unfold writePmuCtl
  iterate 40 all_goals (try first
    | with_reducible assumption
    | (extract_lets +onlyGivenNames l; refine Good.cut (q := q) l ?_ (fun g => ?_); rotate_left; clear_value l; rotate_left; subst l)
    | with_reducible apply State.store_good
    | with_reducible apply State.cmpStart_good
    | with_reducible apply State.pmuStart_good
    | with_reducible exact GoodR.error
    | with_reducible apply GoodR.ok
    | with_reducible apply Good.ite
    | with_reducible apply GoodR.ite)

theorem writePmuForce_good {q : List Instr} (x0) (x1) (s : State) (h : Good q s) : GoodR q (writePmuForce x0 x1 s) := by
  unfold writePmuForce
  iterate 40 all_goals (try first
    | with_reducible assumption
    | with_reducible apply State.store_good
    | with_reducible exact GoodR.error
    | with_reducible apply GoodR.ok
    | with_reducible apply GoodR.ite)

theorem writePmuClamp_good {q : List Instr} (x0) (x1) (s : State) (h : Good q s) : GoodR q (writePmuClamp x0 x1 s) := by
  unfold writePmuClamp
  iterate 40 all_goals (try first
    | with_reducible assumption
    | with_reducible apply State.store_good
    | with_reducible exact GoodR.error
    | with_reducible apply GoodR.ok
    | with_reducible apply GoodR.ite)

theorem State.letGo_good {q : List Instr} (s : State) (x1) (h : Good q s) : Good q (State.letGo s x1) := by
  unfold State.letGo
  iterate 40 all_goals (try first
    | with_reducible assumption
    | with_reducible apply State.setChan_good)

theorem writeChStatus_good {q : List Instr} (x0) (x1) (s : State) (h : Good q s) : GoodR q (writeChStatus x0 x1 s) := by
  unfold writeChStatus
  iterate 40 all_goals (try first
    | with_reducible assumption
    | intro _ _ _
    | (extract_lets +onlyGivenNames l; refine Good.cut (q := q) l ?_ (fun g => ?_); rotate_left; clear_value l; rotate_left; subst l)
    | with_reducible apply State.store_good
    | with_reducible apply State.forEach_good
    | with_reducible apply State.letGo_good
    | with_reducible apply State.set_good
    | with_reducible apply State.setChan_good
    | with_reducible apply GoodR.ok
    | with_reducible apply GoodR.ite)

theorem State.pmuAbort_good {q : List Instr} (s : State) (x1) (x2) (h : Good q s) : Good q (State.pmuAbort s x1 x2) := by
  unfold State.pmuAbort
  iterate 40 all_goals (try first
    | with_reducible assumption
    | (extract_lets +onlyGivenNames l; refine Good.cut (q := q) l ?_ (fun g => ?_); rotate_left; clear_value l; rotate_left; subst l)
    | with_reducible apply State.setChan_good
    | with_reducible apply State.set_good
    | with_reducible apply State.answer_good
    | with_reducible apply Good.ite
    | (extract_lets +onlyGivenNames l; clear_value l)
    | split)

theorem State.detect_good {q : List Instr} (s : State) (x1) (x2) (x3) (h : Good q s) : Good q (State.detect s x1 x2 x3) := by
  unfold State.detect
  iterate 40 all_goals (try first
    | with_reducible assumption
    | with_reducible apply State.raiseOnce_good)

theorem execChApply_good {q : List Instr} (x0) (x1) (x2) (s : State) (h : Good q s) : GoodO q (execChApply x0 x1 x2 s) := by
  unfold execChApply
  iterate 40 all_goals (try first
    | with_reducible assumption
    | intro _ _
    | with_reducible apply State.respond_good
    | with_reducible apply State.guarded_good
    | with_reducible apply writeChApply_good
    | with_reducible apply GoodO.next)

theorem execLaneEnable_good {q : List Instr} (x0) (x1) (x2) (x3) (s : State) (h : Good q s) : GoodO q (execLaneEnable x0 x1 x2 x3 s) := by
  unfold execLaneEnable
  iterate 40 all_goals (try first
    | with_reducible assumption
    | intro _ _
    | with_reducible apply State.respond_good
    | with_reducible apply State.guarded_good
    | with_reducible apply writeLane_good
    | with_reducible apply GoodO.next)

theorem execChPmuGo_good {q : List Instr} (x0) (x1) (x2) (s : State) (h : Good q s) : GoodO q (execChPmuGo x0 x1 x2 s) := by
  unfold execChPmuGo
  iterate 40 all_goals (try first
    | with_reducible assumption
    | intro _ _
    | with_reducible apply State.respond_good
    | with_reducible apply State.guarded_good
    | with_reducible apply writePmuCtl_good
    | with_reducible apply GoodO.next)

theorem execPmuMeasSettled_good {q : List Instr} (x0) (s : State) (h : Good q s) : GoodO q (execPmuMeasSettled x0 s) := by
  unfold execPmuMeasSettled
  iterate 40 all_goals (try first
    | with_reducible assumption
    | with_reducible apply State.setChan_good
    | with_reducible apply GoodO.next
    | with_reducible apply Good.ite)

theorem execPmuMeasDone_good {q : List Instr} (x0) (x1) (s : State) (h : Good q s) : GoodO q (execPmuMeasDone x0 x1 s) := by
  unfold execPmuMeasDone
  iterate 40 all_goals (try first
    | with_reducible assumption
    | (extract_lets +onlyGivenNames l; refine Good.cut (q := q) l ?_ (fun g => ?_); rotate_left; clear_value l; rotate_left; subst l)
    | with_reducible apply State.set_good
    | with_reducible apply State.setB_good
    | with_reducible apply State.setI_good
    | with_reducible apply State.setChan_good
    | with_reducible apply State.answer_good
    | with_reducible apply GoodO.next
    | with_reducible apply Good.ite
    | split)

theorem execDrvOvercurrent_good {q : List Instr} (x0) (s : State) (h : Good q s) : GoodO q (execDrvOvercurrent x0 s) := by
  unfold execDrvOvercurrent
  iterate 40 all_goals (try first
    | with_reducible assumption
    | intro _ _ _
    | with_reducible apply State.forEach_good
    | with_reducible apply State.letGo_good
    | with_reducible apply State.set_good
    | with_reducible apply State.detect_good
    | with_reducible apply GoodO.next)

theorem execPinClamp_good {q : List Instr} (x0) (s : State) (h : Good q s) : GoodO q (execPinClamp x0 s) := by
  unfold execPinClamp
  iterate 40 all_goals (try first
    | with_reducible assumption
    | with_reducible apply State.detect_good
    | with_reducible apply GoodO.next)

theorem execPmuClamp_good {q : List Instr} (x0) (s : State) (h : Good q s) : GoodO q (execPmuClamp x0 s) := by
  unfold execPmuClamp
  iterate 40 all_goals (try first
    | with_reducible assumption
    | (extract_lets +onlyGivenNames l; refine Good.cut (q := q) l ?_ (fun g => ?_); rotate_left; clear_value l; rotate_left; subst l)
    | with_reducible apply State.detect_good
    | with_reducible apply State.set_good
    | with_reducible apply GoodO.next
    | with_reducible apply Good.ite)

theorem execLoadCompliance_good {q : List Instr} (x0) (s : State) (h : Good q s) : GoodO q (execLoadCompliance x0 s) := by
  unfold execLoadCompliance
  iterate 40 all_goals (try first
    | with_reducible assumption
    | with_reducible apply State.detect_good
    | with_reducible apply GoodO.next
    | with_reducible apply Good.ite)

theorem execLevelMonitorRead_good {q : List Instr} (x0) (x1) (x2) (s : State) (h : Good q s) : GoodO q (execLevelMonitorRead x0 x1 x2 s) := by
  unfold execLevelMonitorRead
  iterate 40 all_goals (try first
    | with_reducible assumption
    | (extract_lets +onlyGivenNames l; refine Good.cut (q := q) l ?_ (fun g => ?_); rotate_left; clear_value l; rotate_left; subst l)
    | with_reducible apply State.set_good
    | with_reducible apply State.detect_good
    | with_reducible apply GoodO.next
    | with_reducible apply Good.ite)

theorem execDrvOvercurrentClear_good {q : List Instr} (x0) (x1) (x2) (s : State) (h : Good q s) : GoodO q (execDrvOvercurrentClear x0 x1 x2 s) := by
  unfold execDrvOvercurrentClear
  iterate 40 all_goals (try first
    | with_reducible assumption
    | intro _ _
    | with_reducible apply State.respond_good
    | with_reducible apply State.guarded_good
    | with_reducible apply writeChStatus_good
    | with_reducible apply GoodO.next)

theorem runWrites_good {q : List Instr} (l : List (State → Res)) (s : State) (hl : GoodL q l) (h : Good q s) :
    Good q (runWrites l s).1 := by
  induction l generalizing s with
  | nil => exact h
  | cons f l ih =>
    unfold runWrites
    split
    · exact ih _ ⟨fun g hg => hl.gets g (List.mem_cons_of_mem _ hg)⟩ (Good.of_ok (by assumption) (hl.gets f (List.mem_cons_self ..) s h))
    · exact h

theorem execPmuMeasure_good {q : List Instr} (x0) (x1) (s : State) (h : Good q s) : GoodO q (execPmuMeasure x0 x1 s) := by
  unfold execPmuMeasure
  iterate 40 all_goals (try first
    | with_reducible assumption
    | intro _ _
    | (extract_lets +onlyGivenNames l; refine Good.cutL (q := q) l ?_ (fun g => ?_); rotate_left; clear_value l; rotate_left; subst l)
    | with_reducible apply State.cmd_good
    | with_reducible apply State.done_good
    | with_reducible apply State.guarded_good
    | with_reducible apply writePmuCtl_good
    | with_reducible apply writePmuForce_good
    | with_reducible apply writePmuClamp_good
    | with_reducible apply State.store_good
    | with_reducible apply runWrites_good
    | with_reducible apply State.setChan_good
    | with_reducible apply State.complete_good
    | with_reducible apply GoodO.next
    | with_reducible apply GoodR.ok
    | with_reducible apply Good.ite
    | with_reducible exact GoodL.nil
    | with_reducible apply GoodL.cons
    | split
    | (with_reducible refine Good.of_fst (by assumption) ?_))

end Sys2Proof.Machine
end

