-- ==== Sys2Proof/Laws/KeepApg.lean ====
section
/-! SUPPORT. Every operation of Machine/Apg.lean keeps the stores canonical and leaves the queue alone. -/

namespace Sys2Proof.Machine

theorem State.setApg_good {q : List Instr} (s : State) (x1) (x2) (h : Good q s) : Good q (State.setApg s x1 x2) := by
  unfold State.setApg
  iterate 40 all_goals (try first
    | with_reducible assumption
    | with_reducible apply Good.mk_of)

theorem State.apgStep_good {q : List Instr} (s : State) (x1) (x2) (h : Good q s) : Good q (State.apgStep s x1 x2) := by
  unfold State.apgStep
  iterate 40 all_goals (try first
    | with_reducible assumption
    | with_reducible apply State.set_good
    | with_reducible apply State.setB_good
    | with_reducible apply State.setApg_good)

theorem State.bmMark_good {q : List Instr} (s : State) (x1) (x2) (h : Good q s) : Good q (State.bmMark s x1 x2) := by
  unfold State.bmMark
  iterate 40 all_goals (try first
    | with_reducible assumption
    | with_reducible apply State.bump_good
    | with_reducible apply State.set_good)

theorem State.bmLost_good {q : List Instr} (s : State) (x1) (x2) (h : Good q s) : Good q (State.bmLost s x1 x2) := by
  unfold State.bmLost
  iterate 40 all_goals (try first
    | with_reducible assumption
    | with_reducible apply State.raiseOnce_good
    | with_reducible apply State.bmMark_good)

theorem State.bmBusy_good {q : List Instr} (s : State) (x1) (x2) (h : Good q s) : Good q (State.bmBusy s x1 x2) := by
  unfold State.bmBusy
  iterate 40 all_goals (try first
    | with_reducible assumption
    | with_reducible apply State.raiseOnce_good
    | with_reducible apply State.bmMark_good)

theorem State.bitmapLog_good {q : List Instr} (s : State) (x1) (x2) (x3) (x4) (h : Good q s) : Good q (State.bitmapLog s x1 x2 x3 x4) := by
  unfold State.bitmapLog
  iterate 40 all_goals (try first
    | with_reducible assumption
    | with_reducible apply State.bmBusy_good
    | with_reducible apply State.bmLost_good
    | with_reducible apply State.setApg_good
    | with_reducible apply Good.ite
    | (extract_lets +onlyGivenNames l; clear_value l)
    | split)

theorem State.orDramBit_good {q : List Instr} (s : State) (x1) (x2) (h : Good q s) : Good q (State.orDramBit s x1 x2) := by
  unfold State.orDramBit
  iterate 40 all_goals (try first
    | with_reducible assumption
    | with_reducible apply State.putDramByte_good)

theorem State.clearDram_good {q : List Instr} (s : State) (a n : Nat) (h : Good q s) : Good q (State.clearDram s a n) :=
  ⟨h.1, h.2.1, Tab.filter_wf _ _ _ h.2.2, h.2.3⟩

theorem State.putDramList_good {q : List Instr} (s : State) (x1) (x2) (h : Good q s) : Good q (State.putDramList s x1 x2) := by
  induction x2 generalizing s x1 with
  | nil =>
    unfold State.putDramList
    iterate 40 all_goals (try first
      | with_reducible assumption)
  | cons a l ih =>
    unfold State.putDramList
    iterate 40 all_goals (try first
      | with_reducible assumption
      | with_reducible apply ih
      | with_reducible apply State.putDramNat_good)

theorem State.putOpen_good {q : List Instr} (s : State) (x1) (x2) (h : Good q s) : Good q (State.putOpen s x1 x2) := by
  unfold State.putOpen
  iterate 40 all_goals (try first
    | with_reducible assumption
    | with_reducible apply State.putDramNat_good
    | with_reducible apply Good.ite)

theorem State.putOpenList_good {q : List Instr} (s : State) (a : Nat) (ws : List Nat) (h : Good q s) :
    Good q (State.putOpenList s a ws) := by
  induction ws generalizing s a with
  | nil => exact h
  | cons b bs ih => exact ih _ _ (State.putOpen_good _ _ _ h)

theorem writeImemHi_good {q : List Instr} (x0) (x1) (s : State) (h : Good q s) : GoodR q (writeImemHi x0 x1 s) := by
  unfold writeImemHi
  iterate 40 all_goals (try first
    | with_reducible assumption
    | with_reducible apply State.set_good
    | with_reducible apply State.setApg_good
    | with_reducible exact GoodR.error
    | with_reducible apply GoodR.ok
    | with_reducible apply GoodR.ite)

theorem writeRaReq_good {q : List Instr} (x0) (x1) (s : State) (h : Good q s) : GoodR q (writeRaReq x0 x1 s) := by
  unfold writeRaReq
  iterate 40 all_goals (try first
    | with_reducible assumption
    | (extract_lets +onlyGivenNames l; refine Good.cut (q := q) l ?_ (fun g => ?_); rotate_left; clear_value l; rotate_left; subst l)
    | with_reducible apply State.setApg_good
    | with_reducible apply State.set_good
    | with_reducible exact GoodR.error
    | with_reducible apply GoodR.ok
    | with_reducible apply GoodR.ite)

theorem writeApgPlain_good {q : List Instr} (x0) (x1) (x2) (s : State) (h : Good q s) : GoodR q (writeApgPlain x0 x1 x2 s) := by
  unfold writeApgPlain
  iterate 40 all_goals (try first
    | with_reducible assumption
    | with_reducible apply State.store_good
    | with_reducible apply State.setApg_good
    | with_reducible exact GoodR.error
    | with_reducible apply GoodR.ok
    | with_reducible apply GoodR.ite)

theorem execApgImemHiWrite_good {q : List Instr} (x0) (x1) (x2) (s : State) (h : Good q s) : GoodO q (execApgImemHiWrite x0 x1 x2 s) := by
  unfold execApgImemHiWrite
  iterate 40 all_goals (try first
    | with_reducible assumption
    | intro _ _
    | with_reducible apply State.respond_good
    | with_reducible apply State.guarded_good
    | with_reducible apply writeImemHi_good
    | with_reducible apply GoodO.next)

theorem readImemHi_good {q : List Instr} (x0) (s : State) (h : Good q s) : Good q (readImemHi x0 s).2 := by
  unfold readImemHi
  iterate 40 all_goals (try first
    | with_reducible assumption
    | with_reducible apply State.set_good)

theorem readImemLo_good {q : List Instr} (x0) (s : State) (h : Good q s) : Good q (readImemLo x0 s).2 := by
  unfold readImemLo
  iterate 40 all_goals (try first
    | with_reducible assumption
    | with_reducible apply State.setApg_good)

theorem execApgImemHiRead_good {q : List Instr} (x0) (x1) (s : State) (h : Good q s) : GoodO q (execApgImemHiRead x0 x1 s) := by
  unfold execApgImemHiRead
  iterate 40 all_goals (try first
    | with_reducible assumption
    | with_reducible apply readImemHi_good
    | with_reducible apply GoodO.next
    | with_reducible apply Good.mk_of)

theorem execRaReq_good {q : List Instr} (x0) (x1) (x2) (s : State) (h : Good q s) : GoodO q (execRaReq x0 x1 x2 s) := by
  unfold execRaReq
  iterate 40 all_goals (try first
    | with_reducible assumption
    | intro _ _
    | with_reducible apply State.respond_good
    | with_reducible apply State.guarded_good
    | with_reducible apply writeRaReq_good
    | with_reducible apply GoodO.next)

theorem execBitmapLineWrite_good {q : List Instr} (x0) (x1) (s : State) (h : Good q s) : GoodO q (execBitmapLineWrite x0 x1 s) := by
  unfold execBitmapLineWrite
  iterate 40 all_goals (try first
    | with_reducible assumption
    | intro _ _ _
    | (extract_lets +onlyGivenNames l; refine Good.cut (q := q) l ?_ (fun g => ?_); rotate_left; clear_value l; rotate_left; subst l)
    | with_reducible apply State.setApg_good
    | with_reducible apply State.bmLost_good
    | with_reducible apply State.dramUe_good
    | with_reducible apply State.forEach_good
    | with_reducible apply State.orDramBit_good
    | with_reducible apply GoodO.next
    | with_reducible apply Good.ite
    | (extract_lets +onlyGivenNames l; clear_value l)
    | split)

theorem execRaRequestStart_good {q : List Instr} (x0) (x1) (s : State) (h : Good q s) : GoodO q (execRaRequestStart x0 x1 s) := by
  unfold execRaRequestStart
  iterate 40 all_goals (try first
    | with_reducible assumption
    | intro _ _ _
    | with_reducible apply State.setApg_good
    | with_reducible apply State.set_good
    | with_reducible apply State.forEach_good
    | with_reducible apply State.raiseOnce_good
    | with_reducible apply State.dramUe_good
    | with_reducible apply State.putOpen_good
    | with_reducible apply GoodO.next
    | with_reducible apply Good.ite
    | (extract_lets +onlyGivenNames l; clear_value l)
    | split)

end Sys2Proof.Machine
end

