-- ==== Sys2Proof/Laws/KeepSiteOps.lean ====
section
/-! SUPPORT. Every operation of Machine/SiteOps.lean keeps the stores canonical and leaves the queue alone. -/

namespace Sys2Proof.Machine

theorem State.remark_good {q : List Instr} (s : State) (s1 : State) (h : Good q s) (hs1 : Good q s1) : Good q (State.remark s s1) := by
  unfold State.remark
  iterate 40 all_goals (try first
    | with_reducible assumption
    | with_reducible apply Good.mk_of)

theorem State.markSites_good {q : List Instr} (s : State) (x1) (x2) (x3) (h : Good q s) : Good q (State.markSites s x1 x2 x3) := by
  unfold State.markSites
  iterate 40 all_goals (try first
    | with_reducible assumption
    | with_reducible apply Good.ite
    | with_reducible apply Good.mk_of)

theorem State.ctxTouch_good {q : List Instr} (s : State) (x1) (h : Good q s) : Good q (State.ctxTouch s x1) := by
  unfold State.ctxTouch
  iterate 40 all_goals (try first
    | with_reducible assumption
    | (extract_lets +onlyGivenNames l; refine Good.cut (q := q) l ?_ (fun g => ?_); rotate_left; clear_value l; rotate_left; subst l)
    | with_reducible apply Good.ite
    | with_reducible apply Good.mk_of)

theorem State.datalog_good {q : List Instr} (s : State) (x1) (x2) (h : Good q s) : Good q (State.datalog s x1 x2) := by
  unfold State.datalog
  iterate 40 all_goals (try first
    | with_reducible assumption
    | with_reducible apply State.bump_good
    | with_reducible apply State.putOpenList_good
    | with_reducible apply State.wr64_good
    | with_reducible apply Good.ite)

theorem State.lockFree_good {q : List Instr} (s : State) (x1) (h : Good q s) : Good q (State.lockFree s x1) := by
  unfold State.lockFree
  iterate 40 all_goals (try first
    | with_reducible assumption
    | (extract_lets +onlyGivenNames l; refine Good.cut (q := q) l ?_ (fun g => ?_); rotate_left; clear_value l; rotate_left; subst l)
    | with_reducible apply State.set_good
    | with_reducible apply Good.mk_of)

theorem State.settleRun_good {q : List Instr} (s : State) (x1) (h : Good q s) : Good q (State.settleRun s x1) := by
  unfold State.settleRun
  iterate 40 all_goals (try first
    | with_reducible assumption
    | intro _ _ _
    | (extract_lets +onlyGivenNames l; refine Good.cut (q := q) l ?_ (fun g => ?_); rotate_left; clear_value l; rotate_left; subst l)
    | with_reducible apply State.forEach_good
    | with_reducible apply State.wr_good
    | with_reducible apply State.setRun_good
    | with_reducible apply State.lockFree_good
    | with_reducible apply State.set_good
    | with_reducible apply State.complete_good
    | with_reducible apply Good.ite
    | split
    | with_reducible apply Good.mk_of)

theorem State.foldFails_good {q : List Instr} (s : State) (x1) (x2) (h : Good q s) : Good q (State.foldFails s x1 x2) := by
  unfold State.foldFails
  iterate 40 all_goals (try first
    | with_reducible assumption
    | (extract_lets +onlyGivenNames l; refine Good.cut (q := q) l ?_ (fun g => ?_); rotate_left; clear_value l; rotate_left; subst l)
    | with_reducible apply State.bumpBy_good
    | with_reducible apply State.set_good
    | with_reducible apply State.wr64_good
    | with_reducible apply Good.ite
    | (extract_lets +onlyGivenNames l; clear_value l)
    | split)

theorem State.routineAgain_good {q : List Instr} (s : State) (x1) (h : Good q s) : Good q (State.routineAgain s x1) := by
  unfold State.routineAgain
  iterate 40 all_goals (try first
    | with_reducible assumption
    | (extract_lets +onlyGivenNames l; refine Good.cut (q := q) l ?_ (fun g => ?_); rotate_left; clear_value l; rotate_left; subst l)
    | with_reducible apply State.bump_good
    | with_reducible apply Good.ite
    | (extract_lets +onlyGivenNames l; clear_value l)
    | with_reducible apply Good.mk_of)

theorem State.preempt_good {q : List Instr} (s : State) (h : Good q s) : Good q (State.preempt s) := by
  unfold State.preempt
  iterate 40 all_goals (try first
    | with_reducible assumption
    | with_reducible apply State.routineAgain_good
    | with_reducible apply Good.ite
    | split)

theorem State.putStop_good {q : List Instr} (s : State) (x1) (h : Good q s) : Good q (State.putStop s x1) := by
  unfold State.putStop
  iterate 40 all_goals (try first
    | with_reducible assumption
    | with_reducible apply Good.mk_of)

theorem State.stopSite_good {q : List Instr} (s : State) (x1) (x2) (h : Good q s) : Good q (State.stopSite s x1 x2) := by
  unfold State.stopSite
  iterate 40 all_goals (try first
    | with_reducible assumption
    | intro _ _ _
    | with_reducible apply State.forEach_good
    | with_reducible apply State.putStop_good
    | with_reducible apply Good.ite)

theorem State.fenceSite_good {q : List Instr} (s : State) (x1) (h : Good q s) : Good q (State.fenceSite s x1) := by
  unfold State.fenceSite
  iterate 40 all_goals (try first
    | with_reducible assumption
    | intro _ _ _
    | with_reducible apply State.forEach_good
    | with_reducible apply State.putStop_good)

theorem State.leaveActive_good {q : List Instr} (s : State) (x1) (x2) (x3) (h : Good q s) : Good q (State.leaveActive s x1 x2 x3) := by
  unfold State.leaveActive
  iterate 40 all_goals (try first
    | with_reducible assumption
    | (extract_lets +onlyGivenNames l; refine Good.cut (q := q) l ?_ (fun g => ?_); rotate_left; clear_value l; rotate_left; subst l)
    | with_reducible apply State.foldFails_good
    | with_reducible apply State.set_good
    | with_reducible apply State.ctxTouch_good
    | with_reducible apply State.datalog_good
    | with_reducible apply State.stopSite_good
    | with_reducible apply State.settleRun_good
    | with_reducible apply State.setRun_good
    | with_reducible apply Good.ite
    | (extract_lets +onlyGivenNames l; clear_value l)
    | split)

theorem State.untest_good {q : List Instr} (s : State) (x1) (x2) (h : Good q s) : Good q (State.untest s x1 x2) := by
  unfold State.untest
  iterate 40 all_goals (try first
    | with_reducible assumption
    | intro _ _ _
    | with_reducible apply State.forEach_good
    | with_reducible apply State.leaveActive_good
    | with_reducible apply Good.ite)

theorem State.untestAll_good {q : List Instr} (s : State) (x1) (h : Good q s) : Good q (State.untestAll s x1) := by
  unfold State.untestAll
  iterate 40 all_goals (try first
    | with_reducible assumption
    | intro _ _ _
    | with_reducible apply State.forEach_good
    | with_reducible apply State.untest_good)

theorem State.reactSites_good {q : List Instr} (s : State) (x1) (h : Good q s) : Good q (State.reactSites s x1) := by
  unfold State.reactSites
  iterate 40 all_goals (try first
    | with_reducible assumption
    | intro _ _ _
    | with_reducible apply State.forEach_good
    | with_reducible apply State.stopSite_good
    | with_reducible apply State.preempt_good
    | with_reducible apply State.untestAll_good
    | with_reducible apply Good.ite
    | with_reducible apply Good.mk_of)

theorem State.siteDrain_good {q : List Instr} (s : State) (h : Good q s) : Good q (State.siteDrain s) := by
  unfold State.siteDrain
  iterate 40 all_goals (try first
    | with_reducible assumption
    | intro _ _ _
    | with_reducible apply State.forEach_good
    | with_reducible apply State.untestAll_good
    | with_reducible apply Good.mk_of)

theorem State.clearSite_good {q : List Instr} (s : State) (x1) (h : Good q s) : Good q (State.clearSite s x1) := by
  unfold State.clearSite
  iterate 40 all_goals (try first
    | with_reducible assumption
    | intro _ _ _
    | (extract_lets +onlyGivenNames l; refine Good.cut (q := q) l ?_ (fun g => ?_); rotate_left; clear_value l; rotate_left; subst l)
    | with_reducible apply State.forEach_good
    | with_reducible apply State.wr_good
    | with_reducible apply State.ctxTouch_good
    | with_reducible apply Good.mk_of)

theorem State.putSlot_good {q : List Instr} (s : State) (x1) (x2) (x3) (h : Good q s) : Good q (State.putSlot s x1 x2 x3) := by
  unfold State.putSlot
  iterate 40 all_goals (try first
    | with_reducible assumption
    | (extract_lets +onlyGivenNames l; refine Good.cut (q := q) l ?_ (fun g => ?_); rotate_left; clear_value l; rotate_left; subst l)
    | with_reducible apply State.ctxTouch_good
    | with_reducible apply State.set_good
    | with_reducible apply Good.mk_of)

theorem State.repairWrite_good {q : List Instr} (s : State) (x1) (x2) (h : Good q s) : Good q (State.repairWrite s x1 x2) := by
  unfold State.repairWrite
  iterate 40 all_goals (try first
    | with_reducible assumption
    | intro _ _ _
    | with_reducible apply State.forEach_good
    | with_reducible apply State.putOpenList_good
    | with_reducible apply State.putOpen_good)

theorem State.repairClear_good {q : List Instr} (s : State) (x1) (x2) (x3) (h : Good q s) : Good q (State.repairClear s x1 x2 x3) := by
  unfold State.repairClear
  iterate 40 all_goals (try first
    | with_reducible assumption
    | intro _ _ _
    | with_reducible apply State.forEach_good
    | with_reducible apply State.set_good
    | with_reducible apply State.clearDram_good)

theorem State.repairVerdict_good {q : List Instr} (s : State) (x1) (x2) (h : Good q s) : Good q (State.repairVerdict s x1 x2) := by
  unfold State.repairVerdict
  iterate 40 all_goals (try first
    | with_reducible assumption
    | with_reducible apply State.setRun_good
    | with_reducible apply Good.ite
    | (extract_lets +onlyGivenNames l; clear_value l)
    | split)

theorem State.repairDrop_good {q : List Instr} (s : State) (x1) (h : Good q s) : Good q (State.repairDrop s x1) := by
  unfold State.repairDrop
  iterate 40 all_goals (try first
    | with_reducible assumption
    | intro _ _ _
    | with_reducible apply State.forEach_good
    | with_reducible apply State.setApg_good)

theorem State.repairHand_good {q : List Instr} (s : State) (x1) (x2) (h : Good q s) : Good q (State.repairHand s x1 x2) := by
  unfold State.repairHand
  iterate 40 all_goals (try first
    | with_reducible assumption
    | (extract_lets +onlyGivenNames l; refine Good.cut (q := q) l ?_ (fun g => ?_); rotate_left; clear_value l; rotate_left; subst l)
    | with_reducible apply State.ctxTouch_good
    | with_reducible apply State.set_good
    | with_reducible apply State.repairVerdict_good
    | with_reducible apply Good.ite
    | with_reducible apply Good.mk_of)

theorem execRepairRequestDone_good {q : List Instr} (x0) (s : State) (h : Good q s) : GoodO q (execRepairRequestDone x0 s) := by
  unfold execRepairRequestDone
  iterate 40 all_goals (try first
    | with_reducible assumption
    | (extract_lets +onlyGivenNames l; refine Good.cut (q := q) l ?_ (fun g => ?_); rotate_left; clear_value l; rotate_left; subst l)
    | with_reducible apply State.repairWrite_good
    | with_reducible apply State.repairClear_good
    | with_reducible apply State.bump_good
    | with_reducible apply State.set_good
    | with_reducible apply State.setApg_good
    | with_reducible apply State.repairHand_good
    | with_reducible apply GoodO.next
    | with_reducible apply Good.ite
    | (extract_lets +onlyGivenNames l; clear_value l)
    | split)

end Sys2Proof.Machine
end

