-- ==== Sys2Proof/Laws/KeepCapture.lean ====
section
/-! SUPPORT. Every operation of Machine/Capture.lean keeps the stores canonical and leaves the queue alone. -/

namespace Sys2Proof.Machine

theorem State.setSeq_good {q : List Instr} (s : State) (x1) (x2) (h : Good q s) : Good q (State.setSeq s x1 x2) := by
  unfold State.setSeq
  iterate 40 all_goals (try first
    | with_reducible assumption
    | with_reducible apply Good.mk_of)

theorem State.setCap_good {q : List Instr} (s : State) (x1) (x2) (h : Good q s) : Good q (State.setCap s x1 x2) := by
  unfold State.setCap
  iterate 40 all_goals (try first
    | with_reducible assumption
    | with_reducible apply Good.mk_of)

theorem State.ringRefresh_good {q : List Instr} (s : State) (x1) (h : Good q s) : Good q (State.ringRefresh s x1) := by
  unfold State.ringRefresh
  iterate 40 all_goals (try first
    | with_reducible assumption
    | with_reducible apply State.setB_good
    | with_reducible apply State.notice_good
    | with_reducible apply Good.ite)

theorem State.loseRecord_good {q : List Instr} (s : State) (x1) (h : Good q s) : Good q (State.loseRecord s x1) := by
  unfold State.loseRecord
  iterate 40 all_goals (try first
    | with_reducible assumption
    | with_reducible apply State.setCap_good
    | with_reducible apply State.raiseOnce_good
    | with_reducible apply State.wr64_good)

theorem State.loseMark_good {q : List Instr} (s : State) (x1) (h : Good q s) : Good q (State.loseMark s x1) := by
  unfold State.loseMark
  iterate 40 all_goals (try first
    | with_reducible assumption
    | (extract_lets +onlyGivenNames l; refine Good.cut (q := q) l ?_ (fun g => ?_); rotate_left; clear_value l; rotate_left; subst l)
    | with_reducible apply State.bump_good
    | with_reducible apply State.loseRecord_good
    | with_reducible apply State.raiseOnce_good)

theorem State.stage_good {q : List Instr} (s : State) (x1) (x2) (h : Good q s) : Good q (State.stage s x1 x2) := by
  unfold State.stage
  iterate 40 all_goals (try first
    | with_reducible assumption
    | with_reducible apply State.setCap_good)

theorem State.putMark_good {q : List Instr} (s : State) (x1) (x2) (x3) (x4) (x5) (h : Good q s) : Good q (State.putMark s x1 x2 x3 x4 x5) := by
  unfold State.putMark
  iterate 40 all_goals (try first
    | with_reducible assumption
    | with_reducible apply State.loseMark_good
    | with_reducible apply State.stage_good
    | with_reducible apply State.setCap_good
    | with_reducible apply Good.ite)

theorem State.lifeMark_good {q : List Instr} (s : State) (x1) (x2) (x3) (x4) (x5) (h : Good q s) : Good q (State.lifeMark s x1 x2 x3 x4 x5) := by
  unfold State.lifeMark
  iterate 40 all_goals (try first
    | with_reducible assumption
    | with_reducible apply State.putMark_good
    | with_reducible apply Good.ite)

theorem State.tickMark_good {q : List Instr} (s : State) (x1) (x2) (h : Good q s) : Good q (State.tickMark s x1 x2) := by
  unfold State.tickMark
  iterate 40 all_goals (try first
    | with_reducible assumption
    | with_reducible apply State.lifeMark_good
    | with_reducible apply State.setCap_good
    | (extract_lets +onlyGivenNames l; clear_value l)
    | split)

theorem State.settleMarks_good {q : List Instr} (s : State) (x1) (h : Good q s) : Good q (State.settleMarks s x1) := by
  unfold State.settleMarks
  iterate 40 all_goals (try first
    | with_reducible assumption
    | intro _ _ _
    | with_reducible apply State.forEach_good
    | with_reducible apply State.lifeMark_good
    | with_reducible apply State.setCap_good
    | (extract_lets +onlyGivenNames l; clear_value l)
    | split)

theorem State.lossEnd_good {q : List Instr} (s : State) (x1) (h : Good q s) : Good q (State.lossEnd s x1) := by
  unfold State.lossEnd
  iterate 40 all_goals (try first
    | with_reducible assumption
    | with_reducible apply State.tickMark_good
    | with_reducible apply State.setCap_good
    | with_reducible apply Good.ite)

theorem State.putRecord_good {q : List Instr} (s : State) (x1) (x2) (x3) (x4) (x5) (h : Good q s) : Good q (State.putRecord s x1 x2 x3 x4 x5) := by
  unfold State.putRecord
  iterate 40 all_goals (try first
    | with_reducible assumption
    | (extract_lets +onlyGivenNames l; refine Good.cut (q := q) l ?_ (fun g => ?_); rotate_left; clear_value l; rotate_left; subst l)
    | with_reducible apply State.lossEnd_good
    | with_reducible apply State.stage_good
    | with_reducible apply State.loseRecord_good
    | with_reducible apply Good.ite)

theorem State.pushTrigger_good {q : List Instr} (s : State) (x1) (x2) (x3) (x4) (h : Good q s) : Good q (State.pushTrigger s x1 x2 x3 x4) := by
  unfold State.pushTrigger
  iterate 40 all_goals (try first
    | with_reducible assumption
    | with_reducible apply State.setCap_good)

theorem State.takeTrigger_good {q : List Instr} (s : State) (x1) (x2) (h : Good q s) : Good q (State.takeTrigger s x1 x2) := by
  unfold State.takeTrigger
  iterate 40 all_goals (try first
    | with_reducible assumption
    | (extract_lets +onlyGivenNames l; refine Good.cut (q := q) l ?_ (fun g => ?_); rotate_left; clear_value l; rotate_left; subst l)
    | with_reducible apply State.wr64_good
    | with_reducible apply State.setCap_good
    | with_reducible apply State.putMark_good
    | with_reducible apply State.lossEnd_good
    | with_reducible apply Good.ite)

theorem State.freeInterval_good {q : List Instr} (s : State) (x1) (h : Good q s) : Good q (State.freeInterval s x1) := by
  unfold State.freeInterval
  iterate 40 all_goals (try first
    | with_reducible assumption
    | with_reducible apply State.setCap_good
    | (extract_lets +onlyGivenNames l; clear_value l)
    | split)

theorem State.captureStart_good {q : List Instr} (s : State) (x1) (h : Good q s) : Good q (State.captureStart s x1) := by
  unfold State.captureStart
  iterate 40 all_goals (try first
    | with_reducible assumption
    | intro _ _ _
    | (extract_lets +onlyGivenNames l; refine Good.cut (q := q) l ?_ (fun g => ?_); rotate_left; clear_value l; rotate_left; subst l)
    | with_reducible apply State.forEach_good
    | with_reducible apply State.wr_good
    | with_reducible apply State.set_good
    | with_reducible apply State.setCap_good
    | with_reducible apply Good.mk_of)

theorem State.chanRecord_good {q : List Instr} (s : State) (x1) (x2) (x3) (h : Good q s) : Good q (State.chanRecord s x1 x2 x3) := by
  unfold State.chanRecord
  iterate 40 all_goals (try first
    | with_reducible assumption
    | with_reducible apply State.setCap_good
    | with_reducible apply State.putRecord_good
    | with_reducible apply Good.ite)

theorem State.valueRecord_good {q : List Instr} (s : State) (x1) (x2) (x3) (x4) (h : Good q s) : Good q (State.valueRecord s x1 x2 x3 x4) := by
  unfold State.valueRecord
  iterate 40 all_goals (try first
    | with_reducible assumption
    | with_reducible apply State.setCap_good
    | with_reducible apply State.putRecord_good
    | with_reducible apply Good.ite)

theorem State.lateFails_good {q : List Instr} (s : State) (x1) (x2) (x3) (x4) (x5) (h : Good q s) : Good q (State.lateFails s x1 x2 x3 x4 x5) := by
  unfold State.lateFails
  iterate 40 all_goals (try first
    | with_reducible assumption
    | (extract_lets +onlyGivenNames l; refine Good.cut (q := q) l ?_ (fun g => ?_); rotate_left; clear_value l; rotate_left; subst l)
    | with_reducible apply State.bumpBy_good
    | with_reducible apply State.set_good
    | with_reducible apply State.wr64_good
    | with_reducible apply State.ctxTouch_good
    | with_reducible apply Good.ite)

theorem State.siteBeat_good {q : List Instr} (s : State) (x1) (x2) (x3) (h : Good q s) : Good q (State.siteBeat s x1 x2 x3) := by
  unfold State.siteBeat
  iterate 40 all_goals (try first
    | with_reducible assumption
    | (extract_lets +onlyGivenNames l; refine Good.cut (q := q) l ?_ (fun g => ?_); rotate_left; clear_value l; rotate_left; subst l)
    | with_reducible apply State.setCap_good
    | with_reducible apply State.set_good
    | with_reducible apply State.putRecord_good
    | with_reducible apply State.lateFails_good
    | with_reducible apply State.bumpBy_good
    | with_reducible apply State.wr64_good
    | with_reducible apply State.bitmapLog_good
    | with_reducible apply Good.ite
    | (extract_lets +onlyGivenNames l; clear_value l)
    | split)

theorem execCaptureResult_good {q : List Instr} (x0) (x1) (s : State) (h : Good q s) : GoodO q (execCaptureResult x0 x1 s) := by
  unfold execCaptureResult
  iterate 40 all_goals (try first
    | with_reducible assumption
    | intro _ _ _
    | (extract_lets +onlyGivenNames l; refine Good.cut (q := q) l ?_ (fun g => ?_); rotate_left; clear_value l; rotate_left; subst l)
    | with_reducible apply State.forEach_good
    | with_reducible apply State.valueRecord_good
    | with_reducible apply State.chanRecord_good
    | with_reducible apply State.siteBeat_good
    | with_reducible apply State.setCap_good
    | with_reducible apply State.setSeq_good
    | with_reducible apply GoodO.next
    | with_reducible apply Good.ite
    | split)

theorem State.ringPut_good {q : List Instr} (s : State) (x1) (x2) (h : Good q s) : Good q (State.ringPut s x1 x2) := by
  unfold State.ringPut
  iterate 40 all_goals (try first
    | with_reducible assumption
    | (extract_lets +onlyGivenNames l; refine Good.cut (q := q) l ?_ (fun g => ?_); rotate_left; clear_value l; rotate_left; subst l)
    | with_reducible apply State.putDramList_good
    | with_reducible apply State.wr64_good
    | with_reducible apply State.set_good
    | with_reducible apply Good.ite
    | (extract_lets +onlyGivenNames l; clear_value l)
    | split)

theorem execCaptureBurstWrite_good {q : List Instr} (x0) (s : State) (h : Good q s) : GoodO q (execCaptureBurstWrite x0 s) := by
  unfold execCaptureBurstWrite
  iterate 40 all_goals (try first
    | with_reducible assumption
    | intro _ _ _
    | (extract_lets +onlyGivenNames l; refine Good.cut (q := q) l ?_ (fun g => ?_); rotate_left; clear_value l; rotate_left; subst l)
    | with_reducible apply State.forEach_good
    | with_reducible apply State.ringPut_good
    | with_reducible apply State.setCap_good
    | with_reducible apply State.ringRefresh_good
    | with_reducible apply State.lossEnd_good
    | with_reducible apply State.freeInterval_good
    | with_reducible apply GoodO.next
    | with_reducible apply Good.ite
    | split)

theorem execTriggerArrival_good {q : List Instr} (x0) (x1) (s : State) (h : Good q s) : GoodO q (execTriggerArrival x0 x1 s) := by
  unfold execTriggerArrival
  iterate 40 all_goals (try first
    | with_reducible assumption
    | (extract_lets +onlyGivenNames l; refine Good.cut (q := q) l ?_ (fun g => ?_); rotate_left; clear_value l; rotate_left; subst l)
    | with_reducible apply State.setCap_good
    | with_reducible apply State.takeTrigger_good
    | with_reducible apply GoodO.next
    | with_reducible apply Good.ite
    | (extract_lets +onlyGivenNames l; clear_value l)
    | split)

theorem execDeadIntervalEnd_good {q : List Instr} (x0) (s : State) (h : Good q s) : GoodO q (execDeadIntervalEnd x0 s) := by
  unfold execDeadIntervalEnd
  iterate 40 all_goals (try first
    | with_reducible assumption
    | with_reducible apply State.setCap_good
    | with_reducible apply State.freeInterval_good
    | with_reducible apply GoodO.next
    | with_reducible apply Good.ite
    | (extract_lets +onlyGivenNames l; clear_value l)
    | split)

theorem writeCapTrig_good {q : List Instr} (x0) (x1) (s : State) (h : Good q s) : GoodR q (writeCapTrig x0 x1 s) := by
  unfold writeCapTrig
  iterate 40 all_goals (try first
    | with_reducible assumption
    | with_reducible apply State.pushTrigger_good
    | with_reducible apply GoodR.ok)

theorem execCapTrig_good {q : List Instr} (x0) (x1) (x2) (s : State) (h : Good q s) : GoodO q (execCapTrig x0 x1 x2 s) := by
  unfold execCapTrig
  iterate 40 all_goals (try first
    | with_reducible assumption
    | intro _ _
    | with_reducible apply State.respond_good
    | with_reducible apply State.guarded_good
    | with_reducible apply writeCapTrig_good
    | with_reducible apply GoodO.next)

theorem execKeepaliveMark_good {q : List Instr} (x0) (s : State) (h : Good q s) : GoodO q (execKeepaliveMark x0 s) := by
  unfold execKeepaliveMark
  iterate 40 all_goals (try first
    | with_reducible assumption
    | with_reducible apply State.tickMark_good
    | with_reducible apply GoodO.next
    | with_reducible apply Good.ite)

theorem State.streamForget_good {q : List Instr} (s : State) (x1) (h : Good q s) : Good q (State.streamForget s x1) := by
  unfold State.streamForget
  iterate 40 all_goals (try first
    | with_reducible assumption
    | with_reducible apply Good.mk_of)

theorem writeRingEn_good {q : List Instr} (x0) (x1) (s : State) (h : Good q s) : GoodR q (writeRingEn x0 x1 s) := by
  unfold writeRingEn
  iterate 40 all_goals (try first
    | with_reducible assumption
    | with_reducible apply State.store_good
    | with_reducible apply State.streamForget_good
    | with_reducible apply State.wr64_good
    | with_reducible apply State.ringRefresh_good
    | with_reducible apply State.lossEnd_good
    | with_reducible exact GoodR.error
    | with_reducible apply GoodR.ok
    | with_reducible apply Good.ite
    | with_reducible apply GoodR.ite)

theorem execRingEn_good {q : List Instr} (x0) (x1) (x2) (s : State) (h : Good q s) : GoodO q (execRingEn x0 x1 x2 s) := by
  unfold execRingEn
  iterate 40 all_goals (try first
    | with_reducible assumption
    | intro _ _
    | with_reducible apply State.respond_good
    | with_reducible apply State.guarded_good
    | with_reducible apply writeRingEn_good
    | with_reducible apply GoodO.next)

theorem writeCapRdHi_good {q : List Instr} (x0) (x1) (s : State) (h : Good q s) : GoodR q (writeCapRdHi x0 x1 s) := by
  unfold writeCapRdHi
  iterate 40 all_goals (try first
    | with_reducible assumption
    | with_reducible apply State.ringRefresh_good
    | with_reducible apply State.wr64_good
    | with_reducible exact GoodR.error
    | with_reducible apply GoodR.ok
    | with_reducible apply GoodR.ite)

theorem execCapRdHi_good {q : List Instr} (x0) (x1) (x2) (s : State) (h : Good q s) : GoodO q (execCapRdHi x0 x1 x2 s) := by
  unfold execCapRdHi
  iterate 40 all_goals (try first
    | with_reducible assumption
    | intro _ _
    | with_reducible apply State.respond_good
    | with_reducible apply State.guarded_good
    | with_reducible apply writeCapRdHi_good
    | with_reducible apply GoodO.next)

theorem writeCapPlain_good {q : List Instr} (x0) (x1) (x2) (s : State) (h : Good q s) : GoodR q (writeCapPlain x0 x1 x2 s) := by
  unfold writeCapPlain
  iterate 40 all_goals (try first
    | with_reducible assumption
    | with_reducible apply State.setCap_good
    | with_reducible apply State.ringRefresh_good
    | with_reducible apply State.store_good
    | with_reducible exact GoodR.error
    | with_reducible apply GoodR.ok
    | with_reducible apply GoodR.ite)

end Sys2Proof.Machine
end

