-- ==== Sys2Proof/Laws/KeepCalBeat.lean ====
section
/-! SUPPORT. Every operation of Machine/CalBeat.lean keeps the stores canonical and leaves the queue alone. -/

namespace Sys2Proof.Machine

theorem State.setPass_good {q : List Instr} (s : State) (x1) (x2) (h : Good q s) : Good q (State.setPass s x1 x2) := by
  unfold State.setPass
  iterate 40 all_goals (try first
    | with_reducible assumption
    | with_reducible apply Good.mk_of)

theorem State.calRefresh_good {q : List Instr} (s : State) (h : Good q s) : Good q (State.calRefresh s) := by
  unfold State.calRefresh
  iterate 40 all_goals (try first
    | with_reducible assumption
    | intro _ _ _
    | with_reducible apply State.forEach_good
    | with_reducible apply State.setB_good
    | with_reducible apply State.set_good)

theorem State.calEndSettle_good {q : List Instr} (s : State) (h : Good q s) : Good q (State.calEndSettle s) := by
  unfold State.calEndSettle
  iterate 40 all_goals (try first
    | with_reducible assumption
    | intro _ _ _
    | with_reducible apply State.forEach_good
    | with_reducible apply State.finish_good
    | with_reducible apply Good.ite
    | with_reducible apply Good.mk_of)

theorem State.linSettle_good {q : List Instr} (s : State) (h : Good q s) : Good q (State.linSettle s) := by
  unfold State.linSettle
  iterate 40 all_goals (try first
    | with_reducible assumption
    | with_reducible apply State.calEndSettle_good
    | with_reducible apply State.calRefresh_good
    | with_reducible apply Good.mk_of)

theorem State.linBegin_good {q : List Instr} (s : State) (x1) (h : Good q s) : Good q (State.linBegin s x1) := by
  unfold State.linBegin
  iterate 40 all_goals (try first
    | with_reducible assumption
    | with_reducible apply State.drawBool_good
    | with_reducible apply State.calRefresh_good
    | with_reducible apply Good.ite
    | with_reducible apply Good.mk_of)

theorem State.linEnd_good {q : List Instr} (s : State) (x1) (h : Good q s) : Good q (State.linEnd s x1) := by
  unfold State.linEnd
  iterate 40 all_goals (try first
    | with_reducible assumption
    | with_reducible apply State.linSettle_good
    | with_reducible apply Good.ite
    | with_reducible apply Good.mk_of)

theorem State.calBeat_good {q : List Instr} (s : State) (x1) (x2) (h : Good q s) : Good q (State.calBeat s x1 x2) := by
  unfold State.calBeat
  iterate 40 all_goals (try first
    | with_reducible assumption
    | with_reducible apply State.linBegin_good
    | with_reducible apply State.linEnd_good
    | with_reducible apply Good.ite)

end Sys2Proof.Machine
end

