-- ==== Sys2Proof/Laws/KeepSeq.lean ====
section
/-! SUPPORT. Every operation of Machine/Seq.lean keeps the stores canonical and leaves the queue alone. -/

namespace Sys2Proof.Machine

theorem State.copyRange_good {q : List Instr} (s : State) (a b n : Nat) (h : Good q s) :
    Good q (State.copyRange s a b n) := by
  unfold State.copyRange
  exact State.forEach_good _ _ _ ⟨h.1, Tab.filter_wf _ _ _ h.2.1, h.2.2, h.2.3⟩ (fun _ _ hu => State.wr_good _ _ _ hu)

theorem State.trimRefresh_good {q : List Instr} (s : State) (x1) (h : Good q s) : Good q (State.trimRefresh s x1) := by
  unfold State.trimRefresh
  iterate 40 all_goals (try first
    | with_reducible assumption
    | with_reducible apply State.setB_good)

theorem State.vernierStep_good {q : List Instr} (s : State) (x1) (h : Good q s) : Good q (State.vernierStep s x1) := by
  unfold State.vernierStep
  iterate 40 all_goals (try first
    | with_reducible assumption
    | with_reducible apply Good.mk_of)

theorem State.trimOnce_good {q : List Instr} (s : State) (x1) (h : Good q s) : Good q (State.trimOnce s x1) := by
  unfold State.trimOnce
  iterate 40 all_goals (try first
    | with_reducible assumption
    | intro _ _ _
    | with_reducible apply State.trimRefresh_good
    | with_reducible apply State.forEach_good
    | with_reducible apply State.set_good
    | with_reducible apply State.vernierStep_good)

theorem State.trimAll_good {q : List Instr} (s : State) (x1) (h : Good q s) : Good q (State.trimAll s x1) := by
  unfold State.trimAll
  iterate 40 all_goals (try first
    | with_reducible assumption
    | intro _ _ _
    | with_reducible apply State.trimRefresh_good
    | with_reducible apply State.forEach_good
    | with_reducible apply State.set_good)

theorem State.trimDue_good {q : List Instr} (s : State) (x1) (h : Good q s) : Good q (State.trimDue s x1) := by
  unfold State.trimDue
  iterate 40 all_goals (try first
    | with_reducible assumption
    | with_reducible apply State.setSeq_good
    | with_reducible apply State.trimOnce_good
    | with_reducible apply Good.ite)

theorem State.swapDone_good {q : List Instr} (s : State) (x1) (h : Good q s) : Good q (State.swapDone s x1) := by
  unfold State.swapDone
  iterate 40 all_goals (try first
    | with_reducible assumption
    | intro _ _ _
    | with_reducible apply State.forEach_good
    | with_reducible apply State.finish_good
    | with_reducible apply Good.mk_of)

theorem State.swapNow_good {q : List Instr} (s : State) (x1) (h : Good q s) : Good q (State.swapNow s x1) := by
  unfold State.swapNow
  iterate 40 all_goals (try first
    | with_reducible assumption
    | (extract_lets +onlyGivenNames l; refine Good.cut (q := q) l ?_ (fun g => ?_); rotate_left; clear_value l; rotate_left; subst l)
    | with_reducible apply State.copyRange_good
    | with_reducible apply State.swapDone_good
    | with_reducible apply Good.mk_of)

theorem State.swapDue_good {q : List Instr} (s : State) (x1) (h : Good q s) : Good q (State.swapDue s x1) := by
  unfold State.swapDue
  iterate 40 all_goals (try first
    | with_reducible assumption
    | with_reducible apply State.swapNow_good
    | with_reducible apply Good.ite)

theorem State.pauseSettle_good {q : List Instr} (s : State) (x1) (x2) (h : Good q s) : Good q (State.pauseSettle s x1 x2) := by
  unfold State.pauseSettle
  iterate 40 all_goals (try first
    | with_reducible assumption
    | intro _ _ _
    | with_reducible apply State.forEach_good
    | with_reducible apply State.finish_good
    | with_reducible apply Good.mk_of)

theorem State.pauseFail_good {q : List Instr} (s : State) (x1) (h : Good q s) : Good q (State.pauseFail s x1) := by
  unfold State.pauseFail
  iterate 40 all_goals (try first
    | with_reducible assumption
    | intro _ _ _
    | with_reducible apply State.forEach_good
    | with_reducible apply State.finish_good
    | with_reducible apply Good.mk_of)

theorem State.jumpSettle_good {q : List Instr} (s : State) (x1) (x2) (x3) (x4) (h : Good q s) : Good q (State.jumpSettle s x1 x2 x3 x4) := by
  unfold State.jumpSettle
  iterate 40 all_goals (try first
    | with_reducible assumption
    | intro _ _ _
    | with_reducible apply State.forEach_good
    | with_reducible apply State.finish_good
    | split
    | with_reducible apply Good.mk_of)

theorem State.putSeq_good {q : List Instr} (s : State) (x1) (x2) (h : Good q s) : Good q (State.putSeq s x1 x2) := by
  unfold State.putSeq
  iterate 40 all_goals (try first
    | with_reducible assumption
    | with_reducible apply State.set_good
    | with_reducible apply State.setSeq_good)

theorem State.fetchRecord_good {q : List Instr} (s : State) (x1) (h : Good q s) : Good q (State.fetchRecord s x1) := by
  unfold State.fetchRecord
  iterate 40 all_goals (try first
    | with_reducible assumption
    | with_reducible apply State.putSeq_good
    | (extract_lets +onlyGivenNames l; clear_value l)
    | split)

theorem State.fetchRange_good {q : List Instr} (s : State) (x1) (x2) (x3) (x4) (h : Good q s) : Good q (State.fetchRange s x1 x2 x3 x4) := by
  induction x4 generalizing s x1 x2 x3 with
  | zero =>
    unfold State.fetchRange
    iterate 40 all_goals (try first
      | with_reducible assumption)
  | succ n ih =>
    unfold State.fetchRange
    iterate 40 all_goals (try first
      | with_reducible assumption
      | with_reducible apply ih
      | with_reducible apply State.fetchRecord_good
      | with_reducible apply Good.ite
      | split)

theorem State.groupLeave_good {q : List Instr} (s : State) (x1) (h : Good q s) : Good q (State.groupLeave s x1) := by
  unfold State.groupLeave
  iterate 40 all_goals (try first
    | with_reducible assumption
    | intro _ _ _
    | with_reducible apply State.forEach_good
    | with_reducible apply State.answer_good
    | with_reducible apply Good.mk_of)

theorem State.groupEnd_good {q : List Instr} (s : State) (x1) (x2) (x3) (x4) (h : Good q s) : Good q (State.groupEnd s x1 x2 x3 x4) := by
  unfold State.groupEnd
  iterate 40 all_goals (try first
    | with_reducible assumption
    | (extract_lets +onlyGivenNames l; refine Good.cut (q := q) l ?_ (fun g => ?_); rotate_left; clear_value l; rotate_left; subst l)
    | with_reducible apply State.untest_good
    | split
    | with_reducible apply Good.mk_of)

theorem State.endPack_good {q : List Instr} (s : State) (x1) (x2) (h : Good q s) : Good q (State.endPack s x1 x2) := by
  unfold State.endPack
  iterate 40 all_goals (try first
    | with_reducible assumption
    | intro _ _ _
    | with_reducible apply State.lifeMark_good
    | with_reducible apply State.set_good
    | with_reducible apply State.putSeq_good
    | with_reducible apply State.forEach_good
    | with_reducible apply State.jumpSettle_good
    | with_reducible apply State.linEnd_good
    | with_reducible apply State.swapDue_good
    | with_reducible apply State.pauseSettle_good
    | with_reducible apply State.pauseFail_good
    | with_reducible apply State.groupLeave_good
    | with_reducible apply State.settleMarks_good
    | with_reducible apply Good.ite)

theorem State.abortPack_good {q : List Instr} (s : State) (x1) (x2) (x3) (x4) (h : Good q s) : Good q (State.abortPack s x1 x2 x3 x4) := by
  unfold State.abortPack
  iterate 40 all_goals (try first
    | with_reducible assumption
    | with_reducible apply State.endPack_good
    | with_reducible apply State.groupEnd_good
    | with_reducible apply Good.ite)

theorem State.underrun_good {q : List Instr} (s : State) (x1) (h : Good q s) : Good q (State.underrun s x1) := by
  unfold State.underrun
  iterate 40 all_goals (try first
    | with_reducible assumption
    | (extract_lets +onlyGivenNames l; refine Good.cut (q := q) l ?_ (fun g => ?_); rotate_left; clear_value l; rotate_left; subst l)
    | with_reducible apply State.raiseOnce_good
    | with_reducible apply State.abortPack_good)

theorem State.storeError_good {q : List Instr} (s : State) (x1) (x2) (x3) (h : Good q s) : Good q (State.storeError s x1 x2 x3) := by
  unfold State.storeError
  iterate 40 all_goals (try first
    | with_reducible assumption
    | with_reducible apply State.raiseOnce_good)

theorem State.jumpRegs_good {q : List Instr} (s : State) (x1) (h : Good q s) : Good q (State.jumpRegs s x1) := by
  unfold State.jumpRegs
  iterate 40 all_goals (try first
    | with_reducible assumption
    | (extract_lets +onlyGivenNames l; refine Good.cut (q := q) l ?_ (fun g => ?_); rotate_left; clear_value l; rotate_left; subst l)
    | with_reducible apply State.setB_good
    | with_reducible apply State.set_good
    | (extract_lets +onlyGivenNames l; clear_value l)
    | split)

theorem State.decidePoint_good {q : List Instr} (s : State) (x1) (h : Good q s) : Good q (State.decidePoint s x1) := by
  unfold State.decidePoint
  iterate 40 all_goals (try first
    | with_reducible assumption
    | (extract_lets +onlyGivenNames l; refine Good.cut (q := q) l ?_ (fun g => ?_); rotate_left; clear_value l; rotate_left; subst l)
    | with_reducible apply State.set_good
    | with_reducible apply State.jumpRegs_good
    | with_reducible apply State.setB_good
    | with_reducible apply State.putSeq_good
    | with_reducible apply Good.ite
    | split)

theorem State.beginPass_good {q : List Instr} (s : State) (x1) (x2) (x3) (h : Good q s) : Good q (State.beginPass s x1 x2 x3) := by
  unfold State.beginPass
  iterate 40 all_goals (try first
    | with_reducible assumption
    | (extract_lets +onlyGivenNames l; refine Good.cut (q := q) l ?_ (fun g => ?_); rotate_left; clear_value l; rotate_left; subst l)
    | with_reducible apply State.putSeq_good
    | with_reducible apply State.jumpRegs_good
    | with_reducible apply State.set_good
    | with_reducible apply State.jumpSettle_good
    | (extract_lets +onlyGivenNames l; clear_value l)
    | split)

theorem State.passCheck_good {q : List Instr} (s : State) (x1) (h : Good q s) : Good q (State.passCheck s x1) := by
  unfold State.passCheck
  iterate 40 all_goals (try first
    | with_reducible assumption
    | with_reducible apply State.endPack_good
    | with_reducible apply State.beginPass_good
    | with_reducible apply Good.ite
    | split)

theorem State.ownEdge_good {q : List Instr} (s : State) (x1) (x2) (h : Good q s) : Good q (State.ownEdge s x1 x2) := by
  unfold State.ownEdge
  iterate 40 all_goals (try first
    | with_reducible assumption
    | with_reducible apply Good.ite
    | with_reducible apply Good.mk_of)

theorem State.emit_good {q : List Instr} (s : State) (x1) (x2) (x3) (x4) (x5) (x6) (x7) (h : Good q s) : Good q (State.emit s x1 x2 x3 x4 x5 x6 x7) := by
  unfold State.emit
  iterate 40 all_goals (try first
    | with_reducible assumption
    | intro _ _ _
    | (extract_lets +onlyGivenNames l; refine Good.cut (q := q) l ?_ (fun g => ?_); rotate_left; clear_value l; rotate_left; subst l)
    | with_reducible apply State.trimDue_good
    | with_reducible apply State.swapDue_good
    | with_reducible apply State.setSeq_good
    | with_reducible apply State.set_good
    | with_reducible apply State.wr64_good
    | with_reducible apply State.forEach_good
    | with_reducible apply State.ownEdge_good
    | with_reducible apply State.settleMarks_good
    | with_reducible apply State.pauseSettle_good
    | with_reducible apply Good.ite
    | with_reducible apply Good.mk_of)

theorem State.patternBeat_good {q : List Instr} (s : State) (x1) (x2) (h : Good q s) : GoodP q (State.patternBeat s x1 x2) := by
  unfold State.patternBeat
  iterate 40 all_goals (try first
    | with_reducible assumption
    | (extract_lets +onlyGivenNames l; refine Good.cut (q := q) l ?_ (fun g => ?_); rotate_left; clear_value l; rotate_left; subst l)
    | with_reducible apply State.decidePoint_good
    | with_reducible apply State.putSeq_good
    | with_reducible apply State.lifeMark_good
    | with_reducible apply State.set_good
    | with_reducible apply State.pushTrigger_good
    | with_reducible apply State.emit_good
    | with_reducible apply State.calBeat_good
    | with_reducible apply State.setB_good
    | with_reducible apply State.apgStep_good
    | with_reducible exact GoodP.none
    | with_reducible apply GoodP.some
    | with_reducible apply Good.ite
    | (extract_lets +onlyGivenNames l; clear_value l)
    | split)

theorem State.feCheck_good {q : List Instr} (s : State) (x1) (h : Good q s) : Good q (State.feCheck s x1) := by
  unfold State.feCheck
  iterate 40 all_goals (try first
    | with_reducible assumption
    | with_reducible apply State.raiseOnce_good)

theorem State.seqCheck_good {q : List Instr} (s : State) (x1) (x2) (x3) (h : Good q s) : Good q (State.seqCheck s x1 x2 x3).1 := by
  unfold State.seqCheck
  iterate 40 all_goals (try first
    | with_reducible assumption
    | intro _
    | (extract_lets +onlyGivenNames l; refine Good.cutH (q := q) l ?_ (fun gh => ?_); rotate_left; clear_value l; rotate_left; subst l)
    | with_reducible apply State.setSeq_good
    | with_reducible apply State.bump_good
    | with_reducible apply State.abortPack_good
    | with_reducible apply State.storeError_good
    | with_reducible apply State.feCheck_good
    | with_reducible apply gh
    | (extract_lets +onlyGivenNames l; clear_value l)
    | split)

theorem State.runWord_good {q : List Instr} (s : State) (x1) (x2) (x3) (f4 : Nat → State → State) (h : Good q s) (hf4 : ∀ a t, Good q t → Good q (f4 a t)) : Good q (State.runWord s x1 x2 x3 f4) := by
  unfold State.runWord
  iterate 40 all_goals (try first
    | with_reducible assumption
    | with_reducible apply State.seqCheck_good
    | with_reducible apply hf4
    | with_reducible apply Good.ite
    | split)

theorem State.beatThen_good {q : List Instr} (s : State) (x1) (x2) (f3 : State → State) (h : Good q s) (hf3 : ∀ t, Good q t → Good q (f3 t)) : Good q (State.beatThen s x1 x2 f3) := by
  unfold State.beatThen
  iterate 40 all_goals (try first
    | with_reducible assumption
    | with_reducible apply State.patternBeat_good
    | with_reducible apply State.underrun_good
    | with_reducible apply State.passCheck_good
    | with_reducible apply hf3
    | split
    | (with_reducible refine Good.of_some (by assumption) ?_))

theorem State.goTo_good {q : List Instr} (s : State) (x1) (x2) (h : Good q s) : Good q (State.goTo s x1 x2) := by
  unfold State.goTo
  iterate 40 all_goals (try first
    | with_reducible assumption
    | with_reducible apply State.setSeq_good)

theorem State.goOn_good {q : List Instr} (s : State) (x1) (h : Good q s) : Good q (State.goOn s x1) := by
  unfold State.goOn
  iterate 40 all_goals (try first
    | with_reducible assumption
    | with_reducible apply State.goTo_good)

theorem State.whSend_good {q : List Instr} (s : State) (x1) (x2) (h : Good q s) : Good q (State.whSend s x1 x2) := by
  unfold State.whSend
  iterate 40 all_goals (try first
    | with_reducible assumption
    | with_reducible apply Good.mk_of)

theorem State.whEmitReq_good {q : List Instr} (s : State) (x1) (x2) (h : Good q s) : Good q (State.whEmitReq s x1 x2) := by
  unfold State.whEmitReq
  iterate 40 all_goals (try first
    | with_reducible assumption
    | with_reducible apply State.drawWord_good
    | with_reducible apply State.whSend_good
    | with_reducible apply State.bump_good
    | with_reducible apply Good.ite
    | split
    | with_reducible apply Good.mk_of)

theorem execSeqNop_good {q : List Instr} (x0) (x1) (s : State) (h : Good q s) : GoodO q (execSeqNop x0 x1 s) := by
  unfold execSeqNop
  iterate 40 all_goals (try first
    | with_reducible assumption
    | intro _ _ _
    | intro _ _
    | with_reducible apply State.runWord_good
    | with_reducible apply State.beatThen_good
    | with_reducible apply State.goOn_good
    | with_reducible apply GoodO.next)

theorem State.rptBeats_good {q : List Instr} (x0) (x1) (x2) (s : State) (h : Good q s) : Good q (State.rptBeats x0 x1 x2 s) := by
  induction x2 generalizing x0 x1 s with
  | zero =>
    unfold State.rptBeats
    iterate 40 all_goals (try first
      | with_reducible assumption)
  | succ n ih =>
    unfold State.rptBeats
    iterate 40 all_goals (try first
      | with_reducible assumption
      | with_reducible apply ih
      | with_reducible apply State.underrun_good
      | with_reducible apply State.passCheck_good
      | with_reducible apply State.setSeq_good
      | with_reducible apply State.goOn_good
      | with_reducible apply State.patternBeat_good
      | with_reducible apply Good.ite
      | split
      | (with_reducible refine Good.of_some (by assumption) ?_))

theorem execRpt_good {q : List Instr} (x0) (x1) (x2) (s : State) (h : Good q s) : GoodO q (execRpt x0 x1 x2 s) := by
  unfold execRpt
  iterate 40 all_goals (try first
    | with_reducible assumption
    | intro _ _ _
    | with_reducible apply State.runWord_good
    | with_reducible apply State.goOn_good
    | with_reducible apply State.rptBeats_good
    | with_reducible apply GoodO.next
    | with_reducible apply Good.ite)

theorem execLpb_good {q : List Instr} (x0) (x1) (s : State) (h : Good q s) : GoodO q (execLpb x0 x1 s) := by
  unfold execLpb
  iterate 40 all_goals (try first
    | with_reducible assumption
    | intro _ _ _
    | intro _ _
    | with_reducible apply State.runWord_good
    | with_reducible apply State.beatThen_good
    | with_reducible apply State.goOn_good
    | with_reducible apply State.goTo_good
    | with_reducible apply State.setSeq_good
    | with_reducible apply GoodO.next
    | with_reducible apply Good.ite)

theorem execLpe_good {q : List Instr} (x0) (x1) (s : State) (h : Good q s) : GoodO q (execLpe x0 x1 s) := by
  unfold execLpe
  iterate 40 all_goals (try first
    | with_reducible assumption
    | intro _ _ _
    | intro _ _
    | with_reducible apply State.runWord_good
    | with_reducible apply State.beatThen_good
    | with_reducible apply State.setSeq_good
    | with_reducible apply State.goOn_good
    | with_reducible apply GoodO.next
    | with_reducible apply Good.ite)

theorem execSeqCall_good {q : List Instr} (x0) (x1) (s : State) (h : Good q s) : GoodO q (execSeqCall x0 x1 s) := by
  unfold execSeqCall
  iterate 40 all_goals (try first
    | with_reducible assumption
    | intro _ _ _
    | intro _ _
    | with_reducible apply State.runWord_good
    | with_reducible apply State.beatThen_good
    | with_reducible apply State.goTo_good
    | with_reducible apply State.setSeq_good
    | with_reducible apply GoodO.next)

theorem execSeqRet_good {q : List Instr} (x0) (x1) (s : State) (h : Good q s) : GoodO q (execSeqRet x0 x1 s) := by
  unfold execSeqRet
  iterate 40 all_goals (try first
    | with_reducible assumption
    | intro _ _ _
    | intro _ _
    | with_reducible apply State.runWord_good
    | with_reducible apply State.beatThen_good
    | with_reducible apply State.goOn_good
    | with_reducible apply State.goTo_good
    | with_reducible apply State.setSeq_good
    | with_reducible apply GoodO.next
    | (extract_lets +onlyGivenNames l; clear_value l)
    | split)

theorem execJmp_good {q : List Instr} (x0) (x1) (s : State) (h : Good q s) : GoodO q (execJmp x0 x1 s) := by
  unfold execJmp
  iterate 40 all_goals (try first
    | with_reducible assumption
    | intro _ _ _
    | intro _ _
    | with_reducible apply State.runWord_good
    | with_reducible apply State.beatThen_good
    | with_reducible apply State.jumpRegs_good
    | with_reducible apply State.setSeq_good
    | with_reducible apply State.goOn_good
    | with_reducible apply GoodO.next
    | with_reducible apply Good.ite)

theorem State.beginWait_good {q : List Instr} (s : State) (x1) (x2) (h : Good q s) : Good q (State.beginWait s x1 x2) := by
  unfold State.beginWait
  iterate 40 all_goals (try first
    | with_reducible assumption
    | with_reducible apply State.wr_good
    | with_reducible apply State.setSeq_good
    | (extract_lets +onlyGivenNames l; clear_value l)
    | split)

theorem execMatchWord_good {q : List Instr} (x0) (x1) (s : State) (h : Good q s) : GoodO q (execMatchWord x0 x1 s) := by
  unfold execMatchWord
  iterate 40 all_goals (try first
    | with_reducible assumption
    | intro _ _ _
    | with_reducible apply State.runWord_good
    | with_reducible apply State.patternBeat_good
    | with_reducible apply State.underrun_good
    | with_reducible apply State.beginWait_good
    | with_reducible apply GoodO.next
    | split
    | (with_reducible refine Good.of_some (by assumption) ?_))

theorem execSeqHalt_good {q : List Instr} (x0) (x1) (s : State) (h : Good q s) : GoodO q (execSeqHalt x0 x1 s) := by
  unfold execSeqHalt
  iterate 40 all_goals (try first
    | with_reducible assumption
    | intro _ _ _
    | with_reducible apply State.runWord_good
    | with_reducible apply State.patternBeat_good
    | with_reducible apply State.underrun_good
    | with_reducible apply State.endPack_good
    | with_reducible apply State.passCheck_good
    | with_reducible apply State.goOn_good
    | with_reducible apply GoodO.next
    | with_reducible apply Good.ite
    | (extract_lets +onlyGivenNames l; clear_value l)
    | split
    | (with_reducible refine Good.of_some (by assumption) ?_))

theorem execWemit_good {q : List Instr} (x0) (x1) (s : State) (h : Good q s) : GoodO q (execWemit x0 x1 s) := by
  unfold execWemit
  iterate 40 all_goals (try first
    | with_reducible assumption
    | intro _ _ _
    | intro _ _
    | with_reducible apply State.runWord_good
    | with_reducible apply State.beatThen_good
    | with_reducible apply State.goOn_good
    | with_reducible apply State.whEmitReq_good
    | with_reducible apply GoodO.next)

theorem execWwait_good {q : List Instr} (x0) (x1) (s : State) (h : Good q s) : GoodO q (execWwait x0 x1 s) := by
  unfold execWwait
  iterate 40 all_goals (try first
    | with_reducible assumption
    | intro _ _ _
    | with_reducible apply State.runWord_good
    | with_reducible apply State.patternBeat_good
    | with_reducible apply State.underrun_good
    | with_reducible apply State.beginWait_good
    | with_reducible apply GoodO.next
    | split
    | (with_reducible refine Good.of_some (by assumption) ?_))

theorem execCue_good {q : List Instr} (x0) (x1) (s : State) (h : Good q s) : GoodO q (execCue x0 x1 s) := by
  unfold execCue
  iterate 40 all_goals (try first
    | with_reducible assumption
    | intro _ _ _
    | intro _ _
    | (extract_lets +onlyGivenNames l; refine Good.cut (q := q) l ?_ (fun g => ?_); rotate_left; clear_value l; rotate_left; subst l)
    | with_reducible apply State.runWord_good
    | with_reducible apply State.beatThen_good
    | with_reducible apply State.crossOverrun_good
    | with_reducible apply State.goOn_good
    | with_reducible apply GoodO.next
    | with_reducible apply Good.ite
    | with_reducible apply Good.mk_of)

theorem execApx_good {q : List Instr} (x0) (x1) (s : State) (h : Good q s) : GoodO q (execApx x0 x1 s) := by
  unfold execApx
  iterate 40 all_goals (try first
    | with_reducible assumption
    | intro _ _ _
    | intro _ _
    | with_reducible apply State.runWord_good
    | with_reducible apply State.beatThen_good
    | with_reducible apply State.goOn_good
    | with_reducible apply GoodO.next)

theorem State.endWait_good {q : List Instr} (s : State) (x1) (x2) (h : Good q s) : Good q (State.endWait s x1 x2) := by
  unfold State.endWait
  iterate 40 all_goals (try first
    | with_reducible assumption
    | with_reducible apply State.set_good
    | with_reducible apply State.setB_good
    | with_reducible apply State.setSeq_good
    | with_reducible apply State.goOn_good
    | with_reducible apply State.pushTrigger_good)

theorem State.waitBeat_good {q : List Instr} (s : State) (x1) (x2) (x3) (h : Good q s) : Good q (State.waitBeat s x1 x2 x3) := by
  unfold State.waitBeat
  iterate 40 all_goals (try first
    | with_reducible assumption
    | with_reducible apply State.emit_good
    | with_reducible apply State.set_good
    | with_reducible apply State.bump_good
    | with_reducible apply State.setSeq_good)

theorem State.matchFails_good {q : List Instr} (s : State) (x1) (x2) (h : Good q s) : Good q (State.matchFails s x1 x2) := by
  unfold State.matchFails
  iterate 40 all_goals (try first
    | with_reducible assumption
    | with_reducible apply State.setCap_good)

theorem execWaitBeat_good {q : List Instr} (x0) (x1) (s : State) (h : Good q s) : GoodO q (execWaitBeat x0 x1 s) := by
  unfold execWaitBeat
  iterate 40 all_goals (try first
    | with_reducible assumption
    | with_reducible apply State.seqCheck_good
    | with_reducible apply State.setSeq_good
    | with_reducible apply State.passCheck_good
    | with_reducible apply State.endWait_good
    | with_reducible apply State.matchFails_good
    | with_reducible apply State.abortPack_good
    | with_reducible apply State.waitBeat_good
    | with_reducible apply GoodO.next
    | with_reducible apply Good.ite
    | split)

theorem execHoldBeat_good {q : List Instr} (x0) (x1) (s : State) (h : Good q s) : GoodO q (execHoldBeat x0 x1 s) := by
  unfold execHoldBeat
  iterate 40 all_goals (try first
    | with_reducible assumption
    | with_reducible apply State.seqCheck_good
    | with_reducible apply State.lifeMark_good
    | with_reducible apply State.bump_good
    | with_reducible apply State.set_good
    | with_reducible apply State.setSeq_good
    | with_reducible apply State.emit_good
    | with_reducible apply State.pauseSettle_good
    | with_reducible apply GoodO.next
    | with_reducible apply Good.ite)

theorem execGroupStop_good {q : List Instr} (x0) (s : State) (h : Good q s) : GoodO q (execGroupStop x0 s) := by
  unfold execGroupStop
  iterate 40 all_goals (try first
    | with_reducible assumption
    | with_reducible apply State.endPack_good
    | with_reducible apply GoodO.next
    | split)

theorem execTrimStep_good {q : List Instr} (x0) (s : State) (h : Good q s) : GoodO q (execTrimStep x0 s) := by
  unfold execTrimStep
  iterate 40 all_goals (try first
    | with_reducible assumption
    | with_reducible apply State.trimDue_good
    | with_reducible apply State.trimAll_good
    | with_reducible apply GoodO.next
    | with_reducible apply Good.ite)

theorem State.overrunEdge_good {q : List Instr} (s : State) (x1) (x2) (h : Good q s) : Good q (State.overrunEdge s x1 x2) := by
  unfold State.overrunEdge
  iterate 40 all_goals (try first
    | with_reducible assumption
    | (extract_lets +onlyGivenNames l; refine Good.cut (q := q) l ?_ (fun g => ?_); rotate_left; clear_value l; rotate_left; subst l)
    | with_reducible apply State.bump_good
    | with_reducible apply State.set_good
    | with_reducible apply State.raiseOnce_good)

theorem State.collideEdge_good {q : List Instr} (s : State) (x1) (x2) (h : Good q s) : Good q (State.collideEdge s x1 x2) := by
  unfold State.collideEdge
  iterate 40 all_goals (try first
    | with_reducible assumption
    | (extract_lets +onlyGivenNames l; refine Good.cut (q := q) l ?_ (fun g => ?_); rotate_left; clear_value l; rotate_left; subst l)
    | with_reducible apply State.bump_good
    | with_reducible apply State.set_good
    | with_reducible apply State.raiseOnce_good)

theorem State.driveEdge_good {q : List Instr} (s : State) (x1) (x2) (x3) (x4) (x5) (h : Good q s) : Good q (State.driveEdge s x1 x2 x3 x4 x5) := by
  unfold State.driveEdge
  iterate 40 all_goals (try first
    | with_reducible assumption
    | with_reducible apply State.setChan_good
    | with_reducible apply Good.ite)

theorem State.edgeOf_good {q : List Instr} (s : State) (x1) (x2) (x3) (x4) (x5) (h : Good q s) : Good q (State.edgeOf s x1 x2 x3 x4 x5) := by
  unfold State.edgeOf
  iterate 40 all_goals (try first
    | with_reducible assumption
    | with_reducible apply State.comparePad_good
    | with_reducible apply State.feCheck_good
    | with_reducible apply State.setSeq_good
    | with_reducible apply State.overrunEdge_good
    | with_reducible apply State.setChan_good
    | with_reducible apply State.collideEdge_good
    | with_reducible apply State.driveEdge_good
    | with_reducible apply Good.ite
    | split)

theorem execEdgeAct_good {q : List Instr} (x0) (x1) (x2) (x3) (x4) (s : State) (h : Good q s) : GoodO q (execEdgeAct x0 x1 x2 x3 x4 s) := by
  unfold execEdgeAct
  iterate 40 all_goals (try first
    | with_reducible assumption
    | with_reducible apply State.setSeq_good
    | with_reducible apply State.edgeOf_good
    | with_reducible apply GoodO.next
    | with_reducible apply Good.ite
    | (extract_lets +onlyGivenNames l; clear_value l)
    | split)

end Sys2Proof.Machine
end

