-- ==== Sys2Proof/Laws/KeepPattern.lean ====
section
/-! SUPPORT. Every operation of Machine/Pattern.lean keeps the stores canonical and leaves the queue alone. -/

namespace Sys2Proof.Machine

theorem State.loadPack_good {q : List Instr} (s : State) (x1) (x2) (x3) (x4) (x5) (h : Good q s) : Good q (State.loadPack s x1 x2 x3 x4 x5) := by
  unfold State.loadPack
  iterate 40 all_goals (try first
    | with_reducible assumption
    | intro _ _ _
    | with_reducible apply State.setSeq_good
    | with_reducible apply State.forEach_good
    | with_reducible apply State.wr_good
    | with_reducible apply State.set_good)

theorem execPatLoad_good {q : List Instr} (x0) (x1) (s : State) (h : Good q s) : GoodO q (execPatLoad x0 x1 s) := by
  unfold execPatLoad
  iterate 40 all_goals (try first
    | with_reducible assumption
    | intro _ _ _
    | intro _ _
    | with_reducible apply State.cmd_good
    | with_reducible apply State.done_good
    | with_reducible apply State.cmdAgain_good
    | with_reducible apply State.forEach_good
    | with_reducible apply State.loadPack_good
    | with_reducible apply GoodO.next
    | with_reducible apply Good.ite
    | split)

theorem State.startGroup_good {q : List Instr} (s : State) (x1) (x2) (x3) (x4) (h : Good q s) : Good q (State.startGroup s x1 x2 x3 x4) := by
  unfold State.startGroup
  iterate 40 all_goals (try first
    | with_reducible assumption
    | intro _ _ _
    | (extract_lets +onlyGivenNames l; refine Good.cut (q := q) l ?_ (fun g => ?_); rotate_left; clear_value l; rotate_left; subst l)
    | with_reducible apply State.forEach_good
    | with_reducible apply State.putSeq_good
    | with_reducible apply State.deferNote_good
    | with_reducible apply Good.mk_of)

theorem execPatStart_good {q : List Instr} (x0) (x1) (s : State) (h : Good q s) : GoodO q (execPatStart x0 x1 s) := by
  unfold execPatStart
  iterate 40 all_goals (try first
    | with_reducible assumption
    | intro _ _
    | with_reducible apply State.cmd_good
    | with_reducible apply State.done_good
    | with_reducible apply State.startGroup_good
    | with_reducible apply GoodO.next
    | with_reducible apply Good.ite
    | split)

theorem State.dropGroup_good {q : List Instr} (s : State) (x1) (x2) (h : Good q s) : Good q (State.dropGroup s x1 x2) := by
  unfold State.dropGroup
  iterate 40 all_goals (try first
    | with_reducible assumption
    | intro _ _ _
    | (extract_lets +onlyGivenNames l; refine Good.cut (q := q) l ?_ (fun g => ?_); rotate_left; clear_value l; rotate_left; subst l)
    | with_reducible apply State.forEach_good
    | with_reducible apply State.putSeq_good
    | with_reducible apply State.set_good
    | with_reducible apply State.answer_good
    | with_reducible apply Good.mk_of)

theorem State.primeFill_good {q : List Instr} (s : State) (x1) (x2) (h : Good q s) : Good q (State.primeFill s x1 x2) := by
  induction x2 generalizing s x1 with
  | zero =>
    unfold State.primeFill
    iterate 40 all_goals (try first
      | with_reducible assumption)
  | succ n ih =>
    unfold State.primeFill
    iterate 40 all_goals (try first
      | with_reducible assumption
      | with_reducible apply ih
      | with_reducible apply State.fetchRecord_good
      | with_reducible apply Good.ite
      | split)

theorem State.armEvent_good {q : List Instr} (s : State) (x1) (x2) (x3) (h : Good q s) : Good q (State.armEvent s x1 x2 x3) := by
  unfold State.armEvent
  iterate 40 all_goals (try first
    | with_reducible assumption
    | with_reducible apply Good.ite
    | with_reducible apply Good.mk_of)

theorem State.beginPack_good {q : List Instr} (s : State) (x1) (x2) (x3) (h : Good q s) : Good q (State.beginPack s x1 x2 x3) := by
  unfold State.beginPack
  iterate 40 all_goals (try first
    | with_reducible assumption
    | intro _ _ _
    | (extract_lets +onlyGivenNames l; refine Good.cut (q := q) l ?_ (fun g => ?_); rotate_left; clear_value l; rotate_left; subst l)
    | with_reducible apply State.swapDue_good
    | with_reducible apply State.captureStart_good
    | with_reducible apply State.trimAll_good
    | with_reducible apply State.putSeq_good
    | with_reducible apply State.forEach_good
    | with_reducible apply State.setChan_good
    | with_reducible apply State.wr_good
    | with_reducible apply State.wr64_good
    | with_reducible apply State.set_good
    | with_reducible apply State.armEvent_good
    | with_reducible apply State.lifeMark_good)

theorem execPatternBegin_good {q : List Instr} (x0) (s : State) (h : Good q s) : GoodO q (execPatternBegin x0 s) := by
  unfold execPatternBegin
  iterate 40 all_goals (try first
    | with_reducible assumption
    | intro _ _ _
    | (extract_lets +onlyGivenNames l; refine Good.cut (q := q) l ?_ (fun g => ?_); rotate_left; clear_value l; rotate_left; subst l)
    | with_reducible apply State.dropGroup_good
    | with_reducible apply State.deferNote_good
    | with_reducible apply State.forEach_good
    | with_reducible apply State.primeFill_good
    | with_reducible apply State.beginPack_good
    | with_reducible apply GoodO.next
    | with_reducible apply Good.ite
    | split
    | with_reducible apply Good.mk_of)

theorem State.setReasons_good {q : List Instr} (s : State) (x1) (x2) (h : Good q s) : Good q (State.setReasons s x1 x2) := by
  unfold State.setReasons
  iterate 40 all_goals (try first
    | with_reducible assumption
    | intro _ _ _
    | with_reducible apply State.forEach_good
    | with_reducible apply State.set_good)

theorem State.cancelStarts_good {q : List Instr} (s : State) (x1) (x2) (x3) (x4) (h : Good q s) : Good q (State.cancelStarts s x1 x2 x3 x4) := by
  unfold State.cancelStarts
  iterate 40 all_goals (try first
    | with_reducible assumption
    | intro _ _ _
    | (extract_lets +onlyGivenNames l; refine Good.cut (q := q) l ?_ (fun g => ?_); rotate_left; clear_value l; rotate_left; subst l)
    | with_reducible apply State.forEach_good
    | with_reducible apply State.untest_good
    | with_reducible apply State.setReasons_good
    | with_reducible apply State.dropGroup_good)

theorem execPatStop_good {q : List Instr} (x0) (x1) (s : State) (h : Good q s) : GoodO q (execPatStop x0 x1 s) := by
  unfold execPatStop
  iterate 40 all_goals (try first
    | with_reducible assumption
    | intro _ _ _
    | intro _ _
    | with_reducible apply State.cmd_good
    | with_reducible apply State.cancelStarts_good
    | with_reducible apply State.done_good
    | with_reducible apply State.forEach_good
    | with_reducible apply State.abortPack_good
    | with_reducible apply GoodO.next)

theorem State.requestJump_good {q : List Instr} (s : State) (x1) (x2) (x3) (h : Good q s) : Good q (State.requestJump s x1 x2 x3) := by
  unfold State.requestJump
  iterate 40 all_goals (try first
    | with_reducible assumption
    | with_reducible apply State.jumpSettle_good
    | with_reducible apply State.jumpRegs_good
    | with_reducible apply State.setSeq_good
    | (extract_lets +onlyGivenNames l; clear_value l)
    | split)

theorem execPatJump_good {q : List Instr} (x0) (x1) (s : State) (h : Good q s) : GoodO q (execPatJump x0 x1 s) := by
  unfold execPatJump
  iterate 40 all_goals (try first
    | with_reducible assumption
    | intro _ _ _
    | intro _ _
    | (extract_lets +onlyGivenNames l; refine Good.cut (q := q) l ?_ (fun g => ?_); rotate_left; clear_value l; rotate_left; subst l)
    | with_reducible apply State.cmd_good
    | with_reducible apply State.done_good
    | with_reducible apply State.forEach_good
    | with_reducible apply State.requestJump_good
    | with_reducible apply GoodO.next
    | with_reducible apply Good.ite
    | with_reducible apply Good.mk_of)

theorem execPatPause_good {q : List Instr} (x0) (x1) (s : State) (h : Good q s) : GoodO q (execPatPause x0 x1 s) := by
  unfold execPatPause
  iterate 40 all_goals (try first
    | with_reducible assumption
    | intro _ _ _
    | intro _ _
    | (extract_lets +onlyGivenNames l; refine Good.cut (q := q) l ?_ (fun g => ?_); rotate_left; clear_value l; rotate_left; subst l)
    | with_reducible apply State.cmd_good
    | with_reducible apply State.done_good
    | with_reducible apply State.forEach_good
    | with_reducible apply State.set_good
    | with_reducible apply GoodO.next
    | with_reducible apply Good.ite
    | with_reducible apply Good.mk_of)

theorem execPatResume_good {q : List Instr} (x0) (x1) (s : State) (h : Good q s) : GoodO q (execPatResume x0 x1 s) := by
  unfold execPatResume
  iterate 40 all_goals (try first
    | with_reducible assumption
    | intro _ _ _
    | intro _ _
    | (extract_lets +onlyGivenNames l; refine Good.cut (q := q) l ?_ (fun g => ?_); rotate_left; clear_value l; rotate_left; subst l)
    | with_reducible apply State.cmd_good
    | with_reducible apply State.done_good
    | with_reducible apply State.forEach_good
    | with_reducible apply State.set_good
    | with_reducible apply GoodO.next
    | with_reducible apply Good.ite
    | with_reducible apply Good.mk_of)

theorem execTsetSwap_good {q : List Instr} (x0) (x1) (s : State) (h : Good q s) : GoodO q (execTsetSwap x0 x1 s) := by
  unfold execTsetSwap
  iterate 40 all_goals (try first
    | with_reducible assumption
    | intro _ _ _
    | intro _ _
    | (extract_lets +onlyGivenNames l; refine Good.cut (q := q) l ?_ (fun g => ?_); rotate_left; clear_value l; rotate_left; subst l)
    | with_reducible apply State.cmd_good
    | with_reducible apply State.done_good
    | with_reducible apply State.forEach_good
    | with_reducible apply GoodO.next
    | with_reducible apply Good.ite
    | (extract_lets +onlyGivenNames l; clear_value l)
    | split
    | with_reducible apply Good.mk_of)

theorem execTsetSwapWrap_good {q : List Instr} (x0) (s : State) (h : Good q s) : GoodO q (execTsetSwapWrap x0 s) := by
  unfold execTsetSwapWrap
  iterate 40 all_goals (try first
    | with_reducible assumption
    | with_reducible apply State.swapDue_good
    | with_reducible apply GoodO.next)

theorem writeSeqPlain_good {q : List Instr} (x0) (x1) (x2) (s : State) (h : Good q s) : GoodR q (writeSeqPlain x0 x1 x2 s) := by
  unfold writeSeqPlain
  iterate 40 all_goals (try first
    | with_reducible assumption
    | with_reducible apply State.store_good
    | with_reducible exact GoodR.error
    | with_reducible apply GoodR.ok
    | with_reducible apply GoodR.ite)

theorem State.setTargets_good {q : List Instr} (s : State) (x1) (h : Good q s) : Good q (State.setTargets s x1) := by
  unfold State.setTargets
  iterate 40 all_goals (try first
    | with_reducible assumption
    | intro _ _ _
    | with_reducible apply State.forEach_good
    | with_reducible apply State.set_good
    | with_reducible apply State.trimRefresh_good
    | with_reducible apply State.trimAll_good
    | with_reducible apply Good.ite)

theorem writeTimPlain_good {q : List Instr} (x0) (x1) (x2) (s : State) (h : Good q s) : GoodR q (writeTimPlain x0 x1 x2 s) := by
  unfold writeTimPlain
  iterate 40 all_goals (try first
    | with_reducible assumption
    | with_reducible apply State.setTargets_good
    | with_reducible apply State.set_good
    | with_reducible apply State.store_good
    | with_reducible exact GoodR.error
    | with_reducible apply GoodR.ok
    | with_reducible apply GoodR.ite)

end Sys2Proof.Machine
end

