-- ==== Sys2Proof/Laws/KeepTmu.lean ====
section
/-! SUPPORT. Every operation of Machine/Tmu.lean keeps the stores canonical and leaves the queue alone. -/

namespace Sys2Proof.Machine

theorem State.setTmu_good {q : List Instr} (s : State) (x1) (x2) (h : Good q s) : Good q (State.setTmu s x1 x2) := by
  unfold State.setTmu
  iterate 40 all_goals (try first
    | with_reducible assumption
    | with_reducible apply Good.mk_of)

theorem State.calRange_good {q : List Instr} (s : State) (x1) (h : Good q s) : Good q (State.calRange s x1) := by
  unfold State.calRange
  iterate 40 all_goals (try first
    | with_reducible assumption
    | with_reducible apply State.raiseOnce_good)

theorem writeTmuPlain_good {q : List Instr} (x0) (x1) (x2) (s : State) (h : Good q s) : GoodR q (writeTmuPlain x0 x1 x2 s) := by
  unfold writeTmuPlain
  iterate 40 all_goals (try first
    | with_reducible assumption
    | with_reducible apply State.store_good
    | with_reducible exact GoodR.error
    | with_reducible apply GoodR.ok
    | with_reducible apply GoodR.ite)

theorem State.putStops_good {q : List Instr} (s : State) (x1) (x2) (h : Good q s) : Good q (State.putStops s x1 x2) := by
  unfold State.putStops
  iterate 40 all_goals (try first
    | with_reducible assumption
    | intro _ _ _
    | with_reducible apply State.forEach_good
    | with_reducible apply State.wr64_good)

theorem State.histBurst_good {q : List Instr} (s : State) (x1) (x2) (h : Good q s) : Good q (State.histBurst s x1 x2) := by
  unfold State.histBurst
  iterate 40 all_goals (try first
    | with_reducible assumption
    | intro _ _ _
    | with_reducible apply State.forEach_good
    | with_reducible apply State.putDramNat_good
    | with_reducible apply State.setTmu_good
    | with_reducible apply Good.ite)

theorem State.histPut_good {q : List Instr} (s : State) (x1) (x2) (h : Good q s) : Good q (State.histPut s x1 x2) := by
  unfold State.histPut
  iterate 40 all_goals (try first
    | with_reducible assumption
    | with_reducible apply State.setTmu_good
    | with_reducible apply State.histBurst_good
    | with_reducible apply Good.ite)

theorem State.histFlush_good {q : List Instr} (s : State) (x1) (h : Good q s) : Good q (State.histFlush s x1) := by
  unfold State.histFlush
  iterate 40 all_goals (try first
    | with_reducible assumption
    | with_reducible apply State.histBurst_good
    | with_reducible apply Good.ite)

theorem State.finishTmuAs_good {q : List Instr} (s : State) (x1) (x2) (x3) (h : Good q s) : Good q (State.finishTmuAs s x1 x2 x3) := by
  unfold State.finishTmuAs
  iterate 40 all_goals (try first
    | with_reducible assumption
    | (extract_lets +onlyGivenNames l; refine Good.cut (q := q) l ?_ (fun g => ?_); rotate_left; clear_value l; rotate_left; subst l)
    | with_reducible apply State.putStops_good
    | with_reducible apply State.setB_good
    | with_reducible apply State.set_good
    | with_reducible apply State.wr64_good
    | with_reducible apply State.setTmu_good
    | with_reducible apply State.histFlush_good
    | with_reducible apply State.answer_good
    | (extract_lets +onlyGivenNames l; clear_value l)
    | split)

theorem State.finishTmu_good {q : List Instr} (s : State) (x1) (x2) (h : Good q s) : Good q (State.finishTmu s x1 x2) := by
  unfold State.finishTmu
  iterate 40 all_goals (try first
    | with_reducible assumption
    | with_reducible apply State.finishTmuAs_good)

theorem State.abortTmu_good {q : List Instr} (s : State) (x1) (x2) (x3) (h : Good q s) : Good q (State.abortTmu s x1 x2 x3) := by
  unfold State.abortTmu
  iterate 40 all_goals (try first
    | with_reducible assumption
    | with_reducible apply State.finishTmuAs_good
    | with_reducible apply Good.ite)

theorem State.tmuStart_good {q : List Instr} (s : State) (x1) (x2) (h : Good q s) : Good q (State.tmuStart s x1 x2) := by
  unfold State.tmuStart
  iterate 40 all_goals (try first
    | with_reducible assumption
    | (extract_lets +onlyGivenNames l; refine Good.cut (q := q) l ?_ (fun g => ?_); rotate_left; clear_value l; rotate_left; subst l)
    | with_reducible apply State.wr_good
    | with_reducible apply State.set_good
    | with_reducible apply State.linSettle_good
    | with_reducible apply State.setTmu_good
    | with_reducible apply State.finishTmu_good
    | with_reducible apply Good.ite
    | with_reducible apply Good.mk_of)

theorem writeTmuGo_good {q : List Instr} (x0) (x1) (x2) (s : State) (h : Good q s) : GoodR q (writeTmuGo x0 x1 x2 s) := by
  unfold writeTmuGo
  iterate 40 all_goals (try first
    | with_reducible assumption
    | with_reducible apply State.tmuStart_good
    | with_reducible apply State.abortTmu_good
    | with_reducible exact GoodR.error
    | with_reducible apply GoodR.ok
    | with_reducible apply GoodR.ite
    | split)

theorem execTmuGo_good {q : List Instr} (x0) (x1) (x2) (s : State) (h : Good q s) : GoodO q (execTmuGo x0 x1 x2 s) := by
  unfold execTmuGo
  iterate 40 all_goals (try first
    | with_reducible assumption
    | intro _ _
    | with_reducible apply State.respond_good
    | with_reducible apply State.guarded_good
    | with_reducible apply writeTmuGo_good
    | with_reducible apply GoodO.next)

theorem execTmuAbortBit_good {q : List Instr} (x0) (x1) (x2) (s : State) (h : Good q s) : GoodO q (execTmuAbortBit x0 x1 x2 s) := by
  unfold execTmuAbortBit
  iterate 40 all_goals (try first
    | with_reducible assumption
    | intro _ _
    | with_reducible apply State.respond_good
    | with_reducible apply State.guarded_good
    | with_reducible apply writeTmuGo_good
    | with_reducible apply GoodO.next)

theorem State.passEdge_good {q : List Instr} (s : State) (x1) (x2) (x3) (x4) (h : Good q s) : Good q (State.passEdge s x1 x2 x3 x4) := by
  unfold State.passEdge
  iterate 40 all_goals (try first
    | with_reducible assumption
    | with_reducible apply State.setPass_good
    | with_reducible apply Good.ite
    | split)

theorem execTmuCalibration_good {q : List Instr} (x0) (x1) (x2) (s : State) (h : Good q s) : GoodO q (execTmuCalibration x0 x1 x2 s) := by
  unfold execTmuCalibration
  iterate 40 all_goals (try first
    | with_reducible assumption
    | (extract_lets +onlyGivenNames l; refine Good.cut (q := q) l ?_ (fun g => ?_); rotate_left; clear_value l; rotate_left; subst l)
    | with_reducible apply State.set_good
    | with_reducible apply State.setPass_good
    | with_reducible apply State.calRange_good
    | with_reducible apply State.setTmu_good
    | with_reducible apply State.finishTmu_good
    | with_reducible apply GoodO.next
    | with_reducible apply Good.ite
    | split)

theorem execTmuArm_good {q : List Instr} (x0) (s : State) (h : Good q s) : GoodO q (execTmuArm x0 s) := by
  unfold execTmuArm
  iterate 40 all_goals (try first
    | with_reducible assumption
    | intro _ _ _
    | with_reducible apply State.forEach_good
    | with_reducible apply State.ownEdge_good
    | with_reducible apply State.setTmu_good
    | with_reducible apply GoodO.next
    | with_reducible apply Good.ite)

theorem State.takeEdge_good {q : List Instr} (s : State) (x1) (x2) (x3) (h : Good q s) : Good q (State.takeEdge s x1 x2 x3) := by
  unfold State.takeEdge
  iterate 40 all_goals (try first
    | with_reducible assumption
    | with_reducible apply State.setTmu_good
    | with_reducible apply State.bump_good
    | with_reducible apply Good.ite
    | (extract_lets +onlyGivenNames l; clear_value l)
    | split)

theorem State.freqEdge_good {q : List Instr} (s : State) (x1) (x2) (x3) (h : Good q s) : Good q (State.freqEdge s x1 x2 x3) := by
  unfold State.freqEdge
  iterate 40 all_goals (try first
    | with_reducible assumption
    | with_reducible apply State.setTmu_good
    | with_reducible apply Good.ite
    | split)

theorem execTmuEdge_good {q : List Instr} (x0) (x1) (s : State) (h : Good q s) : GoodO q (execTmuEdge x0 x1 s) := by
  unfold execTmuEdge
  iterate 40 all_goals (try first
    | with_reducible assumption
    | with_reducible apply State.passEdge_good
    | with_reducible apply State.setTmu_good
    | with_reducible apply State.freqEdge_good
    | with_reducible apply State.takeEdge_good
    | with_reducible apply GoodO.next
    | with_reducible apply Good.ite
    | split)

theorem execTmuTimeout_good {q : List Instr} (x0) (s : State) (h : Good q s) : GoodO q (execTmuTimeout x0 s) := by
  unfold execTmuTimeout
  iterate 40 all_goals (try first
    | with_reducible assumption
    | with_reducible apply State.setTmu_good
    | with_reducible apply GoodO.next
    | with_reducible apply Good.ite)

theorem execFreqGateClose_good {q : List Instr} (x0) (s : State) (h : Good q s) : GoodO q (execFreqGateClose x0 s) := by
  unfold execFreqGateClose
  iterate 40 all_goals (try first
    | with_reducible assumption
    | with_reducible apply State.setTmu_good
    | with_reducible apply GoodO.next
    | with_reducible apply Good.ite)

theorem State.histEnd_good {q : List Instr} (s : State) (x1) (x2) (h : Good q s) : Good q (State.histEnd s x1 x2) := by
  unfold State.histEnd
  iterate 40 all_goals (try first
    | with_reducible assumption
    | intro _ _ _
    | (extract_lets +onlyGivenNames l; refine Good.cut (q := q) l ?_ (fun g => ?_); rotate_left; clear_value l; rotate_left; subst l)
    | with_reducible apply State.finishTmu_good
    | with_reducible apply State.forEach_good
    | with_reducible apply State.histPut_good
    | with_reducible apply State.setTmu_good
    | with_reducible apply Good.ite)

theorem execTmuMeasEnd_good {q : List Instr} (x0) (s : State) (h : Good q s) : GoodO q (execTmuMeasEnd x0 s) := by
  unfold execTmuMeasEnd
  iterate 40 all_goals (try first
    | with_reducible assumption
    | with_reducible apply State.histEnd_good
    | with_reducible apply State.finishTmu_good
    | with_reducible apply GoodO.next
    | with_reducible apply Good.ite
    | (extract_lets +onlyGivenNames l; clear_value l)
    | split)

theorem tmuImages_good {q : List Instr} (x0) (x1)  : GoodL q (tmuImages x0 x1) := by
  unfold tmuImages
  iterate 40 all_goals (try first
    | with_reducible assumption
    | intro _ _ _
    | intro _ _
    | with_reducible apply State.guarded_good
    | with_reducible apply writeTmuPlain_good
    | with_reducible apply GoodL.map)

theorem State.tmuRun_good {q : List Instr} (s : State) (x1) (x2) (x3) (h : Good q s) : Good q (State.tmuRun s x1 x2 x3).1 := by
  unfold State.tmuRun
  iterate 40 all_goals (try first
    | with_reducible assumption
    | intro _ _
    | with_reducible apply runWrites_good
    | with_reducible apply tmuImages_good
    | with_reducible apply State.guarded_good
    | with_reducible apply writeTmuGo_good
    | with_reducible exact GoodL.nil
    | with_reducible apply GoodL.cons
    | with_reducible apply GoodL.append)

theorem execTmuMeasure_good {q : List Instr} (x0) (x1) (s : State) (h : Good q s) : GoodO q (execTmuMeasure x0 x1 s) := by
  unfold execTmuMeasure
  iterate 40 all_goals (try first
    | with_reducible assumption
    | intro _ _
    | with_reducible apply State.cmd_good
    | with_reducible apply State.done_good
    | with_reducible apply State.tmuRun_good
    | with_reducible apply GoodO.next
    | with_reducible apply Good.ite
    | split
    | (with_reducible refine Good.of_fst (by assumption) ?_))

theorem execTmuAbort_good {q : List Instr} (x0) (x1) (s : State) (h : Good q s) : GoodO q (execTmuAbort x0 x1 s) := by
  unfold execTmuAbort
  iterate 40 all_goals (try first
    | with_reducible assumption
    | intro _ _
    | with_reducible apply State.cmd_good
    | with_reducible apply State.done_good
    | with_reducible apply State.abortTmu_good
    | with_reducible apply GoodO.next)

end Sys2Proof.Machine
end

