-- ==== Sys2Proof/Laws/KeepPsm.lean ====
section
/-! SUPPORT. Every operation of Machine/Psm.lean keeps the stores canonical and leaves the queue alone. -/

namespace Sys2Proof.Machine

theorem State.setPsm_good {q : List Instr} (s : State) (x1) (x2) (h : Good q s) : Good q (State.setPsm s x1 x2) := by
  unfold State.setPsm
  iterate 40 all_goals (try first
    | with_reducible assumption
    | with_reducible apply Good.mk_of)

theorem State.psmRaise_good {q : List Instr} (s : State) (x1) (x2) (x3) (x4) (h : Good q s) : Good q (State.psmRaise s x1 x2 x3 x4) := by
  unfold State.psmRaise
  iterate 40 all_goals (try first
    | with_reducible assumption
    | with_reducible apply State.raiseOnce_good)

theorem State.psmDac_good {q : List Instr} (s : State) (x1) (x2) (h : Good q s) : Good q (State.psmDac s x1 x2) := by
  unfold State.psmDac
  iterate 40 all_goals (try first
    | with_reducible assumption
    | with_reducible apply State.setPsm_good
    | with_reducible apply Good.ite)

theorem State.psmOut_good {q : List Instr} (s : State) (x1) (x2) (h : Good q s) : Good q (State.psmOut s x1 x2) := by
  unfold State.psmOut
  iterate 40 all_goals (try first
    | with_reducible assumption
    | (extract_lets +onlyGivenNames l; refine Good.cut (q := q) l ?_ (fun g => ?_); rotate_left; clear_value l; rotate_left; subst l)
    | with_reducible apply State.psmDac_good
    | with_reducible apply State.setPsm_good
    | with_reducible apply Good.ite)

theorem State.psmRefresh_good {q : List Instr} (s : State) (x1) (h : Good q s) : Good q (State.psmRefresh s x1) := by
  unfold State.psmRefresh
  iterate 40 all_goals (try first
    | with_reducible assumption
    | intro _ _ _
    | with_reducible apply State.setB_good
    | with_reducible apply State.forEach_good
    | with_reducible apply State.answer_good
    | with_reducible apply State.setPsm_good
    | with_reducible apply Good.ite)

theorem State.psmWaitFail_good {q : List Instr} (s : State) (x1) (x2) (x3) (h : Good q s) : Good q (State.psmWaitFail s x1 x2 x3) := by
  unfold State.psmWaitFail
  iterate 40 all_goals (try first
    | with_reducible assumption
    | intro _ _ _
    | with_reducible apply State.forEach_good
    | with_reducible apply State.answer_good
    | with_reducible apply State.setPsm_good)

theorem State.psmMove_good {q : List Instr} (s : State) (x1) (h : Good q s) : Good q (State.psmMove s x1) := by
  unfold State.psmMove
  iterate 40 all_goals (try first
    | with_reducible assumption
    | (extract_lets +onlyGivenNames l; refine Good.cut (q := q) l ?_ (fun g => ?_); rotate_left; clear_value l; rotate_left; subst l)
    | with_reducible apply State.psmDac_good
    | with_reducible apply State.setPsm_good
    | with_reducible apply Good.ite)

theorem State.psmFollow_good {q : List Instr} (s : State) (x1) (h : Good q s) : Good q (State.psmFollow s x1) := by
  unfold State.psmFollow
  iterate 40 all_goals (try first
    | with_reducible assumption
    | with_reducible apply State.psmRefresh_good
    | with_reducible apply State.psmMove_good
    | with_reducible apply State.psmDac_good
    | with_reducible apply Good.ite)

theorem State.psmBegin_good {q : List Instr} (s : State) (x1) (x2) (h : Good q s) : Good q (State.psmBegin s x1 x2) := by
  unfold State.psmBegin
  iterate 40 all_goals (try first
    | with_reducible assumption
    | with_reducible apply State.setPsm_good
    | with_reducible apply State.psmMove_good
    | with_reducible apply State.psmDac_good
    | with_reducible apply Good.ite)

theorem State.psmOpen_good {q : List Instr} (s : State) (x1) (h : Good q s) : Good q (State.psmOpen s x1) := by
  unfold State.psmOpen
  iterate 40 all_goals (try first
    | with_reducible assumption
    | with_reducible apply State.setPsm_good
    | with_reducible apply State.set_good
    | with_reducible apply State.psmRefresh_good
    | with_reducible apply State.psmBegin_good
    | with_reducible apply Good.ite)

theorem State.psmToFv_good {q : List Instr} (s : State) (x1) (h : Good q s) : Good q (State.psmToFv s x1) := by
  unfold State.psmToFv
  iterate 40 all_goals (try first
    | with_reducible assumption
    | with_reducible apply State.drawWord_good
    | with_reducible apply State.setPsm_good)

theorem State.waveDrop_good {q : List Instr} (s : State) (x1) (x2) (h : Good q s) : Good q (State.waveDrop s x1 x2) := by
  unfold State.waveDrop
  iterate 40 all_goals (try first
    | with_reducible assumption
    | intro _ _ _
    | (extract_lets +onlyGivenNames l; refine Good.cut (q := q) l ?_ (fun g => ?_); rotate_left; clear_value l; rotate_left; subst l)
    | with_reducible apply State.setPsm_good
    | with_reducible apply State.set_good
    | with_reducible apply State.finish_good
    | with_reducible apply State.forEach_good
    | (extract_lets +onlyGivenNames l; clear_value l)
    | split)

theorem State.timedDrop_good {q : List Instr} (s : State) (x1) (x2) (x3) (h : Good q s) : Good q (State.timedDrop s x1 x2 x3) := by
  unfold State.timedDrop
  iterate 40 all_goals (try first
    | with_reducible assumption
    | intro _ _ _
    | with_reducible apply State.forEach_good
    | with_reducible apply State.finish_good
    | with_reducible apply State.setPsm_good)

theorem State.psmHoldLast_good {q : List Instr} (s : State) (x1) (h : Good q s) : Good q (State.psmHoldLast s x1) := by
  unfold State.psmHoldLast
  iterate 40 all_goals (try first
    | with_reducible assumption
    | with_reducible apply State.set_good
    | with_reducible apply State.setI_good)

theorem State.waveEnd_good {q : List Instr} (s : State) (x1) (x2) (x3) (h : Good q s) : Good q (State.waveEnd s x1 x2 x3) := by
  unfold State.waveEnd
  iterate 40 all_goals (try first
    | with_reducible assumption
    | (extract_lets +onlyGivenNames l; refine Good.cut (q := q) l ?_ (fun g => ?_); rotate_left; clear_value l; rotate_left; subst l)
    | with_reducible apply State.set_good
    | with_reducible apply State.psmHoldLast_good
    | with_reducible apply State.psmRefresh_good
    | with_reducible apply State.waveDrop_good
    | with_reducible apply Good.ite
    | split)

theorem State.sineEnd_good {q : List Instr} (s : State) (x1) (x2) (h : Good q s) : Good q (State.sineEnd s x1 x2) := by
  unfold State.sineEnd
  iterate 40 all_goals (try first
    | with_reducible assumption
    | intro _ _ _
    | (extract_lets +onlyGivenNames l; refine Good.cut (q := q) l ?_ (fun g => ?_); rotate_left; clear_value l; rotate_left; subst l)
    | with_reducible apply State.psmHoldLast_good
    | with_reducible apply State.set_good
    | with_reducible apply State.psmRefresh_good
    | with_reducible apply State.forEach_good
    | with_reducible apply State.finish_good
    | with_reducible apply State.setPsm_good
    | with_reducible apply Good.ite)

theorem State.psmMeasDrop_good {q : List Instr} (s : State) (x1) (x2) (h : Good q s) : Good q (State.psmMeasDrop s x1 x2) := by
  unfold State.psmMeasDrop
  iterate 40 all_goals (try first
    | with_reducible assumption
    | (extract_lets +onlyGivenNames l; refine Good.cut (q := q) l ?_ (fun g => ?_); rotate_left; clear_value l; rotate_left; subst l)
    | with_reducible apply State.set_good
    | with_reducible apply State.setPsm_good
    | with_reducible apply State.answer_good
    | (extract_lets +onlyGivenNames l; clear_value l)
    | split)

theorem State.snapDrop_good {q : List Instr} (s : State) (x1) (x2) (h : Good q s) : Good q (State.snapDrop s x1 x2) := by
  unfold State.snapDrop
  iterate 40 all_goals (try first
    | with_reducible assumption
    | with_reducible apply State.putDramNat_good
    | with_reducible apply State.finish_good
    | with_reducible apply State.set_good
    | with_reducible apply State.setPsm_good
    | with_reducible apply Good.ite
    | (extract_lets +onlyGivenNames l; clear_value l)
    | split)

theorem State.psmSafe_good {q : List Instr} (s : State) (x1) (x2) (x3) (h : Good q s) : Good q (State.psmSafe s x1 x2 x3) := by
  unfold State.psmSafe
  iterate 40 all_goals (try first
    | with_reducible assumption
    | (extract_lets +onlyGivenNames l; refine Good.cut (q := q) l ?_ (fun g => ?_); rotate_left; clear_value l; rotate_left; subst l)
    | with_reducible apply State.psmMeasDrop_good
    | with_reducible apply State.snapDrop_good
    | with_reducible apply State.sineEnd_good
    | with_reducible apply State.timedDrop_good
    | with_reducible apply State.waveEnd_good
    | with_reducible apply State.psmOpen_good
    | with_reducible apply State.set_good
    | with_reducible apply State.psmToFv_good
    | with_reducible apply State.psmRefresh_good
    | with_reducible apply State.setPsm_good
    | with_reducible apply Good.ite
    | split)

theorem State.psmFence_good {q : List Instr} (s : State) (x1) (x2) (x3) (h : Good q s) : Good q (State.psmFence s x1 x2 x3) := by
  unfold State.psmFence
  iterate 40 all_goals (try first
    | with_reducible assumption
    | with_reducible apply State.psmWaitFail_good
    | with_reducible apply State.psmSafe_good)

theorem State.waveRefused_good {q : List Instr} (s : State) (x1) (h : Good q s) : Good q (State.waveRefused s x1) := by
  unfold State.waveRefused
  iterate 40 all_goals (try first
    | with_reducible assumption
    | with_reducible apply State.psmFence_good
    | split)

theorem State.psmOff_good {q : List Instr} (s : State) (x1) (h : Good q s) : Good q (State.psmOff s x1) := by
  unfold State.psmOff
  iterate 40 all_goals (try first
    | with_reducible assumption
    | (extract_lets +onlyGivenNames l; refine Good.cut (q := q) l ?_ (fun g => ?_); rotate_left; clear_value l; rotate_left; subst l)
    | with_reducible apply State.sineEnd_good
    | with_reducible apply State.waveEnd_good
    | with_reducible apply State.psmToFv_good
    | with_reducible apply State.psmOpen_good
    | with_reducible apply State.setPsm_good
    | with_reducible apply Good.ite)

theorem writePsmCtl_good {q : List Instr} (x0) (x1) (x2) (s : State) (h : Good q s) : GoodR q (writePsmCtl x0 x1 x2 s) := by
  unfold writePsmCtl
  iterate 40 all_goals (try first
    | with_reducible assumption
    | (extract_lets +onlyGivenNames l; refine Good.cut (q := q) l ?_ (fun g => ?_); rotate_left; clear_value l; rotate_left; subst l)
    | with_reducible apply State.store_good
    | with_reducible apply State.psmRefresh_good
    | with_reducible apply State.psmBegin_good
    | with_reducible apply State.psmOff_good
    | with_reducible apply State.setPsm_good
    | with_reducible exact GoodR.error
    | with_reducible apply GoodR.ok
    | with_reducible apply Good.ite
    | with_reducible apply GoodR.ite)

theorem writePsmLevel_good {q : List Instr} (x0) (x1) (s : State) (h : Good q s) : GoodR q (writePsmLevel x0 x1 s) := by
  unfold writePsmLevel
  iterate 40 all_goals (try first
    | with_reducible assumption
    | (extract_lets +onlyGivenNames l; refine Good.cut (q := q) l ?_ (fun g => ?_); rotate_left; clear_value l; rotate_left; subst l)
    | with_reducible apply State.store_good
    | with_reducible apply State.psmFollow_good
    | with_reducible exact GoodR.error
    | with_reducible apply GoodR.ok
    | with_reducible apply Good.ite
    | with_reducible apply GoodR.ite)

theorem writePsmPlain_good {q : List Instr} (x0) (x1) (x2) (s : State) (h : Good q s) : GoodR q (writePsmPlain x0 x1 x2 s) := by
  unfold writePsmPlain
  iterate 40 all_goals (try first
    | with_reducible assumption
    | with_reducible apply State.psmRefresh_good
    | with_reducible apply State.store_good
    | with_reducible exact GoodR.error
    | with_reducible apply GoodR.ok
    | with_reducible apply GoodR.ite)

theorem writeFtwHi_good {q : List Instr} (x0) (x1) (s : State) (h : Good q s) : GoodR q (writeFtwHi x0 x1 s) := by
  unfold writeFtwHi
  iterate 40 all_goals (try first
    | with_reducible assumption
    | (extract_lets +onlyGivenNames l; refine Good.cut (q := q) l ?_ (fun g => ?_); rotate_left; clear_value l; rotate_left; subst l)
    | with_reducible apply State.store_good
    | with_reducible apply State.setPsm_good
    | with_reducible apply GoodR.ok)

theorem writePsmStatus_good {q : List Instr} (x0) (x1) (s : State) (h : Good q s) : GoodR q (writePsmStatus x0 x1 s) := by
  unfold writePsmStatus
  iterate 40 all_goals (try first
    | with_reducible assumption
    | (extract_lets +onlyGivenNames l; refine Good.cut (q := q) l ?_ (fun g => ?_); rotate_left; clear_value l; rotate_left; subst l)
    | with_reducible apply State.store_good
    | with_reducible apply State.set_good
    | with_reducible apply State.psmRefresh_good
    | with_reducible apply State.psmMove_good
    | with_reducible apply GoodR.ok
    | with_reducible apply Good.ite
    | with_reducible apply GoodR.ite)

theorem State.waveFetch_good {q : List Instr} (s : State) (x1) (h : Good q s) : Good q (State.waveFetch s x1) := by
  unfold State.waveFetch
  iterate 40 all_goals (try first
    | with_reducible assumption
    | with_reducible apply State.setPsm_good
    | (extract_lets +onlyGivenNames l; clear_value l)
    | split
    | with_reducible apply Good.mk_of)

theorem State.waveRange_good {q : List Instr} (s : State) (x1) (x2) (x3) (x4) (h : Good q s) : Good q (State.waveRange s x1 x2 x3 x4) := by
  induction x4 generalizing s x1 x2 x3 with
  | zero =>
    unfold State.waveRange
    iterate 40 all_goals (try first
      | with_reducible assumption)
  | succ n ih =>
    unfold State.waveRange
    iterate 40 all_goals (try first
      | with_reducible assumption
      | with_reducible apply ih
      | with_reducible apply State.waveFetch_good
      | with_reducible apply Good.ite
      | split)

theorem State.waveFill_good {q : List Instr} (s : State) (x1) (x2) (h : Good q s) : Good q (State.waveFill s x1 x2) := by
  induction x2 generalizing s x1 with
  | zero =>
    unfold State.waveFill
    iterate 40 all_goals (try first
      | with_reducible assumption)
  | succ n ih =>
    unfold State.waveFill
    iterate 40 all_goals (try first
      | with_reducible assumption
      | with_reducible apply ih
      | with_reducible apply State.waveFetch_good
      | with_reducible apply Good.ite
      | split)

theorem State.waveStart_good {q : List Instr} (s : State) (x1) (x2) (h : Good q s) : Good q (State.waveStart s x1 x2) := by
  unfold State.waveStart
  iterate 40 all_goals (try first
    | with_reducible assumption
    | (extract_lets +onlyGivenNames l; refine Good.cut (q := q) l ?_ (fun g => ?_); rotate_left; clear_value l; rotate_left; subst l)
    | with_reducible apply State.setPsm_good
    | with_reducible apply State.set_good
    | (extract_lets +onlyGivenNames l; clear_value l)
    | split)

theorem State.sineStart_good {q : List Instr} (s : State) (x1) (h : Good q s) : Good q (State.sineStart s x1) := by
  unfold State.sineStart
  iterate 40 all_goals (try first
    | with_reducible assumption
    | with_reducible apply State.setPsm_good
    | with_reducible apply State.set_good)

theorem State.waveJump_good {q : List Instr} (s : State) (x1) (x2) (x3) (h : Good q s) : GoodR q (State.waveJump s x1 x2 x3) := by
  unfold State.waveJump
  iterate 40 all_goals (try first
    | with_reducible assumption
    | (extract_lets +onlyGivenNames l; refine Good.cut (q := q) l ?_ (fun g => ?_); rotate_left; clear_value l; rotate_left; subst l)
    | with_reducible apply State.setPsm_good
    | with_reducible apply State.set_good
    | with_reducible exact GoodR.error
    | with_reducible apply GoodR.ok
    | with_reducible apply Good.ite
    | with_reducible apply GoodR.ite
    | (extract_lets +onlyGivenNames l; clear_value l)
    | split)

theorem State.jumpOver_good {q : List Instr} (s : State) (x1) (x2) (h : Good q s) : Good q (State.jumpOver s x1 x2) := by
  unfold State.jumpOver
  iterate 40 all_goals (try first
    | with_reducible assumption
    | (extract_lets +onlyGivenNames l; refine Good.cut (q := q) l ?_ (fun g => ?_); rotate_left; clear_value l; rotate_left; subst l)
    | with_reducible apply State.set_good
    | with_reducible apply State.setPsm_good
    | with_reducible apply State.done_good
    | (extract_lets +onlyGivenNames l; clear_value l)
    | split)

theorem State.jumpRegister_good {q : List Instr} (s : State) (x1) (h : Good q s) : Good q (State.jumpRegister s x1) := by
  unfold State.jumpRegister
  iterate 40 all_goals (try first
    | with_reducible assumption
    | with_reducible apply State.setPsm_good
    | with_reducible apply State.set_good
    | with_reducible apply Good.ite
    | (extract_lets +onlyGivenNames l; clear_value l)
    | split)

theorem State.waveDecide_good {q : List Instr} (s : State) (x1) (h : Good q s) : Good q (State.waveDecide s x1) := by
  unfold State.waveDecide
  iterate 40 all_goals (try first
    | with_reducible assumption
    | with_reducible apply State.set_good
    | with_reducible apply State.setPsm_good
    | (extract_lets +onlyGivenNames l; clear_value l)
    | split)

theorem State.wavePassEnd_good {q : List Instr} (s : State) (x1) (h : Good q s) : Good q (State.wavePassEnd s x1) := by
  unfold State.wavePassEnd
  iterate 40 all_goals (try first
    | with_reducible assumption
    | (extract_lets +onlyGivenNames l; refine Good.cut (q := q) l ?_ (fun g => ?_); rotate_left; clear_value l; rotate_left; subst l)
    | with_reducible apply State.waveEnd_good
    | with_reducible apply State.setPsm_good
    | with_reducible apply State.set_good
    | with_reducible apply State.finish_good
    | with_reducible apply Good.ite
    | (extract_lets +onlyGivenNames l; clear_value l)
    | split)

theorem State.waveTick_good {q : List Instr} (s : State) (x1) (h : Good q s) : Good q (State.waveTick s x1) := by
  unfold State.waveTick
  iterate 40 all_goals (try first
    | with_reducible assumption
    | (extract_lets +onlyGivenNames l; refine Good.cut (q := q) l ?_ (fun g => ?_); rotate_left; clear_value l; rotate_left; subst l)
    | with_reducible apply State.jumpRegister_good
    | with_reducible apply State.psmRaise_good
    | with_reducible apply State.untest_good
    | with_reducible apply State.waveEnd_good
    | with_reducible apply State.setPsm_good
    | with_reducible apply State.waveDecide_good
    | with_reducible apply State.psmOut_good
    | with_reducible apply State.wavePassEnd_good
    | with_reducible apply State.psmRefresh_good
    | with_reducible apply Good.ite
    | (extract_lets +onlyGivenNames l; clear_value l)
    | split)

theorem State.sineTick_good {q : List Instr} (s : State) (x1) (h : Good q s) : Good q (State.sineTick s x1) := by
  unfold State.sineTick
  iterate 40 all_goals (try first
    | with_reducible assumption
    | with_reducible apply State.setPsm_good
    | with_reducible apply State.set_good
    | with_reducible apply State.psmOut_good
    | with_reducible apply State.sineEnd_good
    | with_reducible apply State.psmRefresh_good
    | with_reducible apply Good.ite)

theorem State.psmMeasStart_good {q : List Instr} (s : State) (x1) (x2) (h : Good q s) : GoodR q (State.psmMeasStart s x1 x2) := by
  unfold State.psmMeasStart
  iterate 40 all_goals (try first
    | with_reducible assumption
    | (extract_lets +onlyGivenNames l; refine Good.cut (q := q) l ?_ (fun g => ?_); rotate_left; clear_value l; rotate_left; subst l)
    | with_reducible apply State.set_good
    | with_reducible apply State.answer_good
    | with_reducible apply State.setPsm_good
    | with_reducible exact GoodR.error
    | with_reducible apply GoodR.ok
    | with_reducible apply GoodR.ite
    | split)

theorem State.psmMeasDone_good {q : List Instr} (s : State) (x1) (x2) (h : Good q s) : Good q (State.psmMeasDone s x1 x2) := by
  unfold State.psmMeasDone
  iterate 40 all_goals (try first
    | with_reducible assumption
    | (extract_lets +onlyGivenNames l; refine Good.cut (q := q) l ?_ (fun g => ?_); rotate_left; clear_value l; rotate_left; subst l)
    | with_reducible apply State.set_good
    | with_reducible apply State.setPsm_good
    | with_reducible apply State.setI_good
    | with_reducible apply State.setB_good
    | with_reducible apply State.answer_good
    | (extract_lets +onlyGivenNames l; clear_value l)
    | split)

theorem State.psmMeasTake_good {q : List Instr} (s : State) (x1) (x2) (x3) (h : Good q s) : Good q (State.psmMeasTake s x1 x2 x3) := by
  unfold State.psmMeasTake
  iterate 40 all_goals (try first
    | with_reducible assumption
    | with_reducible apply State.psmMeasDone_good
    | with_reducible apply State.setPsm_good
    | with_reducible apply Good.ite
    | (extract_lets +onlyGivenNames l; clear_value l)
    | split)

theorem State.snapWrite_good {q : List Instr} (s : State) (x1) (x2) (h : Good q s) : Good q (State.snapWrite s x1 x2) := by
  unfold State.snapWrite
  iterate 40 all_goals (try first
    | with_reducible assumption
    | (extract_lets +onlyGivenNames l; refine Good.cut (q := q) l ?_ (fun g => ?_); rotate_left; clear_value l; rotate_left; subst l)
    | with_reducible apply State.putDramNat_good
    | with_reducible apply State.putDramList_good
    | with_reducible apply State.set_good
    | with_reducible apply State.setPsm_good
    | with_reducible apply Good.ite
    | (extract_lets +onlyGivenNames l; clear_value l)
    | split)

theorem State.snapTrigger_good {q : List Instr} (s : State) (x1) (x2) (x3) (h : Good q s) : Good q (State.snapTrigger s x1 x2 x3) := by
  unfold State.snapTrigger
  iterate 40 all_goals (try first
    | with_reducible assumption
    | with_reducible apply State.bump_good
    | with_reducible apply State.setPsm_good
    | with_reducible apply State.snapWrite_good
    | with_reducible apply Good.ite
    | (extract_lets +onlyGivenNames l; clear_value l)
    | split)

theorem State.snapTake_good {q : List Instr} (s : State) (x1) (x2) (x3) (h : Good q s) : Good q (State.snapTake s x1 x2 x3) := by
  unfold State.snapTake
  iterate 40 all_goals (try first
    | with_reducible assumption
    | with_reducible apply State.setPsm_good
    | with_reducible apply State.snapWrite_good
    | with_reducible apply Good.ite
    | (extract_lets +onlyGivenNames l; clear_value l)
    | split)

theorem State.psmGo_good {q : List Instr} (s : State) (x1) (x2) (h : Good q s) : GoodR q (State.psmGo s x1 x2) := by
  unfold State.psmGo
  iterate 40 all_goals (try first
    | with_reducible assumption
    | intro _ _
    | (extract_lets +onlyGivenNames l; refine Good.cutF (q := q) l ?_ (fun gf => ?_); rotate_left; clear_value l; rotate_left; subst l)
    | with_reducible apply State.snapTrigger_good
    | with_reducible apply State.snapDrop_good
    | with_reducible apply State.psmMeasStart_good
    | with_reducible apply GoodR.ok
    | with_reducible apply gf
    | with_reducible apply Good.ite
    | with_reducible apply GoodR.ite
    | with_reducible apply GoodR.map)

theorem State.psmRelease_good {q : List Instr} (s : State) (x1) (h : Good q s) : Good q (State.psmRelease s x1) := by
  unfold State.psmRelease
  iterate 40 all_goals (try first
    | with_reducible assumption
    | (extract_lets +onlyGivenNames l; refine Good.cut (q := q) l ?_ (fun g => ?_); rotate_left; clear_value l; rotate_left; subst l)
    | with_reducible apply State.setPsm_good
    | with_reducible apply State.psmGo_good
    | with_reducible apply Good.ite
    | (extract_lets +onlyGivenNames l; clear_value l)
    | split
    | (with_reducible refine Good.of_ok (by assumption) ?_))

theorem State.psmCheck_good {q : List Instr} (s : State) (x1) (x2) (x3) (h : Good q s) : Good q (State.psmCheck s x1 x2 x3) := by
  unfold State.psmCheck
  iterate 40 all_goals (try first
    | with_reducible assumption
    | with_reducible apply State.setPsm_good
    | with_reducible apply State.psmRaise_good
    | with_reducible apply Good.ite)

theorem State.psmThreshold_good {q : List Instr} (s : State) (x1) (x2) (x3) (h : Good q s) : Good q (State.psmThreshold s x1 x2 x3) := by
  unfold State.psmThreshold
  iterate 40 all_goals (try first
    | with_reducible assumption
    | (extract_lets +onlyGivenNames l; refine Good.cut (q := q) l ?_ (fun g => ?_); rotate_left; clear_value l; rotate_left; subst l)
    | with_reducible apply State.setPsm_good
    | with_reducible apply State.snapTrigger_good
    | with_reducible apply State.pushTrigger_good
    | with_reducible apply Good.ite)

theorem State.psmClamps_good {q : List Instr} (s : State) (x1) (x2) (h : Good q s) : Good q (State.psmClamps s x1 x2) := by
  unfold State.psmClamps
  iterate 40 all_goals (try first
    | with_reducible assumption
    | (extract_lets +onlyGivenNames l; refine Good.cut (q := q) l ?_ (fun g => ?_); rotate_left; clear_value l; rotate_left; subst l)
    | with_reducible apply State.setB_good
    | with_reducible apply State.setPsm_good
    | (extract_lets +onlyGivenNames l; clear_value l)
    | split)

theorem State.psmReading_good {q : List Instr} (s : State) (x1) (x2) (x3) (x4) (h : Good q s) : Good q (State.psmReading s x1 x2 x3 x4) := by
  unfold State.psmReading
  iterate 40 all_goals (try first
    | with_reducible assumption
    | (extract_lets +onlyGivenNames l; refine Good.cut (q := q) l ?_ (fun g => ?_); rotate_left; clear_value l; rotate_left; subst l)
    | with_reducible apply State.psmClamps_good
    | with_reducible apply State.setI_good
    | with_reducible apply State.setPsm_good
    | with_reducible apply State.psmCheck_good
    | with_reducible apply State.psmThreshold_good
    | with_reducible apply State.psmRefresh_good
    | with_reducible apply State.psmMeasTake_good
    | with_reducible apply State.snapTake_good
    | with_reducible apply Good.ite)

theorem State.cueEffect_good {q : List Instr} (s : State) (x1) (x2) (x3) (h : Good q s) : GoodR q (State.cueEffect s x1 x2 x3) := by
  unfold State.cueEffect
  iterate 40 all_goals (try first
    | with_reducible assumption
    | with_reducible apply State.snapTrigger_good
    | with_reducible apply State.waveStart_good
    | with_reducible apply State.waveJump_good
    | with_reducible apply State.setPsm_good
    | with_reducible apply State.sineStart_good
    | with_reducible apply State.psmFollow_good
    | with_reducible apply State.set_good
    | with_reducible exact GoodR.error
    | with_reducible apply GoodR.ok
    | with_reducible apply GoodR.ite
    | (extract_lets +onlyGivenNames l; clear_value l)
    | split)

end Sys2Proof.Machine
end

