-- ==== Sys2Proof/Laws/KeepPsmCmd.lean ====
section
/-! SUPPORT. Every operation of Machine/PsmCmd.lean keeps the stores canonical and leaves the queue alone. -/

namespace Sys2Proof.Machine

theorem execPsmCtlWrite_good {q : List Instr} (x0) (x1) (x2) (s : State) (h : Good q s) : GoodO q (execPsmCtlWrite x0 x1 x2 s) := by
  unfold execPsmCtlWrite
  iterate 40 all_goals (try first
    | with_reducible assumption
    | intro _ _
    | with_reducible apply State.respond_good
    | with_reducible apply State.guarded_good
    | with_reducible apply writePsmCtl_good
    | with_reducible apply GoodO.next)

theorem execPsmLevelWrite_good {q : List Instr} (x0) (x1) (x2) (s : State) (h : Good q s) : GoodO q (execPsmLevelWrite x0 x1 x2 s) := by
  unfold execPsmLevelWrite
  iterate 40 all_goals (try first
    | with_reducible assumption
    | intro _ _
    | with_reducible apply State.respond_good
    | with_reducible apply State.guarded_good
    | with_reducible apply writePsmLevel_good
    | with_reducible apply GoodO.next)

theorem execPsmStatusClear_good {q : List Instr} (x0) (x1) (x2) (s : State) (h : Good q s) : GoodO q (execPsmStatusClear x0 x1 x2 s) := by
  unfold execPsmStatusClear
  iterate 40 all_goals (try first
    | with_reducible assumption
    | intro _ _
    | with_reducible apply State.respond_good
    | with_reducible apply State.guarded_good
    | with_reducible apply writePsmStatus_good
    | with_reducible apply GoodO.next)

theorem execPsmSineFtwHi_good {q : List Instr} (x0) (x1) (x2) (s : State) (h : Good q s) : GoodO q (execPsmSineFtwHi x0 x1 x2 s) := by
  unfold execPsmSineFtwHi
  iterate 40 all_goals (try first
    | with_reducible assumption
    | intro _ _
    | with_reducible apply State.respond_good
    | with_reducible apply State.guarded_good
    | with_reducible apply writeFtwHi_good
    | with_reducible apply GoodO.next)

theorem writePsmGo_good {q : List Instr} (x0) (x1) (s : State) (h : Good q s) : GoodR q (writePsmGo x0 x1 s) := by
  unfold writePsmGo
  iterate 40 all_goals (try first
    | with_reducible assumption
    | with_reducible apply State.setPsm_good
    | with_reducible apply State.psmGo_good
    | with_reducible apply GoodR.ok
    | with_reducible apply GoodR.ite)

theorem execMeasGo_good {q : List Instr} (x0) (x1) (s : State) (h : Good q s) : GoodO q (execMeasGo x0 x1 s) := by
  unfold execMeasGo
  iterate 40 all_goals (try first
    | with_reducible assumption
    | intro _ _
    | with_reducible apply State.respond_good
    | with_reducible apply State.guarded_good
    | with_reducible apply writePsmGo_good
    | with_reducible apply GoodO.next)

theorem execSnapTrig_good {q : List Instr} (x0) (x1) (s : State) (h : Good q s) : GoodO q (execSnapTrig x0 x1 s) := by
  unfold execSnapTrig
  iterate 40 all_goals (try first
    | with_reducible assumption
    | intro _ _
    | with_reducible apply State.respond_good
    | with_reducible apply State.guarded_good
    | with_reducible apply writePsmGo_good
    | with_reducible apply GoodO.next)

theorem execSnapAbort_good {q : List Instr} (x0) (x1) (s : State) (h : Good q s) : GoodO q (execSnapAbort x0 x1 s) := by
  unfold execSnapAbort
  iterate 40 all_goals (try first
    | with_reducible assumption
    | intro _ _
    | with_reducible apply State.respond_good
    | with_reducible apply State.guarded_good
    | with_reducible apply writePsmGo_good
    | with_reducible apply GoodO.next)

theorem State.rampStep_good {q : List Instr} (s : State) (x1) (x2) (x3) (h : Good q s) : Good q (State.rampStep s x1 x2 x3) := by
  unfold State.rampStep
  iterate 40 all_goals (try first
    | with_reducible assumption
    | with_reducible apply State.psmDac_good
    | with_reducible apply State.setPsm_good)

theorem State.rampDone_good {q : List Instr} (s : State) (x1) (h : Good q s) : Good q (State.rampDone s x1) := by
  unfold State.rampDone
  iterate 40 all_goals (try first
    | with_reducible assumption
    | with_reducible apply State.psmRefresh_good
    | with_reducible apply State.setPsm_good)

theorem execPsmSlewStep_good {q : List Instr} (x0) (s : State) (h : Good q s) : GoodO q (execPsmSlewStep x0 s) := by
  unfold execPsmSlewStep
  iterate 40 all_goals (try first
    | with_reducible assumption
    | (extract_lets +onlyGivenNames l; refine Good.cut (q := q) l ?_ (fun g => ?_); rotate_left; clear_value l; rotate_left; subst l)
    | with_reducible apply State.rampStep_good
    | with_reducible apply State.rampDone_good
    | with_reducible apply State.psmDac_good
    | with_reducible apply State.psmOpen_good
    | with_reducible apply GoodO.next
    | with_reducible apply Good.ite
    | (extract_lets +onlyGivenNames l; clear_value l)
    | split)

theorem execSafeRampEnd_good {q : List Instr} (x0) (s : State) (h : Good q s) : GoodO q (execSafeRampEnd x0 s) := by
  unfold execSafeRampEnd
  iterate 40 all_goals (try first
    | with_reducible assumption
    | with_reducible apply State.psmOpen_good
    | with_reducible apply GoodO.next
    | with_reducible apply Good.ite)

theorem execPsmSampleTick_good {q : List Instr} (x0) (s : State) (h : Good q s) : GoodO q (execPsmSampleTick x0 s) := by
  unfold execPsmSampleTick
  iterate 40 all_goals (try first
    | with_reducible assumption
    | with_reducible apply State.waveTick_good
    | with_reducible apply State.sineTick_good
    | with_reducible apply GoodO.next
    | with_reducible apply Good.ite)

theorem execWavePrefilled_good {q : List Instr} (x0) (s : State) (h : Good q s) : GoodO q (execWavePrefilled x0 s) := by
  unfold execWavePrefilled
  iterate 40 all_goals (try first
    | with_reducible assumption
    | (extract_lets +onlyGivenNames l; refine Good.cut (q := q) l ?_ (fun g => ?_); rotate_left; clear_value l; rotate_left; subst l)
    | with_reducible apply State.waveFill_good
    | with_reducible apply State.done_good
    | with_reducible apply State.set_good
    | with_reducible apply State.setPsm_good
    | with_reducible apply State.waveRefused_good
    | with_reducible apply GoodO.next
    | with_reducible apply Good.ite
    | (extract_lets +onlyGivenNames l; clear_value l)
    | split)

theorem execPsmCue_good {q : List Instr} (x0) (x1) (s : State) (h : Good q s) : GoodO q (execPsmCue x0 x1 s) := by
  unfold execPsmCue
  iterate 40 all_goals (try first
    | with_reducible assumption
    | (extract_lets +onlyGivenNames l; refine Good.cut (q := q) l ?_ (fun g => ?_); rotate_left; clear_value l; rotate_left; subst l)
    | (extract_lets +onlyGivenNames l; refine Good.cutR (q := q) l ?_ (fun g => ?_); rotate_left; clear_value l; rotate_left; subst l)
    | with_reducible apply State.cueEffect_good
    | with_reducible apply State.bumpBy_good
    | with_reducible apply State.set_good
    | with_reducible exact GoodR.error
    | with_reducible apply GoodO.next
    | with_reducible apply GoodR.ite
    | with_reducible exact Good.of_okv (by assumption)
    | split
    | with_reducible apply Good.mk_of)

theorem execPsmAdcReading_good {q : List Instr} (x0) (x1) (x2) (x3) (s : State) (h : Good q s) : GoodO q (execPsmAdcReading x0 x1 x2 x3 s) := by
  unfold execPsmAdcReading
  iterate 40 all_goals (try first
    | with_reducible assumption
    | with_reducible apply State.psmReading_good
    | with_reducible apply GoodO.next
    | with_reducible apply Good.ite)

theorem execSnapRearm_good {q : List Instr} (x0) (s : State) (h : Good q s) : GoodO q (execSnapRearm x0 s) := by
  unfold execSnapRearm
  iterate 40 all_goals (try first
    | with_reducible assumption
    | with_reducible apply State.snapDrop_good
    | with_reducible apply State.setPsm_good
    | with_reducible apply GoodO.next
    | with_reducible apply Good.ite
    | (extract_lets +onlyGivenNames l; clear_value l)
    | split)

theorem execClamp_good {q : List Instr} (x0) (s : State) (h : Good q s) : GoodO q (execClamp x0 s) := by
  unfold execClamp
  iterate 40 all_goals (try first
    | with_reducible assumption
    | with_reducible apply State.psmRaise_good
    | with_reducible apply State.psmClamps_good
    | with_reducible apply GoodO.next
    | with_reducible apply Good.ite)

theorem execShort_good {q : List Instr} (x0) (s : State) (h : Good q s) : GoodO q (execShort x0 s) := by
  unfold execShort
  iterate 40 all_goals (try first
    | with_reducible assumption
    | (extract_lets +onlyGivenNames l; refine Good.cut (q := q) l ?_ (fun g => ?_); rotate_left; clear_value l; rotate_left; subst l)
    | with_reducible apply State.set_good
    | with_reducible apply State.psmRaise_good
    | with_reducible apply State.psmClamps_good
    | with_reducible apply State.psmRefresh_good
    | with_reducible apply State.setPsm_good
    | with_reducible apply GoodO.next
    | with_reducible apply Good.ite)

theorem execSenseOpen_good {q : List Instr} (x0) (s : State) (h : Good q s) : GoodO q (execSenseOpen x0 s) := by
  unfold execSenseOpen
  iterate 40 all_goals (try first
    | with_reducible assumption
    | with_reducible apply State.set_good
    | with_reducible apply State.psmRaise_good
    | with_reducible apply GoodO.next
    | with_reducible apply Good.ite)

theorem execBoostRange_good {q : List Instr} (x0) (s : State) (h : Good q s) : GoodO q (execBoostRange x0 s) := by
  unfold execBoostRange
  iterate 40 all_goals (try first
    | with_reducible assumption
    | with_reducible apply State.psmSafe_good
    | with_reducible apply State.psmRaise_good
    | with_reducible apply GoodO.next
    | with_reducible apply Good.ite)

theorem execPsmMeasSettled_good {q : List Instr} (x0) (s : State) (h : Good q s) : GoodO q (execPsmMeasSettled x0 s) := by
  unfold execPsmMeasSettled
  iterate 40 all_goals (try first
    | with_reducible assumption
    | with_reducible apply State.setPsm_good
    | with_reducible apply GoodO.next
    | (extract_lets +onlyGivenNames l; clear_value l)
    | split)

theorem execPsmSetLevelTimeout_good {q : List Instr} (x0) (s : State) (h : Good q s) : GoodO q (execPsmSetLevelTimeout x0 s) := by
  unfold execPsmSetLevelTimeout
  iterate 40 all_goals (try first
    | with_reducible assumption
    | with_reducible apply State.psmWaitFail_good
    | with_reducible apply State.psmRefresh_good
    | with_reducible apply GoodO.next
    | with_reducible apply Good.ite)

theorem State.psmCmd_good {q : List Instr} (s : State) (x1) (x2) (x3) (f4 : Nat → State → State) (h : Good q s) (hf4 : ∀ a t, Good q t → Good q (f4 a t)) : GoodO q (State.psmCmd s x1 x2 x3 f4) := by
  unfold State.psmCmd
  iterate 40 all_goals (try first
    | with_reducible assumption
    | intro _ _
    | with_reducible apply State.cmd_good
    | with_reducible apply State.done_good
    | with_reducible apply GoodO.next
    | with_reducible apply hf4
    | with_reducible apply Good.ite)

theorem execPsmSetLevel_good {q : List Instr} (x0) (x1) (s : State) (h : Good q s) : GoodO q (execPsmSetLevel x0 x1 s) := by
  unfold execPsmSetLevel
  iterate 40 all_goals (try first
    | with_reducible assumption
    | intro _ _ _
    | with_reducible apply State.psmCmd_good
    | with_reducible apply writePsmLevel_good
    | with_reducible apply State.done_good
    | with_reducible apply State.psmRefresh_good
    | with_reducible apply State.setPsm_good
    | with_reducible apply Good.ite
    | split
    | (with_reducible refine Good.of_ok (by assumption) ?_))

theorem execPsmWaveArm_good {q : List Instr} (x0) (x1) (s : State) (h : Good q s) : GoodO q (execPsmWaveArm x0 x1 s) := by
  unfold execPsmWaveArm
  iterate 40 all_goals (try first
    | with_reducible assumption
    | intro _ _ _
    | with_reducible apply State.psmCmd_good
    | with_reducible apply State.done_good
    | with_reducible apply State.setPsm_good
    | (extract_lets +onlyGivenNames l; clear_value l)
    | split)

theorem State.timeStart_good {q : List Instr} (s : State) (x1) (x2) (x3) (x4) (h : Good q s) : Good q (State.timeStart s x1 x2 x3 x4) := by
  unfold State.timeStart
  iterate 40 all_goals (try first
    | with_reducible assumption
    | with_reducible apply State.done_good
    | with_reducible apply State.setPsm_good
    | with_reducible apply Good.ite)

theorem execPsmWaveStart_good {q : List Instr} (x0) (x1) (s : State) (h : Good q s) : GoodO q (execPsmWaveStart x0 x1 s) := by
  unfold execPsmWaveStart
  iterate 40 all_goals (try first
    | with_reducible assumption
    | intro _ _ _
    | with_reducible apply State.psmCmd_good
    | with_reducible apply State.done_good
    | with_reducible apply State.timeStart_good
    | with_reducible apply Good.ite)

theorem execPsmTimedStart_good {q : List Instr} (x0) (s : State) (h : Good q s) : GoodO q (execPsmTimedStart x0 s) := by
  unfold execPsmTimedStart
  iterate 40 all_goals (try first
    | with_reducible assumption
    | with_reducible apply State.setPsm_good
    | with_reducible apply State.finish_good
    | with_reducible apply State.snapTrigger_good
    | with_reducible apply State.sineStart_good
    | with_reducible apply State.waveStart_good
    | with_reducible apply GoodO.next
    | with_reducible apply Good.ite
    | split
    | with_reducible apply Good.mk_of)

theorem execPsmWaveStop_good {q : List Instr} (x0) (x1) (s : State) (h : Good q s) : GoodO q (execPsmWaveStop x0 x1 s) := by
  unfold execPsmWaveStop
  iterate 40 all_goals (try first
    | with_reducible assumption
    | intro _ _ _
    | (extract_lets +onlyGivenNames l; refine Good.cut (q := q) l ?_ (fun g => ?_); rotate_left; clear_value l; rotate_left; subst l)
    | with_reducible apply State.psmCmd_good
    | with_reducible apply State.jumpOver_good
    | with_reducible apply State.done_good
    | with_reducible apply State.setPsm_good
    | with_reducible apply Good.ite
    | (extract_lets +onlyGivenNames l; clear_value l)
    | split)

theorem execPsmWaveJump_good {q : List Instr} (x0) (x1) (s : State) (h : Good q s) : GoodO q (execPsmWaveJump x0 x1 s) := by
  unfold execPsmWaveJump
  iterate 40 all_goals (try first
    | with_reducible assumption
    | intro _ _ _
    | with_reducible apply State.psmCmd_good
    | with_reducible apply State.waveJump_good
    | with_reducible apply State.done_good
    | split
    | (with_reducible refine Good.of_ok (by assumption) ?_))

theorem execPsmSineStart_good {q : List Instr} (x0) (x1) (s : State) (h : Good q s) : GoodO q (execPsmSineStart x0 x1 s) := by
  unfold execPsmSineStart
  iterate 40 all_goals (try first
    | with_reducible assumption
    | intro _ _ _
    | with_reducible apply State.psmCmd_good
    | with_reducible apply State.done_good
    | with_reducible apply State.timeStart_good
    | with_reducible apply Good.ite)

theorem execPsmSineStop_good {q : List Instr} (x0) (x1) (s : State) (h : Good q s) : GoodO q (execPsmSineStop x0 x1 s) := by
  unfold execPsmSineStop
  iterate 40 all_goals (try first
    | with_reducible assumption
    | intro _ _ _
    | with_reducible apply State.psmCmd_good
    | with_reducible apply State.setPsm_good
    | with_reducible apply State.done_good
    | with_reducible apply Good.ite)

theorem execPsmMeasure_good {q : List Instr} (x0) (x1) (s : State) (h : Good q s) : GoodO q (execPsmMeasure x0 x1 s) := by
  unfold execPsmMeasure
  iterate 40 all_goals (try first
    | with_reducible assumption
    | intro _ _ _
    | with_reducible apply State.psmCmd_good
    | with_reducible apply State.psmMeasStart_good
    | with_reducible apply State.done_good
    | split
    | (with_reducible refine Good.of_ok (by assumption) ?_))

theorem execPsmSnapArm_good {q : List Instr} (x0) (x1) (s : State) (h : Good q s) : GoodO q (execPsmSnapArm x0 x1 s) := by
  unfold execPsmSnapArm
  iterate 40 all_goals (try first
    | with_reducible assumption
    | intro _ _ _
    | with_reducible apply State.psmCmd_good
    | with_reducible apply State.done_good
    | with_reducible apply State.set_good
    | with_reducible apply State.setPsm_good
    | with_reducible apply Good.ite)

theorem execPsmSnapTrig_good {q : List Instr} (x0) (x1) (s : State) (h : Good q s) : GoodO q (execPsmSnapTrig x0 x1 s) := by
  unfold execPsmSnapTrig
  iterate 40 all_goals (try first
    | with_reducible assumption
    | intro _ _ _
    | with_reducible apply State.psmCmd_good
    | with_reducible apply State.done_good
    | with_reducible apply State.snapTrigger_good)

end Sys2Proof.Machine
end

