-- ==== Sys2Proof/Laws/KeepAeCore.lean ====
section
/-! SUPPORT. Every operation of Machine/AeCore.lean keeps the stores canonical and leaves the queue alone. -/

namespace Sys2Proof.Machine

theorem State.setAec_good {q : List Instr} (s : State) (x1) (x2) (h : Good q s) : Good q (State.setAec s x1 x2) := by
  unfold State.setAec
  iterate 40 all_goals (try first
    | with_reducible assumption
    | with_reducible apply Good.mk_of)

theorem State.aeApply_good {q : List Instr} (s : State) (x1) (x2) (h : Good q s) : Good q (State.aeApply s x1 x2) := by
  unfold State.aeApply
  iterate 40 all_goals (try first
    | with_reducible assumption
    | intro _ _ _
    | with_reducible apply State.setAec_good
    | with_reducible apply State.forEach_good
    | with_reducible apply State.wr_good
    | (extract_lets +onlyGivenNames l; clear_value l)
    | split)

theorem State.aeWrite_good {q : List Instr} (s : State) (x1) (x2) (x3) (h : Good q s) : Good q (State.aeWrite s x1 x2 x3) := by
  unfold State.aeWrite
  iterate 40 all_goals (try first
    | with_reducible assumption
    | with_reducible apply State.setAec_good)

theorem State.aeCommit_good {q : List Instr} (s : State) (x1) (h : Good q s) : Good q (State.aeCommit s x1) := by
  unfold State.aeCommit
  iterate 40 all_goals (try first
    | with_reducible assumption
    | intro _ _ _
    | with_reducible apply State.setAec_good
    | with_reducible apply State.forEach_good
    | with_reducible apply State.aeApply_good)

theorem State.aeDrain_good {q : List Instr} (s : State) (x1) (h : Good q s) : Good q (State.aeDrain s x1) := by
  unfold State.aeDrain
  iterate 40 all_goals (try first
    | with_reducible assumption
    | intro _ _ _
    | with_reducible apply State.forEach_good
    | with_reducible apply State.aeApply_good
    | with_reducible apply State.setAec_good)

theorem State.setAePc_good {q : List Instr} (s : State) (x1) (x2) (h : Good q s) : Good q (State.setAePc s x1 x2) := by
  unfold State.setAePc
  iterate 40 all_goals (try first
    | with_reducible assumption
    | with_reducible apply State.set_good)

theorem State.aeHalt_good {q : List Instr} (s : State) (x1) (h : Good q s) : Good q (State.aeHalt s x1) := by
  unfold State.aeHalt
  iterate 40 all_goals (try first
    | with_reducible assumption
    | (extract_lets +onlyGivenNames l; refine Good.cut (q := q) l ?_ (fun g => ?_); rotate_left; clear_value l; rotate_left; subst l)
    | with_reducible apply State.aeDrain_good
    | with_reducible apply State.setAec_good
    | with_reducible apply State.setB_good
    | with_reducible apply State.set_good)

theorem State.aeAnswer_good {q : List Instr} (s : State) (x1) (x2) (x3) (h : Good q s) : Good q (State.aeAnswer s x1 x2 x3) := by
  unfold State.aeAnswer
  iterate 40 all_goals (try first
    | with_reducible assumption
    | with_reducible apply State.answer_good)

theorem State.aeCallFail_good {q : List Instr} (s : State) (x1) (x2) (h : Good q s) : Good q (State.aeCallFail s x1 x2) := by
  unfold State.aeCallFail
  iterate 40 all_goals (try first
    | with_reducible assumption
    | with_reducible apply State.aeAnswer_good
    | with_reducible apply State.bumpBy_good
    | with_reducible apply State.set_good
    | with_reducible apply State.setAec_good
    | (extract_lets +onlyGivenNames l; clear_value l)
    | split)

theorem State.aeIllegal_good {q : List Instr} (s : State) (x1) (h : Good q s) : Good q (State.aeIllegal s x1) := by
  unfold State.aeIllegal
  iterate 40 all_goals (try first
    | with_reducible assumption
    | with_reducible apply State.aeCallFail_good
    | with_reducible apply State.raiseOnce_good
    | with_reducible apply State.aeHalt_good)

theorem State.aeMemCheck_good {q : List Instr} (s : State) (x1) (x2) (h : Good q s) : Good q (State.aeMemCheck s x1 x2) := by
  unfold State.aeMemCheck
  iterate 40 all_goals (try first
    | with_reducible assumption
    | with_reducible apply State.aeCallFail_good
    | with_reducible apply State.raiseOnce_good
    | with_reducible apply State.aeHalt_good)

theorem State.aeResetCore_good {q : List Instr} (s : State) (x1) (x2) (h : Good q s) : Good q (State.aeResetCore s x1 x2) := by
  unfold State.aeResetCore
  iterate 40 all_goals (try first
    | with_reducible assumption
    | with_reducible apply State.setAec_good
    | with_reducible apply State.aeCallFail_good
    | with_reducible apply State.aeHalt_good
    | with_reducible apply State.set_good
    | with_reducible apply State.setAePc_good)

theorem State.aeStart_good {q : List Instr} (s : State) (x1) (x2) (h : Good q s) : Good q (State.aeStart s x1 x2) := by
  unfold State.aeStart
  iterate 40 all_goals (try first
    | with_reducible assumption
    | with_reducible apply State.setAec_good
    | with_reducible apply State.wr64_good
    | with_reducible apply State.set_good
    | with_reducible apply State.setAePc_good)

theorem State.aeTick_good {q : List Instr} (s : State) (x1) (h : Good q s) : Good q (State.aeTick s x1) := by
  unfold State.aeTick
  iterate 40 all_goals (try first
    | with_reducible assumption
    | with_reducible apply State.wr64_good
    | with_reducible apply State.setAec_good)

theorem State.aeNext_good {q : List Instr} (s : State) (x1) (h : Good q s) : Good q (State.aeNext s x1) := by
  unfold State.aeNext
  iterate 40 all_goals (try first
    | with_reducible assumption
    | (extract_lets +onlyGivenNames l; refine Good.cut (q := q) l ?_ (fun g => ?_); rotate_left; clear_value l; rotate_left; subst l)
    | with_reducible apply State.aeTick_good
    | with_reducible apply State.setAePc_good
    | with_reducible apply State.set_good
    | with_reducible apply State.setAec_good
    | with_reducible apply State.aeCommit_good
    | with_reducible apply State.aeHalt_good
    | with_reducible apply Good.ite
    | (extract_lets +onlyGivenNames l; clear_value l)
    | split)

theorem State.aeIssue_good {q : List Instr} (s : State) (x1) (x2) (x3) (f4 : Nat → State → Option State) (h : Good q s) (hf4 : ∀ a t, Good q t → GoodP q (f4 a t)) : GoodO q (State.aeIssue s x1 x2 x3 f4) := by
  unfold State.aeIssue
  iterate 40 all_goals (try first
    | with_reducible assumption
    | with_reducible apply State.bumpBy_good
    | with_reducible apply State.aeMemCheck_good
    | with_reducible apply State.aeIllegal_good
    | with_reducible apply State.aeCommit_good
    | with_reducible apply GoodO.next
    | with_reducible apply hf4
    | with_reducible apply Good.ite
    | split
    | (with_reducible refine Good.of_some (by assumption) ?_))

theorem State.aeRow_good {q : List Instr} (s : State) (x1) (x2) (x3) (f4 : Nat → State → Option State) (h : Good q s) (hf4 : ∀ a t, Good q t → GoodP q (f4 a t)) : GoodO q (State.aeRow s x1 x2 x3 f4) := by
  unfold State.aeRow
  iterate 40 all_goals (try first
    | with_reducible assumption
    | intro _ _ _
    | intro _ _
    | with_reducible apply State.aeIssue_good
    | with_reducible apply State.aeNext_good
    | with_reducible apply hf4
    | with_reducible apply Good.ite
    | with_reducible apply GoodP.map)

theorem State.aeScalar_good {q : List Instr} (s : State) (x1) (x2) (x3) (x4) (h : Good q s) : GoodO q (State.aeScalar s x1 x2 x3 x4) := by
  unfold State.aeScalar
  iterate 40 all_goals (try first
    | with_reducible assumption
    | intro _ _ _
    | with_reducible apply State.aeRow_good
    | with_reducible apply State.aeWrite_good
    | with_reducible apply GoodP.some)

theorem execScalarAdd_good {q : List Instr} (x0) (x1) (s : State) (h : Good q s) : GoodO q (execScalarAdd x0 x1 s) := by
  unfold execScalarAdd
  iterate 40 all_goals (try first
    | with_reducible assumption
    | with_reducible apply State.aeScalar_good)

theorem execScalarSub_good {q : List Instr} (x0) (x1) (s : State) (h : Good q s) : GoodO q (execScalarSub x0 x1 s) := by
  unfold execScalarSub
  iterate 40 all_goals (try first
    | with_reducible assumption
    | with_reducible apply State.aeScalar_good)

theorem execScalarAnd_good {q : List Instr} (x0) (x1) (s : State) (h : Good q s) : GoodO q (execScalarAnd x0 x1 s) := by
  unfold execScalarAnd
  iterate 40 all_goals (try first
    | with_reducible assumption
    | with_reducible apply State.aeScalar_good)

theorem execScalarOr_good {q : List Instr} (x0) (x1) (s : State) (h : Good q s) : GoodO q (execScalarOr x0 x1 s) := by
  unfold execScalarOr
  iterate 40 all_goals (try first
    | with_reducible assumption
    | with_reducible apply State.aeScalar_good)

theorem execScalarXor_good {q : List Instr} (x0) (x1) (s : State) (h : Good q s) : GoodO q (execScalarXor x0 x1 s) := by
  unfold execScalarXor
  iterate 40 all_goals (try first
    | with_reducible assumption
    | with_reducible apply State.aeScalar_good)

theorem execScalarShl_good {q : List Instr} (x0) (x1) (s : State) (h : Good q s) : GoodO q (execScalarShl x0 x1 s) := by
  unfold execScalarShl
  iterate 40 all_goals (try first
    | with_reducible assumption
    | with_reducible apply State.aeScalar_good)

theorem execScalarShr_good {q : List Instr} (x0) (x1) (s : State) (h : Good q s) : GoodO q (execScalarShr x0 x1 s) := by
  unfold execScalarShr
  iterate 40 all_goals (try first
    | with_reducible assumption
    | with_reducible apply State.aeScalar_good)

theorem execScalarSar_good {q : List Instr} (x0) (x1) (s : State) (h : Good q s) : GoodO q (execScalarSar x0 x1 s) := by
  unfold execScalarSar
  iterate 40 all_goals (try first
    | with_reducible assumption
    | with_reducible apply State.aeScalar_good)

theorem execScalarMul_good {q : List Instr} (x0) (x1) (s : State) (h : Good q s) : GoodO q (execScalarMul x0 x1 s) := by
  unfold execScalarMul
  iterate 40 all_goals (try first
    | with_reducible assumption
    | with_reducible apply State.aeScalar_good)

theorem execScalarSeq_good {q : List Instr} (x0) (x1) (s : State) (h : Good q s) : GoodO q (execScalarSeq x0 x1 s) := by
  unfold execScalarSeq
  iterate 40 all_goals (try first
    | with_reducible assumption
    | with_reducible apply State.aeScalar_good)

theorem execScalarSlt_good {q : List Instr} (x0) (x1) (s : State) (h : Good q s) : GoodO q (execScalarSlt x0 x1 s) := by
  unfold execScalarSlt
  iterate 40 all_goals (try first
    | with_reducible assumption
    | with_reducible apply State.aeScalar_good)

theorem execScalarSltu_good {q : List Instr} (x0) (x1) (s : State) (h : Good q s) : GoodO q (execScalarSltu x0 x1 s) := by
  unfold execScalarSltu
  iterate 40 all_goals (try first
    | with_reducible assumption
    | with_reducible apply State.aeScalar_good)

theorem execScalarLi_good {q : List Instr} (x0) (x1) (s : State) (h : Good q s) : GoodO q (execScalarLi x0 x1 s) := by
  unfold execScalarLi
  iterate 40 all_goals (try first
    | with_reducible assumption
    | with_reducible apply State.aeScalar_good)

theorem execScalarNop_good {q : List Instr} (x0) (x1) (s : State) (h : Good q s) : GoodO q (execScalarNop x0 x1 s) := by
  unfold execScalarNop
  iterate 40 all_goals (try first
    | with_reducible assumption
    | intro _ _ _
    | with_reducible apply State.aeRow_good
    | with_reducible apply GoodP.some)

theorem State.aeFlags_good {q : List Instr} (s : State) (x1) (x2) (x3) (h : Good q s) : Good q (State.aeFlags s x1 x2 x3) := by
  unfold State.aeFlags
  iterate 40 all_goals (try first
    | with_reducible assumption
    | with_reducible apply State.aeWrite_good
    | with_reducible apply Good.ite)

theorem State.aeValu_good {q : List Instr} (s : State) (x1) (x2) (x3) (x4) (h : Good q s) : GoodO q (State.aeValu s x1 x2 x3 x4) := by
  unfold State.aeValu
  iterate 40 all_goals (try first
    | with_reducible assumption
    | intro _ _ _
    | with_reducible apply State.aeRow_good
    | with_reducible apply State.aeFlags_good
    | with_reducible apply State.aeWrite_good
    | with_reducible apply GoodP.some)

theorem execValuAdd_good {q : List Instr} (x0) (x1) (s : State) (h : Good q s) : GoodO q (execValuAdd x0 x1 s) := by
  unfold execValuAdd
  iterate 40 all_goals (try first
    | with_reducible assumption
    | with_reducible apply State.aeValu_good)

theorem execValuSub_good {q : List Instr} (x0) (x1) (s : State) (h : Good q s) : GoodO q (execValuSub x0 x1 s) := by
  unfold execValuSub
  iterate 40 all_goals (try first
    | with_reducible assumption
    | with_reducible apply State.aeValu_good)

theorem execValuNeg_good {q : List Instr} (x0) (x1) (s : State) (h : Good q s) : GoodO q (execValuNeg x0 x1 s) := by
  unfold execValuNeg
  iterate 40 all_goals (try first
    | with_reducible assumption
    | with_reducible apply State.aeValu_good)

theorem execValuAbs_good {q : List Instr} (x0) (x1) (s : State) (h : Good q s) : GoodO q (execValuAbs x0 x1 s) := by
  unfold execValuAbs
  iterate 40 all_goals (try first
    | with_reducible assumption
    | with_reducible apply State.aeValu_good)

theorem execValuMin_good {q : List Instr} (x0) (x1) (s : State) (h : Good q s) : GoodO q (execValuMin x0 x1 s) := by
  unfold execValuMin
  iterate 40 all_goals (try first
    | with_reducible assumption
    | with_reducible apply State.aeValu_good)

theorem execValuMax_good {q : List Instr} (x0) (x1) (s : State) (h : Good q s) : GoodO q (execValuMax x0 x1 s) := by
  unfold execValuMax
  iterate 40 all_goals (try first
    | with_reducible assumption
    | with_reducible apply State.aeValu_good)

theorem execValuAnd_good {q : List Instr} (x0) (x1) (s : State) (h : Good q s) : GoodO q (execValuAnd x0 x1 s) := by
  unfold execValuAnd
  iterate 40 all_goals (try first
    | with_reducible assumption
    | with_reducible apply State.aeValu_good)

theorem execValuOr_good {q : List Instr} (x0) (x1) (s : State) (h : Good q s) : GoodO q (execValuOr x0 x1 s) := by
  unfold execValuOr
  iterate 40 all_goals (try first
    | with_reducible assumption
    | with_reducible apply State.aeValu_good)

theorem execValuXor_good {q : List Instr} (x0) (x1) (s : State) (h : Good q s) : GoodO q (execValuXor x0 x1 s) := by
  unfold execValuXor
  iterate 40 all_goals (try first
    | with_reducible assumption
    | with_reducible apply State.aeValu_good)

theorem execValuNot_good {q : List Instr} (x0) (x1) (s : State) (h : Good q s) : GoodO q (execValuNot x0 x1 s) := by
  unfold execValuNot
  iterate 40 all_goals (try first
    | with_reducible assumption
    | with_reducible apply State.aeValu_good)

theorem execValuSar_good {q : List Instr} (x0) (x1) (s : State) (h : Good q s) : GoodO q (execValuSar x0 x1 s) := by
  unfold execValuSar
  iterate 40 all_goals (try first
    | with_reducible assumption
    | with_reducible apply State.aeValu_good)

theorem execValuShl_good {q : List Instr} (x0) (x1) (s : State) (h : Good q s) : GoodO q (execValuShl x0 x1 s) := by
  unfold execValuShl
  iterate 40 all_goals (try first
    | with_reducible assumption
    | with_reducible apply State.aeValu_good)

theorem execValuCmpeq_good {q : List Instr} (x0) (x1) (s : State) (h : Good q s) : GoodO q (execValuCmpeq x0 x1 s) := by
  unfold execValuCmpeq
  iterate 40 all_goals (try first
    | with_reducible assumption
    | with_reducible apply State.aeValu_good)

theorem execValuCmplt_good {q : List Instr} (x0) (x1) (s : State) (h : Good q s) : GoodO q (execValuCmplt x0 x1 s) := by
  unfold execValuCmplt
  iterate 40 all_goals (try first
    | with_reducible assumption
    | with_reducible apply State.aeValu_good)

theorem execValuSel_good {q : List Instr} (x0) (x1) (s : State) (h : Good q s) : GoodO q (execValuSel x0 x1 s) := by
  unfold execValuSel
  iterate 40 all_goals (try first
    | with_reducible assumption
    | with_reducible apply State.aeValu_good)

theorem State.aePost_good {q : List Instr} (s : State) (x1) (x2) (x3) (h : Good q s) : GoodP q (State.aePost s x1 x2 x3) := by
  unfold State.aePost
  iterate 40 all_goals (try first
    | with_reducible assumption
    | with_reducible apply State.aeWrite_good
    | with_reducible exact GoodP.none
    | with_reducible apply GoodP.some
    | with_reducible apply GoodP.ite
    | split)

theorem State.aeVmac_good {q : List Instr} (s : State) (x1) (x2) (x3) (x4) (h : Good q s) : GoodO q (State.aeVmac s x1 x2 x3 x4) := by
  unfold State.aeVmac
  iterate 40 all_goals (try first
    | with_reducible assumption
    | intro _ _ _
    | intro _ _
    | with_reducible apply State.aeRow_good
    | with_reducible apply State.aeFlags_good
    | with_reducible apply State.aeWrite_good
    | with_reducible apply State.setAec_good
    | with_reducible apply State.aeMemCheck_good
    | with_reducible apply State.aePost_good
    | with_reducible exact GoodP.none
    | with_reducible apply GoodP.some
    | with_reducible apply GoodP.ite
    | with_reducible apply GoodP.map)

theorem execVmacMul_good {q : List Instr} (x0) (x1) (s : State) (h : Good q s) : GoodO q (execVmacMul x0 x1 s) := by
  unfold execVmacMul
  iterate 40 all_goals (try first
    | with_reducible assumption
    | with_reducible apply State.aeVmac_good)

theorem execMac_good {q : List Instr} (x0) (x1) (s : State) (h : Good q s) : GoodO q (execMac x0 x1 s) := by
  unfold execMac
  iterate 40 all_goals (try first
    | with_reducible assumption
    | with_reducible apply State.aeVmac_good)

theorem execMsu_good {q : List Instr} (x0) (x1) (s : State) (h : Good q s) : GoodO q (execMsu x0 x1 s) := by
  unfold execMsu
  iterate 40 all_goals (try first
    | with_reducible assumption
    | with_reducible apply State.aeVmac_good)

theorem State.aeLdst_good {q : List Instr} (s : State) (x1) (x2) (x3) (x4) (x5) (x6) (f7 : Nat → Nat → State → State) (h : Good q s) (hf7 : ∀ a b t, Good q t → Good q (f7 a b t)) : GoodO q (State.aeLdst s x1 x2 x3 x4 x5 x6 f7) := by
  unfold State.aeLdst
  iterate 40 all_goals (try first
    | with_reducible assumption
    | intro _ _ _
    | intro _ _
    | with_reducible apply State.aeRow_good
    | with_reducible apply State.aeMemCheck_good
    | with_reducible apply State.aePost_good
    | with_reducible exact GoodP.none
    | with_reducible apply GoodP.some
    | with_reducible apply hf7
    | with_reducible apply GoodP.ite
    | with_reducible apply GoodP.map)

theorem execVld_good {q : List Instr} (x0) (x1) (s : State) (h : Good q s) : GoodO q (execVld x0 x1 s) := by
  unfold execVld
  iterate 40 all_goals (try first
    | with_reducible assumption
    | intro _ _ _ _
    | with_reducible apply State.aeLdst_good
    | with_reducible apply State.aeWrite_good)

theorem execVst_good {q : List Instr} (x0) (x1) (s : State) (h : Good q s) : GoodO q (execVst x0 x1 s) := by
  unfold execVst
  iterate 40 all_goals (try first
    | with_reducible assumption
    | intro _ _ _ _
    | with_reducible apply State.aeLdst_good
    | with_reducible apply State.aeWrite_good)

theorem execWld_good {q : List Instr} (x0) (x1) (s : State) (h : Good q s) : GoodO q (execWld x0 x1 s) := by
  unfold execWld
  iterate 40 all_goals (try first
    | with_reducible assumption
    | intro _ _ _ _
    | with_reducible apply State.aeLdst_good
    | with_reducible apply State.aeWrite_good)

theorem execWst_good {q : List Instr} (x0) (x1) (s : State) (h : Good q s) : GoodO q (execWst x0 x1 s) := by
  unfold execWst
  iterate 40 all_goals (try first
    | with_reducible assumption
    | intro _ _ _ _
    | with_reducible apply State.aeLdst_good
    | with_reducible apply State.aeWrite_good)

theorem execSld_good {q : List Instr} (x0) (x1) (s : State) (h : Good q s) : GoodO q (execSld x0 x1 s) := by
  unfold execSld
  iterate 40 all_goals (try first
    | with_reducible assumption
    | intro _ _ _ _
    | with_reducible apply State.aeLdst_good
    | with_reducible apply State.aeWrite_good)

theorem execSst_good {q : List Instr} (x0) (x1) (s : State) (h : Good q s) : GoodO q (execSst x0 x1 s) := by
  unfold execSst
  iterate 40 all_goals (try first
    | with_reducible assumption
    | intro _ _ _ _
    | with_reducible apply State.aeLdst_good
    | with_reducible apply State.aeWrite_good)

theorem execSta_good {q : List Instr} (x0) (x1) (s : State) (h : Good q s) : GoodO q (execSta x0 x1 s) := by
  unfold execSta
  iterate 40 all_goals (try first
    | with_reducible assumption
    | intro _ _ _ _
    | with_reducible apply State.aeLdst_good
    | with_reducible apply State.aeFlags_good
    | with_reducible apply State.aeWrite_good)

theorem execMov_good {q : List Instr} (x0) (x1) (s : State) (h : Good q s) : GoodO q (execMov x0 x1 s) := by
  unfold execMov
  iterate 40 all_goals (try first
    | with_reducible assumption
    | intro _ _ _
    | with_reducible apply State.aeRow_good
    | with_reducible apply State.forEach_good
    | with_reducible apply State.aeWrite_good
    | with_reducible apply GoodP.some)

theorem execLanex_good {q : List Instr} (x0) (x1) (s : State) (h : Good q s) : GoodO q (execLanex x0 x1 s) := by
  unfold execLanex
  iterate 40 all_goals (try first
    | with_reducible assumption
    | intro _ _ _
    | with_reducible apply State.aeRow_good
    | with_reducible apply State.aeWrite_good
    | with_reducible apply GoodP.some)

theorem execBcast_good {q : List Instr} (x0) (x1) (s : State) (h : Good q s) : GoodO q (execBcast x0 x1 s) := by
  unfold execBcast
  iterate 40 all_goals (try first
    | with_reducible assumption
    | intro _ _ _
    | with_reducible apply State.aeRow_good
    | with_reducible apply State.aeWrite_good
    | with_reducible apply GoodP.some)

theorem State.aeBranch_good {q : List Instr} (s : State) (x1) (x2) (h : Good q s) : Good q (State.aeBranch s x1 x2) := by
  unfold State.aeBranch
  iterate 40 all_goals (try first
    | with_reducible assumption
    | with_reducible apply State.setAec_good)

theorem execBr_good {q : List Instr} (x0) (x1) (s : State) (h : Good q s) : GoodO q (execBr x0 x1 s) := by
  unfold execBr
  iterate 40 all_goals (try first
    | with_reducible assumption
    | intro _ _ _
    | with_reducible apply State.aeRow_good
    | with_reducible apply State.aeBranch_good
    | with_reducible apply GoodP.some)

theorem State.aeFall_good {q : List Instr} (s : State) (x1) (h : Good q s) : Good q (State.aeFall s x1) := by
  unfold State.aeFall
  iterate 40 all_goals (try first
    | with_reducible assumption
    | with_reducible apply State.aeBranch_good)

theorem execBrc_good {q : List Instr} (x0) (x1) (s : State) (h : Good q s) : GoodO q (execBrc x0 x1 s) := by
  unfold execBrc
  iterate 40 all_goals (try first
    | with_reducible assumption
    | intro _ _ _
    | with_reducible apply State.aeRow_good
    | with_reducible apply State.aeBranch_good
    | with_reducible apply State.aeFall_good
    | with_reducible apply GoodP.some
    | with_reducible apply Good.ite)

theorem execCall_good {q : List Instr} (x0) (x1) (s : State) (h : Good q s) : GoodO q (execCall x0 x1 s) := by
  unfold execCall
  iterate 40 all_goals (try first
    | with_reducible assumption
    | intro _ _ _
    | with_reducible apply State.aeRow_good
    | with_reducible apply State.aeBranch_good
    | with_reducible apply State.aeWrite_good
    | with_reducible apply GoodP.some)

theorem execRet_good {q : List Instr} (x0) (x1) (s : State) (h : Good q s) : GoodO q (execRet x0 x1 s) := by
  unfold execRet
  iterate 40 all_goals (try first
    | with_reducible assumption
    | intro _ _ _
    | with_reducible apply State.aeRow_good
    | with_reducible apply State.aeBranch_good
    | with_reducible apply GoodP.some)

theorem execRti_good {q : List Instr} (x0) (x1) (s : State) (h : Good q s) : GoodO q (execRti x0 x1 s) := by
  unfold execRti
  iterate 40 all_goals (try first
    | with_reducible assumption
    | intro _ _ _
    | with_reducible apply State.aeRow_good
    | with_reducible apply State.aeBranch_good
    | with_reducible apply GoodP.some)

theorem execDjnz_good {q : List Instr} (x0) (x1) (s : State) (h : Good q s) : GoodO q (execDjnz x0 x1 s) := by
  unfold execDjnz
  iterate 40 all_goals (try first
    | with_reducible assumption
    | intro _ _ _
    | (extract_lets +onlyGivenNames l; refine Good.cut (q := q) l ?_ (fun g => ?_); rotate_left; clear_value l; rotate_left; subst l)
    | with_reducible apply State.aeRow_good
    | with_reducible apply State.aeFall_good
    | with_reducible apply State.aeWrite_good
    | with_reducible apply State.aeBranch_good
    | with_reducible apply GoodP.some
    | with_reducible apply Good.ite
    | with_reducible apply GoodP.ite)

theorem State.aePend_good {q : List Instr} (s : State) (x1) (x2) (h : Good q s) : Good q (State.aePend s x1 x2) := by
  unfold State.aePend
  iterate 40 all_goals (try first
    | with_reducible assumption
    | with_reducible apply State.set_good)

theorem execSwi_good {q : List Instr} (x0) (x1) (s : State) (h : Good q s) : GoodO q (execSwi x0 x1 s) := by
  unfold execSwi
  iterate 40 all_goals (try first
    | with_reducible assumption
    | intro _ _ _
    | with_reducible apply State.aeRow_good
    | with_reducible apply State.aePend_good
    | with_reducible apply GoodP.some)

theorem execWaitdma_good {q : List Instr} (x0) (x1) (s : State) (h : Good q s) : GoodO q (execWaitdma x0 x1 s) := by
  unfold execWaitdma
  iterate 40 all_goals (try first
    | with_reducible assumption
    | intro _ _ _
    | with_reducible apply State.aeIssue_good
    | with_reducible apply State.aeNext_good
    | with_reducible apply State.setAec_good
    | with_reducible apply GoodP.some
    | (extract_lets +onlyGivenNames l; clear_value l)
    | split)

theorem execHalt_good {q : List Instr} (x0) (x1) (s : State) (h : Good q s) : GoodO q (execHalt x0 x1 s) := by
  unfold execHalt
  iterate 40 all_goals (try first
    | with_reducible assumption
    | intro _ _ _
    | with_reducible apply State.aeRow_good
    | with_reducible apply State.setAePc_good
    | with_reducible apply State.aeHalt_good
    | with_reducible apply State.aeTick_good
    | with_reducible apply GoodP.some)

theorem execRep_good {q : List Instr} (x0) (x1) (s : State) (h : Good q s) : GoodO q (execRep x0 x1 s) := by
  unfold execRep
  iterate 40 all_goals (try first
    | with_reducible assumption
    | intro _ _ _
    | (extract_lets +onlyGivenNames l; refine Good.cut (q := q) l ?_ (fun g => ?_); rotate_left; clear_value l; rotate_left; subst l)
    | with_reducible apply State.aeIssue_good
    | with_reducible apply State.aeNext_good
    | with_reducible apply State.setAePc_good
    | with_reducible apply State.set_good
    | with_reducible apply State.setAec_good
    | with_reducible exact GoodP.none
    | with_reducible apply GoodP.some
    | with_reducible apply Good.ite
    | with_reducible apply GoodP.ite)

theorem execDmaStart_good {q : List Instr} (x0) (x1) (s : State) (h : Good q s) : GoodO q (execDmaStart x0 x1 s) := by
  unfold execDmaStart
  iterate 40 all_goals (try first
    | with_reducible assumption
    | intro _ _ _
    | with_reducible apply State.aeRow_good
    | with_reducible apply State.aePend_good
    | with_reducible apply State.raiseOnce_good
    | with_reducible apply State.setAec_good
    | with_reducible exact GoodP.none
    | with_reducible apply GoodP.some
    | with_reducible apply GoodP.ite)

theorem State.dmaBursts_good {q : List Instr} (s : State) (x1) (x2) (x3) (h : Good q s) : Good q (State.dmaBursts s x1 x2 x3).1 := by
  induction x3 generalizing s x1 x2 with
  | zero =>
    unfold State.dmaBursts
    iterate 40 all_goals (try first
      | with_reducible assumption)
  | succ n ih =>
    unfold State.dmaBursts
    iterate 40 all_goals (try first
      | with_reducible assumption
      | intro _ _ _
      | (extract_lets +onlyGivenNames l; refine Good.cut (q := q) l ?_ (fun g => ?_); rotate_left; clear_value l; rotate_left; subst l)
      | with_reducible apply ih
      | with_reducible apply State.forEach_good
      | with_reducible apply State.wr_good
      | with_reducible apply State.putDramList_good
      | with_reducible apply Good.ite
      | (extract_lets +onlyGivenNames l; clear_value l)
      | split)

theorem execAeDmaEnd_good {q : List Instr} (x0) (x1) (s : State) (h : Good q s) : GoodO q (execAeDmaEnd x0 x1 s) := by
  unfold execAeDmaEnd
  iterate 40 all_goals (try first
    | with_reducible assumption
    | with_reducible apply State.dmaBursts_good
    | with_reducible apply State.set_good
    | with_reducible apply State.aePend_good
    | with_reducible apply State.setAec_good
    | with_reducible apply GoodO.next
    | with_reducible apply Good.ite
    | (extract_lets +onlyGivenNames l; clear_value l)
    | split)

theorem execAeInterrupt_good {q : List Instr} (x0) (s : State) (h : Good q s) : GoodO q (execAeInterrupt x0 s) := by
  unfold execAeInterrupt
  iterate 40 all_goals (try first
    | with_reducible assumption
    | (extract_lets +onlyGivenNames l; refine Good.cut (q := q) l ?_ (fun g => ?_); rotate_left; clear_value l; rotate_left; subst l)
    | with_reducible apply State.aeDrain_good
    | with_reducible apply State.setAePc_good
    | with_reducible apply State.setAec_good
    | with_reducible apply GoodO.next
    | with_reducible apply Good.ite
    | (extract_lets +onlyGivenNames l; clear_value l)
    | split)

end Sys2Proof.Machine
end

