-- ==== Sys2Proof/Laws/KeepAeMath.lean ====
section
/-! SUPPORT. Every operation of Machine/AeMath.lean keeps the stores canonical and leaves the queue alone. -/

namespace Sys2Proof.Machine

theorem State.drawWords_good {q : List Instr} (s : State) (x1) (h : Good q s) : Good q (State.drawWords s x1).2 := by
  induction x1 generalizing s with
  | zero =>
    unfold State.drawWords
    iterate 40 all_goals (try first
      | with_reducible assumption)
  | succ n ih =>
    unfold State.drawWords
    iterate 40 all_goals (try first
      | with_reducible assumption
      | with_reducible apply ih
      | with_reducible apply State.drawWord_good)

theorem State.rounds_good {q : List Instr} (s : State) (x1) (x2) (h : Good q s) : Good q (State.rounds s x1 x2).2 := by
  unfold State.rounds
  iterate 40 all_goals (try first
    | with_reducible assumption
    | with_reducible apply State.drawBool_good
    | split)

theorem State.meanOf_good {q : List Instr} (s : State) (x1) (x2) (h : Good q s) : Good q (State.meanOf s x1 x2).2 := by
  unfold State.meanOf
  iterate 40 all_goals (try first
    | with_reducible assumption
    | with_reducible apply State.drawWords_good
    | with_reducible apply State.rounds_good
    | (extract_lets +onlyGivenNames l; clear_value l)
    | split)

theorem State.deviationOf_good {q : List Instr} (s : State) (x1) (x2) (h : Good q s) : Good q (State.deviationOf s x1 x2).2 := by
  unfold State.deviationOf
  iterate 40 all_goals (try first
    | with_reducible assumption
    | with_reducible apply State.drawWords_good
    | with_reducible apply State.rounds_good
    | (extract_lets +onlyGivenNames l; clear_value l)
    | split)

theorem State.dbOf_good {q : List Instr} (s : State) (x1) (x2) (h : Good q s) : Good q (State.dbOf s x1 x2).2 := by
  unfold State.dbOf
  iterate 40 all_goals (try first
    | with_reducible assumption
    | with_reducible apply State.drawWord_good
    | with_reducible apply State.rounds_good
    | split)

theorem State.dbsOf_good {q : List Instr} (s : State) (x1) (h : Good q s) : Good q (State.dbsOf s x1).2 := by
  induction x1 generalizing s with
  | nil =>
    unfold State.dbsOf
    iterate 40 all_goals (try first
      | with_reducible assumption)
  | cons a l ih =>
    unfold State.dbsOf
    iterate 40 all_goals (try first
      | with_reducible assumption
      | with_reducible apply ih
      | with_reducible apply State.dbOf_good)

theorem State.dynamicOf_good {q : List Instr} (s : State) (x1) (x2) (x3) (x4) (x5) (h : Good q s) : Good q (State.dynamicOf s x1 x2 x3 x4 x5).2 := by
  unfold State.dynamicOf
  iterate 40 all_goals (try first
    | with_reducible assumption
    | with_reducible apply State.dbsOf_good
    | with_reducible apply State.drawWord_good
    | with_reducible apply State.rounds_good
    | split)

end Sys2Proof.Machine
end

