-- ==== Sys2Proof/Laws/KeepAeCall.lean ====
section
/-! SUPPORT. Every operation of Machine/AeCall.lean keeps the stores canonical and leaves the queue alone. -/

namespace Sys2Proof.Machine

theorem State.aeNone_good {q : List Instr} (s : State) (x1) (h : Good q s) : Good q (State.aeNone s x1) := by
  unfold State.aeNone
  iterate 40 all_goals (try first
    | with_reducible assumption
    | intro _ _ _
    | with_reducible apply State.untest_good
    | with_reducible apply State.forEach_good
    | with_reducible apply State.markSites_good)

theorem State.aeNoCore_good {q : List Instr} (s : State) (x1) (h : Good q s) : Good q (State.aeNoCore s x1) := by
  unfold State.aeNoCore
  iterate 40 all_goals (try first
    | with_reducible assumption
    | with_reducible apply State.aeAnswer_good
    | with_reducible apply State.aeNone_good)

theorem State.aeSettle_good {q : List Instr} (s : State) (h : Good q s) : Good q (State.aeSettle s) := by
  unfold State.aeSettle
  iterate 40 all_goals (try first
    | with_reducible assumption
    | intro _ _ _
    | with_reducible apply State.forEach_good
    | with_reducible apply State.aeAnswer_good
    | with_reducible apply State.aeNoCore_good
    | with_reducible apply Good.ite
    | with_reducible apply Good.mk_of)

theorem State.aeSubmit_good {q : List Instr} (s : State) (x1) (h : Good q s) : Good q (State.aeSubmit s x1) := by
  unfold State.aeSubmit
  iterate 40 all_goals (try first
    | with_reducible assumption
    | with_reducible apply State.aeAnswer_good
    | with_reducible apply State.aeNoCore_good
    | with_reducible apply Good.ite
    | (extract_lets +onlyGivenNames l; clear_value l)
    | split
    | with_reducible apply Good.mk_of)

theorem execAeCall_good {q : List Instr} (x0) (x1) (s : State) (h : Good q s) : GoodO q (execAeCall x0 x1 s) := by
  unfold execAeCall
  iterate 40 all_goals (try first
    | with_reducible assumption
    | intro _ _
    | with_reducible apply State.cmd_good
    | with_reducible apply State.done_good
    | with_reducible apply State.aeSubmit_good
    | with_reducible apply GoodO.next
    | with_reducible apply Good.ite)

theorem execAeCallDispatch_good {q : List Instr} (s : State) (h : Good q s) : GoodO q (execAeCallDispatch s) := by
  unfold execAeCallDispatch
  iterate 40 all_goals (try first
    | with_reducible assumption
    | intro _ _ _
    | (extract_lets +onlyGivenNames l; refine Good.cut (q := q) l ?_ (fun g => ?_); rotate_left; clear_value l; rotate_left; subst l)
    | with_reducible apply State.forEach_good
    | with_reducible apply State.wr_good
    | with_reducible apply State.drawWord_good
    | with_reducible apply State.set_good
    | with_reducible apply State.setAec_good
    | with_reducible apply State.aePend_good
    | with_reducible apply GoodO.next
    | with_reducible apply Good.ite
    | split
    | with_reducible apply Good.mk_of)

theorem writeAeCtl_good {q : List Instr} (x0) (x1) (s : State) (h : Good q s) : GoodR q (writeAeCtl x0 x1 s) := by
  unfold writeAeCtl
  iterate 40 all_goals (try first
    | with_reducible assumption
    | (extract_lets +onlyGivenNames l; refine Good.cut (q := q) l ?_ (fun g => ?_); rotate_left; clear_value l; rotate_left; subst l)
    | with_reducible apply State.store_good
    | with_reducible apply State.aeResetCore_good
    | with_reducible apply State.aeStart_good
    | with_reducible apply State.aeSettle_good
    | with_reducible apply State.aeHalt_good
    | with_reducible apply State.setAec_good
    | with_reducible exact GoodR.error
    | with_reducible apply GoodR.ok
    | with_reducible apply Good.ite
    | with_reducible apply GoodR.ite)

theorem execAeRun_good {q : List Instr} (x0) (x1) (x2) (s : State) (h : Good q s) : GoodO q (execAeRun x0 x1 x2 s) := by
  unfold execAeRun
  iterate 40 all_goals (try first
    | with_reducible assumption
    | intro _ _
    | with_reducible apply State.respond_good
    | with_reducible apply State.guarded_good
    | with_reducible apply writeAeCtl_good
    | with_reducible apply GoodO.next)

theorem execHaltReq_good {q : List Instr} (x0) (x1) (s : State) (h : Good q s) : GoodO q (execHaltReq x0 x1 s) := by
  unfold execHaltReq
  iterate 40 all_goals (try first
    | with_reducible assumption
    | intro _ _
    | with_reducible apply State.respond_good
    | with_reducible apply State.guarded_good
    | with_reducible apply writeAeCtl_good
    | with_reducible apply GoodO.next)

theorem execAeReset_good {q : List Instr} (x0) (x1) (s : State) (h : Good q s) : GoodO q (execAeReset x0 x1 s) := by
  unfold execAeReset
  iterate 40 all_goals (try first
    | with_reducible assumption
    | intro _ _
    | with_reducible apply State.respond_good
    | with_reducible apply State.guarded_good
    | with_reducible apply writeAeCtl_good
    | with_reducible apply GoodO.next)

theorem writeAeDoorbell_good {q : List Instr} (x0) (x1) (s : State) (h : Good q s) : GoodR q (writeAeDoorbell x0 x1 s) := by
  unfold writeAeDoorbell
  iterate 40 all_goals (try first
    | with_reducible assumption
    | with_reducible apply State.aePend_good
    | with_reducible apply GoodR.ok
    | with_reducible apply Good.ite)

theorem execAeDoorbell_good {q : List Instr} (x0) (x1) (x2) (s : State) (h : Good q s) : GoodO q (execAeDoorbell x0 x1 x2 s) := by
  unfold execAeDoorbell
  iterate 40 all_goals (try first
    | with_reducible assumption
    | intro _ _
    | with_reducible apply State.respond_good
    | with_reducible apply State.guarded_good
    | with_reducible apply writeAeDoorbell_good
    | with_reducible apply GoodO.next)

theorem State.aeStats_good {q : List Instr} (s : State) (x1) (h : Good q s) : Good q (State.aeStats s x1).2 := by
  unfold State.aeStats
  iterate 40 all_goals (try first
    | with_reducible assumption
    | with_reducible apply State.meanOf_good
    | with_reducible apply State.deviationOf_good
    | with_reducible apply State.drawWords_good)

theorem State.aeHistogram_good {q : List Instr} (s : State) (x1) (h : Good q s) : Good q (State.aeHistogram s x1).2 := by
  unfold State.aeHistogram
  iterate 40 all_goals (try first
    | with_reducible assumption
    | with_reducible apply State.meanOf_good
    | with_reducible apply State.deviationOf_good
    | with_reducible apply State.drawWords_good
    | with_reducible apply State.putDramList_good
    | with_reducible apply Good.ite)

theorem State.aeSite_good {q : List Instr} (s : State) (x1) (x2) (h : Good q s) : Good q (State.aeSite s x1 x2).2.2 := by
  unfold State.aeSite
  iterate 40 all_goals (try first
    | with_reducible assumption
    | with_reducible apply State.meanOf_good)

theorem State.aeReduce_good {q : List Instr} (s : State) (x1) (x2) (h : Good q s) : Good q (State.aeReduce s x1 x2).1 := by
  induction x2 generalizing s x1 with
  | zero =>
    unfold State.aeReduce
    iterate 40 all_goals (try first
      | with_reducible assumption)
  | succ n ih =>
    unfold State.aeReduce
    iterate 40 all_goals (try first
      | with_reducible assumption
      | with_reducible apply ih
      | with_reducible apply State.aeSite_good
      | with_reducible apply State.putDramList_good
      | with_reducible apply Good.ite)

theorem State.aeSpectrum_good {q : List Instr} (s : State) (x1) (h : Good q s) : Good q (State.aeSpectrum s x1).2 := by
  unfold State.aeSpectrum
  iterate 40 all_goals (try first
    | with_reducible assumption
    | with_reducible apply State.drawWord_good
    | with_reducible apply State.dbsOf_good
    | with_reducible apply State.putDramList_good
    | with_reducible apply Good.ite)

theorem State.aeDynamic_good {q : List Instr} (s : State) (x1) (h : Good q s) : Good q (State.aeDynamic s x1).2 := by
  unfold State.aeDynamic
  iterate 40 all_goals (try first
    | with_reducible assumption
    | with_reducible apply State.dynamicOf_good)

theorem State.aeResults_good {q : List Instr} (s : State) (x1) (h : Good q s) : Good q (State.aeResults s x1).2.2 := by
  unfold State.aeResults
  iterate 40 all_goals (try first
    | with_reducible assumption
    | with_reducible apply State.aeStats_good
    | with_reducible apply State.aeSpectrum_good
    | with_reducible apply State.aeDynamic_good
    | with_reducible apply State.aeHistogram_good
    | with_reducible apply State.aeReduce_good
    | split)

theorem State.aePut_good {q : List Instr} (s : State) (x1) (x2) (x3) (x4) (h : Good q s) : Good q (State.aePut s x1 x2 x3 x4) := by
  unfold State.aePut
  iterate 40 all_goals (try first
    | with_reducible assumption
    | with_reducible apply State.putSlot_good
    | with_reducible apply State.setRun_good
    | with_reducible apply Good.ite
    | split)

theorem State.aeSlots_good {q : List Instr} (s : State) (x1) (x2) (x3) (h : Good q s) : Good q (State.aeSlots s x1 x2 x3) := by
  unfold State.aeSlots
  iterate 40 all_goals (try first
    | with_reducible assumption
    | intro _ _ _
    | with_reducible apply State.forEach_good
    | with_reducible apply State.aePut_good
    | with_reducible apply Good.ite)

theorem execAeCallEnd_good {q : List Instr} (x0) (x1) (s : State) (h : Good q s) : GoodO q (execAeCallEnd x0 x1 s) := by
  unfold execAeCallEnd
  iterate 40 all_goals (try first
    | with_reducible assumption
    | intro _ _ _
    | with_reducible apply State.aeResults_good
    | with_reducible apply State.forEach_good
    | with_reducible apply State.wr_good
    | with_reducible apply State.set_good
    | with_reducible apply State.setAec_good
    | with_reducible apply State.bumpBy_good
    | with_reducible apply State.setB_good
    | with_reducible apply State.aeSlots_good
    | with_reducible apply State.aeAnswer_good
    | with_reducible apply GoodO.next
    | with_reducible apply Good.ite
    | (extract_lets +onlyGivenNames l; clear_value l)
    | split)

theorem execCallTimeout_good {q : List Instr} (x0) (s : State) (h : Good q s) : GoodO q (execCallTimeout x0 s) := by
  unfold execCallTimeout
  iterate 40 all_goals (try first
    | with_reducible assumption
    | (extract_lets +onlyGivenNames l; refine Good.cut (q := q) l ?_ (fun g => ?_); rotate_left; clear_value l; rotate_left; subst l)
    | with_reducible apply State.aeResetCore_good
    | with_reducible apply State.raiseOnce_good
    | with_reducible apply GoodO.next
    | with_reducible apply Good.ite)

theorem State.dmaCut_good {q : List Instr} (s : State) (x1) (x2) (h : Good q s) : Good q (State.dmaCut s x1 x2) := by
  unfold State.dmaCut
  iterate 40 all_goals (try first
    | with_reducible assumption
    | with_reducible apply State.drawWord_good
    | with_reducible apply State.dmaBursts_good
    | with_reducible apply State.set_good
    | with_reducible apply State.aePend_good
    | with_reducible apply State.setAec_good
    | with_reducible apply Good.ite
    | split)

theorem State.aeMuzzle_good {q : List Instr} (s : State) (x1) (h : Good q s) : Good q (State.aeMuzzle s x1) := by
  unfold State.aeMuzzle
  iterate 40 all_goals (try first
    | with_reducible assumption
    | with_reducible apply State.set_good
    | with_reducible apply State.dmaCut_good
    | with_reducible apply State.aeHalt_good
    | with_reducible apply State.setAec_good
    | with_reducible apply State.aeSettle_good
    | (extract_lets +onlyGivenNames l; clear_value l)
    | split
    | with_reducible apply Good.mk_of)

theorem State.aeStop_good {q : List Instr} (s : State) (x1) (h : Good q s) : Good q (State.aeStop s x1) := by
  unfold State.aeStop
  iterate 40 all_goals (try first
    | with_reducible assumption
    | intro _ _ _
    | with_reducible apply State.forEach_good
    | with_reducible apply State.aeCallFail_good
    | with_reducible apply State.aeHalt_good
    | with_reducible apply Good.ite)

end Sys2Proof.Machine
end

