-- ==== Sys2Proof/Laws/KeepMram.lean ====
section
/-! SUPPORT. Every operation of Machine/Mram.lean keeps the stores canonical and leaves the queue alone. -/

namespace Sys2Proof.Machine

theorem State.recRead_good {q : List Instr} (s : State) (x1) (x2) (x3) (x4) (h : Good q s) : Good q (State.recRead s x1 x2 x3 x4).2 := by
  unfold State.recRead
  iterate 40 all_goals (try first
    | with_reducible assumption
    | with_reducible apply State.raiseOnce_good
    | split)

theorem State.putMramWords_good {q : List Instr} (s : State) (a : Nat) (ws : List Nat) (h : Good q s) :
    Good q (State.putMramWords s a ws) := by
  induction ws generalizing s a with
  | nil => exact h
  | cons b bs ih => exact ih _ _ (State.putMramNat_good _ _ _ _ h)

theorem State.recWriteAs_good {q : List Instr} (s : State) (x1) (x2) (x3) (x4) (x5) (x6) (h : Good q s) : Good q (State.recWriteAs s x1 x2 x3 x4 x5 x6) := by
  unfold State.recWriteAs
  iterate 40 all_goals (try first
    | with_reducible assumption
    | with_reducible apply State.putMramNat_good
    | with_reducible apply State.putMramWords_good)

theorem State.recWrite_good {q : List Instr} (s : State) (x1) (x2) (x3) (x4) (x5) (h : Good q s) : Good q (State.recWrite s x1 x2 x3 x4 x5) := by
  unfold State.recWrite
  iterate 40 all_goals (try first
    | with_reducible assumption
    | with_reducible apply State.recWriteAs_good)

theorem State.slotWriteAs_good {q : List Instr} (s : State) (x1) (x2) (x3) (x4) (x5) (x6) (h : Good q s) : Good q (State.slotWriteAs s x1 x2 x3 x4 x5 x6).1 := by
  unfold State.slotWriteAs
  iterate 40 all_goals (try first
    | with_reducible assumption
    | with_reducible apply State.recWriteAs_good
    | split)

theorem State.slotWrite_good {q : List Instr} (s : State) (x1) (x2) (x3) (x4) (x5) (h : Good q s) : Good q (State.slotWrite s x1 x2 x3 x4 x5).1 := by
  unfold State.slotWrite
  iterate 40 all_goals (try first
    | with_reducible assumption
    | with_reducible apply State.slotWriteAs_good)

end Sys2Proof.Machine
end

