-- ==== Sys2Proof/Laws/KeepCalOps.lean ====
section
/-! SUPPORT. Every operation of Machine/CalOps.lean keeps the stores canonical and leaves the queue alone. -/

namespace Sys2Proof.Machine

theorem State.passStart_good {q : List Instr} (s : State) (x1) (x2) (x3) (h : Good q s) : Good q (State.passStart s x1 x2 x3) := by
  unfold State.passStart
  iterate 40 all_goals (try first
    | with_reducible assumption
    | intro _ _ _
    | (extract_lets +onlyGivenNames l; refine Good.cut (q := q) l ?_ (fun g => ?_); rotate_left; clear_value l; rotate_left; subst l)
    | with_reducible apply State.set_good
    | with_reducible apply State.forEach_good
    | with_reducible apply State.calRefresh_good
    | with_reducible apply State.setPass_good
    | with_reducible apply Good.ite
    | (extract_lets +onlyGivenNames l; clear_value l)
    | split
    | with_reducible apply Good.mk_of)

theorem State.alignSettle_good {q : List Instr} (s : State) (x1) (x2) (x3) (h : Good q s) : Good q (State.alignSettle s x1 x2 x3) := by
  unfold State.alignSettle
  iterate 40 all_goals (try first
    | with_reducible assumption
    | intro _ _ _
    | with_reducible apply State.forEach_good
    | with_reducible apply State.finish_good
    | split
    | with_reducible apply Good.mk_of)

theorem State.gapClose_good {q : List Instr} (s : State) (x1) (x2) (h : Good q s) : Good q (State.gapClose s x1 x2) := by
  unfold State.gapClose
  iterate 40 all_goals (try first
    | with_reducible assumption
    | (extract_lets +onlyGivenNames l; refine Good.cut (q := q) l ?_ (fun g => ?_); rotate_left; clear_value l; rotate_left; subst l)
    | with_reducible apply State.set_good
    | with_reducible apply State.complete_good
    | with_reducible apply State.calEndSettle_good
    | with_reducible apply Good.ite
    | split
    | with_reducible apply Good.mk_of)

theorem State.gapAdvance_good {q : List Instr} (s : State) (x1) (h : Good q s) : Good q (State.gapAdvance s x1) := by
  induction x1 generalizing s with
  | zero =>
    unfold State.gapAdvance
    iterate 40 all_goals (try first
      | with_reducible assumption)
  | succ n ih =>
    unfold State.gapAdvance
    iterate 40 all_goals (try first
      | with_reducible assumption
      | intro _
      | (extract_lets +onlyGivenNames l; refine Good.cut (q := q) l ?_ (fun g => ?_); rotate_left; clear_value l; rotate_left; subst l)
      | (extract_lets +onlyGivenNames l; refine Good.cutH (q := q) l ?_ (fun gh => ?_); rotate_left; clear_value l; rotate_left; subst l)
      | with_reducible apply ih
      | with_reducible apply State.calRefresh_good
      | with_reducible apply State.gapClose_good
      | with_reducible apply gh
      | with_reducible apply Good.ite
      | split
      | with_reducible apply Good.mk_of)

theorem State.passEnd_good {q : List Instr} (s : State) (x1) (x2) (h : Good q s) : Good q (State.passEnd s x1 x2) := by
  unfold State.passEnd
  iterate 40 all_goals (try first
    | with_reducible assumption
    | intro _ _ _
    | (extract_lets +onlyGivenNames l; refine Good.cut (q := q) l ?_ (fun g => ?_); rotate_left; clear_value l; rotate_left; subst l)
    | with_reducible apply State.set_good
    | with_reducible apply State.setPass_good
    | with_reducible apply State.calRefresh_good
    | with_reducible apply State.forEach_good
    | with_reducible apply State.alignSettle_good
    | with_reducible apply State.gapAdvance_good
    | split
    | with_reducible apply Good.mk_of)

theorem State.psmUncal_good {q : List Instr} (s : State) (x1) (x2) (h : Good q s) : Good q (State.psmUncal s x1 x2) := by
  unfold State.psmUncal
  iterate 40 all_goals (try first
    | with_reducible assumption
    | intro _ _ _
    | with_reducible apply State.forEach_good
    | with_reducible apply State.psmRefresh_good
    | with_reducible apply State.psmBegin_good
    | with_reducible apply Good.ite)

theorem State.taskDrop_good {q : List Instr} (s : State) (x1) (x2) (h : Good q s) : Good q (State.taskDrop s x1 x2) := by
  unfold State.taskDrop
  iterate 40 all_goals (try first
    | with_reducible assumption
    | intro _ _ _
    | (extract_lets +onlyGivenNames l; refine Good.cut (q := q) l ?_ (fun g => ?_); rotate_left; clear_value l; rotate_left; subst l)
    | with_reducible apply State.forEach_good
    | with_reducible apply State.psmUncal_good
    | with_reducible apply State.finish_good
    | with_reducible apply State.calRefresh_good
    | split
    | with_reducible apply Good.mk_of)

theorem State.calCut_good {q : List Instr} (s : State) (x1) (h : Good q s) : Good q (State.calCut s x1) := by
  unfold State.calCut
  iterate 40 all_goals (try first
    | with_reducible assumption
    | intro _ _ _
    | (extract_lets +onlyGivenNames l; refine Good.cut (q := q) l ?_ (fun g => ?_); rotate_left; clear_value l; rotate_left; subst l)
    | with_reducible apply State.forEach_good
    | with_reducible apply State.taskDrop_good
    | with_reducible apply State.passEnd_good
    | with_reducible apply Good.mk_of)

theorem State.calDropAll_good {q : List Instr} (s : State) (x1) (h : Good q s) : Good q (State.calDropAll s x1) := by
  unfold State.calDropAll
  iterate 40 all_goals (try first
    | with_reducible assumption
    | (extract_lets +onlyGivenNames l; refine Good.cut (q := q) l ?_ (fun g => ?_); rotate_left; clear_value l; rotate_left; subst l)
    | with_reducible apply State.calCut_good
    | with_reducible apply State.calEndSettle_good
    | with_reducible apply State.gapClose_good
    | split)

theorem State.taskSettle_good {q : List Instr} (s : State) (h : Good q s) : Good q (State.taskSettle s) := by
  unfold State.taskSettle
  iterate 40 all_goals (try first
    | with_reducible assumption
    | intro _ _ _
    | with_reducible apply State.calEndSettle_good
    | with_reducible apply State.gapAdvance_good
    | with_reducible apply State.forEach_good
    | with_reducible apply State.taskDrop_good
    | with_reducible apply Good.ite)

theorem State.calPrune_good {q : List Instr} (s : State) (h : Good q s) : Good q (State.calPrune s) := by
  unfold State.calPrune
  iterate 40 all_goals (try first
    | with_reducible assumption
    | intro _ _ _
    | (extract_lets +onlyGivenNames l; refine Good.cut (q := q) l ?_ (fun g => ?_); rotate_left; clear_value l; rotate_left; subst l)
    | with_reducible apply State.taskSettle_good
    | with_reducible apply State.calRefresh_good
    | with_reducible apply State.forEach_good
    | with_reducible apply State.passEnd_good
    | with_reducible apply State.setPass_good
    | with_reducible apply Good.ite
    | (extract_lets +onlyGivenNames l; clear_value l)
    | split
    | with_reducible apply Good.mk_of)

end Sys2Proof.Machine
end

