-- ==== Sys2Proof/Laws/KeepShepherd.lean ====
section
/-! SUPPORT. Every operation of Machine/Shepherd.lean keeps the stores canonical and leaves the queue alone. -/

namespace Sys2Proof.Machine

theorem State.routineBegin_good {q : List Instr} (s : State) (x1) (h : Good q s) : Good q (State.routineBegin s x1) := by
  unfold State.routineBegin
  iterate 40 all_goals (try first
    | with_reducible assumption
    | (extract_lets +onlyGivenNames l; refine Good.cut (q := q) l ?_ (fun g => ?_); rotate_left; clear_value l; rotate_left; subst l)
    | with_reducible apply State.drawWord_good
    | with_reducible apply Good.ite
    | (extract_lets +onlyGivenNames l; clear_value l)
    | split
    | (with_reducible refine Good.of_snd (by assumption) ?_)
    | with_reducible apply Good.mk_of)

theorem State.routineOver_good {q : List Instr} (s : State) (h : Good q s) : Good q (State.routineOver s) := by
  unfold State.routineOver
  iterate 40 all_goals (try first
    | with_reducible assumption
    | (extract_lets +onlyGivenNames l; refine Good.cut (q := q) l ?_ (fun g => ?_); rotate_left; clear_value l; rotate_left; subst l)
    | with_reducible apply State.endsDrain_good
    | with_reducible apply State.siteDrain_good
    | with_reducible apply State.routineAgain_good
    | split
    | with_reducible apply Good.mk_of)

theorem State.routineFail_good {q : List Instr} (s : State) (x1) (h : Good q s) : Good q (State.routineFail s x1) := by
  unfold State.routineFail
  iterate 40 all_goals (try first
    | with_reducible assumption
    | with_reducible apply State.done_good
    | with_reducible apply State.routineOver_good
    | with_reducible apply Good.mk_of)

theorem State.microRow_good {q : List Instr} (s : State) (x1) (x2) (f3 : Routine → Nat → State) (h : Good q s) (hf3 : ∀ x w, Good q (f3 x w)) : GoodO q (State.microRow s x1 x2 f3) := by
  unfold State.microRow
  iterate 40 all_goals (try first
    | with_reducible assumption
    | with_reducible apply State.routineFail_good
    | with_reducible apply State.raiseOnce_good
    | with_reducible apply GoodO.next
    | with_reducible apply hf3
    | with_reducible apply Good.ite
    | split)

theorem State.microGo_good {q : List Instr} (s : State) (x1) (x2) (h : Good q s) : Good q (State.microGo s x1 x2) := by
  unfold State.microGo
  iterate 40 all_goals (try first
    | with_reducible assumption
    | with_reducible apply Good.mk_of)

theorem execMicroNano_good {q : List Instr} (x0) (s : State) (h : Good q s) : GoodO q (execMicroNano x0 s) := by
  unfold execMicroNano
  iterate 40 all_goals (try first
    | with_reducible assumption
    | intro _ _
    | with_reducible apply State.microRow_good
    | with_reducible apply State.routineFail_good
    | with_reducible apply State.raiseOnce_good
    | with_reducible apply State.microGo_good
    | with_reducible apply Good.ite)

theorem execMicroBranch_good {q : List Instr} (x0) (s : State) (h : Good q s) : GoodO q (execMicroBranch x0 s) := by
  unfold execMicroBranch
  iterate 40 all_goals (try first
    | with_reducible assumption
    | intro _ _
    | with_reducible apply State.microRow_good
    | with_reducible apply State.drawBool_good
    | with_reducible apply State.microGo_good)

theorem execMicroCommit_good {q : List Instr} (x0) (s : State) (h : Good q s) : GoodO q (execMicroCommit x0 s) := by
  unfold execMicroCommit
  iterate 40 all_goals (try first
    | with_reducible assumption
    | intro _ _
    | with_reducible apply State.microRow_good
    | with_reducible apply State.microGo_good)

theorem execMicroEnd_good {q : List Instr} (x0) (s : State) (h : Good q s) : GoodO q (execMicroEnd x0 s) := by
  unfold execMicroEnd
  iterate 40 all_goals (try first
    | with_reducible assumption
    | intro _ _
    | with_reducible apply State.microRow_good
    | with_reducible apply State.routineOver_good)

theorem execRoutineRestart_good {q : List Instr} (s : State) (h : Good q s) : GoodO q (execRoutineRestart s) := by
  unfold execRoutineRestart
  iterate 40 all_goals (try first
    | with_reducible assumption
    | with_reducible apply State.routineAgain_good
    | with_reducible apply GoodO.next
    | with_reducible apply Good.ite
    | split)

theorem execRoutineOverrun_good {q : List Instr} (s : State) (h : Good q s) : GoodO q (execRoutineOverrun s) := by
  unfold execRoutineOverrun
  iterate 40 all_goals (try first
    | with_reducible assumption
    | with_reducible apply State.routineFail_good
    | with_reducible apply State.raiseOnce_good
    | with_reducible apply GoodO.next
    | with_reducible apply Good.ite
    | split)

theorem State.gpioSafe_good {q : List Instr} (s : State) (h : Good q s) : Good q (State.gpioSafe s) := by
  unfold State.gpioSafe
  iterate 40 all_goals (try first
    | with_reducible assumption
    | with_reducible apply State.set_good)

theorem State.muxLost_good {q : List Instr} (s : State) (x1) (h : Good q s) : Good q (State.muxLost s x1) := by
  unfold State.muxLost
  iterate 40 all_goals (try first
    | with_reducible assumption
    | intro _ _ _
    | (extract_lets +onlyGivenNames l; refine Good.cut (q := q) l ?_ (fun g => ?_); rotate_left; clear_value l; rotate_left; subst l)
    | with_reducible apply State.forEach_good
    | with_reducible apply State.untest_good
    | with_reducible apply State.wr_good
    | with_reducible apply State.setRun_good
    | with_reducible apply Good.ite
    | split)

theorem State.lockSafe_good {q : List Instr} (s : State) (x1) (x2) (h : Good q s) : Good q (State.lockSafe s x1 x2) := by
  unfold State.lockSafe
  iterate 40 all_goals (try first
    | with_reducible assumption
    | with_reducible apply State.muxLost_good
    | with_reducible apply State.gpioSafe_good
    | with_reducible apply State.psmWaitFail_good
    | with_reducible apply State.psmSafe_good
    | with_reducible apply State.set_good
    | with_reducible apply Good.ite)

theorem State.lockLose_good {q : List Instr} (s : State) (x1) (h : Good q s) : Good q (State.lockLose s x1) := by
  unfold State.lockLose
  iterate 40 all_goals (try first
    | with_reducible assumption
    | (extract_lets +onlyGivenNames l; refine Good.cut (q := q) l ?_ (fun g => ?_); rotate_left; clear_value l; rotate_left; subst l)
    | with_reducible apply State.lockSafe_good
    | with_reducible apply State.set_good
    | with_reducible apply State.raise_good
    | with_reducible apply Good.ite
    | with_reducible apply Good.mk_of)

theorem State.lockGrant_good {q : List Instr} (s : State) (x1) (x2) (x3) (h : Good q s) : Good q (State.lockGrant s x1 x2 x3) := by
  unfold State.lockGrant
  iterate 40 all_goals (try first
    | with_reducible assumption
    | (extract_lets +onlyGivenNames l; refine Good.cut (q := q) l ?_ (fun g => ?_); rotate_left; clear_value l; rotate_left; subst l)
    | with_reducible apply State.set_good
    | with_reducible apply Good.mk_of)

end Sys2Proof.Machine
end

