-- ==== Sys2Proof/Laws/KeepLock.lean ====
section
/-! SUPPORT. Every operation of Machine/Lock.lean keeps the stores canonical and leaves the queue alone. -/

namespace Sys2Proof.Machine

theorem State.lockCmd_good {q : List Instr} (s : State) (x1) (x2) (x3) (f4 : Nat → State → State) (h : Good q s) (hf4 : ∀ a t, Good q t → Good q (f4 a t)) : GoodO q (State.lockCmd s x1 x2 x3 f4) := by
  unfold State.lockCmd
  iterate 40 all_goals (try first
    | with_reducible assumption
    | intro _ _
    | with_reducible apply State.cmd_good
    | with_reducible apply State.lockLose_good
    | with_reducible apply GoodO.next
    | with_reducible apply hf4
    | with_reducible apply Good.ite)

theorem execLockAcquire_good {q : List Instr} (x0) (x1) (s : State) (h : Good q s) : GoodO q (execLockAcquire x0 x1 s) := by
  unfold execLockAcquire
  iterate 40 all_goals (try first
    | with_reducible assumption
    | intro _ _ _
    | with_reducible apply State.lockCmd_good
    | with_reducible apply State.complete_good
    | with_reducible apply State.lockGrant_good
    | with_reducible apply State.done_good
    | with_reducible apply Good.ite)

theorem execLockRenew_good {q : List Instr} (x0) (x1) (s : State) (h : Good q s) : GoodO q (execLockRenew x0 x1 s) := by
  unfold execLockRenew
  iterate 40 all_goals (try first
    | with_reducible assumption
    | intro _ _ _
    | with_reducible apply State.lockCmd_good
    | with_reducible apply State.done_good
    | with_reducible apply State.set_good
    | with_reducible apply Good.ite)

theorem execLockRelease_good {q : List Instr} (x0) (x1) (s : State) (h : Good q s) : GoodO q (execLockRelease x0 x1 s) := by
  unfold execLockRelease
  iterate 40 all_goals (try first
    | with_reducible assumption
    | intro _ _ _
    | with_reducible apply State.lockCmd_good
    | with_reducible apply State.done_good
    | with_reducible apply State.lockFree_good
    | with_reducible apply Good.ite)

theorem execLockStatus_good {q : List Instr} (x0) (x1) (s : State) (h : Good q s) : GoodO q (execLockStatus x0 x1 s) := by
  unfold execLockStatus
  iterate 40 all_goals (try first
    | with_reducible assumption
    | intro _ _ _
    | with_reducible apply State.lockCmd_good
    | with_reducible apply State.complete_good)

theorem execLeashTick_good {q : List Instr} (s : State) (h : Good q s) : GoodO q (execLeashTick s) := by
  unfold execLeashTick
  iterate 40 all_goals (try first
    | with_reducible assumption
    | intro _ _ _
    | with_reducible apply State.forEach_good
    | with_reducible apply State.set_good
    | with_reducible apply GoodO.next
    | with_reducible apply Good.ite
    | with_reducible apply Good.mk_of)

theorem execLeashExpiry_good {q : List Instr} (x0) (s : State) (h : Good q s) : GoodO q (execLeashExpiry x0 s) := by
  unfold execLeashExpiry
  iterate 40 all_goals (try first
    | with_reducible assumption
    | with_reducible apply State.preempt_good
    | with_reducible apply State.lockLose_good
    | with_reducible apply GoodO.next
    | with_reducible apply Good.ite)

end Sys2Proof.Machine
end

