-- ==== Sys2Proof/Laws/KeepFlow.lean ====
section
/-! SUPPORT. Every operation of Machine/Flow.lean keeps the stores canonical and leaves the queue alone. -/

namespace Sys2Proof.Machine

theorem State.binSite_good {q : List Instr} (s : State) (x1) (x2) (h : Good q s) : Good q (State.binSite s x1 x2) := by
  unfold State.binSite
  iterate 40 all_goals (try first
    | with_reducible assumption
    | with_reducible apply State.ctxTouch_good
    | with_reducible apply State.set_good
    | with_reducible apply Good.ite)

theorem State.moveSite_good {q : List Instr} (s : State) (x1) (x2) (x3) (h : Good q s) : Good q (State.moveSite s x1 x2 x3) := by
  unfold State.moveSite
  iterate 40 all_goals (try first
    | with_reducible assumption
    | with_reducible apply State.ctxTouch_good
    | with_reducible apply State.set_good
    | with_reducible apply State.setRun_good
    | split)

theorem State.isoOpen_good {q : List Instr} (s : State) (x1) (h : Good q s) : Good q (State.isoOpen s x1) := by
  unfold State.isoOpen
  iterate 40 all_goals (try first
    | with_reducible assumption
    | (extract_lets +onlyGivenNames l; refine Good.cut (q := q) l ?_ (fun g => ?_); rotate_left; clear_value l; rotate_left; subst l)
    | with_reducible apply State.set_good
    | with_reducible apply Good.ite
    | with_reducible apply Good.mk_of)

theorem State.muzzleSite_good {q : List Instr} (s : State) (x1) (x2) (h : Good q s) : Good q (State.muzzleSite s x1 x2) := by
  unfold State.muzzleSite
  iterate 40 all_goals (try first
    | with_reducible assumption
    | (extract_lets +onlyGivenNames l; refine Good.cut (q := q) l ?_ (fun g => ?_); rotate_left; clear_value l; rotate_left; subst l)
    | with_reducible apply State.leaveActive_good
    | with_reducible apply State.ctxTouch_good
    | with_reducible apply State.set_good
    | with_reducible apply State.fenceSite_good
    | with_reducible apply State.isoOpen_good
    | with_reducible apply Good.ite
    | split)

theorem State.takeAction_good {q : List Instr} (s : State) (x1) (x2) (x3) (x4) (x5) (h : Good q s) : Good q (State.takeAction s x1 x2 x3 x4 x5) := by
  unfold State.takeAction
  iterate 40 all_goals (try first
    | with_reducible assumption
    | intro _ _ _
    | intro _ _
    | (extract_lets +onlyGivenNames l; refine Good.cut (q := q) l ?_ (fun g => ?_); rotate_left; clear_value l; rotate_left; subst l)
    | (extract_lets +onlyGivenNames l; refine Good.cutF (q := q) l ?_ (fun gf => ?_); rotate_left; clear_value l; rotate_left; subst l)
    | with_reducible apply State.leaveActive_good
    | with_reducible apply State.binSite_good
    | with_reducible apply State.moveSite_good
    | with_reducible apply State.set_good
    | with_reducible apply State.forEach_good
    | with_reducible apply State.muzzleSite_good
    | with_reducible apply gf
    | with_reducible apply Good.ite
    | (extract_lets +onlyGivenNames l; clear_value l)
    | split
    | with_reducible apply Good.mk_of)

theorem State.stepRow_good {q : List Instr} (s : State) (x1) (x2) (x3) (f4 : State → Run → Nat → List Nat → State) (h : Good q s) (hf4 : ∀ t x i l, Good q t → Good q (f4 t x i l)) : Good q (State.stepRow s x1 x2 x3 f4) := by
  unfold State.stepRow
  iterate 40 all_goals (try first
    | with_reducible assumption
    | intro _ _ _
    | (extract_lets +onlyGivenNames l; refine Good.cut (q := q) l ?_ (fun g => ?_); rotate_left; clear_value l; rotate_left; subst l)
    | with_reducible apply State.forEach_good
    | with_reducible apply State.takeAction_good
    | with_reducible apply State.setRun_good
    | with_reducible apply hf4
    | with_reducible apply Good.ite
    | (extract_lets +onlyGivenNames l; clear_value l)
    | split)

theorem State.stepOver_good {q : List Instr} (s : State) (x1) (h : Good q s) : Good q (State.stepOver s x1) := by
  unfold State.stepOver
  iterate 40 all_goals (try first
    | with_reducible assumption
    | with_reducible apply State.setRun_good
    | split)

theorem State.editRun_good {q : List Instr} (s : State) (x1) (x2) (h : Good q s) : Good q (State.editRun s x1 x2) := by
  unfold State.editRun
  iterate 40 all_goals (try first
    | with_reducible assumption
    | with_reducible apply State.setRun_good
    | split)

theorem State.judge_good {q : List Instr} (s : State) (x1) (x2) (h : Good q s) : Good q (State.judge s x1 x2) := by
  unfold State.judge
  iterate 40 all_goals (try first
    | with_reducible assumption
    | with_reducible apply State.editRun_good)

theorem State.allServed_good {q : List Instr} (s : State) (x1) (h : Good q s) : Good q (State.allServed s x1) := by
  unfold State.allServed
  iterate 40 all_goals (try first
    | with_reducible assumption
    | with_reducible apply State.editRun_good)

theorem execEndStep_good {q : List Instr} (x0) (s : State) (h : Good q s) : GoodO q (execEndStep x0 s) := by
  unfold execEndStep
  iterate 40 all_goals (try first
    | with_reducible assumption
    | intro _ _ _ _ _
    | intro _ _ _
    | with_reducible apply State.stepRow_good
    | with_reducible apply State.stepOver_good
    | with_reducible apply State.forEach_good
    | with_reducible apply State.leaveActive_good
    | with_reducible apply State.binSite_good
    | with_reducible apply GoodO.next)

theorem execPatternStep_good {q : List Instr} (x0) (s : State) (h : Good q s) : GoodO q (execPatternStep x0 s) := by
  unfold execPatternStep
  iterate 40 all_goals (try first
    | with_reducible assumption
    | intro _ _ _ _ _
    | (extract_lets +onlyGivenNames l; refine Good.cut (q := q) l ?_ (fun g => ?_); rotate_left; clear_value l; rotate_left; subst l)
    | with_reducible apply State.stepRow_good
    | with_reducible apply State.allServed_good
    | with_reducible apply State.editRun_good
    | with_reducible apply State.answer_good
    | with_reducible apply State.startGroup_good
    | with_reducible apply GoodO.next
    | with_reducible apply Good.ite
    | split)

theorem State.pmuServe_good {q : List Instr} (s : State) (x1) (x2) (x3) (x4) (h : Good q s) : Good q (State.pmuServe s x1 x2 x3 x4) := by
  unfold State.pmuServe
  iterate 40 all_goals (try first
    | with_reducible assumption
    | intro _ _
    | (extract_lets +onlyGivenNames l; refine Good.cut (q := q) l ?_ (fun g => ?_); rotate_left; clear_value l; rotate_left; subst l)
    | (extract_lets +onlyGivenNames l; refine Good.cutL (q := q) l ?_ (fun g => ?_); rotate_left; clear_value l; rotate_left; subst l)
    | with_reducible apply State.judge_good
    | with_reducible apply State.guarded_good
    | with_reducible apply writePmuCtl_good
    | with_reducible apply writePmuForce_good
    | with_reducible apply writePmuClamp_good
    | with_reducible apply State.store_good
    | with_reducible apply runWrites_good
    | with_reducible apply State.set_good
    | with_reducible apply State.editRun_good
    | with_reducible apply State.setChan_good
    | with_reducible apply State.answer_good
    | with_reducible apply GoodR.ok
    | with_reducible apply Good.ite
    | with_reducible exact GoodL.nil
    | with_reducible apply GoodL.cons
    | (extract_lets +onlyGivenNames l; clear_value l)
    | split
    | (with_reducible refine Good.of_fst (by assumption) ?_))

theorem execPmuStep_good {q : List Instr} (x0) (s : State) (h : Good q s) : GoodO q (execPmuStep x0 s) := by
  unfold execPmuStep
  iterate 40 all_goals (try first
    | with_reducible assumption
    | intro _ _ _ _ _
    | intro _ _ _
    | with_reducible apply State.stepRow_good
    | with_reducible apply State.allServed_good
    | with_reducible apply State.forEach_good
    | with_reducible apply State.pmuServe_good
    | with_reducible apply GoodO.next)

theorem State.psmServe_good {q : List Instr} (s : State) (x1) (x2) (x3) (x4) (h : Good q s) : Good q (State.psmServe s x1 x2 x3 x4) := by
  unfold State.psmServe
  iterate 40 all_goals (try first
    | with_reducible assumption
    | intro _ _
    | (extract_lets +onlyGivenNames l; refine Good.cut (q := q) l ?_ (fun g => ?_); rotate_left; clear_value l; rotate_left; subst l)
    | (extract_lets +onlyGivenNames l; refine Good.cutL (q := q) l ?_ (fun g => ?_); rotate_left; clear_value l; rotate_left; subst l)
    | with_reducible apply writePsmStatus_good
    | with_reducible apply State.guarded_good
    | with_reducible apply writePsmPlain_good
    | with_reducible apply writePsmCtl_good
    | with_reducible apply writePsmLevel_good
    | with_reducible apply runWrites_good
    | with_reducible apply State.editRun_good
    | with_reducible apply State.answer_good
    | with_reducible apply State.psmRefresh_good
    | with_reducible apply State.setPsm_good
    | with_reducible exact GoodL.nil
    | with_reducible apply GoodL.cons
    | with_reducible apply GoodL.append
    | (extract_lets +onlyGivenNames l; clear_value l)
    | split
    | (with_reducible refine Good.of_fst (by assumption) ?_))

theorem execPsmForceStep_good {q : List Instr} (x0) (s : State) (h : Good q s) : GoodO q (execPsmForceStep x0 s) := by
  unfold execPsmForceStep
  iterate 40 all_goals (try first
    | with_reducible assumption
    | intro _ _ _ _ _
    | intro _ _ _
    | with_reducible apply State.stepRow_good
    | with_reducible apply State.untest_good
    | with_reducible apply State.allServed_good
    | with_reducible apply State.forEach_good
    | with_reducible apply State.psmServe_good
    | with_reducible apply GoodO.next)

theorem State.tmuServe_good {q : List Instr} (s : State) (x1) (x2) (x3) (x4) (h : Good q s) : Good q (State.tmuServe s x1 x2 x3 x4) := by
  unfold State.tmuServe
  iterate 40 all_goals (try first
    | with_reducible assumption
    | intro _ _
    | (extract_lets +onlyGivenNames l; refine Good.cutF (q := q) l ?_ (fun gf => ?_); rotate_left; clear_value l; rotate_left; subst l)
    | (extract_lets +onlyGivenNames l; refine Good.cutK (q := q) l ?_ (fun gk => ?_); rotate_left; clear_value l; rotate_left; subst l)
    | (extract_lets +onlyGivenNames l; refine Good.cutL (q := q) l ?_ (fun g => ?_); rotate_left; clear_value l; rotate_left; subst l)
    | with_reducible apply State.editRun_good
    | with_reducible apply State.judge_good
    | with_reducible apply State.untest_good
    | with_reducible apply tmuImages_good
    | with_reducible apply State.guarded_good
    | with_reducible apply writeTmuGo_good
    | with_reducible apply runWrites_good
    | with_reducible apply gf
    | with_reducible apply Good.ite
    | with_reducible exact GoodL.nil
    | with_reducible apply GoodL.cons
    | with_reducible apply GoodL.append
    | with_reducible apply GoodL.take
    | (extract_lets +onlyGivenNames l; clear_value l)
    | split
    | (with_reducible refine Good.of_fst (by assumption) ?_))

theorem execTmuStep_good {q : List Instr} (x0) (s : State) (h : Good q s) : GoodO q (execTmuStep x0 s) := by
  unfold execTmuStep
  iterate 40 all_goals (try first
    | with_reducible assumption
    | intro _ _ _ _ _
    | intro _ _ _
    | with_reducible apply State.stepRow_good
    | with_reducible apply State.forEach_good
    | with_reducible apply State.tmuServe_good
    | with_reducible apply GoodO.next)

theorem execAeStep_good {q : List Instr} (x0) (s : State) (h : Good q s) : GoodO q (execAeStep x0 s) := by
  unfold execAeStep
  iterate 40 all_goals (try first
    | with_reducible assumption
    | intro _ _ _ _ _
    | intro _ _ _
    | (extract_lets +onlyGivenNames l; refine Good.cut (q := q) l ?_ (fun g => ?_); rotate_left; clear_value l; rotate_left; subst l)
    | with_reducible apply State.stepRow_good
    | with_reducible apply State.allServed_good
    | with_reducible apply State.aeNone_good
    | with_reducible apply State.forEach_good
    | with_reducible apply State.aeSubmit_good
    | with_reducible apply State.editRun_good
    | with_reducible apply GoodO.next
    | with_reducible apply Good.ite)

theorem execLimitStep_good {q : List Instr} (x0) (s : State) (h : Good q s) : GoodO q (execLimitStep x0 s) := by
  unfold execLimitStep
  iterate 40 all_goals (try first
    | with_reducible assumption
    | intro _ _ _ _ _
    | with_reducible apply State.stepRow_good
    | with_reducible apply State.judge_good
    | with_reducible apply State.allServed_good
    | with_reducible apply GoodO.next)

theorem execContactStep_good {q : List Instr} (x0) (s : State) (h : Good q s) : GoodO q (execContactStep x0 s) := by
  unfold execContactStep
  iterate 40 all_goals (try first
    | with_reducible assumption
    | intro _ _ _ _ _
    | with_reducible apply State.stepRow_good
    | with_reducible apply State.judge_good
    | with_reducible apply State.allServed_good
    | with_reducible apply GoodO.next)

theorem execWaitStep_good {q : List Instr} (x0) (s : State) (h : Good q s) : GoodO q (execWaitStep x0 s) := by
  unfold execWaitStep
  iterate 40 all_goals (try first
    | with_reducible assumption
    | intro _ _ _ _ _
    | with_reducible apply State.stepRow_good
    | with_reducible apply State.judge_good
    | with_reducible apply State.allServed_good
    | with_reducible apply GoodO.next)

theorem State.repairServe_good {q : List Instr} (s : State) (x1) (x2) (x3) (x4) (h : Good q s) : Good q (State.repairServe s x1 x2 x3 x4) := by
  unfold State.repairServe
  iterate 40 all_goals (try first
    | with_reducible assumption
    | intro _ _
    | (extract_lets +onlyGivenNames l; refine Good.cutF (q := q) l ?_ (fun gf => ?_); rotate_left; clear_value l; rotate_left; subst l)
    | with_reducible apply State.editRun_good
    | with_reducible apply State.guarded_good
    | with_reducible apply writeRaReq_good
    | with_reducible apply State.setApg_good
    | with_reducible apply State.judge_good
    | with_reducible apply gf
    | (extract_lets +onlyGivenNames l; clear_value l)
    | split
    | (with_reducible refine Good.of_ok (by assumption) ?_))

theorem execRepairStep_good {q : List Instr} (x0) (s : State) (h : Good q s) : GoodO q (execRepairStep x0 s) := by
  unfold execRepairStep
  iterate 40 all_goals (try first
    | with_reducible assumption
    | intro _ _ _ _ _
    | intro _ _ _
    | with_reducible apply State.stepRow_good
    | with_reducible apply State.forEach_good
    | with_reducible apply State.repairServe_good
    | with_reducible apply GoodO.next)

theorem State.mapWrite_good {q : List Instr} (s : State) (x1) (x2) (x3) (h : Good q s) : Good q (State.mapWrite s x1 x2 x3) := by
  unfold State.mapWrite
  iterate 40 all_goals (try first
    | with_reducible assumption
    | (extract_lets +onlyGivenNames l; refine Good.cut (q := q) l ?_ (fun g => ?_); rotate_left; clear_value l; rotate_left; subst l)
    | with_reducible apply State.editRun_good
    | with_reducible apply State.wr_good)

theorem State.muxSwitch_good {q : List Instr} (s : State) (x1) (x2) (x3) (x4) (h : Good q s) : Good q (State.muxSwitch s x1 x2 x3 x4) := by
  unfold State.muxSwitch
  iterate 40 all_goals (try first
    | with_reducible assumption
    | intro _ _ _
    | with_reducible apply State.set_good
    | with_reducible apply State.forEach_good
    | with_reducible apply State.mapWrite_good
    | with_reducible apply Good.ite)

theorem State.muxLock_good {q : List Instr} (s : State) (x1) (x2) (h : Good q s) : GoodP q (State.muxLock s x1 x2) := by
  unfold State.muxLock
  iterate 40 all_goals (try first
    | with_reducible assumption
    | (extract_lets +onlyGivenNames l; refine Good.cut (q := q) l ?_ (fun g => ?_); rotate_left; clear_value l; rotate_left; subst l)
    | with_reducible apply State.lockLose_good
    | with_reducible apply State.set_good
    | with_reducible apply State.lockGrant_good
    | with_reducible exact GoodP.none
    | with_reducible apply GoodP.some
    | with_reducible apply Good.ite
    | with_reducible apply GoodP.ite
    | with_reducible apply Good.mk_of)

theorem State.muxUnlock_good {q : List Instr} (s : State) (x1) (h : Good q s) : Good q (State.muxUnlock s x1) := by
  unfold State.muxUnlock
  iterate 40 all_goals (try first
    | with_reducible assumption
    | (extract_lets +onlyGivenNames l; refine Good.cut (q := q) l ?_ (fun g => ?_); rotate_left; clear_value l; rotate_left; subst l)
    | with_reducible apply State.lockFree_good
    | with_reducible apply State.set_good
    | with_reducible apply Good.ite
    | with_reducible apply Good.mk_of)

theorem State.muxEnd_good {q : List Instr} (s : State) (x1) (x2) (x3) (h : Good q s) : Good q (State.muxEnd s x1 x2 x3) := by
  unfold State.muxEnd
  iterate 40 all_goals (try first
    | with_reducible assumption
    | intro _ _ _
    | (extract_lets +onlyGivenNames l; refine Good.cut (q := q) l ?_ (fun g => ?_); rotate_left; clear_value l; rotate_left; subst l)
    | with_reducible apply State.forEach_good
    | with_reducible apply State.wr_good
    | with_reducible apply State.setRun_good
    | with_reducible apply State.takeAction_good
    | with_reducible apply State.muxUnlock_good)

theorem execMuxStep_good {q : List Instr} (x0) (s : State) (h : Good q s) : GoodO q (execMuxStep x0 s) := by
  unfold execMuxStep
  iterate 40 all_goals (try first
    | with_reducible assumption
    | intro _ _ _ _ _
    | with_reducible apply State.stepRow_good
    | with_reducible apply State.muxLock_good
    | with_reducible apply State.editRun_good
    | with_reducible apply State.stepOver_good
    | with_reducible apply State.judge_good
    | with_reducible apply State.allServed_good
    | with_reducible apply State.untest_good
    | with_reducible apply State.muxSwitch_good
    | with_reducible apply State.muxEnd_good
    | with_reducible apply GoodO.next
    | with_reducible apply Good.ite
    | split
    | (with_reducible refine Good.of_some (by assumption) ?_))

theorem State.foldSite_good {q : List Instr} (s : State) (x1) (x2) (h : Good q s) : Good q (State.foldSite s x1 x2).1 := by
  unfold State.foldSite
  iterate 40 all_goals (try first
    | with_reducible assumption
    | with_reducible apply State.ctxTouch_good
    | with_reducible apply State.foldFails_good)

theorem State.patternResult_good {q : List Instr} (s : State) (x1) (x2) (x3) (x4) (h : Good q s) : Good q (State.patternResult s x1 x2 x3 x4) := by
  unfold State.patternResult
  iterate 40 all_goals (try first
    | with_reducible assumption
    | intro _ _ _
    | with_reducible apply State.forEach_good
    | with_reducible apply State.foldSite_good
    | with_reducible apply State.judge_good)

theorem State.storeResult_good {q : List Instr} (s : State) (x1) (x2) (x3) (x4) (x5) (h : Good q s) : Good q (State.storeResult s x1 x2 x3 x4 x5) := by
  unfold State.storeResult
  iterate 40 all_goals (try first
    | with_reducible assumption
    | with_reducible apply State.judge_good
    | with_reducible apply State.putSlot_good)

theorem State.pmuResult_good {q : List Instr} (s : State) (x1) (x2) (x3) (x4) (x5) (h : Good q s) : Good q (State.pmuResult s x1 x2 x3 x4 x5) := by
  unfold State.pmuResult
  iterate 40 all_goals (try first
    | with_reducible assumption
    | intro _ _ _
    | (extract_lets +onlyGivenNames l; refine Good.cut (q := q) l ?_ (fun g => ?_); rotate_left; clear_value l; rotate_left; subst l)
    | with_reducible apply State.set_good
    | with_reducible apply State.forEach_good
    | with_reducible apply State.storeResult_good
    | with_reducible apply State.judge_good
    | with_reducible apply Good.ite)

theorem State.psmResult_good {q : List Instr} (s : State) (x1) (x2) (x3) (x4) (x5) (h : Good q s) : Good q (State.psmResult s x1 x2 x3 x4 x5) := by
  unfold State.psmResult
  iterate 40 all_goals (try first
    | with_reducible assumption
    | intro _ _ _
    | with_reducible apply State.judge_good
    | with_reducible apply State.psmMeasStart_good
    | with_reducible apply State.editRun_good
    | with_reducible apply State.forEach_good
    | with_reducible apply State.storeResult_good
    | with_reducible apply Good.ite
    | split
    | (with_reducible refine Good.of_ok (by assumption) ?_))

theorem State.tmuResult_good {q : List Instr} (s : State) (x1) (x2) (x3) (x4) (x5) (h : Good q s) : Good q (State.tmuResult s x1 x2 x3 x4 x5) := by
  unfold State.tmuResult
  iterate 40 all_goals (try first
    | with_reducible assumption
    | intro _ _ _
    | with_reducible apply State.forEach_good
    | with_reducible apply State.storeResult_good
    | with_reducible apply State.judge_good
    | with_reducible apply Good.ite)

theorem State.aeStepResult_good {q : List Instr} (s : State) (x1) (x2) (x3) (x4) (x5) (h : Good q s) : Good q (State.aeStepResult s x1 x2 x3 x4 x5) := by
  unfold State.aeStepResult
  iterate 40 all_goals (try first
    | with_reducible assumption
    | with_reducible apply State.judge_good)

theorem State.takeResults_good {q : List Instr} (s : State) (x1) (x2) (h : Good q s) : Good q (State.takeResults s x1 x2) := by
  induction x2 generalizing s x1 with
  | zero =>
    unfold State.takeResults
    iterate 40 all_goals (try first
      | with_reducible assumption)
  | succ n ih =>
    unfold State.takeResults
    iterate 40 all_goals (try first
      | with_reducible assumption
      | with_reducible apply ih
      | with_reducible apply State.aeStepResult_good
      | with_reducible apply State.tmuResult_good
      | with_reducible apply State.setRun_good
      | with_reducible apply State.psmResult_good
      | with_reducible apply State.patternResult_good
      | with_reducible apply State.pmuResult_good
      | split)

theorem execFlowStepEnd_good {q : List Instr} (x0) (s : State) (h : Good q s) : GoodO q (execFlowStepEnd x0 s) := by
  unfold execFlowStepEnd
  iterate 40 all_goals (try first
    | with_reducible assumption
    | intro _ _ _
    | (extract_lets +onlyGivenNames l; refine Good.cut (q := q) l ?_ (fun g => ?_); rotate_left; clear_value l; rotate_left; subst l)
    | with_reducible apply State.takeResults_good
    | with_reducible apply State.forEach_good
    | with_reducible apply State.tmuServe_good
    | with_reducible apply State.repairServe_good
    | with_reducible apply State.takeAction_good
    | with_reducible apply State.stepOver_good
    | with_reducible apply GoodO.next
    | with_reducible apply Good.ite
    | split)

end Sys2Proof.Machine
end

