-- ==== Sys2Proof/Laws/KeepFlowCmd.lean ====
section
/-! SUPPORT. Every operation of Machine/FlowCmd.lean keeps the stores canonical and leaves the queue alone. -/

namespace Sys2Proof.Machine

theorem execFlowLoad_good {q : List Instr} (x0) (x1) (s : State) (h : Good q s) : GoodO q (execFlowLoad x0 x1 s) := by
  unfold execFlowLoad
  iterate 40 all_goals (try first
    | with_reducible assumption
    | intro _ _
    | with_reducible apply State.cmd_good
    | with_reducible apply State.done_good
    | with_reducible apply State.set_good
    | with_reducible apply GoodO.next
    | with_reducible apply Good.ite
    | split)

theorem execFlowUnload_good {q : List Instr} (x0) (x1) (s : State) (h : Good q s) : GoodO q (execFlowUnload x0 x1 s) := by
  unfold execFlowUnload
  iterate 40 all_goals (try first
    | with_reducible assumption
    | intro _ _
    | (extract_lets +onlyGivenNames l; refine Good.cut (q := q) l ?_ (fun g => ?_); rotate_left; clear_value l; rotate_left; subst l)
    | with_reducible apply State.cmd_good
    | with_reducible apply State.done_good
    | with_reducible apply State.set_good
    | with_reducible apply GoodO.next
    | with_reducible apply Good.ite
    | with_reducible apply Good.mk_of)

theorem State.startSite_good {q : List Instr} (s : State) (x1) (x2) (x3) (h : Good q s) : Good q (State.startSite s x1 x2 x3) := by
  unfold State.startSite
  iterate 40 all_goals (try first
    | with_reducible assumption
    | intro _ _ _
    | with_reducible apply State.wr_good
    | with_reducible apply State.forEach_good
    | with_reducible apply State.ctxTouch_good
    | with_reducible apply Good.ite
    | split
    | with_reducible apply Good.mk_of)

theorem execFlowStart_good {q : List Instr} (x0) (x1) (s : State) (h : Good q s) : GoodO q (execFlowStart x0 x1 s) := by
  unfold execFlowStart
  iterate 40 all_goals (try first
    | with_reducible assumption
    | intro _ _ _
    | intro _ _
    | (extract_lets +onlyGivenNames l; refine Good.cut (q := q) l ?_ (fun g => ?_); rotate_left; clear_value l; rotate_left; subst l)
    | with_reducible apply State.cmd_good
    | with_reducible apply State.done_good
    | with_reducible apply State.forEach_good
    | with_reducible apply State.startSite_good
    | with_reducible apply State.settleRun_good
    | with_reducible apply State.setRun_good
    | with_reducible apply GoodO.next
    | with_reducible apply Good.ite
    | (extract_lets +onlyGivenNames l; clear_value l)
    | split
    | with_reducible apply Good.mk_of)

theorem State.stopStep_good {q : List Instr} (s : State) (x1) (x2) (x3) (h : Good q s) : Good q (State.stopStep s x1 x2 x3) := by
  unfold State.stopStep
  iterate 40 all_goals (try first
    | with_reducible assumption
    | intro _ _ _
    | (extract_lets +onlyGivenNames l; refine Good.cut (q := q) l ?_ (fun g => ?_); rotate_left; clear_value l; rotate_left; subst l)
    | with_reducible apply State.forEach_good
    | with_reducible apply State.stopSite_good
    | with_reducible apply State.foldFails_good
    | with_reducible apply State.dropGroup_good
    | with_reducible apply State.setReasons_good
    | with_reducible apply State.abortPack_good
    | with_reducible apply State.set_good
    | with_reducible apply State.pmuAbort_good
    | with_reducible apply State.setPsm_good
    | with_reducible apply State.psmMeasDrop_good
    | with_reducible apply State.abortTmu_good
    | with_reducible apply State.aeResetCore_good
    | with_reducible apply State.stepOver_good
    | with_reducible apply Good.ite
    | (extract_lets +onlyGivenNames l; clear_value l)
    | split
    | with_reducible apply Good.mk_of)

theorem execFlowAbort_good {q : List Instr} (x0) (x1) (s : State) (h : Good q s) : GoodO q (execFlowAbort x0 x1 s) := by
  unfold execFlowAbort
  iterate 40 all_goals (try first
    | with_reducible assumption
    | intro _ _ _
    | intro _ _
    | with_reducible apply State.cmd_good
    | with_reducible apply State.forEach_good
    | with_reducible apply State.stopStep_good
    | with_reducible apply State.setRun_good
    | with_reducible apply State.repairDrop_good
    | with_reducible apply State.done_good
    | with_reducible apply State.untest_good
    | with_reducible apply GoodO.next
    | with_reducible apply Good.ite
    | split)

theorem execSiteRead_good {q : List Instr} (x0) (x1) (s : State) (h : Good q s) : GoodO q (execSiteRead x0 x1 s) := by
  unfold execSiteRead
  iterate 40 all_goals (try first
    | with_reducible assumption
    | intro _ _
    | with_reducible apply State.cmd_good
    | with_reducible apply State.complete_good
    | with_reducible apply GoodO.next)

theorem execSiteClear_good {q : List Instr} (x0) (x1) (s : State) (h : Good q s) : GoodO q (execSiteClear x0 x1 s) := by
  unfold execSiteClear
  iterate 40 all_goals (try first
    | with_reducible assumption
    | intro _ _ _
    | intro _ _
    | with_reducible apply State.cmd_good
    | with_reducible apply State.done_good
    | with_reducible apply State.forEach_good
    | with_reducible apply State.clearSite_good
    | with_reducible apply GoodO.next
    | with_reducible apply Good.ite)

theorem execSiteMuzzle_good {q : List Instr} (x0) (x1) (s : State) (h : Good q s) : GoodO q (execSiteMuzzle x0 x1 s) := by
  unfold execSiteMuzzle
  iterate 40 all_goals (try first
    | with_reducible assumption
    | intro _ _
    | with_reducible apply State.cmd_good
    | with_reducible apply State.done_good
    | with_reducible apply State.muzzleSite_good
    | with_reducible apply GoodO.next)

end Sys2Proof.Machine
end

