-- ==== Sys2Proof/Laws/KeepMuzzle.lean ====
section
/-! SUPPORT. Every operation of Machine/Muzzle.lean keeps the stores canonical and leaves the queue alone. -/

namespace Sys2Proof.Machine

theorem State.chanFence_good {q : List Instr} (s : State) (x1) (h : Good q s) : Good q (State.chanFence s x1) := by
  unfold State.chanFence
  iterate 40 all_goals (try first
    | with_reducible assumption
    | intro _ _ _
    | (extract_lets +onlyGivenNames l; refine Good.cut (q := q) l ?_ (fun g => ?_); rotate_left; clear_value l; rotate_left; subst l)
    | with_reducible apply State.forEach_good
    | with_reducible apply State.abortTmu_good
    | with_reducible apply State.pmuAbort_good
    | with_reducible apply State.set_good
    | with_reducible apply State.letGo_good
    | with_reducible apply Good.ite)

theorem State.patternFence_good {q : List Instr} (s : State) (x1) (h : Good q s) : Good q (State.patternFence s x1) := by
  unfold State.patternFence
  iterate 40 all_goals (try first
    | with_reducible assumption
    | with_reducible apply State.abortPack_good
    | with_reducible apply State.dropGroup_good
    | with_reducible apply State.setReasons_good
    | with_reducible apply Good.ite
    | split)

theorem State.packFence_good {q : List Instr} (s : State) (x1) (h : Good q s) : Good q (State.packFence s x1) := by
  unfold State.packFence
  iterate 40 all_goals (try first
    | with_reducible assumption
    | intro _ _ _
    | with_reducible apply State.forEach_good
    | with_reducible apply State.abortTmu_good
    | with_reducible apply State.psmFence_good
    | with_reducible apply State.chanFence_good
    | with_reducible apply State.patternFence_good)

theorem State.pcFence_good {q : List Instr} (s : State) (x1) (h : Good q s) : Good q (State.pcFence s x1) := by
  unfold State.pcFence
  iterate 40 all_goals (try first
    | with_reducible assumption
    | intro _ _ _
    | (extract_lets +onlyGivenNames l; refine Good.cut (q := q) l ?_ (fun g => ?_); rotate_left; clear_value l; rotate_left; subst l)
    | with_reducible apply State.forEach_good
    | with_reducible apply State.patternFence_good
    | with_reducible apply State.waveRefused_good
    | with_reducible apply State.abortTmu_good
    | with_reducible apply Good.ite)

theorem State.unitFence_good {q : List Instr} (s : State) (x1) (h : Good q s) : Good q (State.unitFence s x1) := by
  unfold State.unitFence
  iterate 40 all_goals (try first
    | with_reducible assumption
    | intro _ _ _
    | with_reducible apply State.chanFence_good
    | with_reducible apply State.psmFence_good
    | with_reducible apply State.abortTmu_good
    | with_reducible apply State.packFence_good
    | with_reducible apply State.forEach_good
    | with_reducible apply State.aeMuzzle_good
    | with_reducible apply State.pcFence_good
    | split)

theorem State.packBits_good {q : List Instr} (s : State) (x1) (h : Good q s) : Good q (State.packBits s x1) := by
  unfold State.packBits
  iterate 40 all_goals (try first
    | with_reducible assumption
    | intro _ _ _
    | (extract_lets +onlyGivenNames l; refine Good.cut (q := q) l ?_ (fun g => ?_); rotate_left; clear_value l; rotate_left; subst l)
    | with_reducible apply State.forEach_good
    | with_reducible apply State.setB_good)

theorem State.deviceBits_good {q : List Instr} (s : State) (h : Good q s) : Good q (State.deviceBits s) := by
  unfold State.deviceBits
  iterate 40 all_goals (try first
    | with_reducible assumption
    | intro _ _ _
    | with_reducible apply State.set_good
    | with_reducible apply State.forEach_good
    | with_reducible apply State.setB_good)

theorem State.muzzleBits_good {q : List Instr} (s : State) (x1) (h : Good q s) : Good q (State.muzzleBits s x1) := by
  unfold State.muzzleBits
  iterate 40 all_goals (try first
    | with_reducible assumption
    | intro _ _ _
    | with_reducible apply State.forEach_good
    | with_reducible apply State.packBits_good
    | with_reducible apply State.deviceBits_good)

theorem State.muzzleAll_good {q : List Instr} (s : State) (x1) (x2) (h : Good q s) : Good q (State.muzzleAll s x1 x2) := by
  unfold State.muzzleAll
  iterate 40 all_goals (try first
    | with_reducible assumption
    | intro _ _ _
    | with_reducible apply State.forEach_good
    | with_reducible apply State.addMuzzle_good
    | with_reducible apply State.markSites_good
    | with_reducible apply State.reactSites_good
    | with_reducible apply State.muzzleBits_good
    | with_reducible apply State.calPrune_good
    | with_reducible apply State.unitFence_good
    | with_reducible apply Good.ite)

theorem State.muzzle_good {q : List Instr} (s : State) (x1) (x2) (h : Good q s) : Good q (State.muzzle s x1 x2) := by
  unfold State.muzzle
  iterate 40 all_goals (try first
    | with_reducible assumption
    | with_reducible apply State.muzzleAll_good)

theorem State.showRejects_good {q : List Instr} (s : State) (x1) (x2) (x3) (h : Good q s) : Good q (State.showRejects s x1 x2 x3) := by
  unfold State.showRejects
  iterate 40 all_goals (try first
    | with_reducible assumption
    | with_reducible apply State.set_good
    | split)

theorem State.setRejects_good {q : List Instr} (s : State) (x1) (x2) (x3) (h : Good q s) : Good q (State.setRejects s x1 x2 x3) := by
  unfold State.setRejects
  iterate 40 all_goals (try first
    | with_reducible assumption
    | with_reducible apply State.showRejects_good
    | with_reducible apply State.setCalUnit_good)

theorem State.calFirst_good {q : List Instr} (s : State) (x1) (x2) (h : Good q s) : Good q (State.calFirst s x1 x2) := by
  unfold State.calFirst
  iterate 40 all_goals (try first
    | with_reducible assumption
    | with_reducible apply State.setCalUnit_good
    | with_reducible apply Good.ite
    | (extract_lets +onlyGivenNames l; clear_value l)
    | with_reducible apply Good.mk_of)

theorem State.chanRelease_good {q : List Instr} (s : State) (x1) (h : Good q s) : Good q (State.chanRelease s x1) := by
  unfold State.chanRelease
  iterate 40 all_goals (try first
    | with_reducible assumption
    | (extract_lets +onlyGivenNames l; refine Good.cut (q := q) l ?_ (fun g => ?_); rotate_left; clear_value l; rotate_left; subst l)
    | with_reducible apply State.letGo_good
    | with_reducible apply State.cmpStart_good
    | with_reducible apply State.setChan_good
    | with_reducible apply Good.ite)

theorem State.releaseOne_good {q : List Instr} (s : State) (x1) (h : Good q s) : Good q (State.releaseOne s x1) := by
  unfold State.releaseOne
  iterate 40 all_goals (try first
    | with_reducible assumption
    | intro _ _ _
    | (extract_lets +onlyGivenNames l; refine Good.cut (q := q) l ?_ (fun g => ?_); rotate_left; clear_value l; rotate_left; subst l)
    | with_reducible apply State.chanRelease_good
    | with_reducible apply State.laneSettle_good
    | with_reducible apply State.forEach_good
    | with_reducible apply State.psmRelease_good
    | with_reducible apply State.calFirst_good
    | with_reducible apply State.setRejects_good
    | split
    | with_reducible apply Good.mk_of)

theorem State.release_good {q : List Instr} (s : State) (x1) (h : Good q s) : Good q (State.release s x1) := by
  unfold State.release
  iterate 40 all_goals (try first
    | with_reducible assumption
    | intro _ _ _
    | with_reducible apply State.forEach_good
    | with_reducible apply State.releaseOne_good
    | with_reducible apply State.set_good
    | with_reducible apply State.muzzleBits_good
    | with_reducible apply Good.ite
    | with_reducible apply Good.mk_of)

end Sys2Proof.Machine
end

