-- ==== Sys2Proof/Laws/KeepCal.lean ====
section
/-! SUPPORT. Every operation of Machine/Cal.lean keeps the stores canonical and leaves the queue alone. -/

namespace Sys2Proof.Machine

theorem State.calReject_good {q : List Instr} (s : State) (x1) (x2) (h : Good q s) : Good q (State.calReject s x1 x2) := by
  unfold State.calReject
  iterate 40 all_goals (try first
    | with_reducible assumption
    | with_reducible apply State.setRejects_good
    | with_reducible apply State.raise_good
    | with_reducible apply State.muzzle_good
    | with_reducible apply Good.ite
    | split)

theorem State.openResult_good {q : List Instr} (s : State) (x1) (x2) (h : Good q s) : Good q (State.openResult s x1 x2).1 := by
  unfold State.openResult
  iterate 40 all_goals (try first
    | with_reducible assumption
    | (extract_lets +onlyGivenNames l; refine Good.cut (q := q) l ?_ (fun g => ?_); rotate_left; clear_value l; rotate_left; subst l)
    | with_reducible apply State.set_good
    | with_reducible apply State.setCalUnit_good
    | with_reducible apply State.setRejects_good
    | with_reducible apply State.calReject_good
    | (extract_lets +onlyGivenNames l; clear_value l)
    | split
    | with_reducible apply Good.mk_of)

theorem State.contactResult_good {q : List Instr} (s : State) (x1) (x2) (h : Good q s) : Good q (State.contactResult s x1 x2) := by
  unfold State.contactResult
  iterate 40 all_goals (try first
    | with_reducible assumption
    | with_reducible apply State.set_good)

theorem State.openChans_good {q : List Instr} (s : State) (x1) (x2) (x3) (h : Good q s) : Good q (State.openChans s x1 x2 x3).1 := by
  induction x3 generalizing s x1 x2 with
  | nil =>
    unfold State.openChans
    iterate 40 all_goals (try first
      | with_reducible assumption)
  | cons a l ih =>
    unfold State.openChans
    iterate 40 all_goals (try first
      | with_reducible assumption
      | with_reducible apply ih
      | with_reducible apply State.openResult_good
      | split
      | (with_reducible refine Good.of_fst (by assumption) ?_))

theorem State.gapCount_good {q : List Instr} (s : State) (x1) (x2) (x3) (h : Good q s) : Good q (State.gapCount s x1 x2 x3) := by
  unfold State.gapCount
  iterate 40 all_goals (try first
    | with_reducible assumption
    | split
    | with_reducible apply Good.mk_of)

theorem State.gapRefuse_good {q : List Instr} (s : State) (h : Good q s) : Good q (State.gapRefuse s) := by
  unfold State.gapRefuse
  iterate 40 all_goals (try first
    | with_reducible assumption
    | with_reducible apply Good.mk_of)

theorem State.passEval_good {q : List Instr} (s : State) (x1) (x2) (h : Good q s) : Good q (State.passEval s x1 x2) := by
  unfold State.passEval
  iterate 40 all_goals (try first
    | with_reducible assumption
    | intro _ _ _
    | (extract_lets +onlyGivenNames l; refine Good.cut (q := q) l ?_ (fun g => ?_); rotate_left; clear_value l; rotate_left; subst l)
    | with_reducible apply State.passEnd_good
    | with_reducible apply State.forEach_good
    | with_reducible apply State.contactResult_good
    | with_reducible apply State.gapRefuse_good
    | with_reducible apply State.openChans_good
    | with_reducible apply State.set_good
    | with_reducible apply State.gapCount_good
    | with_reducible apply State.setTargets_good
    | with_reducible apply Good.ite
    | with_reducible apply Good.mk_of)

theorem execTdrPassEnd_good {q : List Instr} (x0) (s : State) (h : Good q s) : GoodO q (execTdrPassEnd x0 s) := by
  unfold execTdrPassEnd
  iterate 40 all_goals (try first
    | with_reducible assumption
    | with_reducible apply State.passEval_good
    | with_reducible apply GoodO.next
    | with_reducible apply Good.ite
    | split)

theorem execTdrLevelsSettled_good {q : List Instr} (x0) (s : State) (h : Good q s) : GoodO q (execTdrLevelsSettled x0 s) := by
  unfold execTdrLevelsSettled
  iterate 40 all_goals (try first
    | with_reducible assumption
    | with_reducible apply State.setPass_good
    | with_reducible apply State.gapAdvance_good
    | with_reducible apply State.passStart_good
    | with_reducible apply GoodO.next
    | with_reducible apply Good.ite
    | split
    | with_reducible apply Good.mk_of)

theorem execTdrShotTimeout_good {q : List Instr} (x0) (x1) (s : State) (h : Good q s) : GoodO q (execTdrShotTimeout x0 x1 s) := by
  unfold execTdrShotTimeout
  iterate 40 all_goals (try first
    | with_reducible assumption
    | with_reducible apply State.setPass_good
    | with_reducible apply GoodO.next
    | with_reducible apply Good.ite
    | split)

theorem execAlign_good {q : List Instr} (x0) (x1) (s : State) (h : Good q s) : GoodO q (execAlign x0 x1 s) := by
  unfold execAlign
  iterate 40 all_goals (try first
    | with_reducible assumption
    | intro _ _ _
    | intro _ _
    | (extract_lets +onlyGivenNames l; refine Good.cut (q := q) l ?_ (fun g => ?_); rotate_left; clear_value l; rotate_left; subst l)
    | with_reducible apply State.cmd_good
    | with_reducible apply State.done_good
    | with_reducible apply State.forEach_good
    | with_reducible apply State.alignSettle_good
    | with_reducible apply State.passStart_good
    | with_reducible apply GoodO.next
    | with_reducible apply Good.ite
    | with_reducible apply Good.mk_of)

theorem State.calRegister_good {q : List Instr} (s : State) (x1) (x2) (x3) (x4) (h : Good q s) : Good q (State.calRegister s x1 x2 x3 x4) := by
  unfold State.calRegister
  iterate 40 all_goals (try first
    | with_reducible assumption
    | with_reducible apply State.setI_good
    | with_reducible apply State.set_good
    | split)

theorem State.trimNote_good {q : List Instr} (s : State) (x1) (x2) (x3) (x4) (h : Good q s) : Good q (State.trimNote s x1 x2 x3 x4) := by
  unfold State.trimNote
  iterate 40 all_goals (try first
    | with_reducible assumption
    | with_reducible apply State.setChan_good
    | (extract_lets +onlyGivenNames l; clear_value l)
    | split)

theorem State.calAccept_good {q : List Instr} (s : State) (x1) (x2) (x3) (h : Good q s) : Good q (State.calAccept s x1 x2 x3) := by
  unfold State.calAccept
  iterate 40 all_goals (try first
    | with_reducible assumption
    | intro _ _ _
    | with_reducible apply State.setCalUnit_good
    | with_reducible apply State.forEach_good
    | with_reducible apply State.trimNote_good
    | with_reducible apply State.setRejects_good
    | with_reducible apply State.calRegister_good)

theorem State.calResults_good {q : List Instr} (s : State) (x1) (x2) (x3) (h : Good q s) : Good q (State.calResults s x1 x2 x3).1 := by
  induction x3 generalizing s x1 x2 with
  | nil =>
    unfold State.calResults
    iterate 40 all_goals (try first
      | with_reducible assumption)
  | cons a l ih =>
    unfold State.calResults
    iterate 40 all_goals (try first
      | with_reducible assumption
      | with_reducible apply ih
      | with_reducible apply State.calAccept_good
      | with_reducible apply State.calReject_good
      | (extract_lets +onlyGivenNames l; clear_value l)
      | split)

theorem execCalTaskEnd_good {q : List Instr} (x0) (x1) (s : State) (h : Good q s) : GoodO q (execCalTaskEnd x0 x1 s) := by
  unfold execCalTaskEnd
  iterate 40 all_goals (try first
    | with_reducible assumption
    | (extract_lets +onlyGivenNames l; refine Good.cut (q := q) l ?_ (fun g => ?_); rotate_left; clear_value l; rotate_left; subst l)
    | with_reducible apply State.calResults_good
    | with_reducible apply State.psmUncal_good
    | with_reducible apply State.calRefresh_good
    | with_reducible apply State.calEndSettle_good
    | with_reducible apply State.finish_good
    | with_reducible apply State.gapAdvance_good
    | with_reducible apply GoodO.next
    | (extract_lets +onlyGivenNames l; clear_value l)
    | split
    | (with_reducible refine Good.of_fst (by assumption) ?_)
    | with_reducible apply Good.mk_of)

theorem execTrimMove_good {q : List Instr} (x0) (x1) (x2) (s : State) (h : Good q s) : GoodO q (execTrimMove x0 x1 x2 s) := by
  unfold execTrimMove
  iterate 40 all_goals (try first
    | with_reducible assumption
    | with_reducible apply State.trimNote_good
    | with_reducible apply State.setCalUnit_good
    | with_reducible apply GoodO.next)

theorem State.gapOpen_good {q : List Instr} (s : State) (x1) (x2) (x3) (x4) (h : Good q s) : Good q (State.gapOpen s x1 x2 x3 x4) := by
  unfold State.gapOpen
  iterate 40 all_goals (try first
    | with_reducible assumption
    | intro _ _ _
    | with_reducible apply State.set_good
    | with_reducible apply State.gapAdvance_good
    | with_reducible apply State.forEach_good
    | with_reducible apply State.passStart_good
    | with_reducible apply Good.ite
    | split
    | with_reducible apply Good.mk_of)

theorem execCalGap_good {q : List Instr} (x0) (x1) (s : State) (h : Good q s) : GoodO q (execCalGap x0 x1 s) := by
  unfold execCalGap
  iterate 40 all_goals (try first
    | with_reducible assumption
    | intro _ _
    | with_reducible apply State.cmd_good
    | with_reducible apply State.done_good
    | with_reducible apply State.gapOpen_good
    | with_reducible apply GoodO.next
    | with_reducible apply Good.ite)

theorem execCalEnd_good {q : List Instr} (x0) (x1) (s : State) (h : Good q s) : GoodO q (execCalEnd x0 x1 s) := by
  unfold execCalEnd
  iterate 40 all_goals (try first
    | with_reducible assumption
    | intro _ _
    | (extract_lets +onlyGivenNames l; refine Good.cut (q := q) l ?_ (fun g => ?_); rotate_left; clear_value l; rotate_left; subst l)
    | with_reducible apply State.cmd_good
    | with_reducible apply State.calEndSettle_good
    | with_reducible apply State.gapAdvance_good
    | with_reducible apply GoodO.next
    | (extract_lets +onlyGivenNames l; clear_value l)
    | split
    | with_reducible apply Good.mk_of)

theorem execCalRun_good {q : List Instr} (x0) (x1) (s : State) (h : Good q s) : GoodO q (execCalRun x0 x1 s) := by
  unfold execCalRun
  iterate 40 all_goals (try first
    | with_reducible assumption
    | intro _ _
    | with_reducible apply State.cmd_good
    | with_reducible apply State.done_good
    | with_reducible apply State.calRefresh_good
    | with_reducible apply GoodO.next
    | with_reducible apply Good.ite
    | with_reducible apply Good.mk_of)

theorem execCalStore_good {q : List Instr} (x0) (x1) (s : State) (h : Good q s) : GoodO q (execCalStore x0 x1 s) := by
  unfold execCalStore
  iterate 40 all_goals (try first
    | with_reducible assumption
    | intro _ _
    | with_reducible apply State.cmd_good
    | with_reducible apply State.done_good
    | with_reducible apply State.set_good
    | with_reducible apply GoodO.next
    | with_reducible apply Good.ite
    | with_reducible apply Good.mk_of)

theorem execCalForget_good {q : List Instr} (x0) (x1) (s : State) (h : Good q s) : GoodO q (execCalForget x0 x1 s) := by
  unfold execCalForget
  iterate 40 all_goals (try first
    | with_reducible assumption
    | intro _ _ _
    | intro _ _
    | with_reducible apply State.cmd_good
    | with_reducible apply State.done_good
    | with_reducible apply State.forEach_good
    | with_reducible apply State.calFirst_good
    | with_reducible apply GoodO.next)

theorem execCalAbort_good {q : List Instr} (x0) (x1) (s : State) (h : Good q s) : GoodO q (execCalAbort x0 x1 s) := by
  unfold execCalAbort
  iterate 40 all_goals (try first
    | with_reducible assumption
    | intro _ _
    | with_reducible apply State.cmd_good
    | with_reducible apply State.done_good
    | with_reducible apply State.calEndSettle_good
    | with_reducible apply State.gapAdvance_good
    | with_reducible apply State.calCut_good
    | with_reducible apply GoodO.next)

theorem execCalStoreDone_good {q : List Instr} (x0) (s : State) (h : Good q s) : GoodO q (execCalStoreDone x0 s) := by
  unfold execCalStoreDone
  iterate 40 all_goals (try first
    | with_reducible assumption
    | (extract_lets +onlyGivenNames l; refine Good.cut (q := q) l ?_ (fun g => ?_); rotate_left; clear_value l; rotate_left; subst l)
    | with_reducible apply State.set_good
    | with_reducible apply State.slotWrite_good
    | with_reducible apply State.putMramNat_good
    | with_reducible apply State.done_good
    | with_reducible apply GoodO.next
    | with_reducible apply Good.ite
    | (extract_lets +onlyGivenNames l; clear_value l)
    | split
    | with_reducible apply Good.mk_of)

theorem State.loadUnit_good {q : List Instr} (s : State) (x1) (x2) (x3) (h : Good q s) : Good q (State.loadUnit s x1 x2 x3) := by
  unfold State.loadUnit
  iterate 40 all_goals (try first
    | with_reducible assumption
    | intro _ _ _
    | (extract_lets +onlyGivenNames l; refine Good.cut (q := q) l ?_ (fun g => ?_); rotate_left; clear_value l; rotate_left; subst l)
    | with_reducible apply State.setI_good
    | with_reducible apply State.set_good
    | with_reducible apply State.setCalUnit_good
    | with_reducible apply State.forEach_good
    | with_reducible apply State.calRegister_good
    | with_reducible apply Good.ite
    | split
    | with_reducible apply Good.mk_of)

theorem State.loadAges_good {q : List Instr} (s : State) (x1) (h : Good q s) : Good q (State.loadAges s x1) := by
  unfold State.loadAges
  iterate 40 all_goals (try first
    | with_reducible assumption
    | split
    | with_reducible apply Good.mk_of)

theorem State.calLoad_good {q : List Instr} (s : State) (h : Good q s) : Good q (State.calLoad s) := by
  unfold State.calLoad
  iterate 40 all_goals (try first
    | with_reducible assumption
    | intro _ _ _
    | with_reducible apply State.recRead_good
    | with_reducible apply State.loadAges_good
    | with_reducible apply State.set_good
    | with_reducible apply State.forEach_good
    | with_reducible apply State.loadUnit_good
    | with_reducible apply State.setTargets_good
    | with_reducible apply State.setI_good
    | with_reducible apply Good.ite
    | split)

end Sys2Proof.Machine
end

