-- ==== Sys2Proof/Laws/KeepFault.lean ====
section
/-! SUPPORT. Every operation of Machine/Fault.lean keeps the stores canonical and leaves the queue alone. -/

namespace Sys2Proof.Machine

theorem State.histWrite_good {q : List Instr} (s : State) (x1) (x2) (h : Good q s) : Good q (State.histWrite s x1 x2) := by
  unfold State.histWrite
  iterate 40 all_goals (try first
    | with_reducible assumption
    | (extract_lets +onlyGivenNames l; refine Good.cut (q := q) l ?_ (fun g => ?_); rotate_left; clear_value l; rotate_left; subst l)
    | with_reducible apply State.recWrite_good
    | with_reducible apply State.bump_good
    | with_reducible apply Good.ite
    | split
    | with_reducible apply Good.mk_of)

theorem State.recordMsg_good {q : List Instr} (s : State) (x1) (h : Good q s) : Good q (State.recordMsg s x1) := by
  unfold State.recordMsg
  iterate 40 all_goals (try first
    | with_reducible assumption
    | with_reducible apply State.set_good
    | with_reducible apply State.wr64_good
    | with_reducible apply State.wr_good
    | with_reducible apply State.bump_good
    | with_reducible apply State.histWrite_good
    | with_reducible apply State.pushEvent_good
    | with_reducible apply Good.ite
    | split
    | with_reducible apply Good.mk_of)

theorem State.patternHalt_good {q : List Instr} (s : State) (x1) (x2) (h : Good q s) : Good q (State.patternHalt s x1 x2) := by
  unfold State.patternHalt
  iterate 40 all_goals (try first
    | with_reducible assumption
    | intro _ _ _
    | (extract_lets +onlyGivenNames l; refine Good.cut (q := q) l ?_ (fun g => ?_); rotate_left; clear_value l; rotate_left; subst l)
    | with_reducible apply State.abortPack_good
    | with_reducible apply State.forEach_good
    | with_reducible apply State.setChan_good
    | with_reducible apply State.dropGroup_good
    | with_reducible apply State.setReasons_good
    | with_reducible apply Good.ite
    | (extract_lets +onlyGivenNames l; clear_value l)
    | split)

theorem State.pmuHalt_good {q : List Instr} (s : State) (x1) (x2) (h : Good q s) : Good q (State.pmuHalt s x1 x2) := by
  unfold State.pmuHalt
  iterate 40 all_goals (try first
    | with_reducible assumption
    | (extract_lets +onlyGivenNames l; refine Good.cut (q := q) l ?_ (fun g => ?_); rotate_left; clear_value l; rotate_left; subst l)
    | with_reducible apply State.pmuAbort_good
    | with_reducible apply State.cmpStart_good
    | with_reducible apply State.set_good
    | with_reducible apply Good.ite)

theorem State.doneAll_good {q : List Instr} (s : State) (x1) (h : Good q s) : Good q (State.doneAll s x1) := by
  unfold State.doneAll
  iterate 40 all_goals (try first
    | with_reducible assumption
    | intro _ _ _
    | with_reducible apply State.forEach_good
    | with_reducible apply State.done_good)

theorem State.restHalt_good {q : List Instr} (s : State) (x1) (h : Good q s) : Good q (State.restHalt s x1) := by
  unfold State.restHalt
  iterate 40 all_goals (try first
    | with_reducible assumption
    | (extract_lets +onlyGivenNames l; refine Good.cut (q := q) l ?_ (fun g => ?_); rotate_left; clear_value l; rotate_left; subst l)
    | with_reducible apply State.set_good
    | with_reducible apply State.done_good
    | with_reducible apply State.doneAll_good
    | with_reducible apply Good.ite
    | split
    | with_reducible apply Good.mk_of)

theorem State.stopReaction_good {q : List Instr} (s : State) (x1) (h : Good q s) : Good q (State.stopReaction s x1) := by
  unfold State.stopReaction
  iterate 40 all_goals (try first
    | with_reducible assumption
    | intro _ _ _
    | (extract_lets +onlyGivenNames l; refine Good.cut (q := q) l ?_ (fun g => ?_); rotate_left; clear_value l; rotate_left; subst l)
    | with_reducible apply State.forEach_good
    | with_reducible apply State.patternHalt_good
    | with_reducible apply State.pmuHalt_good
    | with_reducible apply State.psmFence_good
    | with_reducible apply State.abortTmu_good
    | with_reducible apply State.restHalt_good
    | with_reducible apply State.calDropAll_good
    | with_reducible apply State.aeStop_good)

theorem State.allstopOut_good {q : List Instr} (s : State) (h : Good q s) : Good q (State.allstopOut s) := by
  unfold State.allstopOut
  iterate 40 all_goals (try first
    | with_reducible assumption
    | with_reducible apply Good.ite
    | with_reducible apply Good.mk_of)

theorem State.react_good {q : List Instr} (s : State) (x1) (x2) (x3) (h : Good q s) : Good q (State.react s x1 x2 x3) := by
  unfold State.react
  iterate 40 all_goals (try first
    | with_reducible assumption
    | (extract_lets +onlyGivenNames l; refine Good.cut (q := q) l ?_ (fun g => ?_); rotate_left; clear_value l; rotate_left; subst l)
    | with_reducible apply State.stopReaction_good
    | with_reducible apply State.allstopOut_good
    | with_reducible apply State.gpioSafe_good
    | with_reducible apply State.set_good
    | with_reducible apply Good.ite
    | with_reducible apply Good.mk_of)

theorem State.blank_good {q : List Instr} (s : State) (h : Good q s) : Good q (State.blank s) :=
  ⟨h.1, rfl, rfl, h.2.3⟩

theorem State.pcRetrainFail_good {q : List Instr} (s : State) (x1) (h : Good q s) : Good q (State.pcRetrainFail s x1) := by
  unfold State.pcRetrainFail
  iterate 40 all_goals (try first
    | with_reducible assumption
    | with_reducible apply State.raiseOnce_good
    | with_reducible apply State.muzzleBits_good
    | with_reducible apply State.addMuzzle_good)

theorem State.tripLost_good {q : List Instr} (s : State) (h : Good q s) : Good q (State.tripLost s) := by
  unfold State.tripLost
  exact State.set_good _ _ _ (State.set_good _ _ _ (State.deviceBits_good _
    ⟨h.1, Tab.filter_wf _ _ _ h.2.1, rfl, h.2.3⟩))

theorem State.tripCheck_good {q : List Instr} (s : State) (h : Good q s) : Good q (State.tripCheck s) := by
  unfold State.tripCheck
  iterate 40 all_goals (try first
    | with_reducible assumption
    | with_reducible apply State.set_good
    | with_reducible apply State.tripLost_good
    | with_reducible apply Good.ite)

theorem execFaultRecord_good {q : List Instr} (s : State) (h : Good q s) : GoodO q (execFaultRecord s) := by
  unfold execFaultRecord
  iterate 40 all_goals (try first
    | with_reducible assumption
    | intro _ _ _
    | with_reducible apply State.forEach_good
    | with_reducible apply State.recordMsg_good
    | with_reducible apply State.muzzleAll_good
    | with_reducible apply State.react_good
    | with_reducible apply State.tripCheck_good
    | with_reducible apply GoodO.next
    | with_reducible apply Good.ite
    | with_reducible apply Good.mk_of)

theorem execSafeCoreStop_good {q : List Instr} (s : State) (h : Good q s) : GoodO q (execSafeCoreStop s) := by
  unfold execSafeCoreStop
  iterate 40 all_goals (try first
    | with_reducible assumption
    | intro _ _ _
    | (extract_lets +onlyGivenNames l; refine Good.cut (q := q) l ?_ (fun g => ?_); rotate_left; clear_value l; rotate_left; subst l)
    | with_reducible apply State.forEach_good
    | with_reducible apply State.set_good
    | with_reducible apply State.coreStop_good
    | with_reducible apply State.tripCheck_good
    | with_reducible apply GoodO.next
    | with_reducible apply Good.ite)

theorem execHistoryLost_good {q : List Instr} (s : State) (h : Good q s) : GoodO q (execHistoryLost s) := by
  unfold execHistoryLost
  iterate 40 all_goals (try first
    | with_reducible assumption
    | (extract_lets +onlyGivenNames l; refine Good.cut (q := q) l ?_ (fun g => ?_); rotate_left; clear_value l; rotate_left; subst l)
    | with_reducible apply State.raiseOnce_good
    | with_reducible apply GoodO.next
    | with_reducible apply Good.ite
    | with_reducible apply Good.mk_of)

theorem writeFltPending_good {q : List Instr} (x0) (s : State) (h : Good q s) : GoodR q (writeFltPending x0 s) := by
  unfold writeFltPending
  iterate 40 all_goals (try first
    | with_reducible assumption
    | intro _ _ _
    | with_reducible apply State.forEach_good
    | with_reducible apply State.set_good
    | with_reducible apply GoodR.ok
    | with_reducible apply Good.mk_of)

theorem execFltPendingAck_good {q : List Instr} (x0) (x1) (s : State) (h : Good q s) : GoodO q (execFltPendingAck x0 x1 s) := by
  unfold execFltPendingAck
  iterate 40 all_goals (try first
    | with_reducible assumption
    | with_reducible apply State.respond_good
    | with_reducible apply writeFltPending_good
    | with_reducible apply GoodO.next)

theorem State.faultLasts_good {q : List Instr} (s : State) (x1) (h : Good q s) : Good q (State.faultLasts s x1).2 := by
  unfold State.faultLasts
  iterate 40 all_goals (try first
    | with_reducible assumption
    | with_reducible apply State.drawBool_good
    | (extract_lets +onlyGivenNames l; clear_value l)
    | split)

theorem State.lasting_good {q : List Instr} (s : State) (x1) (h : Good q s) : Good q (State.lasting s x1).2 := by
  induction x1 generalizing s with
  | nil =>
    unfold State.lasting
    iterate 40 all_goals (try first
      | with_reducible assumption)
  | cons a l ih =>
    unfold State.lasting
    iterate 40 all_goals (try first
      | with_reducible assumption
      | with_reducible apply ih
      | with_reducible apply State.faultLasts_good)

theorem State.clearCheck_good {q : List Instr} (s : State) (x1) (h : Good q s) : Good q (State.clearCheck s x1).2 := by
  unfold State.clearCheck
  iterate 40 all_goals (try first
    | with_reducible assumption
    | intro _ _ _
    | (extract_lets +onlyGivenNames l; refine Good.cutG (q := q) l ?_ (fun gg => ?_); rotate_left; clear_value l; rotate_left; subst l)
    | with_reducible apply State.forEach_good
    | with_reducible apply State.raise_good
    | with_reducible apply State.lasting_good
    | with_reducible apply gg
    | split
    | (with_reducible refine Good.of_snd (by assumption) ?_))

theorem writeFltClear_good {q : List Instr} (x0) (s : State) (h : Good q s) : Good q (writeFltClear x0 s) := by
  unfold writeFltClear
  iterate 40 all_goals (try first
    | with_reducible assumption
    | intro _ _
    | (extract_lets +onlyGivenNames l; refine Good.cut (q := q) l ?_ (fun g => ?_); rotate_left; clear_value l; rotate_left; subst l)
    | (extract_lets +onlyGivenNames l; refine Good.cutF (q := q) l ?_ (fun gf => ?_); rotate_left; clear_value l; rotate_left; subst l)
    | with_reducible apply State.set_good
    | with_reducible apply State.clearCheck_good
    | with_reducible apply gf
    | with_reducible apply Good.ite
    | split
    | (with_reducible refine Good.of_snd (by assumption) ?_)
    | with_reducible apply Good.mk_of)

theorem execClearStop_good {q : List Instr} (x0) (s : State) (h : Good q s) : GoodO q (execClearStop x0 s) := by
  unfold execClearStop
  iterate 40 all_goals (try first
    | with_reducible assumption
    | with_reducible apply writeFltClear_good
    | with_reducible apply GoodO.next)

theorem execClearFirst_good {q : List Instr} (x0) (s : State) (h : Good q s) : GoodO q (execClearFirst x0 s) := by
  unfold execClearFirst
  iterate 40 all_goals (try first
    | with_reducible assumption
    | with_reducible apply writeFltClear_good
    | with_reducible apply GoodO.next)

theorem writeFltUnmuzzle_good {q : List Instr} (x0) (s : State) (h : Good q s) : Good q (writeFltUnmuzzle x0 s) := by
  unfold writeFltUnmuzzle
  iterate 40 all_goals (try first
    | with_reducible assumption
    | (extract_lets +onlyGivenNames l; refine Good.cut (q := q) l ?_ (fun g => ?_); rotate_left; clear_value l; rotate_left; subst l)
    | with_reducible apply State.clearCheck_good
    | with_reducible apply State.release_good
    | with_reducible apply Good.ite
    | split
    | (with_reducible refine Good.of_snd (by assumption) ?_)
    | with_reducible apply Good.mk_of)

theorem execFltUnmuzzle_good {q : List Instr} (x0) (x1) (s : State) (h : Good q s) : GoodO q (execFltUnmuzzle x0 x1 s) := by
  unfold execFltUnmuzzle
  iterate 40 all_goals (try first
    | with_reducible assumption
    | with_reducible apply writeFltUnmuzzle_good
    | with_reducible apply GoodO.next)

theorem writeFltMuzzle_good {q : List Instr} (x0) (s : State) (h : Good q s) : GoodR q (writeFltMuzzle x0 s) := by
  unfold writeFltMuzzle
  iterate 40 all_goals (try first
    | with_reducible assumption
    | with_reducible apply State.raise_good
    | with_reducible apply State.muzzle_good
    | with_reducible exact GoodR.error
    | with_reducible apply GoodR.ok
    | (extract_lets +onlyGivenNames l; clear_value l)
    | split)

theorem execFltMuzzle_good {q : List Instr} (x0) (x1) (s : State) (h : Good q s) : GoodO q (execFltMuzzle x0 x1 s) := by
  unfold execFltMuzzle
  iterate 40 all_goals (try first
    | with_reducible assumption
    | with_reducible apply State.respond_good
    | with_reducible apply writeFltMuzzle_good
    | with_reducible apply GoodO.next)

theorem writeFltSev_good {q : List Instr} (x0) (x1) (s : State) (h : Good q s) : GoodR q (writeFltSev x0 x1 s) := by
  unfold writeFltSev
  iterate 40 all_goals (try first
    | with_reducible assumption
    | with_reducible apply State.store_good
    | with_reducible exact GoodR.error
    | with_reducible apply GoodR.ok
    | with_reducible apply GoodR.ite)

end Sys2Proof.Machine
end

