-- ==== Sys2Proof/Laws/KeepWhistle.lean ====
section
/-! SUPPORT. Every operation of Machine/Whistle.lean keeps the stores canonical and leaves the queue alone. -/

namespace Sys2Proof.Machine

theorem State.grpDrain_good {q : List Instr} (s : State) (h : Good q s) : Good q (State.grpDrain s) := by
  unfold State.grpDrain
  iterate 40 all_goals (try first
    | with_reducible assumption
    | with_reducible apply State.set_good)

theorem State.grpClock_good {q : List Instr} (s : State) (x1) (x2) (h : Good q s) : Good q (State.grpClock s x1 x2) := by
  unfold State.grpClock
  iterate 40 all_goals (try first
    | with_reducible assumption
    | with_reducible apply State.grpDrain_good
    | with_reducible apply State.setB_good)

theorem State.whRaise_good {q : List Instr} (s : State) (x1) (x2) (x3) (h : Good q s) : Good q (State.whRaise s x1 x2 x3) := by
  unfold State.whRaise
  iterate 40 all_goals (try first
    | with_reducible assumption
    | with_reducible apply State.raiseOnce_good)

theorem State.jumpTime_good {q : List Instr} (s : State) (x1) (h : Good q s) : Good q (State.jumpTime s x1) := by
  unfold State.jumpTime
  iterate 40 all_goals (try first
    | with_reducible assumption
    | intro _ _ _
    | (extract_lets +onlyGivenNames l; refine Good.cut (q := q) l ?_ (fun g => ?_); rotate_left; clear_value l; rotate_left; subst l)
    | with_reducible apply State.forEach_good
    | with_reducible apply State.setCap_good
    | with_reducible apply State.setSeq_good
    | with_reducible apply State.setPsm_good
    | with_reducible apply State.setChan_good
    | with_reducible apply Good.ite
    | (extract_lets +onlyGivenNames l; clear_value l)
    | with_reducible apply Good.mk_of)

theorem State.whAcquire_good {q : List Instr} (s : State) (h : Good q s) : Good q (State.whAcquire s) := by
  unfold State.whAcquire
  iterate 40 all_goals (try first
    | with_reducible assumption
    | (extract_lets +onlyGivenNames l; refine Good.cut (q := q) l ?_ (fun g => ?_); rotate_left; clear_value l; rotate_left; subst l)
    | with_reducible apply State.set_good
    | (extract_lets +onlyGivenNames l; clear_value l)
    | with_reducible apply Good.mk_of)

theorem State.whMove_good {q : List Instr} (s : State) (x1) (x2) (h : Good q s) : Good q (State.whMove s x1 x2) := by
  unfold State.whMove
  iterate 40 all_goals (try first
    | with_reducible assumption
    | with_reducible apply Good.mk_of)

theorem State.whKeep_good {q : List Instr} (s : State) (s1 : State) (x2) (h : Good q s) (hs1 : Good q s1) : Good q (State.whKeep s s1 x2) := by
  unfold State.whKeep
  iterate 40 all_goals (try first
    | with_reducible assumption
    | intro _ _ _
    | with_reducible apply State.forEach_good
    | with_reducible apply State.whMove_good
    | with_reducible apply State.whSend_good
    | with_reducible apply Good.ite
    | split)

theorem State.whSwapDue_good {q : List Instr} (s : State) (x1) (h : Good q s) : Good q (State.whSwapDue s x1) := by
  unfold State.whSwapDue
  iterate 40 all_goals (try first
    | with_reducible assumption
    | intro _ _ _
    | (extract_lets +onlyGivenNames l; refine Good.cut (q := q) l ?_ (fun g => ?_); rotate_left; clear_value l; rotate_left; subst l)
    | with_reducible apply State.forEach_good
    | with_reducible apply State.wr_good
    | with_reducible apply State.whKeep_good
    | with_reducible apply State.set_good
    | with_reducible apply Good.ite
    | split
    | with_reducible apply Good.mk_of)

theorem State.timeJump_good {q : List Instr} (s : State) (x1) (x2) (h : Good q s) : Good q (State.timeJump s x1 x2) := by
  unfold State.timeJump
  iterate 40 all_goals (try first
    | with_reducible assumption
    | (extract_lets +onlyGivenNames l; refine Good.cut (q := q) l ?_ (fun g => ?_); rotate_left; clear_value l; rotate_left; subst l)
    | with_reducible apply State.jumpTime_good
    | with_reducible apply State.set_good
    | with_reducible apply State.crossJump_good
    | with_reducible apply Good.ite)

theorem State.superframe_good {q : List Instr} (s : State) (h : Good q s) : Good q (State.superframe s) := by
  unfold State.superframe
  iterate 40 all_goals (try first
    | with_reducible assumption
    | (extract_lets +onlyGivenNames l; refine Good.cut (q := q) l ?_ (fun g => ?_); rotate_left; clear_value l; rotate_left; subst l)
    | with_reducible apply State.timeJump_good
    | (extract_lets +onlyGivenNames l; clear_value l)
    | split
    | with_reducible apply Good.mk_of)

theorem execWhistleFrameStart_good {q : List Instr} (x0) (s : State) (h : Good q s) : GoodO q (execWhistleFrameStart x0 s) := by
  unfold execWhistleFrameStart
  iterate 40 all_goals (try first
    | with_reducible assumption
    | with_reducible apply State.whSwapDue_good
    | with_reducible apply State.superframe_good
    | with_reducible apply State.whRaise_good
    | with_reducible apply GoodO.next
    | with_reducible apply Good.ite
    | (extract_lets +onlyGivenNames l; clear_value l)
    | split
    | with_reducible apply Good.mk_of)

theorem execEchoLaunch_good {q : List Instr} (x0) (s : State) (h : Good q s) : GoodO q (execEchoLaunch x0 s) := by
  unfold execEchoLaunch
  iterate 40 all_goals (try first
    | with_reducible assumption
    | (extract_lets +onlyGivenNames l; refine Good.cut (q := q) l ?_ (fun g => ?_); rotate_left; clear_value l; rotate_left; subst l)
    | with_reducible apply State.set_good
    | with_reducible apply State.whRaise_good
    | with_reducible apply GoodO.next
    | with_reducible apply Good.ite
    | (extract_lets +onlyGivenNames l; clear_value l)
    | split
    | with_reducible apply Good.mk_of)

theorem execEchoAnswer_good {q : List Instr} (s : State) (h : Good q s) : GoodO q (execEchoAnswer s) := by
  unfold execEchoAnswer
  iterate 40 all_goals (try first
    | with_reducible assumption
    | with_reducible apply GoodO.next
    | with_reducible apply Good.ite
    | (extract_lets +onlyGivenNames l; clear_value l)
    | with_reducible apply Good.mk_of)

theorem State.timeBit_good {q : List Instr} (s : State) (x1) (h : Good q s) : Good q (State.timeBit s x1) := by
  unfold State.timeBit
  iterate 40 all_goals (try first
    | with_reducible assumption
    | with_reducible apply Good.ite
    | (extract_lets +onlyGivenNames l; clear_value l)
    | split
    | with_reducible apply Good.mk_of)

theorem State.showPhase_good {q : List Instr} (s : State) (x1) (h : Good q s) : Good q (State.showPhase s x1) := by
  unfold State.showPhase
  iterate 40 all_goals (try first
    | with_reducible assumption
    | with_reducible apply State.setI_good
    | with_reducible apply State.drawWord_good
    | with_reducible apply State.set_good
    | with_reducible apply Good.ite)

theorem State.phaseStep_good {q : List Instr} (s : State) (x1) (h : Good q s) : Good q (State.phaseStep s x1) := by
  unfold State.phaseStep
  iterate 40 all_goals (try first
    | with_reducible assumption
    | with_reducible apply Good.ite
    | (extract_lets +onlyGivenNames l; clear_value l)
    | split
    | with_reducible apply Good.mk_of)

theorem execFramePulseReceive_good {q : List Instr} (x0) (x1) (s : State) (h : Good q s) : GoodO q (execFramePulseReceive x0 x1 s) := by
  unfold execFramePulseReceive
  iterate 40 all_goals (try first
    | with_reducible assumption
    | (extract_lets +onlyGivenNames l; refine Good.cut (q := q) l ?_ (fun g => ?_); rotate_left; clear_value l; rotate_left; subst l)
    | with_reducible apply State.whAcquire_good
    | with_reducible apply State.timeBit_good
    | with_reducible apply State.phaseStep_good
    | with_reducible apply State.showPhase_good
    | with_reducible apply State.whRaise_good
    | with_reducible apply State.set_good
    | with_reducible apply GoodO.next
    | with_reducible apply Good.ite
    | (extract_lets +onlyGivenNames l; clear_value l)
    | with_reducible apply Good.mk_of)

theorem execSyncLost_good {q : List Instr} (s : State) (h : Good q s) : GoodO q (execSyncLost s) := by
  unfold execSyncLost
  iterate 40 all_goals (try first
    | with_reducible assumption
    | with_reducible apply State.whRaise_good
    | with_reducible apply State.set_good
    | with_reducible apply GoodO.next
    | with_reducible apply Good.ite)

theorem State.whsSeen_good {q : List Instr} (s : State) (x1) (h : Good q s) : Good q (State.whsSeen s x1) := by
  unfold State.whsSeen
  iterate 40 all_goals (try first
    | with_reducible assumption
    | with_reducible apply State.setB_good
    | with_reducible apply State.grpClock_good)

theorem execWhsLost_good {q : List Instr} (s : State) (h : Good q s) : GoodO q (execWhsLost s) := by
  unfold execWhsLost
  iterate 40 all_goals (try first
    | with_reducible assumption
    | (extract_lets +onlyGivenNames l; refine Good.cut (q := q) l ?_ (fun g => ?_); rotate_left; clear_value l; rotate_left; subst l)
    | with_reducible apply State.whsSeen_good
    | with_reducible apply State.whRaise_good
    | with_reducible apply State.set_good
    | with_reducible apply GoodO.next
    | with_reducible apply Good.ite)

theorem execWhClkReturn_good {q : List Instr} (s : State) (h : Good q s) : GoodO q (execWhClkReturn s) := by
  unfold execWhClkReturn
  iterate 40 all_goals (try first
    | with_reducible assumption
    | (extract_lets +onlyGivenNames l; refine Good.cut (q := q) l ?_ (fun g => ?_); rotate_left; clear_value l; rotate_left; subst l)
    | with_reducible apply State.whsSeen_good
    | with_reducible apply State.set_good
    | with_reducible apply GoodO.next
    | with_reducible apply Good.ite
    | (extract_lets +onlyGivenNames l; clear_value l)
    | with_reducible apply Good.mk_of)

theorem writeWhCtl_good {q : List Instr} (x0) (x1) (s : State) (h : Good q s) : GoodR q (writeWhCtl x0 x1 s) := by
  unfold writeWhCtl
  iterate 40 all_goals (try first
    | with_reducible assumption
    | (extract_lets +onlyGivenNames l; refine Good.cut (q := q) l ?_ (fun g => ?_); rotate_left; clear_value l; rotate_left; subst l)
    | with_reducible apply State.store_good
    | with_reducible apply State.set_good
    | with_reducible apply State.whKeep_good
    | with_reducible exact GoodR.error
    | with_reducible apply GoodR.ok
    | with_reducible apply GoodR.ite
    | (extract_lets +onlyGivenNames l; clear_value l)
    | with_reducible apply Good.mk_of)

theorem writeWhTimeHi_good {q : List Instr} (x0) (s : State) (h : Good q s) : GoodR q (writeWhTimeHi x0 s) := by
  unfold writeWhTimeHi
  iterate 40 all_goals (try first
    | with_reducible assumption
    | (extract_lets +onlyGivenNames l; refine Good.cut (q := q) l ?_ (fun g => ?_); rotate_left; clear_value l; rotate_left; subst l)
    | with_reducible apply State.store_good
    | with_reducible exact GoodR.error
    | with_reducible apply GoodR.ok
    | with_reducible apply GoodR.ite
    | with_reducible apply Good.mk_of)

theorem writeWhSwapHi_good {q : List Instr} (x0) (s : State) (h : Good q s) : GoodR q (writeWhSwapHi x0 s) := by
  unfold writeWhSwapHi
  iterate 40 all_goals (try first
    | with_reducible assumption
    | (extract_lets +onlyGivenNames l; refine Good.cut (q := q) l ?_ (fun g => ?_); rotate_left; clear_value l; rotate_left; subst l)
    | with_reducible apply State.set_good
    | with_reducible apply State.store_good
    | with_reducible exact GoodR.error
    | with_reducible apply GoodR.ok
    | with_reducible apply GoodR.ite
    | with_reducible apply Good.mk_of)

theorem writeWhSlot_good {q : List Instr} (x0) (x1) (s : State) (h : Good q s) : GoodR q (writeWhSlot x0 x1 s) := by
  unfold writeWhSlot
  iterate 40 all_goals (try first
    | with_reducible assumption
    | with_reducible apply State.wr_good
    | with_reducible exact GoodR.error
    | with_reducible apply GoodR.ok
    | with_reducible apply GoodR.ite)

theorem writeWhEmit_good {q : List Instr} (x0) (s : State) (h : Good q s) : GoodR q (writeWhEmit x0 s) := by
  unfold writeWhEmit
  iterate 40 all_goals (try first
    | with_reducible assumption
    | intro _ _ _
    | with_reducible apply State.forEach_good
    | with_reducible apply State.whEmitReq_good
    | with_reducible apply GoodR.ok)

theorem writeWhAllstop_good {q : List Instr} (x0) (s : State) (h : Good q s) : GoodR q (writeWhAllstop x0 s) := by
  unfold writeWhAllstop
  iterate 40 all_goals (try first
    | with_reducible assumption
    | with_reducible apply GoodR.ok
    | with_reducible apply Good.ite
    | with_reducible apply Good.mk_of)

theorem execWhMasterWrite_good {q : List Instr} (x0) (x1) (s : State) (h : Good q s) : GoodO q (execWhMasterWrite x0 x1 s) := by
  unfold execWhMasterWrite
  iterate 40 all_goals (try first
    | with_reducible assumption
    | with_reducible apply State.respond_good
    | with_reducible apply writeWhCtl_good
    | with_reducible apply GoodO.next)

theorem execWhTimeSetHi_good {q : List Instr} (x0) (x1) (s : State) (h : Good q s) : GoodO q (execWhTimeSetHi x0 x1 s) := by
  unfold execWhTimeSetHi
  iterate 40 all_goals (try first
    | with_reducible assumption
    | with_reducible apply State.respond_good
    | with_reducible apply writeWhTimeHi_good
    | with_reducible apply GoodO.next)

theorem execWhSwapHi_good {q : List Instr} (x0) (x1) (s : State) (h : Good q s) : GoodO q (execWhSwapHi x0 x1 s) := by
  unfold execWhSwapHi
  iterate 40 all_goals (try first
    | with_reducible assumption
    | with_reducible apply State.respond_good
    | with_reducible apply writeWhSwapHi_good
    | with_reducible apply GoodO.next)

theorem execWhEmit_good {q : List Instr} (x0) (x1) (s : State) (h : Good q s) : GoodO q (execWhEmit x0 x1 s) := by
  unfold execWhEmit
  iterate 40 all_goals (try first
    | with_reducible assumption
    | with_reducible apply State.respond_good
    | with_reducible apply writeWhEmit_good
    | with_reducible apply GoodO.next)

theorem execWhAllstop_good {q : List Instr} (x0) (x1) (s : State) (h : Good q s) : GoodO q (execWhAllstop x0 x1 s) := by
  unfold execWhAllstop
  iterate 40 all_goals (try first
    | with_reducible assumption
    | with_reducible apply State.respond_good
    | with_reducible apply writeWhAllstop_good
    | with_reducible apply GoodO.next)

theorem execWhistleEventSend_good {q : List Instr} (x0) (s : State) (h : Good q s) : GoodO q (execWhistleEventSend x0 s) := by
  unfold execWhistleEventSend
  iterate 40 all_goals (try first
    | with_reducible assumption
    | with_reducible apply State.whSend_good
    | with_reducible apply GoodO.next
    | with_reducible apply Good.ite
    | split
    | with_reducible apply Good.mk_of)

theorem State.strobe_good {q : List Instr} (s : State) (x1) (x2) (h : Good q s) : Good q (State.strobe s x1 x2) := by
  unfold State.strobe
  iterate 40 all_goals (try first
    | with_reducible assumption
    | with_reducible apply State.crossOverrun_good
    | with_reducible apply Good.ite
    | with_reducible apply Good.mk_of)

theorem State.whAct_good {q : List Instr} (s : State) (x1) (x2) (h : Good q s) : Good q (State.whAct s x1 x2) := by
  unfold State.whAct
  iterate 40 all_goals (try first
    | with_reducible assumption
    | intro _ _ _
    | with_reducible apply State.strobe_good
    | with_reducible apply State.bump_good
    | with_reducible apply State.forEach_good
    | with_reducible apply State.setSeq_good
    | with_reducible apply State.pushTrigger_good
    | with_reducible apply State.ownEdge_good
    | with_reducible apply State.armEvent_good
    | with_reducible apply State.snapTrigger_good
    | with_reducible apply Good.ite)

theorem execWhistleEventAct_good {q : List Instr} (x0) (s : State) (h : Good q s) : GoodO q (execWhistleEventAct x0 s) := by
  unfold execWhistleEventAct
  iterate 40 all_goals (try first
    | with_reducible assumption
    | (extract_lets +onlyGivenNames l; refine Good.cut (q := q) l ?_ (fun g => ?_); rotate_left; clear_value l; rotate_left; subst l)
    | with_reducible apply State.whAct_good
    | with_reducible apply GoodO.next
    | with_reducible apply Good.ite
    | split
    | with_reducible apply Good.mk_of)

theorem execAllstop_good {q : List Instr} (s : State) (h : Good q s) : GoodO q (execAllstop s) := by
  unfold execAllstop
  iterate 40 all_goals (try first
    | with_reducible assumption
    | (extract_lets +onlyGivenNames l; refine Good.cut (q := q) l ?_ (fun g => ?_); rotate_left; clear_value l; rotate_left; subst l)
    | with_reducible apply State.muzzleAll_good
    | with_reducible apply State.react_good
    | with_reducible apply State.tripCheck_good
    | with_reducible apply State.whRaise_good
    | with_reducible apply GoodO.next
    | with_reducible apply Good.ite
    | with_reducible apply Good.mk_of)

theorem execAllstopRelease_good {q : List Instr} (s : State) (h : Good q s) : GoodO q (execAllstopRelease s) := by
  unfold execAllstopRelease
  iterate 40 all_goals (try first
    | with_reducible assumption
    | with_reducible apply GoodO.next
    | with_reducible apply Good.mk_of)

theorem execAllstopRearm_good {q : List Instr} (s : State) (h : Good q s) : GoodO q (execAllstopRearm s) := by
  unfold execAllstopRearm
  iterate 40 all_goals (try first
    | with_reducible assumption
    | with_reducible apply GoodO.next
    | with_reducible apply Good.ite
    | with_reducible apply Good.mk_of)

end Sys2Proof.Machine
end

