-- ==== Sys2Proof/Laws/KeepMpa.lean ====
section
/-! SUPPORT. Every operation of Machine/Mpa.lean keeps the stores canonical and leaves the queue alone. -/

namespace Sys2Proof.Machine

theorem State.setBackOff_good {q : List Instr} (s : State) (x1) (x2) (x3) (h : Good q s) : Good q (State.setBackOff s x1 x2 x3) := by
  unfold State.setBackOff
  iterate 40 all_goals (try first
    | with_reducible assumption
    | (extract_lets +onlyGivenNames l; refine Good.cut (q := q) l ?_ (fun g => ?_); rotate_left; clear_value l; rotate_left; subst l)
    | with_reducible apply State.set_good
    | with_reducible apply Good.mk_of)

theorem State.mpaDrain_good {q : List Instr} (s : State) (h : Good q s) : Good q (State.mpaDrain s) := by
  unfold State.mpaDrain
  iterate 40 all_goals (try first
    | with_reducible assumption
    | with_reducible apply State.setB_good)

theorem State.showHolding_good {q : List Instr} (s : State) (x1) (h : Good q s) : Good q (State.showHolding s x1) := by
  unfold State.showHolding
  iterate 40 all_goals (try first
    | with_reducible assumption
    | with_reducible apply State.setB_good)

theorem State.setHolder_good {q : List Instr} (s : State) (x1) (x2) (h : Good q s) : Good q (State.setHolder s x1 x2) := by
  unfold State.setHolder
  iterate 40 all_goals (try first
    | with_reducible assumption
    | intro _ _ _
    | (extract_lets +onlyGivenNames l; refine Good.cut (q := q) l ?_ (fun g => ?_); rotate_left; clear_value l; rotate_left; subst l)
    | with_reducible apply State.mpaDrain_good
    | with_reducible apply State.forEach_good
    | with_reducible apply State.showHolding_good
    | with_reducible apply Good.mk_of)

theorem State.setWaiter_good {q : List Instr} (s : State) (x1) (x2) (h : Good q s) : Good q (State.setWaiter s x1 x2) := by
  unfold State.setWaiter
  iterate 40 all_goals (try first
    | with_reducible assumption
    | with_reducible apply State.mpaDrain_good
    | with_reducible apply Good.mk_of)

theorem State.mpaRelease_good {q : List Instr} (s : State) (x1) (h : Good q s) : Good q (State.mpaRelease s x1) := by
  unfold State.mpaRelease
  iterate 40 all_goals (try first
    | with_reducible assumption
    | with_reducible apply State.setHolder_good
    | with_reducible apply State.setWaiter_good
    | split)

theorem State.mirrorUe_good {q : List Instr} (s : State) (x1) (h : Good q s) : Good q (State.mirrorUe s x1) := by
  unfold State.mirrorUe
  iterate 40 all_goals (try first
    | with_reducible assumption
    | with_reducible apply Good.mk_of)

theorem State.mpaBurst_good {q : List Instr} (s : State) (x1) (x2) (h : Good q s) : Good q (State.mpaBurst s x1 x2) := by
  unfold State.mpaBurst
  iterate 40 all_goals (try first
    | with_reducible assumption
    | intro _ _ _
    | (extract_lets +onlyGivenNames l; refine Good.cut (q := q) l ?_ (fun g => ?_); rotate_left; clear_value l; rotate_left; subst l)
    | with_reducible apply State.fetchRange_good
    | with_reducible apply State.forEach_good
    | with_reducible apply State.waveRange_good
    | with_reducible apply State.dramUe_good
    | with_reducible apply State.mirrorUe_good
    | with_reducible apply Good.ite
    | split
    | with_reducible apply Good.mk_of)

theorem State.mpaSend_good {q : List Instr} (s : State) (x1) (x2) (h : Good q s) : Good q (State.mpaSend s x1 x2) := by
  induction x2 generalizing s x1 with
  | zero =>
    unfold State.mpaSend
    iterate 40 all_goals (try first
      | with_reducible assumption)
  | succ n ih =>
    unfold State.mpaSend
    iterate 40 all_goals (try first
      | with_reducible assumption
      | (extract_lets +onlyGivenNames l; refine Good.cut (q := q) l ?_ (fun g => ?_); rotate_left; clear_value l; rotate_left; subst l)
      | with_reducible apply ih
      | with_reducible apply State.setHolder_good
      | with_reducible apply State.mpaRelease_good
      | with_reducible apply State.mpaBurst_good
      | with_reducible apply Good.ite
      | split)

theorem State.classWrap_good {q : List Instr} (s : State) (h : Good q s) : Good q (State.classWrap s) := by
  unfold State.classWrap
  iterate 40 all_goals (try first
    | with_reducible assumption
    | intro _ _ _
    | with_reducible apply State.forEach_good
    | with_reducible apply State.wr_good
    | split
    | with_reducible apply Good.mk_of)

theorem State.classSettle_good {q : List Instr} (s : State) (h : Good q s) : Good q (State.classSettle s) := by
  unfold State.classSettle
  iterate 40 all_goals (try first
    | with_reducible assumption
    | with_reducible apply State.classWrap_good
    | with_reducible apply Good.ite)

theorem State.mpaRefuse_good {q : List Instr} (s : State) (x1) (x2) (h : Good q s) : Good q (State.mpaRefuse s x1 x2) := by
  unfold State.mpaRefuse
  iterate 40 all_goals (try first
    | with_reducible assumption
    | intro _ _ _
    | (extract_lets +onlyGivenNames l; refine Good.cut (q := q) l ?_ (fun g => ?_); rotate_left; clear_value l; rotate_left; subst l)
    | with_reducible apply State.patternFence_good
    | with_reducible apply State.forEach_good
    | with_reducible apply State.waveRefused_good
    | with_reducible apply Good.ite)

theorem State.mpaPhase_good {q : List Instr} (s : State) (x1) (x2) (h : Good q s) : Good q (State.mpaPhase s x1 x2) := by
  unfold State.mpaPhase
  iterate 40 all_goals (try first
    | with_reducible assumption
    | intro _ _ _
    | with_reducible apply State.forEach_good
    | with_reducible apply State.setBackOff_good
    | with_reducible apply State.setHolder_good
    | with_reducible apply State.setWaiter_good
    | with_reducible apply Good.ite
    | split
    | with_reducible apply Good.mk_of)

theorem execMpaArbitration_good {q : List Instr} (x0) (x1) (s : State) (h : Good q s) : GoodO q (execMpaArbitration x0 x1 s) := by
  unfold execMpaArbitration
  iterate 40 all_goals (try first
    | with_reducible assumption
    | intro _ _ _
    | (extract_lets +onlyGivenNames l; refine Good.cut (q := q) l ?_ (fun g => ?_); rotate_left; clear_value l; rotate_left; subst l)
    | with_reducible apply State.mpaSend_good
    | with_reducible apply State.classWrap_good
    | with_reducible apply State.forEach_good
    | with_reducible apply State.mpaRefuse_good
    | with_reducible apply State.mpaPhase_good
    | with_reducible apply GoodO.next
    | with_reducible apply Good.ite)

theorem State.fence_good {q : List Instr} (s : State) (x1) (x2) (h : Good q s) : Good q (State.fence s x1 x2) := by
  unfold State.fence
  iterate 40 all_goals (try first
    | with_reducible assumption
    | (extract_lets +onlyGivenNames l; refine Good.cut (q := q) l ?_ (fun g => ?_); rotate_left; clear_value l; rotate_left; subst l)
    | with_reducible apply State.set_good
    | with_reducible apply State.muzzle_good
    | with_reducible apply Good.ite
    | with_reducible apply Good.mk_of)

theorem execGrantHeld_good {q : List Instr} (x0) (s : State) (h : Good q s) : GoodO q (execGrantHeld x0 s) := by
  unfold execGrantHeld
  iterate 40 all_goals (try first
    | with_reducible assumption
    | with_reducible apply State.raiseOnce_good
    | with_reducible apply State.fence_good
    | with_reducible apply State.mpaRelease_good
    | with_reducible apply GoodO.next
    | split)

theorem writeMpaCtl_good {q : List Instr} (x0) (s : State) (h : Good q s) : GoodR q (writeMpaCtl x0 s) := by
  unfold writeMpaCtl
  iterate 40 all_goals (try first
    | with_reducible assumption
    | with_reducible apply State.mpaDrain_good
    | with_reducible apply State.store_good
    | with_reducible apply GoodR.ok)

theorem execMpaFreeze_good {q : List Instr} (x0) (x1) (s : State) (h : Good q s) : GoodO q (execMpaFreeze x0 x1 s) := by
  unfold execMpaFreeze
  iterate 40 all_goals (try first
    | with_reducible assumption
    | with_reducible apply State.respond_good
    | with_reducible apply writeMpaCtl_good
    | with_reducible apply GoodO.next)

theorem writeMpaWdog_good {q : List Instr} (x0) (s : State) (h : Good q s) : GoodR q (writeMpaWdog x0 s) := by
  unfold writeMpaWdog
  iterate 40 all_goals (try first
    | with_reducible assumption
    | with_reducible apply State.store_good
    | with_reducible exact GoodR.error
    | with_reducible apply GoodR.ok
    | with_reducible apply GoodR.ite)

theorem State.egressWrap_good {q : List Instr} (s : State) (x1) (h : Good q s) : Good q (State.egressWrap s x1) := by
  unfold State.egressWrap
  iterate 40 all_goals (try first
    | with_reducible assumption
    | intro _ _ _
    | with_reducible apply State.set_good
    | with_reducible apply State.forEach_good
    | with_reducible apply State.wr_good)

theorem State.egressSwap_good {q : List Instr} (s : State) (x1) (h : Good q s) : Good q (State.egressSwap s x1) := by
  unfold State.egressSwap
  iterate 40 all_goals (try first
    | with_reducible assumption
    | (extract_lets +onlyGivenNames l; refine Good.cut (q := q) l ?_ (fun g => ?_); rotate_left; clear_value l; rotate_left; subst l)
    | with_reducible apply State.set_good
    | with_reducible apply State.egressWrap_good
    | with_reducible apply Good.ite)

theorem writeMpaSwap_good {q : List Instr} (x0) (s : State) (h : Good q s) : GoodR q (writeMpaSwap x0 s) := by
  unfold writeMpaSwap
  iterate 40 all_goals (try first
    | with_reducible assumption
    | intro _ _ _
    | (extract_lets +onlyGivenNames l; refine Good.cut (q := q) l ?_ (fun g => ?_); rotate_left; clear_value l; rotate_left; subst l)
    | with_reducible apply State.classSettle_good
    | with_reducible apply State.forEach_good
    | with_reducible apply State.egressSwap_good
    | with_reducible exact GoodR.error
    | with_reducible apply GoodR.ok
    | with_reducible apply Good.ite
    | with_reducible apply GoodR.ite
    | split
    | with_reducible apply Good.mk_of)

theorem writeClassSh_good {q : List Instr} (x0) (x1) (s : State) (h : Good q s) : GoodR q (writeClassSh x0 x1 s) := by
  unfold writeClassSh
  iterate 40 all_goals (try first
    | with_reducible assumption
    | (extract_lets +onlyGivenNames l; refine Good.cut (q := q) l ?_ (fun g => ?_); rotate_left; clear_value l; rotate_left; subst l)
    | with_reducible apply State.classSettle_good
    | with_reducible apply State.store_good
    | with_reducible exact GoodR.error
    | with_reducible apply GoodR.ok
    | with_reducible apply GoodR.ite)

theorem writeEgressSh_good {q : List Instr} (x0) (x1) (s : State) (h : Good q s) : GoodR q (writeEgressSh x0 x1 s) := by
  unfold writeEgressSh
  iterate 40 all_goals (try first
    | with_reducible assumption
    | with_reducible apply State.store_good
    | with_reducible exact GoodR.error
    | with_reducible apply GoodR.ok
    | with_reducible apply GoodR.ite)

theorem execMpaClassSwap_good {q : List Instr} (x0) (s : State) (h : Good q s) : GoodO q (execMpaClassSwap x0 s) := by
  unfold execMpaClassSwap
  iterate 40 all_goals (try first
    | with_reducible assumption
    | with_reducible apply State.respond_good
    | with_reducible apply writeMpaSwap_good
    | with_reducible apply GoodO.next)

theorem execEgressSlotSwap_good {q : List Instr} (x0) (x1) (s : State) (h : Good q s) : GoodO q (execEgressSlotSwap x0 x1 s) := by
  unfold execEgressSlotSwap
  iterate 40 all_goals (try first
    | with_reducible assumption
    | with_reducible apply State.respond_good
    | with_reducible apply writeMpaSwap_good
    | with_reducible apply GoodO.next)

theorem writeMrmCtl_good {q : List Instr} (x0) (s : State) (h : Good q s) : GoodR q (writeMrmCtl x0 s) := by
  unfold writeMrmCtl
  iterate 40 all_goals (try first
    | with_reducible assumption
    | (extract_lets +onlyGivenNames l; refine Good.cut (q := q) l ?_ (fun g => ?_); rotate_left; clear_value l; rotate_left; subst l)
    | with_reducible apply State.store_good
    | with_reducible apply State.set_good
    | with_reducible apply State.putMramNat_good
    | with_reducible exact GoodR.error
    | with_reducible apply GoodR.ok
    | with_reducible apply Good.ite
    | with_reducible apply GoodR.ite)

theorem writeMrmPlain_good {q : List Instr} (x0) (x1) (s : State) (h : Good q s) : GoodR q (writeMrmPlain x0 x1 s) := by
  unfold writeMrmPlain
  iterate 40 all_goals (try first
    | with_reducible assumption
    | with_reducible apply State.store_good
    | with_reducible exact GoodR.error
    | with_reducible apply GoodR.ok
    | with_reducible apply GoodR.ite)

theorem execMramCopyGo_good {q : List Instr} (x0) (x1) (s : State) (h : Good q s) : GoodO q (execMramCopyGo x0 x1 s) := by
  unfold execMramCopyGo
  iterate 40 all_goals (try first
    | with_reducible assumption
    | with_reducible apply State.respond_good
    | with_reducible apply writeMrmCtl_good
    | with_reducible apply GoodO.next)

theorem State.copyPart_good {q : List Instr} (s : State) (x1) (h : Good q s) : Good q (State.copyPart s x1) := by
  unfold State.copyPart
  iterate 40 all_goals (try first
    | with_reducible assumption
    | (extract_lets +onlyGivenNames l; refine Good.cut (q := q) l ?_ (fun g => ?_); rotate_left; clear_value l; rotate_left; subst l)
    | with_reducible apply State.putMram_good
    | with_reducible apply State.putMramNat_good
    | with_reducible apply State.putDram_good
    | with_reducible apply Good.ite)

theorem State.copyCut_good {q : List Instr} (s : State) (h : Good q s) : Good q (State.copyCut s) := by
  unfold State.copyCut
  iterate 40 all_goals (try first
    | with_reducible assumption
    | with_reducible apply State.drawWord_good
    | with_reducible apply State.copyPart_good
    | with_reducible apply Good.ite)

theorem execMramCopyDone_good {q : List Instr} (x0) (s : State) (h : Good q s) : GoodO q (execMramCopyDone x0 s) := by
  unfold execMramCopyDone
  iterate 40 all_goals (try first
    | with_reducible assumption
    | intro _ _ _
    | (extract_lets +onlyGivenNames l; refine Good.cut (q := q) l ?_ (fun g => ?_); rotate_left; clear_value l; rotate_left; subst l)
    | with_reducible apply State.set_good
    | with_reducible apply State.copyCut_good
    | with_reducible apply State.putMram_good
    | with_reducible apply State.putDram_good
    | with_reducible apply State.forEach_good
    | with_reducible apply State.dramUe_good
    | with_reducible apply State.raiseOnce_good
    | with_reducible apply GoodO.next
    | with_reducible apply Good.ite)

theorem execPatrolScrub_good {q : List Instr} (x0) (x1) (x2) (s : State) (h : Good q s) : GoodO q (execPatrolScrub x0 x1 x2 s) := by
  unfold execPatrolScrub
  iterate 40 all_goals (try first
    | with_reducible assumption
    | with_reducible apply State.raiseOnce_good
    | with_reducible apply State.bump_good
    | with_reducible apply State.dramUe_good
    | with_reducible apply GoodO.next
    | with_reducible apply Good.ite)

end Sys2Proof.Machine
end

