-- ==== Sys2Proof/Laws/KeepClock.lean ====
section
/-! SUPPORT. Every operation of Machine/Clock.lean keeps the stores canonical and leaves the queue alone. -/

namespace Sys2Proof.Machine

theorem execRefLost_good {q : List Instr} (s : State) (h : Good q s) : GoodO q (execRefLost s) := by
  unfold execRefLost
  iterate 40 all_goals (try first
    | with_reducible assumption
    | with_reducible apply State.raiseOnce_good
    | with_reducible apply State.set_good
    | with_reducible apply GoodO.next)

theorem execRefclkReturn_good {q : List Instr} (s : State) (h : Good q s) : GoodO q (execRefclkReturn s) := by
  unfold execRefclkReturn
  iterate 40 all_goals (try first
    | with_reducible assumption
    | with_reducible apply State.set_good
    | with_reducible apply GoodO.next)

theorem execRootUnlock_good {q : List Instr} (s : State) (h : Good q s) : GoodO q (execRootUnlock s) := by
  unfold execRootUnlock
  iterate 40 all_goals (try first
    | with_reducible assumption
    | with_reducible apply State.raiseOnce_good
    | with_reducible apply State.coreStop_good
    | with_reducible apply State.set_good
    | with_reducible apply GoodO.next)

theorem execDrmUnlock_good {q : List Instr} (x0) (s : State) (h : Good q s) : GoodO q (execDrmUnlock x0 s) := by
  unfold execDrmUnlock
  iterate 40 all_goals (try first
    | with_reducible assumption
    | with_reducible apply State.raiseOnce_good
    | with_reducible apply State.set_good
    | with_reducible apply GoodO.next)

theorem execDrmPllRelock_good {q : List Instr} (x0) (s : State) (h : Good q s) : GoodO q (execDrmPllRelock x0 s) := by
  unfold execDrmPllRelock
  iterate 40 all_goals (try first
    | with_reducible assumption
    | with_reducible apply State.set_good
    | with_reducible apply GoodO.next)

theorem execHkoRange_good {q : List Instr} (x0) (s : State) (h : Good q s) : GoodO q (execHkoRange x0 s) := by
  unfold execHkoRange
  iterate 40 all_goals (try first
    | with_reducible assumption
    | with_reducible apply State.set_good
    | with_reducible apply State.raiseOnce_good
    | with_reducible apply GoodO.next
    | with_reducible apply Good.ite)

theorem State.grpFlush_good {q : List Instr} (s : State) (x1) (h : Good q s) : Good q (State.grpFlush s x1) := by
  unfold State.grpFlush
  iterate 40 all_goals (try first
    | with_reducible assumption
    | intro _ _ _
    | with_reducible apply State.forEach_good
    | with_reducible apply State.crossJump_good
    | with_reducible apply Good.ite
    | with_reducible apply Good.mk_of)

theorem State.grpReset_good {q : List Instr} (s : State) (x1) (h : Good q s) : Good q (State.grpReset s x1) := by
  unfold State.grpReset
  iterate 40 all_goals (try first
    | with_reducible assumption
    | (extract_lets +onlyGivenNames l; refine Good.cut (q := q) l ?_ (fun g => ?_); rotate_left; clear_value l; rotate_left; subst l)
    | with_reducible apply State.set_good
    | with_reducible apply State.grpFlush_good
    | with_reducible apply State.drawWord_good
    | with_reducible apply State.bumpBy_good
    | with_reducible apply Good.ite
    | with_reducible apply Good.mk_of)

theorem writeGrpCtl_good {q : List Instr} (x0) (s : State) (h : Good q s) : GoodR q (writeGrpCtl x0 s) := by
  unfold writeGrpCtl
  iterate 40 all_goals (try first
    | with_reducible assumption
    | intro _ _ _
    | with_reducible apply State.forEach_good
    | with_reducible apply State.grpReset_good
    | with_reducible apply State.grpDrain_good
    | with_reducible apply State.store_good
    | with_reducible exact GoodR.error
    | with_reducible apply GoodR.ok
    | with_reducible apply GoodR.ite)

theorem execGroupFreeze_good {q : List Instr} (x0) (x1) (s : State) (h : Good q s) : GoodO q (execGroupFreeze x0 x1 s) := by
  unfold execGroupFreeze
  iterate 40 all_goals (try first
    | with_reducible assumption
    | with_reducible apply State.respond_good
    | with_reducible apply writeGrpCtl_good
    | with_reducible apply GoodO.next)

theorem execGroupMuzzle_good {q : List Instr} (x0) (x1) (s : State) (h : Good q s) : GoodO q (execGroupMuzzle x0 x1 s) := by
  unfold execGroupMuzzle
  iterate 40 all_goals (try first
    | with_reducible assumption
    | with_reducible apply State.respond_good
    | with_reducible apply writeGrpCtl_good
    | with_reducible apply GoodO.next)

theorem execGroupReset_good {q : List Instr} (x0) (x1) (s : State) (h : Good q s) : GoodO q (execGroupReset x0 x1 s) := by
  unfold execGroupReset
  iterate 40 all_goals (try first
    | with_reducible assumption
    | with_reducible apply State.respond_good
    | with_reducible apply writeGrpCtl_good
    | with_reducible apply GoodO.next)

theorem execGroupResetEnd_good {q : List Instr} (x0) (s : State) (h : Good q s) : GoodO q (execGroupResetEnd x0 s) := by
  unfold execGroupResetEnd
  iterate 40 all_goals (try first
    | with_reducible assumption
    | with_reducible apply State.set_good
    | with_reducible apply GoodO.next)

end Sys2Proof.Machine
end

