-- ==== Sys2Proof/Laws/KeepThermal.lean ====
section
/-! SUPPORT. Every operation of Machine/Thermal.lean keeps the stores canonical and leaves the queue alone. -/

namespace Sys2Proof.Machine

theorem State.breakDiode_good {q : List Instr} (s : State) (x1) (h : Good q s) : Good q (State.breakDiode s x1) := by
  unfold State.breakDiode
  iterate 40 all_goals (try first
    | with_reducible assumption
    | with_reducible apply State.raiseOnce_good)

theorem State.crossCheck_good {q : List Instr} (s : State) (x1) (h : Good q s) : Good q (State.crossCheck s x1) := by
  unfold State.crossCheck
  iterate 40 all_goals (try first
    | with_reducible assumption
    | with_reducible apply State.breakDiode_good
    | with_reducible apply Good.ite
    | split
    | with_reducible apply Good.mk_of)

theorem State.effective_good {q : List Instr} (s : State) (h : Good q s) : Good q (State.effective s) := by
  unfold State.effective
  iterate 40 all_goals (try first
    | with_reducible assumption
    | intro _ _ _
    | (extract_lets +onlyGivenNames l; refine Good.cut (q := q) l ?_ (fun g => ?_); rotate_left; clear_value l; rotate_left; subst l)
    | with_reducible apply State.forEach_good
    | with_reducible apply State.setI_good
    | with_reducible apply State.raise_good
    | with_reducible apply State.set_good
    | with_reducible apply Good.ite
    | split)

theorem State.dieLimit_good {q : List Instr} (s : State) (x1) (x2) (h : Good q s) : Good q (State.dieLimit s x1 x2) := by
  unfold State.dieLimit
  iterate 40 all_goals (try first
    | with_reducible assumption
    | with_reducible apply State.raise_good
    | with_reducible apply Good.ite
    | with_reducible apply Good.mk_of)

theorem State.thresholds_good {q : List Instr} (s : State) (h : Good q s) : Good q (State.thresholds s) := by
  unfold State.thresholds
  iterate 40 all_goals (try first
    | with_reducible assumption
    | intro _ _ _
    | (extract_lets +onlyGivenNames l; refine Good.cut (q := q) l ?_ (fun g => ?_); rotate_left; clear_value l; rotate_left; subst l)
    | with_reducible apply State.forEach_good
    | with_reducible apply State.dieLimit_good
    | with_reducible apply State.setB_good
    | with_reducible apply State.set_good
    | with_reducible apply State.deferNote_good
    | with_reducible apply State.setI_good
    | with_reducible apply Good.ite)

theorem State.driftPack_good {q : List Instr} (s : State) (x1) (h : Good q s) : Good q (State.driftPack s x1) := by
  unfold State.driftPack
  iterate 40 all_goals (try first
    | with_reducible assumption
    | with_reducible apply State.setTargets_good
    | with_reducible apply State.setI_good
    | with_reducible apply State.raiseOnce_good
    | with_reducible apply State.set_good
    | with_reducible apply Good.ite)

theorem State.gradNote_good {q : List Instr} (s : State) (x1) (h : Good q s) : Good q (State.gradNote s x1) := by
  unfold State.gradNote
  iterate 40 all_goals (try first
    | with_reducible assumption
    | split
    | with_reducible apply Good.mk_of)

theorem State.diodeRead_good {q : List Instr} (s : State) (x1) (x2) (h : Good q s) : Good q (State.diodeRead s x1 x2) := by
  unfold State.diodeRead
  iterate 40 all_goals (try first
    | with_reducible assumption
    | intro _ _ _
    | (extract_lets +onlyGivenNames l; refine Good.cut (q := q) l ?_ (fun g => ?_); rotate_left; clear_value l; rotate_left; subst l)
    | with_reducible apply State.thresholds_good
    | with_reducible apply State.effective_good
    | with_reducible apply State.crossCheck_good
    | with_reducible apply State.gradNote_good
    | with_reducible apply State.set_good
    | with_reducible apply State.forEach_good
    | with_reducible apply State.driftPack_good)

theorem execDiodeReading_good {q : List Instr} (x0) (x1) (s : State) (h : Good q s) : GoodO q (execDiodeReading x0 x1 s) := by
  unfold execDiodeReading
  iterate 40 all_goals (try first
    | with_reducible assumption
    | with_reducible apply State.diodeRead_good
    | with_reducible apply GoodO.next
    | with_reducible apply Good.ite)

theorem State.stackLimit_good {q : List Instr} (s : State) (x1) (x2) (x3) (x4) (h : Good q s) : Good q (State.stackLimit s x1 x2 x3 x4) := by
  unfold State.stackLimit
  iterate 40 all_goals (try first
    | with_reducible assumption
    | with_reducible apply State.raise_good
    | with_reducible apply State.setB_good
    | with_reducible apply Good.ite
    | with_reducible apply Good.mk_of)

theorem State.stackRead_good {q : List Instr} (s : State) (x1) (x2) (h : Good q s) : Good q (State.stackRead s x1 x2) := by
  unfold State.stackRead
  iterate 40 all_goals (try first
    | with_reducible assumption
    | with_reducible apply State.stackLimit_good
    | with_reducible apply State.set_good)

theorem execDramTempReading_good {q : List Instr} (x0) (x1) (s : State) (h : Good q s) : GoodO q (execDramTempReading x0 x1 s) := by
  unfold execDramTempReading
  iterate 40 all_goals (try first
    | with_reducible assumption
    | with_reducible apply State.stackRead_good
    | with_reducible apply GoodO.next
    | with_reducible apply Good.ite)

theorem execHkRoundReading_good {q : List Instr} (x0) (s : State) (h : Good q s) : GoodO q (execHkRoundReading x0 s) := by
  unfold execHkRoundReading
  iterate 40 all_goals (try first
    | with_reducible assumption
    | (extract_lets +onlyGivenNames l; refine Good.cut (q := q) l ?_ (fun g => ?_); rotate_left; clear_value l; rotate_left; subst l)
    | with_reducible apply State.diodeRead_good
    | with_reducible apply State.stackRead_good
    | with_reducible apply GoodO.next
    | with_reducible apply Good.ite
    | (extract_lets +onlyGivenNames l; clear_value l)
    | with_reducible apply Good.mk_of)

theorem State.psmDieRamp_good {q : List Instr} (s : State) (x1) (h : Good q s) : Good q (State.psmDieRamp s x1) := by
  unfold State.psmDieRamp
  iterate 40 all_goals (try first
    | with_reducible assumption
    | (extract_lets +onlyGivenNames l; refine Good.cut (q := q) l ?_ (fun g => ?_); rotate_left; clear_value l; rotate_left; subst l)
    | with_reducible apply State.psmOpen_good
    | with_reducible apply State.set_good
    | with_reducible apply State.psmToFv_good
    | with_reducible apply State.setPsm_good
    | with_reducible apply Good.ite
    | split)

theorem execPfeInterfaceStop_good {q : List Instr} (x0) (s : State) (h : Good q s) : GoodO q (execPfeInterfaceStop x0 s) := by
  unfold execPfeInterfaceStop
  iterate 40 all_goals (try first
    | with_reducible assumption
    | intro _ _ _
    | with_reducible apply State.forEach_good
    | with_reducible apply State.psmDieRamp_good
    | with_reducible apply State.letGo_good
    | with_reducible apply GoodO.next)

theorem execPfeLost_good {q : List Instr} (x0) (s : State) (h : Good q s) : GoodO q (execPfeLost x0 s) := by
  unfold execPfeLost
  iterate 40 all_goals (try first
    | with_reducible assumption
    | with_reducible apply State.raise_good
    | with_reducible apply GoodO.next
    | with_reducible apply Good.ite)

theorem execRailUv_good {q : List Instr} (x0) (s : State) (h : Good q s) : GoodO q (execRailUv x0 s) := by
  unfold execRailUv
  iterate 40 all_goals (try first
    | with_reducible assumption
    | (extract_lets +onlyGivenNames l; refine Good.cut (q := q) l ?_ (fun g => ?_); rotate_left; clear_value l; rotate_left; subst l)
    | with_reducible apply State.raise_good
    | with_reducible apply State.coreStop_good
    | with_reducible apply GoodO.next
    | with_reducible apply Good.ite)

end Sys2Proof.Machine
end

