-- ==== Sys2Proof/Laws/KeepPort.lean ====
section
/-! SUPPORT. Every operation of Machine/Port.lean keeps the stores canonical and leaves the queue alone. -/

namespace Sys2Proof.Machine

theorem State.setPort_good {q : List Instr} (s : State) (x1) (x2) (h : Good q s) : Good q (State.setPort s x1 x2) := by
  unfold State.setPort
  iterate 40 all_goals (try first
    | with_reducible assumption
    | with_reducible apply Good.mk_of)

theorem State.portTrain_good {q : List Instr} (s : State) (x1) (h : Good q s) : Good q (State.portTrain s x1) := by
  unfold State.portTrain
  iterate 40 all_goals (try first
    | with_reducible assumption
    | (extract_lets +onlyGivenNames l; refine Good.cut (q := q) l ?_ (fun g => ?_); rotate_left; clear_value l; rotate_left; subst l)
    | with_reducible apply State.set_good
    | with_reducible apply State.grpFlush_good
    | with_reducible apply State.setPort_good
    | with_reducible apply State.bump_good
    | with_reducible apply Good.ite)

theorem State.portRetrain_good {q : List Instr} (s : State) (x1) (h : Good q s) : Good q (State.portRetrain s x1) := by
  unfold State.portRetrain
  iterate 40 all_goals (try first
    | with_reducible assumption
    | with_reducible apply State.portTrain_good
    | with_reducible apply Good.ite)

theorem State.portFresh_good {q : List Instr} (s : State) (x1) (h : Good q s) : Good q (State.portFresh s x1) := by
  unfold State.portFresh
  iterate 40 all_goals (try first
    | with_reducible assumption
    | intro _ _ _
    | with_reducible apply State.setPort_good
    | with_reducible apply State.forEach_good
    | with_reducible apply State.done_good
    | with_reducible apply State.raiseOnce_good
    | with_reducible apply State.bumpBy_good
    | with_reducible apply Good.ite
    | split
    | with_reducible apply Good.mk_of)

theorem State.leashThaw_good {q : List Instr} (s : State) (h : Good q s) : Good q (State.leashThaw s) := by
  unfold State.leashThaw
  iterate 40 all_goals (try first
    | with_reducible assumption
    | intro _ _ _
    | with_reducible apply State.forEach_good
    | with_reducible apply State.set_good
    | with_reducible apply Good.ite
    | with_reducible apply Good.mk_of)

theorem State.portUp_good {q : List Instr} (s : State) (x1) (x2) (h : Good q s) : Good q (State.portUp s x1 x2) := by
  unfold State.portUp
  iterate 40 all_goals (try first
    | with_reducible assumption
    | with_reducible apply State.set_good
    | with_reducible apply State.notice_good
    | with_reducible apply State.setPort_good
    | with_reducible apply Good.ite)

theorem State.portResend_good {q : List Instr} (s : State) (x1) (h : Good q s) : Good q (State.portResend s x1) := by
  unfold State.portResend
  iterate 40 all_goals (try first
    | with_reducible assumption
    | (extract_lets +onlyGivenNames l; refine Good.cut (q := q) l ?_ (fun g => ?_); rotate_left; clear_value l; rotate_left; subst l)
    | with_reducible apply State.setPort_good
    | with_reducible apply State.bumpBy_good
    | with_reducible apply State.raiseOnce_good
    | with_reducible apply State.portTrain_good
    | with_reducible apply Good.ite)

theorem State.portSend_good {q : List Instr} (s : State) (x1) (x2) (x3) (x4) (h : Good q s) : Good q (State.portSend s x1 x2 x3 x4) := by
  unfold State.portSend
  iterate 40 all_goals (try first
    | with_reducible assumption
    | with_reducible apply State.setPort_good)

theorem State.portSendSafe_good {q : List Instr} (s : State) (x1) (x2) (h : Good q s) : Good q (State.portSendSafe s x1 x2) := by
  unfold State.portSendSafe
  iterate 40 all_goals (try first
    | with_reducible assumption
    | with_reducible apply State.setPort_good)

theorem State.portFree_good {q : List Instr} (s : State) (x1) (x2) (x3) (h : Good q s) : Good q (State.portFree s x1 x2 x3) := by
  unfold State.portFree
  iterate 40 all_goals (try first
    | with_reducible assumption
    | with_reducible apply State.setPort_good)

theorem State.readyReply_good {q : List Instr} (s : State) (x1) (x2) (h : Good q s) : GoodY q (State.readyReply s x1 x2) := by
  unfold State.readyReply
  iterate 40 all_goals (try first
    | with_reducible assumption
    | with_reducible exact GoodY.none
    | with_reducible apply GoodY.some
    | split
    | with_reducible apply Good.mk_of)

theorem State.readyEmergency_good {q : List Instr} (s : State) (x1) (h : Good q s) : GoodY q (State.readyEmergency s x1) := by
  unfold State.readyEmergency
  iterate 40 all_goals (try first
    | with_reducible assumption
    | with_reducible exact GoodY.none
    | with_reducible apply GoodY.some
    | split
    | with_reducible apply Good.mk_of)

theorem State.readyData_good {q : List Instr} (s : State) (x1) (h : Good q s) : GoodY q (State.readyData s x1) := by
  unfold State.readyData
  iterate 40 all_goals (try first
    | with_reducible assumption
    | (extract_lets +onlyGivenNames l; refine Good.cut (q := q) l ?_ (fun g => ?_); rotate_left; clear_value l; rotate_left; subst l)
    | with_reducible apply State.done_good
    | with_reducible exact GoodY.none
    | with_reducible apply GoodY.some
    | (extract_lets +onlyGivenNames l; clear_value l)
    | split
    | with_reducible apply Good.mk_of)

theorem State.dmaStuck_good {q : List Instr} (s : State) (x1) (h : Good q s) : Good q (State.dmaStuck s x1) := by
  unfold State.dmaStuck
  iterate 40 all_goals (try first
    | with_reducible assumption
    | intro _ _ _
    | with_reducible apply State.forEach_good
    | with_reducible apply State.done_good
    | with_reducible apply Good.mk_of)

theorem State.readyEvent_good {q : List Instr} (s : State) (x1) (h : Good q s) : GoodY q (State.readyEvent s x1) := by
  unfold State.readyEvent
  iterate 40 all_goals (try first
    | with_reducible assumption
    | with_reducible exact GoodY.none
    | with_reducible apply GoodY.some
    | split
    | with_reducible apply Good.mk_of)

theorem State.readyStream_good {q : List Instr} (s : State) (x1) (x2) (h : Good q s) : GoodY q (State.readyStream s x1 x2) := by
  unfold State.readyStream
  iterate 40 all_goals (try first
    | with_reducible assumption
    | with_reducible exact GoodY.none
    | with_reducible apply GoodY.some
    | (extract_lets +onlyGivenNames l; clear_value l)
    | split
    | with_reducible apply Good.mk_of)

theorem State.mirrorGone_good {q : List Instr} (s : State) (x1) (h : Good q s) : Good q (State.mirrorGone s x1) := by
  unfold State.mirrorGone
  iterate 40 all_goals (try first
    | with_reducible assumption
    | intro _ _ _
    | with_reducible apply State.forEach_good
    | with_reducible apply State.done_good
    | with_reducible apply Good.mk_of)

theorem State.mirrorStuck_good {q : List Instr} (s : State) (h : Good q s) : Good q (State.mirrorStuck s) := by
  unfold State.mirrorStuck
  iterate 40 all_goals (try first
    | with_reducible assumption
    | with_reducible apply State.mirrorGone_good
    | with_reducible apply State.raiseOnce_good
    | with_reducible apply Good.ite
    | split)

theorem State.readyMirror_good {q : List Instr} (s : State) (x1) (h : Good q s) : GoodY q (State.readyMirror s x1) := by
  unfold State.readyMirror
  iterate 40 all_goals (try first
    | with_reducible assumption
    | with_reducible exact GoodY.none
    | with_reducible apply GoodY.some
    | split
    | with_reducible apply Good.mk_of)

theorem State.readyClass_good {q : List Instr} (s : State) (x1) (x2) (h : Good q s) : GoodY q (State.readyClass s x1 x2) := by
  unfold State.readyClass
  iterate 40 all_goals (try first
    | with_reducible assumption
    | (extract_lets +onlyGivenNames l; refine Good.cutY (q := q) l ?_ (fun g => ?_); rotate_left; clear_value l; rotate_left; subst l)
    | with_reducible apply State.readyStream_good
    | with_reducible apply State.readyReply_good
    | with_reducible apply State.readyData_good
    | with_reducible apply State.readyEvent_good
    | with_reducible apply State.readyMirror_good
    | with_reducible exact GoodY.none
    | with_reducible apply GoodY.some
    | (extract_lets +onlyGivenNames l; clear_value l)
    | split
    | with_reducible apply GoodY.filter
    | (refine GoodY.of_some (by assumption) ?_))

theorem State.sendSlot_good {q : List Instr} (s : State) (x1) (f2 : Option Ready) (h : Good q s) (hf2 : GoodY q f2) : Good q (State.sendSlot s x1 f2) := by
  unfold State.sendSlot
  iterate 40 all_goals (try first
    | with_reducible assumption
    | with_reducible apply State.portSend_good
    | split
    | with_reducible exact GoodY.of_somev (by assumption))

theorem State.leaveSlot_good {q : List Instr} (s : State) (x1) (x2) (h : Good q s) : Good q (State.leaveSlot s x1 x2) := by
  unfold State.leaveSlot
  iterate 40 all_goals (try first
    | with_reducible assumption
    | with_reducible apply State.egressWrap_good
    | with_reducible apply State.setPort_good
    | with_reducible apply Good.ite)

theorem State.visitSlot_good {q : List Instr} (s : State) (x1) (f2 : Option Ready) (h : Good q s) (hf2 : GoodY q f2) : Good q (State.visitSlot s x1 f2) := by
  unfold State.visitSlot
  iterate 40 all_goals (try first
    | with_reducible assumption
    | with_reducible apply State.leaveSlot_good
    | with_reducible apply State.sendSlot_good)

theorem State.visitSlots_good {q : List Instr} (s : State) (x1) (x2) (h : Good q s) : Good q (State.visitSlots s x1 x2).1 := by
  induction x2 generalizing s x1 with
  | zero =>
    unfold State.visitSlots
    iterate 40 all_goals (try first
      | with_reducible assumption)
  | succ n ih =>
    unfold State.visitSlots
    iterate 40 all_goals (try first
      | with_reducible assumption
      | (extract_lets +onlyGivenNames l; refine Good.cutY (q := q) l ?_ (fun g => ?_); rotate_left; clear_value l; rotate_left; subst l)
      | with_reducible apply ih
      | with_reducible apply State.readyClass_good
      | with_reducible apply State.visitSlot_good
      | split)

theorem State.sendForward_good {q : List Instr} (s : State) (x1) (h : Good q s) : Good q (State.sendForward s x1) := by
  unfold State.sendForward
  iterate 40 all_goals (try first
    | with_reducible assumption
    | (extract_lets +onlyGivenNames l; refine Good.cut (q := q) l ?_ (fun g => ?_); rotate_left; clear_value l; rotate_left; subst l)
    | with_reducible apply State.portSend_good
    | with_reducible apply State.setPort_good
    | with_reducible apply State.portFree_good
    | (extract_lets +onlyGivenNames l; clear_value l)
    | split)

theorem State.readySafe_good {q : List Instr} (s : State) (x1) (h : Good q s) : GoodP q (State.readySafe s x1) := by
  unfold State.readySafe
  iterate 40 all_goals (try first
    | with_reducible assumption
    | intro _ _
    | with_reducible apply State.portSendSafe_good
    | with_reducible apply State.portSend_good
    | with_reducible apply State.readyEmergency_good
    | with_reducible apply GoodP.some
    | with_reducible apply GoodP.mapY
    | split
    | with_reducible apply GoodY.filter)

theorem State.egress_good {q : List Instr} (s : State) (x1) (h : Good q s) : Good q (State.egress s x1) := by
  unfold State.egress
  iterate 40 all_goals (try first
    | with_reducible assumption
    | (extract_lets +onlyGivenNames l; refine Good.cut (q := q) l ?_ (fun g => ?_); rotate_left; clear_value l; rotate_left; subst l)
    | with_reducible apply State.readySafe_good
    | with_reducible apply State.setPort_good
    | with_reducible apply State.sendForward_good
    | with_reducible apply State.visitSlots_good
    | with_reducible apply Good.ite
    | (extract_lets +onlyGivenNames l; clear_value l)
    | split
    | (with_reducible refine Good.of_some (by assumption) ?_))

theorem execEgressSend_good {q : List Instr} (x0) (s : State) (h : Good q s) : GoodO q (execEgressSend x0 s) := by
  unfold execEgressSend
  iterate 40 all_goals (try first
    | with_reducible assumption
    | (extract_lets +onlyGivenNames l; refine Good.cut (q := q) l ?_ (fun g => ?_); rotate_left; clear_value l; rotate_left; subst l)
    | with_reducible apply State.readySafe_good
    | with_reducible apply State.mirrorStuck_good
    | with_reducible apply State.readyMirror_good
    | with_reducible apply State.portSend_good
    | with_reducible apply State.egress_good
    | with_reducible apply State.dmaStuck_good
    | with_reducible apply GoodO.next
    | with_reducible apply Good.ite
    | with_reducible apply GoodP.getD
    | split
    | with_reducible apply GoodY.filter
    | (refine GoodY.of_some (by assumption) ?_))

theorem State.sentDone_good {q : List Instr} (s : State) (x1) (h : Good q s) : Good q (State.sentDone s x1) := by
  unfold State.sentDone
  iterate 40 all_goals (try first
    | with_reducible assumption
    | with_reducible apply State.ringRefresh_good
    | with_reducible apply State.wr64_good
    | with_reducible apply State.mirrorGone_good
    | with_reducible apply State.done_good
    | with_reducible apply Good.ite
    | split
    | with_reducible apply Good.mk_of)

theorem execAck_good {q : List Instr} (x0) (x1) (s : State) (h : Good q s) : GoodO q (execAck x0 x1 s) := by
  unfold execAck
  iterate 40 all_goals (try first
    | with_reducible assumption
    | intro _ _ _
    | with_reducible apply State.forEach_good
    | with_reducible apply State.sentDone_good
    | with_reducible apply State.setPort_good
    | with_reducible apply GoodO.next
    | with_reducible apply Good.ite
    | (extract_lets +onlyGivenNames l; clear_value l)
    | split)

theorem execNak_good {q : List Instr} (x0) (x1) (s : State) (h : Good q s) : GoodO q (execNak x0 x1 s) := by
  unfold execNak
  iterate 40 all_goals (try first
    | with_reducible assumption
    | with_reducible apply State.portResend_good
    | with_reducible apply GoodO.next
    | with_reducible apply Good.ite)

theorem execReplayTimeout_good {q : List Instr} (x0) (s : State) (h : Good q s) : GoodO q (execReplayTimeout x0 s) := by
  unfold execReplayTimeout
  iterate 40 all_goals (try first
    | with_reducible assumption
    | with_reducible apply State.portResend_good
    | with_reducible apply GoodO.next
    | with_reducible apply Good.ite)

theorem execCredit_good {q : List Instr} (x0) (x1) (x2) (s : State) (h : Good q s) : GoodO q (execCredit x0 x1 x2 s) := by
  unfold execCredit
  iterate 40 all_goals (try first
    | with_reducible assumption
    | with_reducible apply State.setPort_good
    | with_reducible apply GoodO.next
    | with_reducible apply Good.ite)

theorem execAckSendTimer_good {q : List Instr} (x0) (s : State) (h : Good q s) : GoodO q (execAckSendTimer x0 s) := by
  unfold execAckSendTimer
  iterate 40 all_goals (try first
    | with_reducible assumption
    | with_reducible apply State.setPort_good
    | with_reducible apply GoodO.next
    | with_reducible apply Good.ite)

end Sys2Proof.Machine
end

