-- ==== Sys2Proof/Laws/KeepTwin.lean ====
section
/-! SUPPORT. Every operation of Machine/Twin.lean keeps the stores canonical and leaves the queue alone. -/

namespace Sys2Proof.Machine

theorem State.checkpoint_good {q : List Instr} (s : State) (h : Good q s) : Good q (State.checkpoint s) := by
  unfold State.checkpoint
  iterate 40 all_goals (try first
    | with_reducible assumption
    | with_reducible apply State.slotWriteAs_good
    | with_reducible apply Good.ite
    | split
    | (with_reducible refine Good.of_fst (by assumption) ?_)
    | with_reducible apply Good.mk_of)

theorem execCheckpointTimer_good {q : List Instr} (x0) (s : State) (h : Good q s) : GoodO q (execCheckpointTimer x0 s) := by
  unfold execCheckpointTimer
  iterate 40 all_goals (try first
    | with_reducible assumption
    | with_reducible apply State.checkpoint_good
    | with_reducible apply GoodO.next
    | with_reducible apply Good.ite)

theorem execCkptWrite_good {q : List Instr} (x0) (x1) (x2) (s : State) (h : Good q s) : GoodO q (execCkptWrite x0 x1 x2 s) := by
  unfold execCkptWrite
  iterate 40 all_goals (try first
    | with_reducible assumption
    | intro _ _
    | with_reducible apply State.cmd_good
    | with_reducible apply State.done_good
    | with_reducible apply State.cmdAgain_good
    | with_reducible apply State.checkpoint_good
    | with_reducible apply GoodO.next
    | with_reducible apply Good.ite)

theorem writeDlogRdHi_good {q : List Instr} (x0) (s : State) (h : Good q s) : GoodR q (writeDlogRdHi x0 s) := by
  unfold writeDlogRdHi
  iterate 40 all_goals (try first
    | with_reducible assumption
    | with_reducible apply State.wr64_good
    | with_reducible exact GoodR.error
    | with_reducible apply GoodR.ok
    | with_reducible apply GoodR.ite)

theorem execDlogRdHi_good {q : List Instr} (x0) (x1) (s : State) (h : Good q s) : GoodO q (execDlogRdHi x0 x1 s) := by
  unfold execDlogRdHi
  iterate 40 all_goals (try first
    | with_reducible assumption
    | with_reducible apply State.respond_good
    | with_reducible apply writeDlogRdHi_good
    | with_reducible apply GoodO.next)

theorem State.resync_good {q : List Instr} (s : State) (x1) (h : Good q s) : Good q (State.resync s x1) := by
  unfold State.resync
  iterate 40 all_goals (try first
    | with_reducible assumption
    | (extract_lets +onlyGivenNames l; refine Good.cut (q := q) l ?_ (fun g => ?_); rotate_left; clear_value l; rotate_left; subst l)
    | with_reducible apply State.done_good
    | with_reducible apply Good.ite
    | (extract_lets +onlyGivenNames l; clear_value l)
    | split
    | with_reducible apply Good.mk_of)

theorem State.handshake_good {q : List Instr} (s : State) (x1) (h : Good q s) : Good q (State.handshake s x1) := by
  unfold State.handshake
  iterate 40 all_goals (try first
    | with_reducible assumption
    | (extract_lets +onlyGivenNames l; refine Good.cut (q := q) l ?_ (fun g => ?_); rotate_left; clear_value l; rotate_left; subst l)
    | with_reducible apply State.set_good
    | with_reducible apply State.resync_good
    | with_reducible apply State.raiseOnce_good
    | with_reducible apply Good.ite
    | with_reducible apply Good.mk_of)

theorem State.mirrorUntest_good {q : List Instr} (s : State) (h : Good q s) : Good q (State.mirrorUntest s) := by
  unfold State.mirrorUntest
  iterate 40 all_goals (try first
    | with_reducible assumption
    | intro _ _ _
    | with_reducible apply State.forEach_good
    | with_reducible apply State.putOpen_good
    | with_reducible apply Good.ite)

theorem State.twinGone_good {q : List Instr} (s : State) (x1) (h : Good q s) : Good q (State.twinGone s x1) := by
  unfold State.twinGone
  iterate 40 all_goals (try first
    | with_reducible assumption
    | (extract_lets +onlyGivenNames l; refine Good.cut (q := q) l ?_ (fun g => ?_); rotate_left; clear_value l; rotate_left; subst l)
    | with_reducible apply State.raiseOnce_good
    | with_reducible apply State.set_good
    | with_reducible apply State.mirrorUntest_good)

theorem State.twinHeard_good {q : List Instr} (s : State) (h : Good q s) : Good q (State.twinHeard s) := by
  unfold State.twinHeard
  iterate 40 all_goals (try first
    | with_reducible assumption
    | with_reducible apply State.resync_good
    | with_reducible apply State.set_good
    | with_reducible apply Good.ite)

theorem execKeepalive_good {q : List Instr} (x0) (s : State) (h : Good q s) : GoodO q (execKeepalive x0 s) := by
  unfold execKeepalive
  iterate 40 all_goals (try first
    | with_reducible assumption
    | with_reducible apply State.twinGone_good
    | with_reducible apply State.twinHeard_good
    | with_reducible apply GoodO.next
    | with_reducible apply Good.ite)

theorem execTwinSilenceTimeout_good {q : List Instr} (s : State) (h : Good q s) : GoodO q (execTwinSilenceTimeout s) := by
  unfold execTwinSilenceTimeout
  iterate 40 all_goals (try first
    | with_reducible assumption
    | with_reducible apply State.twinGone_good
    | with_reducible apply GoodO.next
    | with_reducible apply Good.ite)

theorem execTwinKeepaliveSend_good {q : List Instr} (s : State) (h : Good q s) : GoodO q (execTwinKeepaliveSend s) := by
  unfold execTwinKeepaliveSend
  iterate 40 all_goals (try first
    | with_reducible assumption
    | with_reducible apply State.keepSend_good
    | with_reducible apply GoodO.next)

theorem execHeartbeat_good {q : List Instr} (s : State) (h : Good q s) : GoodO q (execHeartbeat s) := by
  unfold execHeartbeat
  iterate 40 all_goals (try first
    | with_reducible assumption
    | with_reducible apply GoodO.next
    | with_reducible apply Good.ite
    | (extract_lets +onlyGivenNames l; clear_value l)
    | with_reducible apply Good.mk_of)

theorem State.mirrorTake_good {q : List Instr} (s : State) (x1) (h : Good q s) : Good q (State.mirrorTake s x1) := by
  unfold State.mirrorTake
  iterate 40 all_goals (try first
    | with_reducible assumption
    | with_reducible apply State.twinHeard_good
    | with_reducible apply State.putDramWords_good
    | with_reducible apply Good.ite
    | split)

theorem execMirrorRead_good {q : List Instr} (x0) (x1) (s : State) (h : Good q s) : GoodO q (execMirrorRead x0 x1 s) := by
  unfold execMirrorRead
  iterate 40 all_goals (try first
    | with_reducible assumption
    | intro _ _
    | with_reducible apply State.cmd_good
    | with_reducible apply State.done_good
    | with_reducible apply State.cmdAgain_good
    | with_reducible apply State.complete_good
    | with_reducible apply GoodO.next
    | with_reducible apply Good.ite)

theorem execTwinResync_good {q : List Instr} (x0) (x1) (s : State) (h : Good q s) : GoodO q (execTwinResync x0 x1 s) := by
  unfold execTwinResync
  iterate 40 all_goals (try first
    | with_reducible assumption
    | intro _ _
    | with_reducible apply State.cmd_good
    | with_reducible apply State.resync_good
    | with_reducible apply State.done_good
    | with_reducible apply GoodO.next
    | with_reducible apply Good.ite)

theorem writeTwin_good {q : List Instr} (x0) (x1) (s : State) (h : Good q s) : GoodR q (writeTwin x0 x1 s) := by
  unfold writeTwin
  iterate 40 all_goals (try first
    | with_reducible assumption
    | with_reducible apply State.store_good
    | with_reducible exact GoodR.error
    | with_reducible apply GoodR.ok
    | with_reducible apply GoodR.ite)

end Sys2Proof.Machine
end

