-- ==== Sys2Proof/Laws/KeepRest.lean ====
section
/-! SUPPORT. Every operation of Machine/Rest.lean keeps the stores canonical and leaves the queue alone. -/

namespace Sys2Proof.Machine

theorem execRestEnter_good {q : List Instr} (x0) (x1) (s : State) (h : Good q s) : GoodO q (execRestEnter x0 x1 s) := by
  unfold execRestEnter
  iterate 40 all_goals (try first
    | with_reducible assumption
    | intro _ _
    | with_reducible apply State.cmd_good
    | with_reducible apply State.done_good
    | with_reducible apply State.gapOpen_good
    | with_reducible apply State.set_good
    | with_reducible apply GoodO.next
    | with_reducible apply Good.ite)

theorem State.psmRest_good {q : List Instr} (s : State) (x1) (h : Good q s) : Good q (State.psmRest s x1) := by
  unfold State.psmRest
  iterate 40 all_goals (try first
    | with_reducible assumption
    | with_reducible apply State.psmFollow_good
    | with_reducible apply State.psmRefresh_good
    | with_reducible apply State.psmOff_good
    | with_reducible apply State.set_good
    | with_reducible apply Good.ite)

theorem State.wakeBegin_good {q : List Instr} (s : State) (h : Good q s) : Good q (State.wakeBegin s) := by
  unfold State.wakeBegin
  iterate 40 all_goals (try first
    | with_reducible assumption
    | intro _ _ _
    | (extract_lets +onlyGivenNames l; refine Good.cut (q := q) l ?_ (fun g => ?_); rotate_left; clear_value l; rotate_left; subst l)
    | with_reducible apply State.set_good
    | with_reducible apply State.forEach_good
    | with_reducible apply State.portRetrain_good
    | with_reducible apply State.psmFollow_good
    | with_reducible apply Good.ite
    | with_reducible apply Good.mk_of)

theorem execRestEntered_good {q : List Instr} (s : State) (h : Good q s) : GoodO q (execRestEntered s) := by
  unfold execRestEntered
  iterate 40 all_goals (try first
    | with_reducible assumption
    | intro _ _ _
    | (extract_lets +onlyGivenNames l; refine Good.cut (q := q) l ?_ (fun g => ?_); rotate_left; clear_value l; rotate_left; subst l)
    | with_reducible apply State.forEach_good
    | with_reducible apply State.cmpStart_good
    | with_reducible apply State.letGo_good
    | with_reducible apply State.set_good
    | with_reducible apply State.checkpoint_good
    | with_reducible apply State.psmRest_good
    | with_reducible apply State.doneAll_good
    | with_reducible apply State.portRetrain_good
    | with_reducible apply State.wakeBegin_good
    | with_reducible apply GoodO.next
    | with_reducible apply Good.ite)

theorem State.wakeAsk_good {q : List Instr} (s : State) (h : Good q s) : Good q (State.wakeAsk s) := by
  unfold State.wakeAsk
  iterate 40 all_goals (try first
    | with_reducible assumption
    | with_reducible apply State.wakeBegin_good
    | split
    | with_reducible apply Good.mk_of)

theorem execRestExit_good {q : List Instr} (x0) (x1) (s : State) (h : Good q s) : GoodO q (execRestExit x0 x1 s) := by
  unfold execRestExit
  iterate 40 all_goals (try first
    | with_reducible assumption
    | intro _ _
    | with_reducible apply State.cmd_good
    | with_reducible apply State.done_good
    | with_reducible apply State.wakeAsk_good
    | with_reducible apply GoodO.next
    | with_reducible apply Good.ite)

theorem writeGlbRest_good {q : List Instr} (x0) (x1) (s : State) (h : Good q s) : GoodR q (writeGlbRest x0 x1 s) := by
  unfold writeGlbRest
  iterate 40 all_goals (try first
    | with_reducible assumption
    | with_reducible apply State.wakeAsk_good
    | with_reducible apply GoodR.ok
    | with_reducible apply Good.ite)

theorem execWake_good {q : List Instr} (x0) (s : State) (h : Good q s) : GoodO q (execWake x0 s) := by
  unfold execWake
  iterate 40 all_goals (try first
    | with_reducible assumption
    | with_reducible apply State.respond_good
    | with_reducible apply writeGlbRest_good
    | with_reducible apply GoodO.next)

theorem execRestAwake_good {q : List Instr} (x0) (s : State) (h : Good q s) : GoodO q (execRestAwake x0 s) := by
  unfold execRestAwake
  iterate 40 all_goals (try first
    | with_reducible assumption
    | intro _ _ _
    | (extract_lets +onlyGivenNames l; refine Good.cut (q := q) l ?_ (fun g => ?_); rotate_left; clear_value l; rotate_left; subst l)
    | with_reducible apply State.forEach_good
    | with_reducible apply State.set_good
    | with_reducible apply State.pcRetrainFail_good
    | with_reducible apply State.doneAll_good
    | with_reducible apply GoodO.next
    | with_reducible apply Good.ite)

theorem writeIso_good {q : List Instr} (x0) (s : State) (h : Good q s) : GoodR q (writeIso x0 s) := by
  unfold writeIso
  iterate 40 all_goals (try first
    | with_reducible assumption
    | (extract_lets +onlyGivenNames l; refine Good.cut (q := q) l ?_ (fun g => ?_); rotate_left; clear_value l; rotate_left; subst l)
    | with_reducible apply State.store_good
    | with_reducible apply State.set_good
    | with_reducible exact GoodR.error
    | with_reducible apply GoodR.ok
    | with_reducible apply Good.ite
    | with_reducible apply GoodR.ite)

theorem writeGpio_good {q : List Instr} (x0) (x1) (x2) (s : State) (h : Good q s) : GoodR q (writeGpio x0 x1 x2 s) := by
  unfold writeGpio
  iterate 40 all_goals (try first
    | with_reducible assumption
    | with_reducible apply State.store_good
    | with_reducible apply writeIso_good
    | with_reducible exact GoodR.error
    | with_reducible apply GoodR.ok
    | with_reducible apply GoodR.ite)

theorem execIsoGo_good {q : List Instr} (x0) (x1) (s : State) (h : Good q s) : GoodO q (execIsoGo x0 x1 s) := by
  unfold execIsoGo
  iterate 40 all_goals (try first
    | with_reducible assumption
    | with_reducible apply State.respond_good
    | with_reducible apply writeIso_good
    | with_reducible apply GoodO.next)

theorem execIsoShiftDone_good {q : List Instr} (s : State) (h : Good q s) : GoodO q (execIsoShiftDone s) := by
  unfold execIsoShiftDone
  iterate 40 all_goals (try first
    | with_reducible assumption
    | (extract_lets +onlyGivenNames l; refine Good.cut (q := q) l ?_ (fun g => ?_); rotate_left; clear_value l; rotate_left; subst l)
    | with_reducible apply State.set_good
    | with_reducible apply GoodO.next
    | with_reducible apply Good.ite
    | with_reducible apply Good.mk_of)

end Sys2Proof.Machine
end

