-- ==== Sys2Proof/Laws/KeepRegWrite.lean ====
section
/-! SUPPORT. Every operation of Machine/RegWrite.lean keeps the stores canonical and leaves the queue alone. -/

namespace Sys2Proof.Machine

theorem writeWindow_good {q : List Instr} (x0) (x1) (x2) (s : State) (h : Good q s) : GoodR q (writeWindow x0 x1 x2 s) := by
  unfold writeWindow
  iterate 40 all_goals (try first
    | with_reducible assumption
    | (extract_lets +onlyGivenNames l; refine Good.cut (q := q) l ?_ (fun g => ?_); rotate_left; clear_value l; rotate_left; subst l)
    | with_reducible apply State.wr_good
    | with_reducible apply State.aeSettle_good
    | with_reducible apply State.set_good
    | with_reducible exact GoodR.error
    | with_reducible apply GoodR.ok
    | with_reducible apply Good.ite
    | with_reducible apply GoodR.ite
    | split)

theorem writeGlb_good {q : List Instr} (x0) (x1) (x2) (s : State) (h : Good q s) : GoodR q (writeGlb x0 x1 x2 s) := by
  unfold writeGlb
  iterate 40 all_goals (try first
    | with_reducible assumption
    | with_reducible apply writeGlbRest_good
    | with_reducible apply State.store_good
    | with_reducible apply writeDlogRdHi_good
    | with_reducible exact GoodR.error
    | with_reducible apply GoodR.ok
    | with_reducible apply GoodR.ite
    | with_reducible apply Good.mk_of)

theorem writeFlt_good {q : List Instr} (x0) (x1) (s : State) (h : Good q s) : GoodR q (writeFlt x0 x1 s) := by
  unfold writeFlt
  iterate 40 all_goals (try first
    | with_reducible assumption
    | with_reducible apply writeFltPending_good
    | with_reducible apply writeFltMuzzle_good
    | with_reducible apply writeFltSev_good
    | with_reducible apply State.store_good
    | with_reducible apply GoodR.ok
    | with_reducible apply GoodR.ite)

theorem writeLnkCtl_good {q : List Instr} (x0) (x1) (s : State) (h : Good q s) : GoodR q (writeLnkCtl x0 x1 s) := by
  unfold writeLnkCtl
  iterate 40 all_goals (try first
    | with_reducible assumption
    | (extract_lets +onlyGivenNames l; refine Good.cut (q := q) l ?_ (fun g => ?_); rotate_left; clear_value l; rotate_left; subst l)
    | with_reducible apply State.store_good
    | with_reducible apply State.portRetrain_good
    | with_reducible apply GoodR.ok
    | with_reducible apply Good.ite)

theorem writeLnk_good {q : List Instr} (x0) (x1) (s : State) (h : Good q s) : GoodR q (writeLnk x0 x1 s) := by
  unfold writeLnk
  iterate 40 all_goals (try first
    | with_reducible assumption
    | with_reducible apply writeLnkCtl_good
    | with_reducible apply writeEgressSh_good
    | with_reducible apply State.store_good
    | with_reducible apply GoodR.ok
    | with_reducible apply GoodR.ite)

theorem writeMpa_good {q : List Instr} (x0) (x1) (s : State) (h : Good q s) : GoodR q (writeMpa x0 x1 s) := by
  unfold writeMpa
  iterate 40 all_goals (try first
    | with_reducible assumption
    | with_reducible apply writeMpaCtl_good
    | with_reducible apply writeMpaWdog_good
    | with_reducible apply writeMpaSwap_good
    | with_reducible apply writeClassSh_good
    | with_reducible apply State.store_good
    | with_reducible apply GoodR.ok
    | with_reducible apply GoodR.ite)

theorem writeWht_good {q : List Instr} (x0) (x1) (x2) (s : State) (h : Good q s) : GoodR q (writeWht x0 x1 x2 s) := by
  unfold writeWht
  iterate 40 all_goals (try first
    | with_reducible assumption
    | with_reducible apply writeWhCtl_good
    | with_reducible apply writeWhTimeHi_good
    | with_reducible apply writeWhSwapHi_good
    | with_reducible apply writeWhEmit_good
    | with_reducible apply writeWhAllstop_good
    | with_reducible apply writeWhSlot_good
    | with_reducible apply writeTwin_good
    | with_reducible apply State.store_good
    | with_reducible apply GoodR.ok
    | with_reducible apply GoodR.ite)

theorem writeShp_good {q : List Instr} (x0) (x1) (s : State) (h : Good q s) : GoodR q (writeShp x0 x1 s) := by
  unfold writeShp
  iterate 40 all_goals (try first
    | with_reducible assumption
    | with_reducible apply State.store_good
    | with_reducible exact GoodR.error
    | with_reducible apply GoodR.ok
    | with_reducible apply GoodR.ite)

theorem writeDevice_good {q : List Instr} (x0) (x1) (x2) (x3) (s : State) (h : Good q s) : GoodR q (writeDevice x0 x1 x2 x3 s) := by
  unfold writeDevice
  iterate 40 all_goals (try first
    | with_reducible assumption
    | with_reducible apply writeGlb_good
    | with_reducible apply writeFlt_good
    | with_reducible apply writeGrpCtl_good
    | with_reducible apply State.store_good
    | with_reducible apply writeLnk_good
    | with_reducible apply writeMpa_good
    | with_reducible apply writeMrmCtl_good
    | with_reducible apply writeMrmPlain_good
    | with_reducible apply writeWht_good
    | with_reducible apply writeShp_good
    | with_reducible apply writeGpio_good
    | with_reducible apply GoodR.ok
    | with_reducible apply GoodR.ite
    | split)

theorem writeCap_good {q : List Instr} (x0) (x1) (x2) (s : State) (h : Good q s) : GoodR q (writeCap x0 x1 x2 s) := by
  unfold writeCap
  iterate 40 all_goals (try first
    | with_reducible assumption
    | with_reducible apply writeRingEn_good
    | with_reducible apply writeCapRdHi_good
    | with_reducible apply writeCapTrig_good
    | with_reducible apply writeCapPlain_good
    | with_reducible apply GoodR.ite)

theorem writeApg_good {q : List Instr} (x0) (x1) (x2) (s : State) (h : Good q s) : GoodR q (writeApg x0 x1 x2 s) := by
  unfold writeApg
  iterate 40 all_goals (try first
    | with_reducible assumption
    | with_reducible apply writeImemHi_good
    | with_reducible apply writeRaReq_good
    | with_reducible apply writeApgPlain_good
    | with_reducible apply GoodR.ite)

theorem writeTmu_good {q : List Instr} (x0) (x1) (x2) (s : State) (h : Good q s) : GoodR q (writeTmu x0 x1 x2 s) := by
  unfold writeTmu
  iterate 40 all_goals (try first
    | with_reducible assumption
    | with_reducible apply writeTmuGo_good
    | with_reducible apply writeTmuPlain_good
    | with_reducible apply GoodR.ite)

theorem writeCh_good {q : List Instr} (x0) (x1) (x2) (s : State) (h : Good q s) : GoodR q (writeCh x0 x1 x2 s) := by
  unfold writeCh
  iterate 40 all_goals (try first
    | with_reducible assumption
    | with_reducible apply writeLoad_good
    | with_reducible apply State.store_good
    | with_reducible apply writePmuCtl_good
    | with_reducible apply writePmuForce_good
    | with_reducible apply writePmuClamp_good
    | with_reducible apply writeChStatus_good
    | with_reducible apply writeLevel_good
    | with_reducible apply writeChApply_good
    | with_reducible apply writeLane_good
    | with_reducible apply GoodR.ok
    | with_reducible apply GoodR.ite
    | split)

theorem writePsm_good {q : List Instr} (x0) (x1) (x2) (x3) (s : State) (h : Good q s) : GoodR q (writePsm x0 x1 x2 x3 s) := by
  unfold writePsm
  iterate 40 all_goals (try first
    | with_reducible assumption
    | with_reducible apply writePsmCtl_good
    | with_reducible apply writePsmLevel_good
    | with_reducible apply writeFtwHi_good
    | with_reducible apply writePsmGo_good
    | with_reducible apply writePsmStatus_good
    | with_reducible apply writePsmPlain_good
    | split)

theorem writePk_good {q : List Instr} (x0) (x1) (x2) (s : State) (h : Good q s) : GoodR q (writePk x0 x1 x2 s) := by
  unfold writePk
  iterate 40 all_goals (try first
    | with_reducible assumption
    | with_reducible apply State.remark_good
    | with_reducible apply State.store_good
    | with_reducible exact GoodR.error
    | with_reducible apply GoodR.ok
    | with_reducible apply GoodR.ite)

theorem writePackUnit_good {q : List Instr} (x0) (x1) (x2) (x3) (x4) (s : State) (h : Good q s) : GoodR q (writePackUnit x0 x1 x2 x3 x4 s) := by
  unfold writePackUnit
  iterate 40 all_goals (try first
    | with_reducible assumption
    | with_reducible apply writeSeqPlain_good
    | with_reducible apply writeTimPlain_good
    | with_reducible apply writeCap_good
    | with_reducible apply writeApg_good
    | with_reducible apply writeTmu_good
    | with_reducible apply writeCh_good
    | with_reducible apply writePsm_good
    | with_reducible apply writePk_good
    | split)

theorem writeAe_good {q : List Instr} (x0) (x1) (x2) (s : State) (h : Good q s) : GoodR q (writeAe x0 x1 x2 s) := by
  unfold writeAe
  iterate 40 all_goals (try first
    | with_reducible assumption
    | with_reducible apply writeAeCtl_good
    | with_reducible apply writeAeDoorbell_good
    | with_reducible apply State.store_good
    | with_reducible apply GoodR.ok
    | with_reducible apply GoodR.ite)

theorem writeWord_good {q : List Instr} (x0) (x1) (x2) (s : State) (h : Good q s) : GoodR q (writeWord x0 x1 x2 s) := by
  unfold writeWord
  iterate 40 all_goals (try first
    | with_reducible assumption
    | with_reducible apply writeWindow_good
    | with_reducible apply writeDevice_good
    | with_reducible apply writePackUnit_good
    | with_reducible apply writeAe_good
    | with_reducible exact GoodR.error
    | with_reducible apply GoodR.ok
    | with_reducible apply GoodR.ite
    | split)

theorem State.writeReg_good {q : List Instr} (s : State) (x1) (x2) (x3) (h : Good q s) : Good q (State.writeReg s x1 x2 x3) := by
  unfold State.writeReg
  iterate 40 all_goals (try first
    | with_reducible assumption
    | intro _ _
    | with_reducible apply writeFltClear_good
    | with_reducible apply writeFltUnmuzzle_good
    | with_reducible apply State.respond_good
    | with_reducible apply State.guarded_good
    | with_reducible apply writeWord_good
    | with_reducible apply Good.ite
    | with_reducible apply Good.mk_of)

theorem execPlainRegisterWrite_good {q : List Instr} (x0) (x1) (x2) (s : State) (h : Good q s) : GoodO q (execPlainRegisterWrite x0 x1 x2 s) := by
  unfold execPlainRegisterWrite
  iterate 40 all_goals (try first
    | with_reducible assumption
    | with_reducible apply State.writeReg_good
    | with_reducible apply GoodO.next
    | with_reducible apply Good.ite)

theorem State.gpioIn_good {q : List Instr} (s : State) (h : Good q s) : Good q (State.gpioIn s).2 := by
  unfold State.gpioIn
  iterate 40 all_goals (try first
    | with_reducible assumption
    | with_reducible apply State.drawWord_good)

theorem State.readReg_good {q : List Instr} (s : State) (x1) (x2) (h : Good q s) : Good q (State.readReg s x1 x2).2 := by
  unfold State.readReg
  iterate 40 all_goals (try first
    | with_reducible assumption
    | (extract_lets +onlyGivenNames l; refine Good.cutS (q := q) l ?_ (fun g => ?_); rotate_left; clear_value l; rotate_left; subst l)
    | with_reducible apply State.gpioIn_good
    | with_reducible apply readImemLo_good
    | with_reducible apply readImemHi_good
    | split
    | with_reducible apply Good.mk_of)

end Sys2Proof.Machine
end

