-- ==== Sys2Proof/Laws/KeepRegCmd.lean ====
section
/-! SUPPORT. Every operation of Machine/RegCmd.lean keeps the stores canonical and leaves the queue alone. -/

namespace Sys2Proof.Machine

theorem State.readWords_good {q : List Instr} (s : State) (x1) (x2) (x3) (x4) (h : Good q s) : Good q (State.readWords s x1 x2 x3 x4).2 := by
  induction x4 generalizing s x1 x2 x3 with
  | zero =>
    unfold State.readWords
    iterate 40 all_goals (try first
      | with_reducible assumption)
  | succ n ih =>
    unfold State.readWords
    iterate 40 all_goals (try first
      | with_reducible assumption
      | with_reducible apply ih
      | with_reducible apply State.readReg_good
      | split)

theorem State.writeWords_good {q : List Instr} (s : State) (x1) (x2) (x3) (x4) (h : Good q s) : Good q (State.writeWords s x1 x2 x3 x4).1 := by
  induction x4 generalizing s x1 x2 x3 with
  | nil =>
    unfold State.writeWords
    iterate 40 all_goals (try first
      | with_reducible assumption)
  | cons a l ih =>
    unfold State.writeWords
    iterate 40 all_goals (try first
      | with_reducible assumption
      | (extract_lets +onlyGivenNames l; refine Good.cut (q := q) l ?_ (fun g => ?_); rotate_left; clear_value l; rotate_left; subst l)
      | with_reducible apply ih
      | with_reducible apply State.writeReg_good
      | split)

theorem execRegRead_good {q : List Instr} (x0) (x1) (s : State) (h : Good q s) : GoodO q (execRegRead x0 x1 s) := by
  unfold execRegRead
  iterate 40 all_goals (try first
    | with_reducible assumption
    | intro _ _
    | with_reducible apply State.cmd_good
    | with_reducible apply State.done_good
    | with_reducible apply State.readWords_good
    | with_reducible apply State.complete_good
    | with_reducible apply GoodO.next
    | with_reducible apply Good.ite)

theorem State.chainDrop_good {q : List Instr} (s : State) (x1) (h : Good q s) : Good q (State.chainDrop s x1) := by
  unfold State.chainDrop
  iterate 40 all_goals (try first
    | with_reducible assumption
    | with_reducible apply Good.mk_of)

theorem State.chainOn_good {q : List Instr} (s : State) (x1) (h : Good q s) : Good q (State.chainOn s x1) := by
  unfold State.chainOn
  iterate 40 all_goals (try first
    | with_reducible assumption
    | with_reducible apply State.cmdAgain_good
    | with_reducible apply Good.mk_of)

theorem State.regWriteFrom_good {q : List Instr} (s : State) (x1) (x2) (x3) (x4) (h : Good q s) : Good q (State.regWriteFrom s x1 x2 x3 x4) := by
  unfold State.regWriteFrom
  iterate 40 all_goals (try first
    | with_reducible assumption
    | with_reducible apply State.writeWords_good
    | with_reducible apply State.complete_good
    | with_reducible apply State.done_good
    | with_reducible apply State.chainOn_good
    | with_reducible apply Good.ite
    | split
    | (with_reducible refine Good.of_fst (by assumption) ?_))

theorem State.chainNext_good {q : List Instr} (s : State) (x1) (x2) (x3) (x4) (h : Good q s) : Good q (State.chainNext s x1 x2 x3 x4) := by
  unfold State.chainNext
  iterate 40 all_goals (try first
    | with_reducible assumption
    | (extract_lets +onlyGivenNames l; refine Good.cut (q := q) l ?_ (fun g => ?_); rotate_left; clear_value l; rotate_left; subst l)
    | with_reducible apply State.chainDrop_good
    | with_reducible apply State.regWriteFrom_good
    | with_reducible apply State.chainOn_good
    | with_reducible apply State.routineBegin_good
    | with_reducible apply Good.ite)

theorem execRegWrite_good {q : List Instr} (x0) (x1) (s : State) (h : Good q s) : GoodO q (execRegWrite x0 x1 s) := by
  unfold execRegWrite
  iterate 40 all_goals (try first
    | with_reducible assumption
    | intro _ _
    | with_reducible apply State.cmd_good
    | with_reducible apply State.chainNext_good
    | with_reducible apply State.done_good
    | with_reducible apply State.regWriteFrom_good
    | with_reducible apply GoodO.next
    | (extract_lets +onlyGivenNames l; clear_value l)
    | split)

theorem execRegModify_good {q : List Instr} (x0) (x1) (s : State) (h : Good q s) : GoodO q (execRegModify x0 x1 s) := by
  unfold execRegModify
  iterate 40 all_goals (try first
    | with_reducible assumption
    | intro _ _
    | with_reducible apply State.cmd_good
    | with_reducible apply State.done_good
    | with_reducible apply State.readReg_good
    | with_reducible apply State.writeReg_good
    | with_reducible apply State.complete_good
    | with_reducible apply GoodO.next
    | with_reducible apply Good.ite)

theorem State.pollRead_good {q : List Instr} (s : State) (x1) (x2) (x3) (h : Good q s) : Good q (State.pollRead s x1 x2 x3) := by
  unfold State.pollRead
  iterate 40 all_goals (try first
    | with_reducible assumption
    | with_reducible apply State.readReg_good
    | with_reducible apply State.complete_good
    | with_reducible apply Good.ite
    | with_reducible apply Good.mk_of)

theorem execRegPoll_good {q : List Instr} (x0) (x1) (s : State) (h : Good q s) : GoodO q (execRegPoll x0 x1 s) := by
  unfold execRegPoll
  iterate 40 all_goals (try first
    | with_reducible assumption
    | intro _ _
    | with_reducible apply State.cmd_good
    | with_reducible apply State.done_good
    | with_reducible apply State.pollRead_good
    | with_reducible apply GoodO.next
    | with_reducible apply Good.ite)

theorem execRegPollRead_good {q : List Instr} (x0) (x1) (s : State) (h : Good q s) : GoodO q (execRegPollRead x0 x1 s) := by
  unfold execRegPollRead
  iterate 40 all_goals (try first
    | with_reducible assumption
    | with_reducible apply State.pollRead_good
    | with_reducible apply GoodO.next
    | with_reducible apply Good.ite
    | split)

theorem State.memWait_good {q : List Instr} (s : State) (x1) (h : Good q s) : Good q (State.memWait s x1) := by
  unfold State.memWait
  iterate 40 all_goals (try first
    | with_reducible assumption
    | with_reducible apply Good.mk_of)

theorem State.memCut_good {q : List Instr} (s : State) (x1) (x2) (x3) (h : Good q s) : Good q (State.memCut s x1 x2 x3).2 := by
  unfold State.memCut
  iterate 40 all_goals (try first
    | with_reducible assumption
    | with_reducible apply State.drawWord_good)

theorem State.memRun_good {q : List Instr} (s : State) (x1) (x2) (x3) (f4 : Nat → State → State) (f5 : State → State) (h : Good q s) (hf4 : ∀ a t, Good q t → Good q (f4 a t)) (hf5 : ∀ t, Good q t → Good q (f5 t)) : Good q (State.memRun s x1 x2 x3 f4 f5) := by
  unfold State.memRun
  iterate 40 all_goals (try first
    | with_reducible assumption
    | with_reducible apply State.memCut_good
    | with_reducible apply State.done_good
    | with_reducible apply State.memWait_good
    | with_reducible apply hf4
    | with_reducible apply hf5
    | with_reducible apply Good.ite)

theorem execMemRead_good {q : List Instr} (x0) (x1) (s : State) (h : Good q s) : GoodO q (execMemRead x0 x1 s) := by
  unfold execMemRead
  iterate 40 all_goals (try first
    | with_reducible assumption
    | intro _ _ _
    | intro _ _
    | with_reducible apply State.cmd_good
    | with_reducible apply State.memRun_good
    | with_reducible apply State.complete_good
    | with_reducible apply GoodO.next
    | with_reducible apply Good.ite
    | with_reducible apply Good.mk_of)

theorem execMemWrite_good {q : List Instr} (x0) (x1) (s : State) (h : Good q s) : GoodO q (execMemWrite x0 x1 s) := by
  unfold execMemWrite
  iterate 40 all_goals (try first
    | with_reducible assumption
    | intro _ _ _
    | intro _ _
    | with_reducible apply State.cmd_good
    | with_reducible apply State.memRun_good
    | with_reducible apply State.putDramWords_good
    | with_reducible apply State.done_good
    | with_reducible apply GoodO.next)

theorem State.fillDram_good {q : List Instr} (s : State) (x1) (x2) (x3) (h : Good q s) : Good q (State.fillDram s x1 x2 x3) := by
  induction x3 generalizing s x1 x2 with
  | zero =>
    unfold State.fillDram
    iterate 40 all_goals (try first
      | with_reducible assumption)
  | succ n ih =>
    unfold State.fillDram
    iterate 40 all_goals (try first
      | with_reducible assumption
      | with_reducible apply ih
      | with_reducible apply State.putDramNat_good)

theorem execMemFill_good {q : List Instr} (x0) (x1) (s : State) (h : Good q s) : GoodO q (execMemFill x0 x1 s) := by
  unfold execMemFill
  iterate 40 all_goals (try first
    | with_reducible assumption
    | intro _ _ _
    | intro _ _
    | with_reducible apply State.cmd_good
    | with_reducible apply State.memRun_good
    | with_reducible apply State.fillDram_good
    | with_reducible apply State.done_good
    | with_reducible apply GoodO.next)

theorem execDmaRead_good {q : List Instr} (x0) (x1) (s : State) (h : Good q s) : GoodO q (execDmaRead x0 x1 s) := by
  unfold execDmaRead
  iterate 40 all_goals (try first
    | with_reducible assumption
    | intro _ _
    | with_reducible apply State.cmd_good
    | with_reducible apply State.done_good
    | with_reducible apply GoodO.next
    | with_reducible apply Good.ite
    | with_reducible apply Good.mk_of)

end Sys2Proof.Machine
end

