-- ==== Sys2Proof/Laws/KeepLink.lean ====
section
/-! SUPPORT. Every operation of Machine/Link.lean keeps the stores canonical and leaves the queue alone. -/

namespace Sys2Proof.Machine

theorem execLinkTrainStart_good {q : List Instr} (x0) (s : State) (h : Good q s) : GoodO q (execLinkTrainStart x0 s) := by
  unfold execLinkTrainStart
  iterate 40 all_goals (try first
    | with_reducible assumption
    | with_reducible apply State.portTrain_good
    | with_reducible apply GoodO.next
    | with_reducible apply Good.ite)

theorem execLinkTrainRetry_good {q : List Instr} (x0) (s : State) (h : Good q s) : GoodO q (execLinkTrainRetry x0 s) := by
  unfold execLinkTrainRetry
  iterate 40 all_goals (try first
    | with_reducible assumption
    | with_reducible apply State.portTrain_good
    | with_reducible apply GoodO.next
    | with_reducible apply Good.ite)

theorem State.trainedPort_good {q : List Instr} (s : State) (x1) (x2) (h : Good q s) : Good q (State.trainedPort s x1 x2) := by
  unfold State.trainedPort
  iterate 40 all_goals (try first
    | with_reducible assumption
    | (extract_lets +onlyGivenNames l; refine Good.cut (q := q) l ?_ (fun g => ?_); rotate_left; clear_value l; rotate_left; subst l)
    | with_reducible apply State.portFresh_good
    | with_reducible apply State.grpFlush_good
    | with_reducible apply State.setPort_good
    | with_reducible apply State.grpClock_good
    | with_reducible apply Good.ite)

theorem execLinkTrained_good {q : List Instr} (x0) (x1) (s : State) (h : Good q s) : GoodO q (execLinkTrained x0 x1 s) := by
  unfold execLinkTrained
  iterate 40 all_goals (try first
    | with_reducible assumption
    | (extract_lets +onlyGivenNames l; refine Good.cut (q := q) l ?_ (fun g => ?_); rotate_left; clear_value l; rotate_left; subst l)
    | with_reducible apply State.leashThaw_good
    | with_reducible apply State.portUp_good
    | with_reducible apply State.trainedPort_good
    | with_reducible apply State.resync_good
    | with_reducible apply State.set_good
    | with_reducible apply State.handshake_good
    | with_reducible apply GoodO.next
    | with_reducible apply Good.ite)

theorem execLaneDown_good {q : List Instr} (x0) (x1) (s : State) (h : Good q s) : GoodO q (execLaneDown x0 x1 s) := by
  unfold execLaneDown
  iterate 40 all_goals (try first
    | with_reducible assumption
    | (extract_lets +onlyGivenNames l; refine Good.cut (q := q) l ?_ (fun g => ?_); rotate_left; clear_value l; rotate_left; subst l)
    | with_reducible apply State.portRetrain_good
    | with_reducible apply State.raiseOnce_good
    | with_reducible apply State.crossJump_good
    | with_reducible apply State.grpFlush_good
    | with_reducible apply GoodO.next
    | with_reducible apply Good.ite)

theorem execLinkDown_good {q : List Instr} (x0) (s : State) (h : Good q s) : GoodO q (execLinkDown x0 s) := by
  unfold execLinkDown
  iterate 40 all_goals (try first
    | with_reducible assumption
    | (extract_lets +onlyGivenNames l; refine Good.cut (q := q) l ?_ (fun g => ?_); rotate_left; clear_value l; rotate_left; subst l)
    | with_reducible apply State.grpClock_good
    | with_reducible apply State.set_good
    | with_reducible apply State.notice_good
    | with_reducible apply State.raiseOnce_good
    | with_reducible apply GoodO.next
    | with_reducible apply Good.ite)

theorem execRetrain_good {q : List Instr} (x0) (x1) (s : State) (h : Good q s) : GoodO q (execRetrain x0 x1 s) := by
  unfold execRetrain
  iterate 40 all_goals (try first
    | with_reducible assumption
    | with_reducible apply State.respond_good
    | with_reducible apply writeLnkCtl_good
    | with_reducible apply GoodO.next)

theorem State.takeCommand_good {q : List Instr} (s : State) (x1) (x2) (x3) (h : Good q s) : Good q (State.takeCommand s x1 x2 x3) := by
  unfold State.takeCommand
  iterate 40 all_goals (try first
    | with_reducible assumption
    | (extract_lets +onlyGivenNames l; refine Good.cut (q := q) l ?_ (fun g => ?_); rotate_left; clear_value l; rotate_left; subst l)
    | with_reducible apply State.homed_good
    | with_reducible apply State.enlist_good
    | (extract_lets +onlyGivenNames l; clear_value l)
    | split
    | with_reducible apply Good.mk_of)

theorem State.emergency_good {q : List Instr} (s : State) (x1) (x2) (x3) (h : Good q s) : Good q (State.emergency s x1 x2 x3) := by
  unfold State.emergency
  iterate 40 all_goals (try first
    | with_reducible assumption
    | (extract_lets +onlyGivenNames l; refine Good.cut (q := q) l ?_ (fun g => ?_); rotate_left; clear_value l; rotate_left; subst l)
    | with_reducible apply State.muzzleAll_good
    | with_reducible apply State.homed_good
    | with_reducible apply State.raiseOnce_good
    | with_reducible apply State.react_good
    | with_reducible apply State.setPort_good
    | with_reducible apply Good.ite
    | (extract_lets +onlyGivenNames l; clear_value l)
    | with_reducible apply Good.mk_of)

theorem State.safeReply_good {q : List Instr} (s : State) (x1) (x2) (x3) (x4) (h : Good q s) : Good q (State.safeReply s x1 x2 x3 x4) := by
  unfold State.safeReply
  iterate 40 all_goals (try first
    | with_reducible assumption
    | (extract_lets +onlyGivenNames l; refine Good.cut (q := q) l ?_ (fun g => ?_); rotate_left; clear_value l; rotate_left; subst l)
    | with_reducible apply State.homed_good
    | with_reducible apply Good.ite
    | with_reducible apply Good.mk_of)

theorem State.framingError_good {q : List Instr} (s : State) (x1) (h : Good q s) : Good q (State.framingError s x1) := by
  unfold State.framingError
  iterate 40 all_goals (try first
    | with_reducible assumption
    | (extract_lets +onlyGivenNames l; refine Good.cut (q := q) l ?_ (fun g => ?_); rotate_left; clear_value l; rotate_left; subst l)
    | with_reducible apply State.bump_good
    | with_reducible apply State.setPort_good
    | with_reducible apply Good.ite)

theorem State.seqTaken_good {q : List Instr} (s : State) (x1) (h : Good q s) : Good q (State.seqTaken s x1) := by
  unfold State.seqTaken
  iterate 40 all_goals (try first
    | with_reducible assumption
    | with_reducible apply State.setPort_good)

theorem execEmergencySafe_good {q : List Instr} (x0) (x1) (x2) (x3) (s : State) (h : Good q s) : GoodO q (execEmergencySafe x0 x1 x2 x3 s) := by
  unfold execEmergencySafe
  iterate 40 all_goals (try first
    | with_reducible assumption
    | (extract_lets +onlyGivenNames l; refine Good.cut (q := q) l ?_ (fun g => ?_); rotate_left; clear_value l; rotate_left; subst l)
    | with_reducible apply State.framingError_good
    | with_reducible apply State.setPort_good
    | with_reducible apply State.seqTaken_good
    | with_reducible apply State.safeReply_good
    | with_reducible apply State.emergency_good
    | with_reducible apply GoodO.next
    | with_reducible apply Good.ite)

theorem State.forwardPacket_good {q : List Instr} (s : State) (x1) (x2) (h : Good q s) : Good q (State.forwardPacket s x1 x2) := by
  unfold State.forwardPacket
  iterate 40 all_goals (try first
    | with_reducible assumption
    | with_reducible apply State.setPort_good)

theorem State.consumePacket_good {q : List Instr} (s : State) (x1) (x2) (h : Good q s) : Good q (State.consumePacket s x1 x2) := by
  unfold State.consumePacket
  iterate 40 all_goals (try first
    | with_reducible assumption
    | with_reducible apply State.portFree_good)

theorem State.dupId_good {q : List Instr} (s : State) (x1) (x2) (h : Good q s) : Good q (State.dupId s x1 x2) := by
  unfold State.dupId
  iterate 40 all_goals (try first
    | with_reducible assumption
    | with_reducible apply State.raiseOnce_good
    | with_reducible apply State.setPort_good
    | with_reducible apply Good.ite)

theorem State.routeCommand_good {q : List Instr} (s : State) (x1) (x2) (h : Good q s) : Good q (State.routeCommand s x1 x2) := by
  unfold State.routeCommand
  iterate 40 all_goals (try first
    | with_reducible assumption
    | (extract_lets +onlyGivenNames l; refine Good.cut (q := q) l ?_ (fun g => ?_); rotate_left; clear_value l; rotate_left; subst l)
    | with_reducible apply State.emergency_good
    | with_reducible apply State.safeReply_good
    | with_reducible apply State.consumePacket_good
    | with_reducible apply State.forwardPacket_good
    | with_reducible apply State.takeCommand_good
    | with_reducible apply Good.ite
    | split)

theorem State.routePacket_good {q : List Instr} (s : State) (x1) (x2) (h : Good q s) : Good q (State.routePacket s x1 x2) := by
  unfold State.routePacket
  iterate 40 all_goals (try first
    | with_reducible assumption
    | with_reducible apply State.consumePacket_good
    | with_reducible apply State.routeCommand_good
    | with_reducible apply State.mirrorTake_good
    | with_reducible apply State.forwardPacket_good
    | with_reducible apply State.dupId_good
    | with_reducible apply State.raiseOnce_good
    | with_reducible apply State.bump_good
    | with_reducible apply Good.ite
    | (extract_lets +onlyGivenNames l; clear_value l)
    | split)

theorem execPacketReceive_good {q : List Instr} (x0) (x1) (s : State) (h : Good q s) : GoodO q (execPacketReceive x0 x1 s) := by
  unfold execPacketReceive
  iterate 40 all_goals (try first
    | with_reducible assumption
    | with_reducible apply State.framingError_good
    | with_reducible apply State.setPort_good
    | with_reducible apply State.routePacket_good
    | with_reducible apply State.seqTaken_good
    | with_reducible apply GoodO.next
    | with_reducible apply Good.ite)

theorem execCommandStart_good {q : List Instr} (x0) (x1) (s : State) (h : Good q s) : GoodO q (execCommandStart x0 x1 s) := by
  unfold execCommandStart
  iterate 40 all_goals (try first
    | with_reducible assumption
    | with_reducible apply State.routineBegin_good
    | with_reducible apply GoodO.next
    | with_reducible apply Good.ite
    | (extract_lets +onlyGivenNames l; clear_value l)
    | split
    | with_reducible apply Good.mk_of)

theorem execSessionReset_good {q : List Instr} (x0) (x1) (s : State) (h : Good q s) : GoodO q (execSessionReset x0 x1 s) := by
  unfold execSessionReset
  iterate 40 all_goals (try first
    | with_reducible assumption
    | intro _ _ _
    | intro _ _
    | with_reducible apply State.cmd_good
    | with_reducible apply State.forEach_good
    | with_reducible apply State.lockLose_good
    | with_reducible apply State.notice_good
    | with_reducible apply State.done_good
    | with_reducible apply GoodO.next
    | with_reducible apply Good.ite
    | with_reducible apply Good.mk_of)

theorem execNop_good {q : List Instr} (x0) (x1) (s : State) (h : Good q s) : GoodO q (execNop x0 x1 s) := by
  unfold execNop
  iterate 40 all_goals (try first
    | with_reducible assumption
    | intro _ _
    | with_reducible apply State.cmd_good
    | with_reducible apply State.done_good
    | with_reducible apply GoodO.next)

theorem execBarrier_good {q : List Instr} (x0) (x1) (s : State) (h : Good q s) : GoodO q (execBarrier x0 x1 s) := by
  unfold execBarrier
  iterate 40 all_goals (try first
    | with_reducible assumption
    | intro _ _
    | with_reducible apply State.cmd_good
    | with_reducible apply State.settleBarriers_good
    | with_reducible apply GoodO.next)

theorem execEcho_good {q : List Instr} (x0) (x1) (s : State) (h : Good q s) : GoodO q (execEcho x0 x1 s) := by
  unfold execEcho
  iterate 40 all_goals (try first
    | with_reducible assumption
    | intro _ _
    | with_reducible apply State.cmd_good
    | with_reducible apply State.complete_good
    | with_reducible apply GoodO.next)

end Sys2Proof.Machine
end

