-- ==== Sys2Proof/Laws/KeepStart.lean ====
section
/-! SUPPORT. Every operation of Machine/Start.lean keeps the stores canonical and leaves the queue alone. -/

namespace Sys2Proof.Machine

theorem State.loadWindow_good {q : List Instr} (s : State) (x1) (x2) (x3) (h : Good q s) : Good q (State.loadWindow s x1 x2 x3) := by
  unfold State.loadWindow
  iterate 40 all_goals (try first
    | with_reducible assumption
    | intro _ _ _
    | with_reducible apply State.forEach_good
    | with_reducible apply State.wr_good)

theorem State.imageWrite_good {q : List Instr} (s : State) (x1) (h : Good q s) : Good q (State.imageWrite s x1) := by
  unfold State.imageWrite
  iterate 40 all_goals (try first
    | with_reducible assumption
    | intro _ _ _
    | with_reducible apply State.loadWindow_good
    | with_reducible apply State.forEach_good
    | with_reducible apply State.set_good)

theorem State.imageTry_good {q : List Instr} (x0) (s : State) (h : Good q s) : Good q (State.imageTry x0 s) := by
  induction x0 generalizing s with
  | nil =>
    unfold State.imageTry
    iterate 40 all_goals (try first
      | with_reducible assumption
      | with_reducible apply State.set_good)
  | cons a l ih =>
    unfold State.imageTry
    iterate 40 all_goals (try first
      | with_reducible assumption
      | with_reducible apply ih
      | with_reducible apply State.imageWrite_good
      | with_reducible apply State.raiseOnce_good
      | with_reducible apply Good.ite)

theorem State.scanRecords_good {q : List Instr} (s : State) (h : Good q s) : Good q (State.scanRecords s) := by
  unfold State.scanRecords
  iterate 40 all_goals (try first
    | with_reducible assumption
    | intro _ _ _
    | (extract_lets +onlyGivenNames l; refine Good.cut (q := q) l ?_ (fun g => ?_); rotate_left; clear_value l; rotate_left; subst l)
    | with_reducible apply State.forEach_good
    | with_reducible apply State.recRead_good)

theorem State.selfCal_good {q : List Instr} (s : State) (x1) (x2) (h : Good q s) : Good q (State.selfCal s x1 x2) := by
  unfold State.selfCal
  iterate 40 all_goals (try first
    | with_reducible assumption
    | intro _ _ _
    | with_reducible apply State.calRefresh_good
    | with_reducible apply State.forEach_good
    | with_reducible apply State.calResults_good
    | with_reducible apply Good.ite)

theorem State.straps_good {q : List Instr} (s : State) (x1) (h : Good q s) : Good q (State.straps s x1) := by
  unfold State.straps
  iterate 40 all_goals (try first
    | with_reducible assumption
    | with_reducible apply State.set_good
    | with_reducible apply State.setB_good
    | with_reducible apply State.raiseOnce_good
    | with_reducible apply Good.ite)

theorem State.selfTestFail_good {q : List Instr} (s : State) (x1) (h : Good q s) : Good q (State.selfTestFail s x1) := by
  unfold State.selfTestFail
  iterate 40 all_goals (try first
    | with_reducible assumption
    | (extract_lets +onlyGivenNames l; refine Good.cut (q := q) l ?_ (fun g => ?_); rotate_left; clear_value l; rotate_left; subst l)
    | with_reducible apply State.raise_good
    | with_reducible apply State.raiseOnce_good
    | with_reducible apply Good.ite
    | split
    | with_reducible apply Good.mk_of)

theorem State.startForced_good {q : List Instr} (s : State) (x1) (h : Good q s) : Good q (State.startForced s x1) := by
  unfold State.startForced
  iterate 40 all_goals (try first
    | with_reducible assumption
    | with_reducible apply State.raise_good
    | with_reducible apply Good.ite)

theorem State.startFatal_good {q : List Instr} (s : State) (x1) (h : Good q s) : Good q (State.startFatal s x1) := by
  unfold State.startFatal
  iterate 40 all_goals (try first
    | with_reducible assumption
    | (extract_lets +onlyGivenNames l; refine Good.cut (q := q) l ?_ (fun g => ?_); rotate_left; clear_value l; rotate_left; subst l)
    | with_reducible apply State.set_good
    | with_reducible apply Good.mk_of)

theorem State.coldStart_good {q : List Instr} (s : State) (x1) (x2) (h : Good q s) : Good q (State.coldStart s x1 x2) := by
  unfold State.coldStart
  iterate 40 all_goals (try first
    | with_reducible assumption
    | intro _ _ _
    | (extract_lets +onlyGivenNames l; refine Good.cut (q := q) l ?_ (fun g => ?_); rotate_left; clear_value l; rotate_left; subst l)
    | with_reducible apply State.startForced_good
    | with_reducible apply State.set_good
    | with_reducible apply State.straps_good
    | with_reducible apply State.blank_good
    | with_reducible apply State.startFatal_good
    | with_reducible apply State.muzzleBits_good
    | with_reducible apply State.forEach_good
    | with_reducible apply State.selfTestFail_good
    | with_reducible apply State.raiseOnce_good
    | with_reducible apply State.scanRecords_good
    | with_reducible apply State.selfCal_good
    | with_reducible apply State.calLoad_good
    | with_reducible apply State.imageTry_good
    | with_reducible apply Good.ite
    | split
    | with_reducible apply Good.mk_of)

theorem State.psmHold_good {q : List Instr} (s : State) (x1) (h : Good q s) : Good q (State.psmHold s x1) := by
  unfold State.psmHold
  iterate 40 all_goals (try first
    | with_reducible assumption
    | with_reducible apply State.set_good
    | with_reducible apply State.setI_good
    | with_reducible apply State.psmDac_good
    | with_reducible apply State.setPsm_good
    | with_reducible apply Good.ite)

theorem State.psmWarm_good {q : List Instr} (s : State) (x1) (h : Good q s) : Good q (State.psmWarm s x1) := by
  unfold State.psmWarm
  iterate 40 all_goals (try first
    | with_reducible assumption
    | with_reducible apply State.set_good
    | with_reducible apply State.psmRefresh_good
    | with_reducible apply State.setPsm_good
    | with_reducible apply Good.ite)

theorem State.capWarm_good {q : List Instr} (s : State) (x1) (h : Good q s) : Good q (State.capWarm s x1) := by
  unfold State.capWarm
  iterate 40 all_goals (try first
    | with_reducible assumption
    | (extract_lets +onlyGivenNames l; refine Good.cut (q := q) l ?_ (fun g => ?_); rotate_left; clear_value l; rotate_left; subst l)
    | with_reducible apply State.setCap_good
    | with_reducible apply State.raiseOnce_good
    | with_reducible apply State.wr64_good
    | with_reducible apply State.bumpBy_good
    | with_reducible apply State.ringRefresh_good
    | with_reducible apply State.lifeMark_good
    | with_reducible apply Good.ite)

theorem State.packWarm_good {q : List Instr} (s : State) (x1) (h : Good q s) : Good q (State.packWarm s x1) := by
  unfold State.packWarm
  iterate 40 all_goals (try first
    | with_reducible assumption
    | with_reducible apply State.setSeq_good
    | with_reducible apply State.setApg_good
    | with_reducible apply State.capWarm_good
    | with_reducible apply State.trimAll_good)

theorem State.calApply_good {q : List Instr} (s : State) (h : Good q s) : Good q (State.calApply s) := by
  unfold State.calApply
  iterate 40 all_goals (try first
    | with_reducible assumption
    | intro _ _ _
    | with_reducible apply State.forEach_good
    | (extract_lets +onlyGivenNames l; clear_value l)
    | with_reducible apply Good.mk_of)

theorem State.storeBreak_good {q : List Instr} (s : State) (h : Good q s) : Good q (State.storeBreak s) := by
  unfold State.storeBreak
  iterate 40 all_goals (try first
    | with_reducible assumption
    | (extract_lets +onlyGivenNames l; refine Good.cut (q := q) l ?_ (fun g => ?_); rotate_left; clear_value l; rotate_left; subst l)
    | with_reducible apply State.putMramNat_good
    | (extract_lets +onlyGivenNames l; clear_value l)
    | split
    | with_reducible apply Good.mk_of)

theorem State.ctxLoad_good {q : List Instr} (s : State) (x1) (x2) (h : Good q s) : Good q (State.ctxLoad s x1 x2) := by
  unfold State.ctxLoad
  iterate 40 all_goals (try first
    | with_reducible assumption
    | intro _ _ _
    | (extract_lets +onlyGivenNames l; refine Good.cut (q := q) l ?_ (fun g => ?_); rotate_left; clear_value l; rotate_left; subst l)
    | with_reducible apply State.wr_good
    | with_reducible apply State.forEach_good
    | with_reducible apply State.set_good
    | with_reducible apply Good.ite
    | split
    | with_reducible apply Good.mk_of)

theorem State.ctxRestore_good {q : List Instr} (s : State) (h : Good q s) : Good q (State.ctxRestore s) := by
  unfold State.ctxRestore
  iterate 40 all_goals (try first
    | with_reducible assumption
    | intro _ _ _
    | (extract_lets +onlyGivenNames l; refine Good.cut (q := q) l ?_ (fun g => ?_); rotate_left; clear_value l; rotate_left; subst l)
    | with_reducible apply State.forEach_good
    | with_reducible apply State.recRead_good
    | with_reducible apply State.ctxLoad_good
    | with_reducible apply State.set_good
    | with_reducible apply State.wr_good
    | split
    | with_reducible apply Good.mk_of)

theorem State.abandon_good {q : List Instr} (s : State) (h : Good q s) : Good q (State.abandon s) := by
  unfold State.abandon
  iterate 40 all_goals (try first
    | with_reducible assumption
    | with_reducible apply Good.mk_of)

theorem State.portWarm_good {q : List Instr} (s : State) (x1) (h : Good q s) : Good q (State.portWarm s x1) := by
  unfold State.portWarm
  iterate 40 all_goals (try first
    | with_reducible assumption
    | with_reducible apply State.setPort_good
    | with_reducible apply State.portTrain_good)

theorem State.warmTab_good {q : List Instr} (s : State) (h : Good q s) : Good q (State.warmTab s) := by
  refine ⟨h.1, Tab.filterMap_wf _ _ _ ?_ h.2.1, h.2.2, h.2.3⟩
  intro e x he hx
  unfold warmEntry at hx
  split at hx
  · cases hx; exact ⟨rfl, he⟩
  · dsimp only at hx
    split at hx
    · cases hx
    · next hn => cases hx; exact ⟨rfl, hn⟩

theorem State.warmFields_good {q : List Instr} (s : State) (h : Good q s) : Good q (State.warmFields s) := by
  unfold State.warmFields
  iterate 40 all_goals (try first
    | with_reducible assumption
    | intro _ _ _
    | (extract_lets +onlyGivenNames l; refine Good.cut (q := q) l ?_ (fun g => ?_); rotate_left; clear_value l; rotate_left; subst l)
    | with_reducible apply State.forEach_good
    | with_reducible apply State.set_good
    | with_reducible apply State.setB_good
    | with_reducible apply Good.ite
    | with_reducible apply Good.mk_of)

theorem State.warmStart_good {q : List Instr} (s : State) (x1) (h : Good q s) : Good q (State.warmStart s x1) := by
  unfold State.warmStart
  iterate 40 all_goals (try first
    | with_reducible assumption
    | intro _ _ _
    | (extract_lets +onlyGivenNames l; refine Good.cut (q := q) l ?_ (fun g => ?_); rotate_left; clear_value l; rotate_left; subst l)
    | with_reducible apply State.forEach_good
    | with_reducible apply State.aeResetCore_good
    | with_reducible apply State.siteDrain_good
    | with_reducible apply State.classSettle_good
    | with_reducible apply State.copyCut_good
    | with_reducible apply State.storeBreak_good
    | with_reducible apply State.abandon_good
    | with_reducible apply State.psmHold_good
    | with_reducible apply State.warmFields_good
    | with_reducible apply State.warmTab_good
    | with_reducible apply State.grpDrain_good
    | with_reducible apply State.calApply_good
    | with_reducible apply State.packWarm_good
    | with_reducible apply State.psmWarm_good
    | with_reducible apply State.pcRetrainFail_good
    | with_reducible apply State.portWarm_good
    | with_reducible apply State.mpaDrain_good
    | with_reducible apply State.selfCal_good
    | with_reducible apply State.ctxRestore_good
    | split)

theorem State.warmRequest_good {q : List Instr} (s : State) (x1) (h : Good q s) : Good q (State.warmRequest s x1) := by
  unfold State.warmRequest
  iterate 40 all_goals (try first
    | with_reducible assumption
    | with_reducible apply State.coldStart_good
    | with_reducible apply State.warmStart_good
    | with_reducible apply Good.ite)

theorem execVauxRise_good {q : List Instr} (s : State) (h : Good q s) : GoodO q (execVauxRise s) := by
  unfold execVauxRise
  iterate 40 all_goals (try first
    | with_reducible assumption
    | with_reducible apply GoodO.next
    | with_reducible apply Good.mk_of)

theorem execVauxFall_good {q : List Instr} (s : State) (h : Good q s) : GoodO q (execVauxFall s) := by
  unfold execVauxFall
  iterate 40 all_goals (try first
    | with_reducible assumption
    | (extract_lets +onlyGivenNames l; refine Good.cut (q := q) l ?_ (fun g => ?_); rotate_left; clear_value l; rotate_left; subst l)
    | with_reducible apply State.blank_good
    | with_reducible apply State.set_good
    | with_reducible apply GoodO.next
    | with_reducible apply Good.ite
    | with_reducible apply Good.mk_of)

theorem execColdStart_good {q : List Instr} (x0) (s : State) (h : Good q s) : GoodO q (execColdStart x0 s) := by
  unfold execColdStart
  iterate 40 all_goals (try first
    | with_reducible assumption
    | (extract_lets +onlyGivenNames l; refine Good.cut (q := q) l ?_ (fun g => ?_); rotate_left; clear_value l; rotate_left; subst l)
    | with_reducible apply State.coldStart_good
    | with_reducible apply GoodO.next
    | with_reducible apply Good.ite
    | with_reducible apply Good.mk_of)

theorem execPwrgoodFall_good {q : List Instr} (s : State) (h : Good q s) : GoodO q (execPwrgoodFall s) := by
  unfold execPwrgoodFall
  iterate 40 all_goals (try first
    | with_reducible assumption
    | intro _ _ _
    | (extract_lets +onlyGivenNames l; refine Good.cut (q := q) l ?_ (fun g => ?_); rotate_left; clear_value l; rotate_left; subst l)
    | with_reducible apply State.muzzleAll_good
    | with_reducible apply State.forEach_good
    | with_reducible apply State.psmOpen_good
    | with_reducible apply State.setPsm_good
    | with_reducible apply State.set_good
    | with_reducible apply State.react_good
    | with_reducible apply GoodO.next
    | with_reducible apply Good.ite
    | with_reducible apply Good.mk_of)

theorem execResetN_good {q : List Instr} (x0) (s : State) (h : Good q s) : GoodO q (execResetN x0 s) := by
  unfold execResetN
  iterate 40 all_goals (try first
    | with_reducible assumption
    | with_reducible apply State.clearCheck_good
    | with_reducible apply State.warmRequest_good
    | with_reducible apply GoodO.next
    | with_reducible apply Good.ite
    | split
    | (with_reducible refine Good.of_snd (by assumption) ?_))

theorem execStart_good {q : List Instr} (x0) (x1) (s : State) (h : Good q s) : GoodO q (execStart x0 x1 s) := by
  unfold execStart
  iterate 40 all_goals (try first
    | with_reducible assumption
    | intro _ _
    | with_reducible apply State.cmd_good
    | with_reducible apply State.done_good
    | with_reducible apply GoodO.next
    | with_reducible apply Good.mk_of)

theorem execStartBegin_good {q : List Instr} (x0) (s : State) (h : Good q s) : GoodO q (execStartBegin x0 s) := by
  unfold execStartBegin
  iterate 40 all_goals (try first
    | with_reducible assumption
    | (extract_lets +onlyGivenNames l; refine Good.cut (q := q) l ?_ (fun g => ?_); rotate_left; clear_value l; rotate_left; subst l)
    | with_reducible apply State.coldStart_good
    | with_reducible apply State.warmRequest_good
    | with_reducible apply GoodO.next
    | with_reducible apply Good.ite
    | split
    | with_reducible apply Good.mk_of)

theorem execClearSafe_good {q : List Instr} (x0) (s : State) (h : Good q s) : GoodO q (execClearSafe x0 s) := by
  unfold execClearSafe
  iterate 40 all_goals (try first
    | with_reducible assumption
    | (extract_lets +onlyGivenNames l; refine Good.cut (q := q) l ?_ (fun g => ?_); rotate_left; clear_value l; rotate_left; subst l)
    | with_reducible apply State.clearCheck_good
    | with_reducible apply State.warmRequest_good
    | with_reducible apply GoodO.next
    | with_reducible apply Good.ite
    | split
    | (with_reducible refine Good.of_snd (by assumption) ?_)
    | with_reducible apply Good.mk_of)

end Sys2Proof.Machine
end

