-- ==== Sys2Proof/Laws/KeepMsp.lean ====
section
/-! SUPPORT. Every operation of Machine/Msp.lean keeps the stores canonical and leaves the queue alone. -/

namespace Sys2Proof.Machine

theorem State.mspRef_good {q : List Instr} (s : State) (x1) (h : Good q s) : Good q (State.mspRef s x1) := by
  unfold State.mspRef
  iterate 40 all_goals (try first
    | with_reducible assumption
    | with_reducible apply State.set_good
    | with_reducible apply Good.ite)

theorem State.mspAnswer_good {q : List Instr} (s : State) (x1) (x2) (x3) (h : Good q s) : Good q (State.mspAnswer s x1 x2 x3) := by
  unfold State.mspAnswer
  iterate 40 all_goals (try first
    | with_reducible assumption
    | (extract_lets +onlyGivenNames l; clear_value l)
    | with_reducible apply Good.mk_of)

theorem State.mspBad_good {q : List Instr} (s : State) (x1) (h : Good q s) : Good q (State.mspBad s x1) := by
  unfold State.mspBad
  iterate 40 all_goals (try first
    | with_reducible assumption
    | (extract_lets +onlyGivenNames l; refine Good.cut (q := q) l ?_ (fun g => ?_); rotate_left; clear_value l; rotate_left; subst l)
    | with_reducible apply State.bump_good
    | with_reducible apply State.mspAnswer_good
    | with_reducible apply State.raiseOnce_good)

theorem State.mspShift_good {q : List Instr} (s : State) (x1) (h : Good q s) : Good q (State.mspShift s x1) := by
  unfold State.mspShift
  iterate 40 all_goals (try first
    | with_reducible assumption
    | with_reducible apply Good.mk_of)

theorem State.mspFrame_good {q : List Instr} (s : State) (x1) (x2) (f3 : State → Nat × State) (h : Good q s) (hf3 : ∀ t, Good q t → Good q (f3 t).2) : Good q (State.mspFrame s x1 x2 f3) := by
  unfold State.mspFrame
  iterate 40 all_goals (try first
    | with_reducible assumption
    | with_reducible apply State.mspBad_good
    | with_reducible apply State.mspRef_good
    | with_reducible apply State.mspAnswer_good
    | with_reducible apply hf3
    | with_reducible apply Good.ite)

theorem State.msp_good {q : List Instr} (s : State) (x1 : Nat) (x2 : MspFrame) (x3 : Nat → State → Nat × State) (h : Good q s)
    (hf : ∀ f t, Good q t → Good q (x3 f t).2) : Good q (State.msp s x1 x2 x3) := by
  unfold State.msp
  dsimp only
  split
  · exact h
  · exact State.mspFrame_good _ _ _ _ (State.mspShift_good _ _ h) (hf _)

theorem State.mspGet_good {q : List Instr} (s : State) (x1) (h : Good q s) : Good q (State.mspGet s x1).2 := by
  unfold State.mspGet
  iterate 40 all_goals (try first
    | with_reducible assumption
    | with_reducible apply State.readReg_good
    | split)

theorem execMspRead_good {q : List Instr} (x0) (s : State) (h : Good q s) : GoodO q (execMspRead x0 s) := by
  unfold execMspRead
  iterate 40 all_goals (try first
    | with_reducible assumption
    | intro _ _ _
    | with_reducible apply State.msp_good
    | with_reducible apply State.mspGet_good
    | with_reducible apply GoodO.next
    | split)

theorem State.mspStore_good {q : List Instr} (s : State) (x1) (x2) (h : Good q s) : Good q (State.mspStore s x1 x2) := by
  unfold State.mspStore
  iterate 40 all_goals (try first
    | with_reducible assumption
    | (extract_lets +onlyGivenNames l; refine Good.cut (q := q) l ?_ (fun g => ?_); rotate_left; clear_value l; rotate_left; subst l)
    | with_reducible apply State.clearCheck_good
    | with_reducible apply State.writeReg_good
    | with_reducible apply Good.ite
    | split
    | (with_reducible refine Good.of_snd (by assumption) ?_)
    | with_reducible apply Good.mk_of)

theorem execMspWrite_good {q : List Instr} (x0) (s : State) (h : Good q s) : GoodO q (execMspWrite x0 s) := by
  unfold execMspWrite
  iterate 40 all_goals (try first
    | with_reducible assumption
    | intro _ _ _
    | with_reducible apply State.msp_good
    | with_reducible apply State.mspGet_good
    | with_reducible apply State.mspStore_good
    | with_reducible apply GoodO.next
    | split)

theorem execMspSafe_good {q : List Instr} (x0) (s : State) (h : Good q s) : GoodO q (execMspSafe x0 s) := by
  unfold execMspSafe
  iterate 40 all_goals (try first
    | with_reducible assumption
    | intro _ _ _
    | with_reducible apply State.msp_good
    | with_reducible apply State.muzzleAll_good
    | with_reducible apply State.raise_good
    | with_reducible apply State.react_good
    | with_reducible apply GoodO.next
    | with_reducible apply Good.ite)

theorem execIndAddr_good {q : List Instr} (x0) (s : State) (h : Good q s) : GoodO q (execIndAddr x0 s) := by
  unfold execIndAddr
  iterate 40 all_goals (try first
    | with_reducible assumption
    | intro _ _ _
    | with_reducible apply State.msp_good
    | with_reducible apply State.wr_good
    | with_reducible apply GoodO.next)

theorem State.indEnd_good {q : List Instr} (s : State) (x1) (h : Good q s) : Good q (State.indEnd s x1) := by
  unfold State.indEnd
  iterate 40 all_goals (try first
    | with_reducible assumption
    | with_reducible apply State.set_good
    | with_reducible apply Good.mk_of)

theorem State.indBegin_good {q : List Instr} (s : State) (x1) (x2) (h : Good q s) : Good q (State.indBegin s x1 x2) := by
  unfold State.indBegin
  iterate 40 all_goals (try first
    | with_reducible assumption
    | with_reducible apply State.indEnd_good
    | with_reducible apply State.set_good
    | with_reducible apply Good.ite
    | with_reducible apply Good.mk_of)

theorem execIndRead_good {q : List Instr} (x0) (s : State) (h : Good q s) : GoodO q (execIndRead x0 s) := by
  unfold execIndRead
  iterate 40 all_goals (try first
    | with_reducible assumption
    | intro _ _ _
    | with_reducible apply State.msp_good
    | with_reducible apply State.indBegin_good
    | with_reducible apply GoodO.next)

theorem execIndWrite_good {q : List Instr} (x0) (s : State) (h : Good q s) : GoodO q (execIndWrite x0 s) := by
  unfold execIndWrite
  iterate 40 all_goals (try first
    | with_reducible assumption
    | intro _ _ _
    | with_reducible apply State.msp_good
    | with_reducible apply State.indBegin_good
    | with_reducible apply GoodO.next)

theorem State.indAccess_good {q : List Instr} (s : State) (x1) (x2) (x3) (h : Good q s) : Good q (State.indAccess s x1 x2 x3) := by
  unfold State.indAccess
  iterate 40 all_goals (try first
    | with_reducible assumption
    | (extract_lets +onlyGivenNames l; refine Good.cut (q := q) l ?_ (fun g => ?_); rotate_left; clear_value l; rotate_left; subst l)
    | with_reducible apply State.indEnd_good
    | with_reducible apply State.writeReg_good
    | with_reducible apply State.readWords_good
    | with_reducible apply State.wr_good
    | with_reducible apply Good.ite
    | split)

theorem execMspIndDone_good {q : List Instr} (s : State) (h : Good q s) : GoodO q (execMspIndDone s) := by
  unfold execMspIndDone
  iterate 40 all_goals (try first
    | with_reducible assumption
    | with_reducible apply State.indEnd_good
    | with_reducible apply State.indAccess_good
    | with_reducible apply GoodO.next
    | with_reducible apply Good.ite
    | split)

theorem execTapUpdateIr_good {q : List Instr} (x0) (s : State) (h : Good q s) : GoodO q (execTapUpdateIr x0 s) := by
  unfold execTapUpdateIr
  iterate 40 all_goals (try first
    | with_reducible assumption
    | (extract_lets +onlyGivenNames l; refine Good.cut (q := q) l ?_ (fun g => ?_); rotate_left; clear_value l; rotate_left; subst l)
    | with_reducible apply State.set_good
    | with_reducible apply GoodO.next
    | with_reducible apply Good.ite
    | with_reducible apply Good.mk_of)

theorem execTrstN_good {q : List Instr} (s : State) (h : Good q s) : GoodO q (execTrstN s) := by
  unfold execTrstN
  iterate 40 all_goals (try first
    | with_reducible assumption
    | with_reducible apply GoodO.next
    | with_reducible apply Good.mk_of)

end Sys2Proof.Machine
end

