-- ==== Sys2Proof/Laws/KeepDispatch.lean ====
section
/-! SUPPORT. Every operation of Machine/Dispatch.lean keeps the stores canonical and leaves the queue alone. -/

namespace Sys2Proof.Machine

theorem exec_good {q : List Instr} (x0) (s : State) (h : Good q s) : GoodO q (exec x0 s) := by
  unfold exec
  iterate 40 all_goals (try first
    | with_reducible assumption
    | with_reducible apply execPlainRegisterWrite_good
    | with_reducible apply execSeqNop_good
    | with_reducible apply execRpt_good
    | with_reducible apply execLpb_good
    | with_reducible apply execLpe_good
    | with_reducible apply execSeqCall_good
    | with_reducible apply execSeqRet_good
    | with_reducible apply execJmp_good
    | with_reducible apply execMatchWord_good
    | with_reducible apply execSeqHalt_good
    | with_reducible apply execWemit_good
    | with_reducible apply execWwait_good
    | with_reducible apply execCue_good
    | with_reducible apply execApx_good
    | with_reducible apply execWaitBeat_good
    | with_reducible apply execHoldBeat_good
    | with_reducible apply execGroupStop_good
    | with_reducible apply execEdgeAct_good
    | with_reducible apply execTrimStep_good
    | with_reducible apply execCaptureResult_good
    | with_reducible apply execCaptureBurstWrite_good
    | with_reducible apply execTriggerArrival_good
    | with_reducible apply execDeadIntervalEnd_good
    | with_reducible apply execCapTrig_good
    | with_reducible apply execKeepaliveMark_good
    | with_reducible apply execRingEn_good
    | with_reducible apply execCapRdHi_good
    | with_reducible apply execBitmapLineWrite_good
    | with_reducible apply execApgImemHiWrite_good
    | with_reducible apply execApgImemHiRead_good
    | with_reducible apply execRaReq_good
    | with_reducible apply execRaRequestStart_good
    | with_reducible apply execRepairRequestDone_good
    | with_reducible apply execChApply_good
    | with_reducible apply execLaneEnable_good
    | with_reducible apply execChPmuGo_good
    | with_reducible apply execPmuMeasSettled_good
    | with_reducible apply execPmuMeasDone_good
    | with_reducible apply execDrvOvercurrent_good
    | with_reducible apply execPinClamp_good
    | with_reducible apply execPmuClamp_good
    | with_reducible apply execLoadCompliance_good
    | with_reducible apply execLevelMonitorRead_good
    | with_reducible apply execDrvOvercurrentClear_good
    | with_reducible apply execAlign_good
    | with_reducible apply execTdrLevelsSettled_good
    | with_reducible apply execTdrShotTimeout_good
    | with_reducible apply execTdrPassEnd_good
    | with_reducible apply execPatLoad_good
    | with_reducible apply execPatStart_good
    | with_reducible apply execPatternBegin_good
    | with_reducible apply execPatStop_good
    | with_reducible apply execPatJump_good
    | with_reducible apply execPatPause_good
    | with_reducible apply execPatResume_good
    | with_reducible apply execTsetSwap_good
    | with_reducible apply execTsetSwapWrap_good
    | with_reducible apply execTmuGo_good
    | with_reducible apply execTmuCalibration_good
    | with_reducible apply execTmuArm_good
    | with_reducible apply execTmuEdge_good
    | with_reducible apply execTmuTimeout_good
    | with_reducible apply execFreqGateClose_good
    | with_reducible apply execTmuMeasEnd_good
    | with_reducible apply execTmuAbortBit_good
    | with_reducible apply execTmuMeasure_good
    | with_reducible apply execTmuAbort_good
    | with_reducible apply execPmuMeasure_good
    | with_reducible apply execPsmCtlWrite_good
    | with_reducible apply execPsmLevelWrite_good
    | with_reducible apply execPsmSlewStep_good
    | with_reducible apply execSafeRampEnd_good
    | with_reducible apply execPsmSampleTick_good
    | with_reducible apply execWavePrefilled_good
    | with_reducible apply execPsmCue_good
    | with_reducible apply execPsmAdcReading_good
    | with_reducible apply execSnapRearm_good
    | with_reducible apply execClamp_good
    | with_reducible apply execShort_good
    | with_reducible apply execSenseOpen_good
    | with_reducible apply execBoostRange_good
    | with_reducible apply execPsmStatusClear_good
    | with_reducible apply execMeasGo_good
    | with_reducible apply execPsmMeasSettled_good
    | with_reducible apply execSnapTrig_good
    | with_reducible apply execSnapAbort_good
    | with_reducible apply execPsmSineFtwHi_good
    | with_reducible apply execPsmSetLevel_good
    | with_reducible apply execPsmSetLevelTimeout_good
    | with_reducible apply execPsmWaveArm_good
    | with_reducible apply execPsmWaveStart_good
    | with_reducible apply execPsmWaveStop_good
    | with_reducible apply execPsmWaveJump_good
    | with_reducible apply execPsmSineStart_good
    | with_reducible apply execPsmSineStop_good
    | with_reducible apply execPsmMeasure_good
    | with_reducible apply execPsmSnapArm_good
    | with_reducible apply execPsmSnapTrig_good
    | with_reducible apply execScalarAdd_good
    | with_reducible apply execScalarSub_good
    | with_reducible apply execScalarAnd_good
    | with_reducible apply execScalarOr_good
    | with_reducible apply execScalarXor_good
    | with_reducible apply execScalarShl_good
    | with_reducible apply execScalarShr_good
    | with_reducible apply execScalarSar_good
    | with_reducible apply execScalarMul_good
    | with_reducible apply execScalarSeq_good
    | with_reducible apply execScalarSlt_good
    | with_reducible apply execScalarSltu_good
    | with_reducible apply execScalarLi_good
    | with_reducible apply execScalarNop_good
    | with_reducible apply execValuAdd_good
    | with_reducible apply execValuSub_good
    | with_reducible apply execValuNeg_good
    | with_reducible apply execValuAbs_good
    | with_reducible apply execValuMin_good
    | with_reducible apply execValuMax_good
    | with_reducible apply execValuAnd_good
    | with_reducible apply execValuOr_good
    | with_reducible apply execValuXor_good
    | with_reducible apply execValuNot_good
    | with_reducible apply execValuSar_good
    | with_reducible apply execValuShl_good
    | with_reducible apply execValuCmpeq_good
    | with_reducible apply execValuCmplt_good
    | with_reducible apply execValuSel_good
    | with_reducible apply execVmacMul_good
    | with_reducible apply execMac_good
    | with_reducible apply execMsu_good
    | with_reducible apply execVld_good
    | with_reducible apply execVst_good
    | with_reducible apply execWld_good
    | with_reducible apply execWst_good
    | with_reducible apply execSld_good
    | with_reducible apply execSst_good
    | with_reducible apply execSta_good
    | with_reducible apply execMov_good
    | with_reducible apply execLanex_good
    | with_reducible apply execBcast_good
    | with_reducible apply execBr_good
    | with_reducible apply execBrc_good
    | with_reducible apply execCall_good
    | with_reducible apply execRet_good
    | with_reducible apply execRti_good
    | with_reducible apply execDjnz_good
    | with_reducible apply execSwi_good
    | with_reducible apply execWaitdma_good
    | with_reducible apply execHalt_good
    | with_reducible apply execRep_good
    | with_reducible apply execDmaStart_good
    | with_reducible apply execAeDmaEnd_good
    | with_reducible apply execAeInterrupt_good
    | with_reducible apply execAeDoorbell_good
    | with_reducible apply execAeRun_good
    | with_reducible apply execHaltReq_good
    | with_reducible apply execAeReset_good
    | with_reducible apply execAeCall_good
    | with_reducible apply execAeCallDispatch_good
    | with_reducible apply execAeCallEnd_good
    | with_reducible apply execCallTimeout_good
    | with_reducible apply execLinkTrainStart_good
    | with_reducible apply execLinkTrained_good
    | with_reducible apply execLinkTrainRetry_good
    | with_reducible apply execLaneDown_good
    | with_reducible apply execLinkDown_good
    | with_reducible apply execRetrain_good
    | with_reducible apply execPacketReceive_good
    | with_reducible apply execAck_good
    | with_reducible apply execNak_good
    | with_reducible apply execCredit_good
    | with_reducible apply execAckSendTimer_good
    | with_reducible apply execReplayTimeout_good
    | with_reducible apply execEgressSend_good
    | with_reducible apply execCommandStart_good
    | with_reducible apply execRegRead_good
    | with_reducible apply execRegWrite_good
    | with_reducible apply execRegModify_good
    | with_reducible apply execRegPoll_good
    | with_reducible apply execRegPollRead_good
    | with_reducible apply execMemRead_good
    | with_reducible apply execMemWrite_good
    | with_reducible apply execMemFill_good
    | with_reducible apply execDmaRead_good
    | with_reducible apply execSessionReset_good
    | with_reducible apply execEmergencySafe_good
    | with_reducible apply execNop_good
    | with_reducible apply execBarrier_good
    | with_reducible apply execEcho_good
    | with_reducible apply execMicroNano_good
    | with_reducible apply execMicroBranch_good
    | with_reducible apply execMicroCommit_good
    | with_reducible apply execMicroEnd_good
    | with_reducible apply execRoutineRestart_good
    | with_reducible apply execRoutineOverrun_good
    | with_reducible apply execFlowLoad_good
    | with_reducible apply execFlowUnload_good
    | with_reducible apply execFlowStart_good
    | with_reducible apply execFlowAbort_good
    | with_reducible apply execSiteRead_good
    | with_reducible apply execSiteClear_good
    | with_reducible apply execSiteMuzzle_good
    | with_reducible apply execEndStep_good
    | with_reducible apply execPatternStep_good
    | with_reducible apply execPmuStep_good
    | with_reducible apply execPsmForceStep_good
    | with_reducible apply execTmuStep_good
    | with_reducible apply execAeStep_good
    | with_reducible apply execLimitStep_good
    | with_reducible apply execContactStep_good
    | with_reducible apply execMuxStep_good
    | with_reducible apply execWaitStep_good
    | with_reducible apply execRepairStep_good
    | with_reducible apply execFlowStepEnd_good
    | with_reducible apply execLockAcquire_good
    | with_reducible apply execLockRenew_good
    | with_reducible apply execLockRelease_good
    | with_reducible apply execLockStatus_good
    | with_reducible apply execLeashTick_good
    | with_reducible apply execLeashExpiry_good
    | with_reducible apply execMpaArbitration_good
    | with_reducible apply execGrantHeld_good
    | with_reducible apply execMpaFreeze_good
    | with_reducible apply execMpaClassSwap_good
    | with_reducible apply execEgressSlotSwap_good
    | with_reducible apply execMramCopyGo_good
    | with_reducible apply execMramCopyDone_good
    | with_reducible apply execPatrolScrub_good
    | with_reducible apply execRefLost_good
    | with_reducible apply execRootUnlock_good
    | with_reducible apply execDrmUnlock_good
    | with_reducible apply execHkoRange_good
    | with_reducible apply execGroupFreeze_good
    | with_reducible apply execGroupMuzzle_good
    | with_reducible apply execGroupReset_good
    | with_reducible apply execGroupResetEnd_good
    | with_reducible apply execFaultRecord_good
    | with_reducible apply execSafeCoreStop_good
    | with_reducible apply execHistoryLost_good
    | with_reducible apply execFltPendingAck_good
    | with_reducible apply execClearStop_good
    | with_reducible apply execClearSafe_good
    | with_reducible apply execClearFirst_good
    | with_reducible apply execFltUnmuzzle_good
    | with_reducible apply execFltMuzzle_good
    | with_reducible apply execDiodeReading_good
    | with_reducible apply execHkRoundReading_good
    | with_reducible apply execDramTempReading_good
    | with_reducible apply execPfeInterfaceStop_good
    | with_reducible apply execPfeLost_good
    | with_reducible apply execRailUv_good
    | with_reducible apply execCalGap_good
    | with_reducible apply execCalEnd_good
    | with_reducible apply execCalRun_good
    | with_reducible apply execCalStore_good
    | with_reducible apply execCalStoreDone_good
    | with_reducible apply execCalForget_good
    | with_reducible apply execCalAbort_good
    | with_reducible apply execCalTaskEnd_good
    | with_reducible apply execTrimMove_good
    | with_reducible apply execVauxRise_good
    | with_reducible apply execVauxFall_good
    | with_reducible apply execColdStart_good
    | with_reducible apply execPwrgoodFall_good
    | with_reducible apply execResetN_good
    | with_reducible apply execStart_good
    | with_reducible apply execStartBegin_good
    | with_reducible apply execCheckpointTimer_good
    | with_reducible apply execCkptWrite_good
    | with_reducible apply execDlogRdHi_good
    | with_reducible apply execRestEnter_good
    | with_reducible apply execRestEntered_good
    | with_reducible apply execRestExit_good
    | with_reducible apply execWake_good
    | with_reducible apply execRestAwake_good
    | with_reducible apply execMirrorRead_good
    | with_reducible apply execTwinResync_good
    | with_reducible apply execTwinKeepaliveSend_good
    | with_reducible apply execHeartbeat_good
    | with_reducible apply execKeepalive_good
    | with_reducible apply execTwinSilenceTimeout_good
    | with_reducible apply execMspRead_good
    | with_reducible apply execMspWrite_good
    | with_reducible apply execMspSafe_good
    | with_reducible apply execIndAddr_good
    | with_reducible apply execIndRead_good
    | with_reducible apply execIndWrite_good
    | with_reducible apply execMspIndDone_good
    | with_reducible apply execIsoGo_good
    | with_reducible apply execIsoShiftDone_good
    | with_reducible apply execTapUpdateIr_good
    | with_reducible apply execWhistleFrameStart_good
    | with_reducible apply execEchoLaunch_good
    | with_reducible apply execEchoAnswer_good
    | with_reducible apply execFramePulseReceive_good
    | with_reducible apply execSyncLost_good
    | with_reducible apply execWhsLost_good
    | with_reducible apply execWhClkReturn_good
    | with_reducible apply execWhMasterWrite_good
    | with_reducible apply execWhTimeSetHi_good
    | with_reducible apply execWhSwapHi_good
    | with_reducible apply execWhEmit_good
    | with_reducible apply execWhistleEventSend_good
    | with_reducible apply execWhistleEventAct_good
    | with_reducible apply execWhAllstop_good
    | with_reducible apply execAllstop_good
    | with_reducible apply execAllstopRelease_good
    | with_reducible apply execAllstopRearm_good
    | with_reducible apply execRefclkReturn_good
    | with_reducible apply execDrmPllRelock_good
    | with_reducible apply execPsmTimedStart_good
    | with_reducible apply execTrstN_good
    | split)

end Sys2Proof.Machine
end

