-- ==== Sys2Proof/WellFormed.lean ====
section
/-! DEFINITION. Which commands are well formed: the limits that a packet, a link block or a unit's place in the
device puts on a command's operands. -/

namespace Sys2Proof

/-- LENGTH has 12 bits (R293). -/
def payloadOk (pl : List Word) : Bool := decide (pl.length ≤ 4095)

/-- A unit that exists (R413). -/
def MUnit.wf : MUnit → Bool
  | .channel n => decide (n < 512)
  | .lane n => decide (n < 256)
  | .psm n => decide (n < 96)
  | .tmu n => decide (n < 64)
  | .pack n => decide (n < 16)
  | .ae n => decide (n < 8)
  | .pc n => decide (n < 32)
  | .linkLane n => decide (n < 10)
  | .pfe n => decide (n < 4)

/-- A transaction of 1 to 4 bursts of 64 bytes within one granule of 256 bytes, in DRAM (R360). -/
def MpaReq.wf (r : MpaReq) : Bool :=
  decide (1 ≤ r.bursts) && decide (r.addr % 256 + 64 * r.bursts ≤ 256) && decide (r.addr % 64 = 0) && decide (r.addr < 2 ^ 35) && decide (r.ue < 16)

/-- Units and parameters of tasks 0 to 8 (R428, R440). -/
def calLimits (task : Nat) : Nat × Nat :=
  [(512, 4), (512, 16), (512, 512), (512, 10), (96, 28), (64, 65), (16, 1), (96, 8), (5, 1)].getD task (0, 0)

/-- A result of a task's unit and parameter. -/
def CalResult.wf (r : CalResult) (task : Nat) : Bool :=
  decide (r.unit < (calLimits task).1) && decide (r.param < (calLimits task).2)

/-- What a start finds: units that exist, steps 2 to 4, results of tasks 1 to 6. -/
def StartObs.wf (o : StartObs) : Bool :=
  o.failed.all MUnit.wf && o.fatalStep.all (fun n => decide (2 ≤ n) && decide (n ≤ 4))
    && o.warmFails.all (fun n => decide (2 ≤ n) && decide (n ≤ 4))
    && o.cal.all (fun c => decide (1 ≤ c.1) && decide (c.1 ≤ 6) && c.2.all (fun r => r.wf c.1))

/-- Is a command well formed? -/
def Instr.wf : Instr → Bool
  | .plainRegisterWrite _ _ _ => true
  | .seqNop _ _ => true
  | .rpt _ beats _ => decide (1 ≤ beats) && decide (beats < 2 ^ 24)
  | .lpb _ _ => true
  | .lpe _ _ => true
  | .seqCall _ _ => true
  | .seqRet _ _ => true
  | .jmp _ _ => true
  | .matchWord _ _ => true
  | .seqHalt _ _ => true
  | .wemit _ _ => true
  | .wwait _ _ => true
  | .cue _ _ => true
  | .apx _ _ => true
  | .waitBeat _ _ => true
  | .holdBeat _ _ => true
  | .groupStop _ => true
  | .edgeAct _ _ _ _ _ => true
  | .trimStep _ => true
  | .captureResult _ _ => true
  | .captureBurstWrite _ => true
  | .triggerArrival _ _ => true
  | .deadIntervalEnd _ => true
  | .capTrig _ _ _ => true
  | .keepaliveMark _ => true
  | .ringEn _ _ _ => true
  | .capRdHi _ _ _ => true
  | .bitmapLineWrite _ _ => true
  | .apgImemHiWrite _ _ _ => true
  | .apgImemHiRead _ _ => true
  | .raReq _ _ _ => true
  | .raRequestStart _ badLines => decide (badLines.length ≤ 2 ^ 20)
  | .repairRequestDone _ => true
  | .chApply _ _ _ => true
  | .laneEnable _ _ _ _ => true
  | .chPmuGo _ _ _ => true
  | .pmuMeasSettled _ => true
  | .pmuMeasDone _ convs => decide (convs.length < 2 ^ 16)
  | .drvOvercurrent _ => true
  | .pinClamp _ => true
  | .pmuClamp _ => true
  | .loadCompliance _ => true
  | .levelMonitorRead _ _ _ => true
  | .drvOvercurrentClear _ _ _ => true
  | .align _ pl => payloadOk pl
  | .tdrLevelsSettled _ => true
  | .tdrShotTimeout _ _ => true
  | .tdrPassEnd _ => true
  | .patLoad _ pl => payloadOk pl
  | .patStart _ pl => payloadOk pl
  | .patternBegin _ => true
  | .patStop _ pl => payloadOk pl
  | .patJump _ pl => payloadOk pl
  | .patPause _ pl => payloadOk pl
  | .patResume _ pl => payloadOk pl
  | .tsetSwap _ pl => payloadOk pl
  | .tsetSwapWrap _ => true
  | .tmuGo _ _ _ => true
  | .tmuCalibration _ _ _ => true
  | .tmuArm _ => true
  | .tmuEdge _ _ => true
  | .tmuTimeout _ => true
  | .freqGateClose _ => true
  | .tmuMeasEnd _ => true
  | .tmuAbortBit _ _ _ => true
  | .tmuMeasure _ pl => payloadOk pl
  | .tmuAbort _ pl => payloadOk pl
  | .pmuMeasure _ pl => payloadOk pl
  | .psmCtlWrite _ _ _ => true
  | .psmLevelWrite _ _ _ => true
  | .psmSlewStep _ => true
  | .safeRampEnd _ => true
  | .psmSampleTick _ => true
  | .wavePrefilled _ => true
  | .psmCue _ _ => true
  | .psmAdcReading _ _ _ _ => true
  | .snapRearm _ => true
  | .clamp _ => true
  | .short _ => true
  | .senseOpen _ => true
  | .boostRange _ => true
  | .psmStatusClear _ _ _ => true
  | .measGo _ _ => true
  | .psmMeasSettled _ => true
  | .snapTrig _ _ => true
  | .snapAbort _ _ => true
  | .psmSineFtwHi _ _ _ => true
  | .psmSetLevel _ pl => payloadOk pl
  | .psmSetLevelTimeout _ => true
  | .psmWaveArm _ pl => payloadOk pl
  | .psmWaveStart _ pl => payloadOk pl
  | .psmWaveStop _ pl => payloadOk pl
  | .psmWaveJump _ pl => payloadOk pl
  | .psmSineStart _ pl => payloadOk pl
  | .psmSineStop _ pl => payloadOk pl
  | .psmMeasure _ pl => payloadOk pl
  | .psmSnapArm _ pl => payloadOk pl
  | .psmSnapTrig _ pl => payloadOk pl
  | .scalarAdd _ _ => true
  | .scalarSub _ _ => true
  | .scalarAnd _ _ => true
  | .scalarOr _ _ => true
  | .scalarXor _ _ => true
  | .scalarShl _ _ => true
  | .scalarShr _ _ => true
  | .scalarSar _ _ => true
  | .scalarMul _ _ => true
  | .scalarSeq _ _ => true
  | .scalarSlt _ _ => true
  | .scalarSltu _ _ => true
  | .scalarLi _ _ => true
  | .scalarNop _ _ => true
  | .valuAdd _ _ => true
  | .valuSub _ _ => true
  | .valuNeg _ _ => true
  | .valuAbs _ _ => true
  | .valuMin _ _ => true
  | .valuMax _ _ => true
  | .valuAnd _ _ => true
  | .valuOr _ _ => true
  | .valuXor _ _ => true
  | .valuNot _ _ => true
  | .valuSar _ _ => true
  | .valuShl _ _ => true
  | .valuCmpeq _ _ => true
  | .valuCmplt _ _ => true
  | .valuSel _ _ => true
  | .vmacMul _ _ => true
  | .mac _ _ => true
  | .msu _ _ => true
  | .vld _ _ => true
  | .vst _ _ => true
  | .wld _ _ => true
  | .wst _ _ => true
  | .sld _ _ => true
  | .sst _ _ => true
  | .sta _ _ => true
  | .mov _ _ => true
  | .lanex _ _ => true
  | .bcast _ _ => true
  | .br _ _ => true
  | .brc _ _ => true
  | .call _ _ => true
  | .ret _ _ => true
  | .rti _ _ => true
  | .djnz _ _ => true
  | .swi _ _ => true
  | .waitdma _ _ => true
  | .halt _ _ => true
  | .rep _ _ => true
  | .dmaStart _ _ => true
  | .aeDmaEnd _ _ => true
  | .aeInterrupt _ => true
  | .aeDoorbell _ _ _ => true
  | .aeRun _ _ _ => true
  | .haltReq _ _ => true
  | .aeReset _ _ => true
  | .aeCall _ pl => payloadOk pl
  | .aeCallDispatch => true
  | .aeCallEnd _ _ => true
  | .callTimeout _ => true
  | .linkTrainStart _ => true
  | .linkTrained _ t => decide (t.cmdCredit ≤ 1024) && decide (t.rspCredit ≤ 1024)
  | .linkTrainRetry _ => true
  | .laneDown _ _ => true
  | .linkDown _ => true
  | .retrain _ _ => true
  | .packetReceive _ pkt => decide (pkt.payload.length ≤ 4095)
  | .ack _ _ => true
  | .nak _ _ => true
  | .credit _ cmd rsp => decide (cmd < 2 ^ 16) && decide (rsp < 2 ^ 16)
  | .ackSendTimer _ => true
  | .replayTimeout _ => true
  | .egressSend _ => true
  | .commandStart _ _ => true
  | .regRead _ pl => payloadOk pl
  | .regWrite _ pl => payloadOk pl
  | .regModify _ pl => payloadOk pl
  | .regPoll _ pl => payloadOk pl
  | .regPollRead _ _ => true
  | .memRead _ pl => payloadOk pl
  | .memWrite _ pl => payloadOk pl
  | .memFill _ pl => payloadOk pl
  | .dmaRead _ pl => payloadOk pl
  | .sessionReset _ pl => payloadOk pl
  | .emergencySafe _ _ _ _ => true
  | .nop _ pl => payloadOk pl
  | .barrier _ pl => payloadOk pl
  | .echo _ pl => payloadOk pl
  | .microNano _ => true
  | .microBranch _ => true
  | .microCommit _ => true
  | .microEnd _ => true
  | .routineRestart => true
  | .routineOverrun => true
  | .flowLoad _ pl => payloadOk pl
  | .flowUnload _ pl => payloadOk pl
  | .flowStart _ pl => payloadOk pl
  | .flowAbort _ pl => payloadOk pl
  | .siteRead _ pl => payloadOk pl
  | .siteClear _ pl => payloadOk pl
  | .siteMuzzle _ pl => payloadOk pl
  | .endStep _ => true
  | .patternStep _ => true
  | .pmuStep _ => true
  | .psmForceStep _ => true
  | .tmuStep _ => true
  | .aeStep _ => true
  | .limitStep _ => true
  | .contactStep _ => true
  | .muxStep _ => true
  | .waitStep _ => true
  | .repairStep _ => true
  | .flowStepEnd _ => true
  | .lockAcquire _ pl => payloadOk pl
  | .lockRenew _ pl => payloadOk pl
  | .lockRelease _ pl => payloadOk pl
  | .lockStatus _ pl => payloadOk pl
  | .leashTick => true
  | .leashExpiry _ => true
  | .mpaArbitration _ reqs => reqs.reqs.all MpaReq.wf
  | .grantHeld _ => true
  | .mpaFreeze _ _ => true
  | .mpaClassSwap _ => true
  | .egressSlotSwap _ _ => true
  | .mramCopyGo _ _ => true
  | .mramCopyDone _ => true
  | .patrolScrub mram addr _ => decide (addr < (if mram then 2 ^ 20 else 2 ^ 29))
  | .refLost => true
  | .rootUnlock => true
  | .drmUnlock _ => true
  | .hkoRange khz => decide (khz < 2 ^ 32)
  | .groupFreeze _ _ => true
  | .groupMuzzle _ _ => true
  | .groupReset _ _ => true
  | .groupResetEnd _ => true
  | .faultRecord => true
  | .safeCoreStop => true
  | .historyLost => true
  | .fltPendingAck _ _ => true
  | .clearStop _ => true
  | .clearSafe obs => obs.wf
  | .clearFirst _ => true
  | .fltUnmuzzle _ _ => true
  | .fltMuzzle _ _ => true
  | .diodeReading _ _ => true
  | .hkRoundReading _ => true
  | .dramTempReading _ _ => true
  | .pfeInterfaceStop _ => true
  | .pfeLost _ => true
  | .railUv _ => true
  | .calGap _ pl => payloadOk pl
  | .calEnd _ pl => payloadOk pl
  | .calRun _ pl => payloadOk pl
  | .calStore _ pl => payloadOk pl
  | .calStoreDone _ => true
  | .calForget _ pl => payloadOk pl
  | .calAbort _ pl => payloadOk pl
  | .calTaskEnd task results => results.all (fun r => r.wf task)
  | .trimMove task unit param => (⟨unit, param, 0⟩ : CalResult).wf task
  | .vauxRise => true
  | .vauxFall => true
  | .coldStart obs => obs.wf
  | .pwrgoodFall => true
  | .resetN obs => obs.wf
  | .start _ pl => payloadOk pl
  | .startBegin obs => obs.wf
  | .checkpointTimer _ => true
  | .ckptWrite _ pl _ => payloadOk pl
  | .dlogRdHi _ _ => true
  | .restEnter _ pl => payloadOk pl
  | .restEntered => true
  | .restExit _ pl => payloadOk pl
  | .wake _ => true
  | .restAwake failed => decide (failed.Nodup)
  | .mirrorRead _ pl => payloadOk pl
  | .twinResync _ pl => payloadOk pl
  | .twinKeepaliveSend => true
  | .heartbeat => true
  | .keepalive _ => true
  | .twinSilenceTimeout => true
  | .mspRead _ => true
  | .mspWrite _ => true
  | .mspSafe _ => true
  | .indAddr _ => true
  | .indRead _ => true
  | .indWrite _ => true
  | .mspIndDone => true
  | .isoGo _ _ => true
  | .isoShiftDone => true
  | .tapUpdateIr _ => true
  | .whistleFrameStart _ => true
  | .echoLaunch _ => true
  | .echoAnswer => true
  | .framePulseReceive _ _ => true
  | .syncLost => true
  | .whsLost => true
  | .whClkReturn => true
  | .whMasterWrite _ _ => true
  | .whTimeSetHi _ _ => true
  | .whSwapHi _ _ => true
  | .whEmit _ _ => true
  | .whistleEventSend _ => true
  | .whistleEventAct _ => true
  | .whAllstop _ _ => true
  | .allstop => true
  | .allstopRelease => true
  | .allstopRearm => true
  | .refclkReturn => true
  | .drmPllRelock _ => true
  | .psmTimedStart _ => true
  | .trstN => true

end Sys2Proof
end

