-- ==== Sys2Proof/Laws/PerInstr.lean ====
section
/-! SUPPORT. The law family PayloadFits: the payload words of a well-formed command fit the LENGTH field of a
packet (R293), one lemma per constructor. -/

namespace Sys2Proof.Laws

/-- The payload words a command carries. -/
def payloadOf : Instr → List Word
  | .plainRegisterWrite _ _ _ => []
  | .seqNop _ _ => []
  | .rpt _ _ _ => []
  | .lpb _ _ => []
  | .lpe _ _ => []
  | .seqCall _ _ => []
  | .seqRet _ _ => []
  | .jmp _ _ => []
  | .matchWord _ _ => []
  | .seqHalt _ _ => []
  | .wemit _ _ => []
  | .wwait _ _ => []
  | .cue _ _ => []
  | .apx _ _ => []
  | .waitBeat _ _ => []
  | .holdBeat _ _ => []
  | .groupStop _ => []
  | .edgeAct _ _ _ _ _ => []
  | .trimStep _ => []
  | .captureResult _ _ => []
  | .captureBurstWrite _ => []
  | .triggerArrival _ _ => []
  | .deadIntervalEnd _ => []
  | .capTrig _ _ _ => []
  | .keepaliveMark _ => []
  | .ringEn _ _ _ => []
  | .capRdHi _ _ _ => []
  | .bitmapLineWrite _ _ => []
  | .apgImemHiWrite _ _ _ => []
  | .apgImemHiRead _ _ => []
  | .raReq _ _ _ => []
  | .raRequestStart _ _ => []
  | .repairRequestDone _ => []
  | .chApply _ _ _ => []
  | .laneEnable _ _ _ _ => []
  | .chPmuGo _ _ _ => []
  | .pmuMeasSettled _ => []
  | .pmuMeasDone _ _ => []
  | .drvOvercurrent _ => []
  | .pinClamp _ => []
  | .pmuClamp _ => []
  | .loadCompliance _ => []
  | .levelMonitorRead _ _ _ => []
  | .drvOvercurrentClear _ _ _ => []
  | .align _ pl => pl
  | .tdrLevelsSettled _ => []
  | .tdrShotTimeout _ _ => []
  | .tdrPassEnd _ => []
  | .patLoad _ pl => pl
  | .patStart _ pl => pl
  | .patternBegin _ => []
  | .patStop _ pl => pl
  | .patJump _ pl => pl
  | .patPause _ pl => pl
  | .patResume _ pl => pl
  | .tsetSwap _ pl => pl
  | .tsetSwapWrap _ => []
  | .tmuGo _ _ _ => []
  | .tmuCalibration _ _ _ => []
  | .tmuArm _ => []
  | .tmuEdge _ _ => []
  | .tmuTimeout _ => []
  | .freqGateClose _ => []
  | .tmuMeasEnd _ => []
  | .tmuAbortBit _ _ _ => []
  | .tmuMeasure _ pl => pl
  | .tmuAbort _ pl => pl
  | .pmuMeasure _ pl => pl
  | .psmCtlWrite _ _ _ => []
  | .psmLevelWrite _ _ _ => []
  | .psmSlewStep _ => []
  | .safeRampEnd _ => []
  | .psmSampleTick _ => []
  | .wavePrefilled _ => []
  | .psmCue _ _ => []
  | .psmAdcReading _ _ _ _ => []
  | .snapRearm _ => []
  | .clamp _ => []
  | .short _ => []
  | .senseOpen _ => []
  | .boostRange _ => []
  | .psmStatusClear _ _ _ => []
  | .measGo _ _ => []
  | .psmMeasSettled _ => []
  | .snapTrig _ _ => []
  | .snapAbort _ _ => []
  | .psmSineFtwHi _ _ _ => []
  | .psmSetLevel _ pl => pl
  | .psmSetLevelTimeout _ => []
  | .psmWaveArm _ pl => pl
  | .psmWaveStart _ pl => pl
  | .psmWaveStop _ pl => pl
  | .psmWaveJump _ pl => pl
  | .psmSineStart _ pl => pl
  | .psmSineStop _ pl => pl
  | .psmMeasure _ pl => pl
  | .psmSnapArm _ pl => pl
  | .psmSnapTrig _ pl => pl
  | .scalarAdd _ _ => []
  | .scalarSub _ _ => []
  | .scalarAnd _ _ => []
  | .scalarOr _ _ => []
  | .scalarXor _ _ => []
  | .scalarShl _ _ => []
  | .scalarShr _ _ => []
  | .scalarSar _ _ => []
  | .scalarMul _ _ => []
  | .scalarSeq _ _ => []
  | .scalarSlt _ _ => []
  | .scalarSltu _ _ => []
  | .scalarLi _ _ => []
  | .scalarNop _ _ => []
  | .valuAdd _ _ => []
  | .valuSub _ _ => []
  | .valuNeg _ _ => []
  | .valuAbs _ _ => []
  | .valuMin _ _ => []
  | .valuMax _ _ => []
  | .valuAnd _ _ => []
  | .valuOr _ _ => []
  | .valuXor _ _ => []
  | .valuNot _ _ => []
  | .valuSar _ _ => []
  | .valuShl _ _ => []
  | .valuCmpeq _ _ => []
  | .valuCmplt _ _ => []
  | .valuSel _ _ => []
  | .vmacMul _ _ => []
  | .mac _ _ => []
  | .msu _ _ => []
  | .vld _ _ => []
  | .vst _ _ => []
  | .wld _ _ => []
  | .wst _ _ => []
  | .sld _ _ => []
  | .sst _ _ => []
  | .sta _ _ => []
  | .mov _ _ => []
  | .lanex _ _ => []
  | .bcast _ _ => []
  | .br _ _ => []
  | .brc _ _ => []
  | .call _ _ => []
  | .ret _ _ => []
  | .rti _ _ => []
  | .djnz _ _ => []
  | .swi _ _ => []
  | .waitdma _ _ => []
  | .halt _ _ => []
  | .rep _ _ => []
  | .dmaStart _ _ => []
  | .aeDmaEnd _ _ => []
  | .aeInterrupt _ => []
  | .aeDoorbell _ _ _ => []
  | .aeRun _ _ _ => []
  | .haltReq _ _ => []
  | .aeReset _ _ => []
  | .aeCall _ pl => pl
  | .aeCallDispatch => []
  | .aeCallEnd _ _ => []
  | .callTimeout _ => []
  | .linkTrainStart _ => []
  | .linkTrained _ _ => []
  | .linkTrainRetry _ => []
  | .laneDown _ _ => []
  | .linkDown _ => []
  | .retrain _ _ => []
  | .packetReceive _ pkt => pkt.payload
  | .ack _ _ => []
  | .nak _ _ => []
  | .credit _ _ _ => []
  | .ackSendTimer _ => []
  | .replayTimeout _ => []
  | .egressSend _ => []
  | .commandStart _ _ => []
  | .regRead _ pl => pl
  | .regWrite _ pl => pl
  | .regModify _ pl => pl
  | .regPoll _ pl => pl
  | .regPollRead _ _ => []
  | .memRead _ pl => pl
  | .memWrite _ pl => pl
  | .memFill _ pl => pl
  | .dmaRead _ pl => pl
  | .sessionReset _ pl => pl
  | .emergencySafe _ _ _ _ => []
  | .nop _ pl => pl
  | .barrier _ pl => pl
  | .echo _ pl => pl
  | .microNano _ => []
  | .microBranch _ => []
  | .microCommit _ => []
  | .microEnd _ => []
  | .routineRestart => []
  | .routineOverrun => []
  | .flowLoad _ pl => pl
  | .flowUnload _ pl => pl
  | .flowStart _ pl => pl
  | .flowAbort _ pl => pl
  | .siteRead _ pl => pl
  | .siteClear _ pl => pl
  | .siteMuzzle _ pl => pl
  | .endStep _ => []
  | .patternStep _ => []
  | .pmuStep _ => []
  | .psmForceStep _ => []
  | .tmuStep _ => []
  | .aeStep _ => []
  | .limitStep _ => []
  | .contactStep _ => []
  | .muxStep _ => []
  | .waitStep _ => []
  | .repairStep _ => []
  | .flowStepEnd _ => []
  | .lockAcquire _ pl => pl
  | .lockRenew _ pl => pl
  | .lockRelease _ pl => pl
  | .lockStatus _ pl => pl
  | .leashTick => []
  | .leashExpiry _ => []
  | .mpaArbitration _ _ => []
  | .grantHeld _ => []
  | .mpaFreeze _ _ => []
  | .mpaClassSwap _ => []
  | .egressSlotSwap _ _ => []
  | .mramCopyGo _ _ => []
  | .mramCopyDone _ => []
  | .patrolScrub _ _ _ => []
  | .refLost => []
  | .rootUnlock => []
  | .drmUnlock _ => []
  | .hkoRange _ => []
  | .groupFreeze _ _ => []
  | .groupMuzzle _ _ => []
  | .groupReset _ _ => []
  | .groupResetEnd _ => []
  | .faultRecord => []
  | .safeCoreStop => []
  | .historyLost => []
  | .fltPendingAck _ _ => []
  | .clearStop _ => []
  | .clearSafe _ => []
  | .clearFirst _ => []
  | .fltUnmuzzle _ _ => []
  | .fltMuzzle _ _ => []
  | .diodeReading _ _ => []
  | .hkRoundReading _ => []
  | .dramTempReading _ _ => []
  | .pfeInterfaceStop _ => []
  | .pfeLost _ => []
  | .railUv _ => []
  | .calGap _ pl => pl
  | .calEnd _ pl => pl
  | .calRun _ pl => pl
  | .calStore _ pl => pl
  | .calStoreDone _ => []
  | .calForget _ pl => pl
  | .calAbort _ pl => pl
  | .calTaskEnd _ _ => []
  | .trimMove _ _ _ => []
  | .vauxRise => []
  | .vauxFall => []
  | .coldStart _ => []
  | .pwrgoodFall => []
  | .resetN _ => []
  | .start _ pl => pl
  | .startBegin _ => []
  | .checkpointTimer _ => []
  | .ckptWrite _ pl _ => pl
  | .dlogRdHi _ _ => []
  | .restEnter _ pl => pl
  | .restEntered => []
  | .restExit _ pl => pl
  | .wake _ => []
  | .restAwake _ => []
  | .mirrorRead _ pl => pl
  | .twinResync _ pl => pl
  | .twinKeepaliveSend => []
  | .heartbeat => []
  | .keepalive _ => []
  | .twinSilenceTimeout => []
  | .mspRead _ => []
  | .mspWrite _ => []
  | .mspSafe _ => []
  | .indAddr _ => []
  | .indRead _ => []
  | .indWrite _ => []
  | .mspIndDone => []
  | .isoGo _ _ => []
  | .isoShiftDone => []
  | .tapUpdateIr _ => []
  | .whistleFrameStart _ => []
  | .echoLaunch _ => []
  | .echoAnswer => []
  | .framePulseReceive _ _ => []
  | .syncLost => []
  | .whsLost => []
  | .whClkReturn => []
  | .whMasterWrite _ _ => []
  | .whTimeSetHi _ _ => []
  | .whSwapHi _ _ => []
  | .whEmit _ _ => []
  | .whistleEventSend _ => []
  | .whistleEventAct _ => []
  | .whAllstop _ _ => []
  | .allstop => []
  | .allstopRelease => []
  | .allstopRearm => []
  | .refclkReturn => []
  | .drmPllRelock _ => []
  | .psmTimedStart _ => []
  | .trstN => []

/-- The payload fits LENGTH. -/
def PayloadFits.Statement (i : Instr) : Prop := i.wf = true → (payloadOf i).length ≤ 4095

theorem payloadOk_length (pl : List Word) (h : payloadOk pl = true) : pl.length ≤ 4095 := by simpa [payloadOk] using h

theorem PayloadFits.plainRegisterWrite (o : Origin) (addr : Word) (value : Word) : PayloadFits.Statement (.plainRegisterWrite o addr value) :=
  fun _ => Nat.zero_le _
theorem PayloadFits.seqNop (p : Pack) (k : SeqChk) : PayloadFits.Statement (.seqNop p k) := fun _ => Nat.zero_le _
theorem PayloadFits.rpt (p : Pack) (beats : Nat) (k : SeqChk) : PayloadFits.Statement (.rpt p beats k) :=
  fun _ => Nat.zero_le _
theorem PayloadFits.lpb (p : Pack) (k : SeqChk) : PayloadFits.Statement (.lpb p k) := fun _ => Nat.zero_le _
theorem PayloadFits.lpe (p : Pack) (k : SeqChk) : PayloadFits.Statement (.lpe p k) := fun _ => Nat.zero_le _
theorem PayloadFits.seqCall (p : Pack) (k : SeqChk) : PayloadFits.Statement (.seqCall p k) := fun _ => Nat.zero_le _
theorem PayloadFits.seqRet (p : Pack) (k : SeqChk) : PayloadFits.Statement (.seqRet p k) := fun _ => Nat.zero_le _
theorem PayloadFits.jmp (p : Pack) (k : SeqChk) : PayloadFits.Statement (.jmp p k) := fun _ => Nat.zero_le _
theorem PayloadFits.matchWord (p : Pack) (k : SeqChk) : PayloadFits.Statement (.matchWord p k) :=
  fun _ => Nat.zero_le _
theorem PayloadFits.seqHalt (p : Pack) (k : SeqChk) : PayloadFits.Statement (.seqHalt p k) := fun _ => Nat.zero_le _
theorem PayloadFits.wemit (p : Pack) (k : SeqChk) : PayloadFits.Statement (.wemit p k) := fun _ => Nat.zero_le _
theorem PayloadFits.wwait (p : Pack) (k : SeqChk) : PayloadFits.Statement (.wwait p k) := fun _ => Nat.zero_le _
theorem PayloadFits.cue (p : Pack) (k : SeqChk) : PayloadFits.Statement (.cue p k) := fun _ => Nat.zero_le _
theorem PayloadFits.apx (p : Pack) (k : SeqChk) : PayloadFits.Statement (.apx p k) := fun _ => Nat.zero_le _
theorem PayloadFits.waitBeat (p : Pack) (k : SeqChk) : PayloadFits.Statement (.waitBeat p k) :=
  fun _ => Nat.zero_le _
theorem PayloadFits.holdBeat (p : Pack) (k : SeqChk) : PayloadFits.Statement (.holdBeat p k) :=
  fun _ => Nat.zero_le _
theorem PayloadFits.groupStop (p : Pack) : PayloadFits.Statement (.groupStop p) := fun _ => Nat.zero_le _
theorem PayloadFits.edgeAct (p : Pack) (c : Fin 32) (beat : Nat) (edge : Fin 8) (pad : PadObs) : PayloadFits.Statement (.edgeAct p c beat edge pad) :=
  fun _ => Nat.zero_le _
theorem PayloadFits.trimStep (p : Pack) : PayloadFits.Statement (.trimStep p) := fun _ => Nat.zero_le _
theorem PayloadFits.captureResult (p : Pack) (beat : Nat) : PayloadFits.Statement (.captureResult p beat) :=
  fun _ => Nat.zero_le _
theorem PayloadFits.captureBurstWrite (p : Pack) : PayloadFits.Statement (.captureBurstWrite p) :=
  fun _ => Nat.zero_le _
theorem PayloadFits.triggerArrival (p : Pack) (t : Trigger) : PayloadFits.Statement (.triggerArrival p t) :=
  fun _ => Nat.zero_le _
theorem PayloadFits.deadIntervalEnd (p : Pack) : PayloadFits.Statement (.deadIntervalEnd p) :=
  fun _ => Nat.zero_le _
theorem PayloadFits.capTrig (o : Origin) (p : Pack) (value : Word) : PayloadFits.Statement (.capTrig o p value) :=
  fun _ => Nat.zero_le _
theorem PayloadFits.keepaliveMark (p : Pack) : PayloadFits.Statement (.keepaliveMark p) := fun _ => Nat.zero_le _
theorem PayloadFits.ringEn (o : Origin) (p : Pack) (value : Word) : PayloadFits.Statement (.ringEn o p value) :=
  fun _ => Nat.zero_le _
theorem PayloadFits.capRdHi (o : Origin) (p : Pack) (value : Word) : PayloadFits.Statement (.capRdHi o p value) :=
  fun _ => Nat.zero_le _
theorem PayloadFits.bitmapLineWrite (p : Pack) (uncorrectable : Bool) : PayloadFits.Statement (.bitmapLineWrite p uncorrectable) :=
  fun _ => Nat.zero_le _
theorem PayloadFits.apgImemHiWrite (o : Origin) (p : Pack) (value : Word) : PayloadFits.Statement (.apgImemHiWrite o p value) :=
  fun _ => Nat.zero_le _
theorem PayloadFits.apgImemHiRead (o : Origin) (p : Pack) : PayloadFits.Statement (.apgImemHiRead o p) :=
  fun _ => Nat.zero_le _
theorem PayloadFits.raReq (o : Origin) (p : Pack) (value : Word) : PayloadFits.Statement (.raReq o p value) :=
  fun _ => Nat.zero_le _
theorem PayloadFits.raRequestStart (p : Pack) (badLines : List Nat) : PayloadFits.Statement (.raRequestStart p badLines) :=
  fun _ => Nat.zero_le _
theorem PayloadFits.repairRequestDone (p : Pack) : PayloadFits.Statement (.repairRequestDone p) :=
  fun _ => Nat.zero_le _
theorem PayloadFits.chApply (o : Origin) (p : Pack) (value : Word) : PayloadFits.Statement (.chApply o p value) :=
  fun _ => Nat.zero_le _
theorem PayloadFits.laneEnable (o : Origin) (p : Pack) (l : Fin 16) (value : Word) : PayloadFits.Statement (.laneEnable o p l value) :=
  fun _ => Nat.zero_le _
theorem PayloadFits.chPmuGo (o : Origin) (ch : Chan) (value : Word) : PayloadFits.Statement (.chPmuGo o ch value) :=
  fun _ => Nat.zero_le _
theorem PayloadFits.pmuMeasSettled (ch : Chan) : PayloadFits.Statement (.pmuMeasSettled ch) :=
  fun _ => Nat.zero_le _
theorem PayloadFits.pmuMeasDone (ch : Chan) (convs : List Conv) : PayloadFits.Statement (.pmuMeasDone ch convs) :=
  fun _ => Nat.zero_le _
theorem PayloadFits.drvOvercurrent (ch : Chan) : PayloadFits.Statement (.drvOvercurrent ch) :=
  fun _ => Nat.zero_le _
theorem PayloadFits.pinClamp (ch : Chan) : PayloadFits.Statement (.pinClamp ch) := fun _ => Nat.zero_le _
theorem PayloadFits.pmuClamp (ch : Chan) : PayloadFits.Statement (.pmuClamp ch) := fun _ => Nat.zero_le _
theorem PayloadFits.loadCompliance (ch : Chan) : PayloadFits.Statement (.loadCompliance ch) :=
  fun _ => Nat.zero_le _
theorem PayloadFits.levelMonitorRead (ch : Chan) (which : Fin 6) (code : BitVec 16) : PayloadFits.Statement (.levelMonitorRead ch which code) :=
  fun _ => Nat.zero_le _
theorem PayloadFits.drvOvercurrentClear (o : Origin) (ch : Chan) (value : Word) : PayloadFits.Statement (.drvOvercurrentClear o ch value) :=
  fun _ => Nat.zero_le _
theorem PayloadFits.align (h : CmdHdr) (pl : List Word) : PayloadFits.Statement (.align h pl) := payloadOk_length pl
theorem PayloadFits.tdrLevelsSettled (p : Pack) : PayloadFits.Statement (.tdrLevelsSettled p) :=
  fun _ => Nat.zero_le _
theorem PayloadFits.tdrShotTimeout (p : Pack) (c : Fin 32) : PayloadFits.Statement (.tdrShotTimeout p c) :=
  fun _ => Nat.zero_le _
theorem PayloadFits.tdrPassEnd (p : Pack) : PayloadFits.Statement (.tdrPassEnd p) := fun _ => Nat.zero_le _
theorem PayloadFits.patLoad (h : CmdHdr) (pl : List Word) : PayloadFits.Statement (.patLoad h pl) :=
  payloadOk_length pl
theorem PayloadFits.patStart (h : CmdHdr) (pl : List Word) : PayloadFits.Statement (.patStart h pl) :=
  payloadOk_length pl
theorem PayloadFits.patternBegin (p : Pack) : PayloadFits.Statement (.patternBegin p) := fun _ => Nat.zero_le _
theorem PayloadFits.patStop (h : CmdHdr) (pl : List Word) : PayloadFits.Statement (.patStop h pl) :=
  payloadOk_length pl
theorem PayloadFits.patJump (h : CmdHdr) (pl : List Word) : PayloadFits.Statement (.patJump h pl) :=
  payloadOk_length pl
theorem PayloadFits.patPause (h : CmdHdr) (pl : List Word) : PayloadFits.Statement (.patPause h pl) :=
  payloadOk_length pl
theorem PayloadFits.patResume (h : CmdHdr) (pl : List Word) : PayloadFits.Statement (.patResume h pl) :=
  payloadOk_length pl
theorem PayloadFits.tsetSwap (h : CmdHdr) (pl : List Word) : PayloadFits.Statement (.tsetSwap h pl) :=
  payloadOk_length pl
theorem PayloadFits.tsetSwapWrap (p : Pack) : PayloadFits.Statement (.tsetSwapWrap p) := fun _ => Nat.zero_le _
theorem PayloadFits.tmuGo (o : Origin) (t : TmuId) (value : Word) : PayloadFits.Statement (.tmuGo o t value) :=
  fun _ => Nat.zero_le _
theorem PayloadFits.tmuCalibration (t : TmuId) (c1 c2 : BitVec 12) : PayloadFits.Statement (.tmuCalibration t c1 c2) :=
  fun _ => Nat.zero_le _
theorem PayloadFits.tmuArm (t : TmuId) : PayloadFits.Statement (.tmuArm t) := fun _ => Nat.zero_le _
theorem PayloadFits.tmuEdge (t : TmuId) (e : TmuEdgeObs) : PayloadFits.Statement (.tmuEdge t e) :=
  fun _ => Nat.zero_le _
theorem PayloadFits.tmuTimeout (t : TmuId) : PayloadFits.Statement (.tmuTimeout t) := fun _ => Nat.zero_le _
theorem PayloadFits.freqGateClose (t : TmuId) : PayloadFits.Statement (.freqGateClose t) := fun _ => Nat.zero_le _
theorem PayloadFits.tmuMeasEnd (t : TmuId) : PayloadFits.Statement (.tmuMeasEnd t) := fun _ => Nat.zero_le _
theorem PayloadFits.tmuAbortBit (o : Origin) (t : TmuId) (value : Word) : PayloadFits.Statement (.tmuAbortBit o t value) :=
  fun _ => Nat.zero_le _
theorem PayloadFits.tmuMeasure (h : CmdHdr) (pl : List Word) : PayloadFits.Statement (.tmuMeasure h pl) :=
  payloadOk_length pl
theorem PayloadFits.tmuAbort (h : CmdHdr) (pl : List Word) : PayloadFits.Statement (.tmuAbort h pl) :=
  payloadOk_length pl
theorem PayloadFits.pmuMeasure (h : CmdHdr) (pl : List Word) : PayloadFits.Statement (.pmuMeasure h pl) :=
  payloadOk_length pl
theorem PayloadFits.psmCtlWrite (o : Origin) (n : PsmId) (value : Word) : PayloadFits.Statement (.psmCtlWrite o n value) :=
  fun _ => Nat.zero_le _
theorem PayloadFits.psmLevelWrite (o : Origin) (n : PsmId) (value : Word) : PayloadFits.Statement (.psmLevelWrite o n value) :=
  fun _ => Nat.zero_le _
theorem PayloadFits.psmSlewStep (n : PsmId) : PayloadFits.Statement (.psmSlewStep n) := fun _ => Nat.zero_le _
theorem PayloadFits.safeRampEnd (n : PsmId) : PayloadFits.Statement (.safeRampEnd n) := fun _ => Nat.zero_le _
theorem PayloadFits.psmSampleTick (n : PsmId) : PayloadFits.Statement (.psmSampleTick n) := fun _ => Nat.zero_le _
theorem PayloadFits.wavePrefilled (n : PsmId) : PayloadFits.Statement (.wavePrefilled n) := fun _ => Nat.zero_le _
theorem PayloadFits.psmCue (n : PsmId) (cue : Fin 32) : PayloadFits.Statement (.psmCue n cue) :=
  fun _ => Nat.zero_le _
theorem PayloadFits.psmAdcReading (n : PsmId) (measured : Bool) (code : BitVec 18) (clamps : Bool) : PayloadFits.Statement (.psmAdcReading n measured code clamps) :=
  fun _ => Nat.zero_le _
theorem PayloadFits.snapRearm (n : PsmId) : PayloadFits.Statement (.snapRearm n) := fun _ => Nat.zero_le _
theorem PayloadFits.clamp (n : PsmId) : PayloadFits.Statement (.clamp n) := fun _ => Nat.zero_le _
theorem PayloadFits.short (n : PsmId) : PayloadFits.Statement (.short n) := fun _ => Nat.zero_le _
theorem PayloadFits.senseOpen (n : PsmId) : PayloadFits.Statement (.senseOpen n) := fun _ => Nat.zero_le _
theorem PayloadFits.boostRange (n : PsmId) : PayloadFits.Statement (.boostRange n) := fun _ => Nat.zero_le _
theorem PayloadFits.psmStatusClear (o : Origin) (n : PsmId) (value : Word) : PayloadFits.Statement (.psmStatusClear o n value) :=
  fun _ => Nat.zero_le _
theorem PayloadFits.measGo (o : Origin) (n : PsmId) : PayloadFits.Statement (.measGo o n) := fun _ => Nat.zero_le _
theorem PayloadFits.psmMeasSettled (n : PsmId) : PayloadFits.Statement (.psmMeasSettled n) := fun _ => Nat.zero_le _
theorem PayloadFits.snapTrig (o : Origin) (n : PsmId) : PayloadFits.Statement (.snapTrig o n) :=
  fun _ => Nat.zero_le _
theorem PayloadFits.snapAbort (o : Origin) (n : PsmId) : PayloadFits.Statement (.snapAbort o n) :=
  fun _ => Nat.zero_le _
theorem PayloadFits.psmSineFtwHi (o : Origin) (n : PsmId) (value : Word) : PayloadFits.Statement (.psmSineFtwHi o n value) :=
  fun _ => Nat.zero_le _
theorem PayloadFits.psmSetLevel (h : CmdHdr) (pl : List Word) : PayloadFits.Statement (.psmSetLevel h pl) :=
  payloadOk_length pl
theorem PayloadFits.psmSetLevelTimeout (n : PsmId) : PayloadFits.Statement (.psmSetLevelTimeout n) :=
  fun _ => Nat.zero_le _
theorem PayloadFits.psmWaveArm (h : CmdHdr) (pl : List Word) : PayloadFits.Statement (.psmWaveArm h pl) :=
  payloadOk_length pl
theorem PayloadFits.psmWaveStart (h : CmdHdr) (pl : List Word) : PayloadFits.Statement (.psmWaveStart h pl) :=
  payloadOk_length pl
theorem PayloadFits.psmWaveStop (h : CmdHdr) (pl : List Word) : PayloadFits.Statement (.psmWaveStop h pl) :=
  payloadOk_length pl
theorem PayloadFits.psmWaveJump (h : CmdHdr) (pl : List Word) : PayloadFits.Statement (.psmWaveJump h pl) :=
  payloadOk_length pl
theorem PayloadFits.psmSineStart (h : CmdHdr) (pl : List Word) : PayloadFits.Statement (.psmSineStart h pl) :=
  payloadOk_length pl
theorem PayloadFits.psmSineStop (h : CmdHdr) (pl : List Word) : PayloadFits.Statement (.psmSineStop h pl) :=
  payloadOk_length pl
theorem PayloadFits.psmMeasure (h : CmdHdr) (pl : List Word) : PayloadFits.Statement (.psmMeasure h pl) :=
  payloadOk_length pl
theorem PayloadFits.psmSnapArm (h : CmdHdr) (pl : List Word) : PayloadFits.Statement (.psmSnapArm h pl) :=
  payloadOk_length pl
theorem PayloadFits.psmSnapTrig (h : CmdHdr) (pl : List Word) : PayloadFits.Statement (.psmSnapTrig h pl) :=
  payloadOk_length pl
theorem PayloadFits.scalarAdd (c : CoreId) (k : AeChk) : PayloadFits.Statement (.scalarAdd c k) :=
  fun _ => Nat.zero_le _
theorem PayloadFits.scalarSub (c : CoreId) (k : AeChk) : PayloadFits.Statement (.scalarSub c k) :=
  fun _ => Nat.zero_le _
theorem PayloadFits.scalarAnd (c : CoreId) (k : AeChk) : PayloadFits.Statement (.scalarAnd c k) :=
  fun _ => Nat.zero_le _
theorem PayloadFits.scalarOr (c : CoreId) (k : AeChk) : PayloadFits.Statement (.scalarOr c k) :=
  fun _ => Nat.zero_le _
theorem PayloadFits.scalarXor (c : CoreId) (k : AeChk) : PayloadFits.Statement (.scalarXor c k) :=
  fun _ => Nat.zero_le _
theorem PayloadFits.scalarShl (c : CoreId) (k : AeChk) : PayloadFits.Statement (.scalarShl c k) :=
  fun _ => Nat.zero_le _
theorem PayloadFits.scalarShr (c : CoreId) (k : AeChk) : PayloadFits.Statement (.scalarShr c k) :=
  fun _ => Nat.zero_le _
theorem PayloadFits.scalarSar (c : CoreId) (k : AeChk) : PayloadFits.Statement (.scalarSar c k) :=
  fun _ => Nat.zero_le _
theorem PayloadFits.scalarMul (c : CoreId) (k : AeChk) : PayloadFits.Statement (.scalarMul c k) :=
  fun _ => Nat.zero_le _
theorem PayloadFits.scalarSeq (c : CoreId) (k : AeChk) : PayloadFits.Statement (.scalarSeq c k) :=
  fun _ => Nat.zero_le _
theorem PayloadFits.scalarSlt (c : CoreId) (k : AeChk) : PayloadFits.Statement (.scalarSlt c k) :=
  fun _ => Nat.zero_le _
theorem PayloadFits.scalarSltu (c : CoreId) (k : AeChk) : PayloadFits.Statement (.scalarSltu c k) :=
  fun _ => Nat.zero_le _
theorem PayloadFits.scalarLi (c : CoreId) (k : AeChk) : PayloadFits.Statement (.scalarLi c k) :=
  fun _ => Nat.zero_le _
theorem PayloadFits.scalarNop (c : CoreId) (k : AeChk) : PayloadFits.Statement (.scalarNop c k) :=
  fun _ => Nat.zero_le _
theorem PayloadFits.valuAdd (c : CoreId) (k : AeChk) : PayloadFits.Statement (.valuAdd c k) :=
  fun _ => Nat.zero_le _
theorem PayloadFits.valuSub (c : CoreId) (k : AeChk) : PayloadFits.Statement (.valuSub c k) :=
  fun _ => Nat.zero_le _
theorem PayloadFits.valuNeg (c : CoreId) (k : AeChk) : PayloadFits.Statement (.valuNeg c k) :=
  fun _ => Nat.zero_le _
theorem PayloadFits.valuAbs (c : CoreId) (k : AeChk) : PayloadFits.Statement (.valuAbs c k) :=
  fun _ => Nat.zero_le _
theorem PayloadFits.valuMin (c : CoreId) (k : AeChk) : PayloadFits.Statement (.valuMin c k) :=
  fun _ => Nat.zero_le _
theorem PayloadFits.valuMax (c : CoreId) (k : AeChk) : PayloadFits.Statement (.valuMax c k) :=
  fun _ => Nat.zero_le _
theorem PayloadFits.valuAnd (c : CoreId) (k : AeChk) : PayloadFits.Statement (.valuAnd c k) :=
  fun _ => Nat.zero_le _
theorem PayloadFits.valuOr (c : CoreId) (k : AeChk) : PayloadFits.Statement (.valuOr c k) := fun _ => Nat.zero_le _
theorem PayloadFits.valuXor (c : CoreId) (k : AeChk) : PayloadFits.Statement (.valuXor c k) :=
  fun _ => Nat.zero_le _
theorem PayloadFits.valuNot (c : CoreId) (k : AeChk) : PayloadFits.Statement (.valuNot c k) :=
  fun _ => Nat.zero_le _
theorem PayloadFits.valuSar (c : CoreId) (k : AeChk) : PayloadFits.Statement (.valuSar c k) :=
  fun _ => Nat.zero_le _
theorem PayloadFits.valuShl (c : CoreId) (k : AeChk) : PayloadFits.Statement (.valuShl c k) :=
  fun _ => Nat.zero_le _
theorem PayloadFits.valuCmpeq (c : CoreId) (k : AeChk) : PayloadFits.Statement (.valuCmpeq c k) :=
  fun _ => Nat.zero_le _
theorem PayloadFits.valuCmplt (c : CoreId) (k : AeChk) : PayloadFits.Statement (.valuCmplt c k) :=
  fun _ => Nat.zero_le _
theorem PayloadFits.valuSel (c : CoreId) (k : AeChk) : PayloadFits.Statement (.valuSel c k) :=
  fun _ => Nat.zero_le _
theorem PayloadFits.vmacMul (c : CoreId) (k : AeChk) : PayloadFits.Statement (.vmacMul c k) :=
  fun _ => Nat.zero_le _
theorem PayloadFits.mac (c : CoreId) (k : AeChk) : PayloadFits.Statement (.mac c k) := fun _ => Nat.zero_le _
theorem PayloadFits.msu (c : CoreId) (k : AeChk) : PayloadFits.Statement (.msu c k) := fun _ => Nat.zero_le _
theorem PayloadFits.vld (c : CoreId) (k : AeChk) : PayloadFits.Statement (.vld c k) := fun _ => Nat.zero_le _
theorem PayloadFits.vst (c : CoreId) (k : AeChk) : PayloadFits.Statement (.vst c k) := fun _ => Nat.zero_le _
theorem PayloadFits.wld (c : CoreId) (k : AeChk) : PayloadFits.Statement (.wld c k) := fun _ => Nat.zero_le _
theorem PayloadFits.wst (c : CoreId) (k : AeChk) : PayloadFits.Statement (.wst c k) := fun _ => Nat.zero_le _
theorem PayloadFits.sld (c : CoreId) (k : AeChk) : PayloadFits.Statement (.sld c k) := fun _ => Nat.zero_le _
theorem PayloadFits.sst (c : CoreId) (k : AeChk) : PayloadFits.Statement (.sst c k) := fun _ => Nat.zero_le _
theorem PayloadFits.sta (c : CoreId) (k : AeChk) : PayloadFits.Statement (.sta c k) := fun _ => Nat.zero_le _
theorem PayloadFits.mov (c : CoreId) (k : AeChk) : PayloadFits.Statement (.mov c k) := fun _ => Nat.zero_le _
theorem PayloadFits.lanex (c : CoreId) (k : AeChk) : PayloadFits.Statement (.lanex c k) := fun _ => Nat.zero_le _
theorem PayloadFits.bcast (c : CoreId) (k : AeChk) : PayloadFits.Statement (.bcast c k) := fun _ => Nat.zero_le _
theorem PayloadFits.br (c : CoreId) (k : AeChk) : PayloadFits.Statement (.br c k) := fun _ => Nat.zero_le _
theorem PayloadFits.brc (c : CoreId) (k : AeChk) : PayloadFits.Statement (.brc c k) := fun _ => Nat.zero_le _
theorem PayloadFits.call (c : CoreId) (k : AeChk) : PayloadFits.Statement (.call c k) := fun _ => Nat.zero_le _
theorem PayloadFits.ret (c : CoreId) (k : AeChk) : PayloadFits.Statement (.ret c k) := fun _ => Nat.zero_le _
theorem PayloadFits.rti (c : CoreId) (k : AeChk) : PayloadFits.Statement (.rti c k) := fun _ => Nat.zero_le _
theorem PayloadFits.djnz (c : CoreId) (k : AeChk) : PayloadFits.Statement (.djnz c k) := fun _ => Nat.zero_le _
theorem PayloadFits.swi (c : CoreId) (k : AeChk) : PayloadFits.Statement (.swi c k) := fun _ => Nat.zero_le _
theorem PayloadFits.waitdma (c : CoreId) (k : AeChk) : PayloadFits.Statement (.waitdma c k) :=
  fun _ => Nat.zero_le _
theorem PayloadFits.halt (c : CoreId) (k : AeChk) : PayloadFits.Statement (.halt c k) := fun _ => Nat.zero_le _
theorem PayloadFits.rep (c : CoreId) (k : AeChk) : PayloadFits.Statement (.rep c k) := fun _ => Nat.zero_le _
theorem PayloadFits.dmaStart (c : CoreId) (k : AeChk) : PayloadFits.Statement (.dmaStart c k) :=
  fun _ => Nat.zero_le _
theorem PayloadFits.aeDmaEnd (c : CoreId) (ch : Bool) : PayloadFits.Statement (.aeDmaEnd c ch) :=
  fun _ => Nat.zero_le _
theorem PayloadFits.aeInterrupt (c : CoreId) : PayloadFits.Statement (.aeInterrupt c) := fun _ => Nat.zero_le _
theorem PayloadFits.aeDoorbell (o : Origin) (c : CoreId) (value : Word) : PayloadFits.Statement (.aeDoorbell o c value) :=
  fun _ => Nat.zero_le _
theorem PayloadFits.aeRun (o : Origin) (c : CoreId) (value : Word) : PayloadFits.Statement (.aeRun o c value) :=
  fun _ => Nat.zero_le _
theorem PayloadFits.haltReq (o : Origin) (c : CoreId) : PayloadFits.Statement (.haltReq o c) :=
  fun _ => Nat.zero_le _
theorem PayloadFits.aeReset (o : Origin) (c : CoreId) : PayloadFits.Statement (.aeReset o c) :=
  fun _ => Nat.zero_le _
theorem PayloadFits.aeCall (h : CmdHdr) (pl : List Word) : PayloadFits.Statement (.aeCall h pl) :=
  payloadOk_length pl
theorem PayloadFits.aeCallDispatch : PayloadFits.Statement (.aeCallDispatch) := fun _ => Nat.zero_le _
theorem PayloadFits.aeCallEnd (c : CoreId) (r : CallObs) : PayloadFits.Statement (.aeCallEnd c r) :=
  fun _ => Nat.zero_le _
theorem PayloadFits.callTimeout (c : CoreId) : PayloadFits.Statement (.callTimeout c) := fun _ => Nat.zero_le _
theorem PayloadFits.linkTrainStart (port : Fin 3) : PayloadFits.Statement (.linkTrainStart port) :=
  fun _ => Nat.zero_le _
theorem PayloadFits.linkTrained (port : Fin 3) (t : TrainInfo) : PayloadFits.Statement (.linkTrained port t) :=
  fun _ => Nat.zero_le _
theorem PayloadFits.linkTrainRetry (port : Fin 3) : PayloadFits.Statement (.linkTrainRetry port) :=
  fun _ => Nat.zero_le _
theorem PayloadFits.laneDown (port : Fin 3) (lane : LaneObs) : PayloadFits.Statement (.laneDown port lane) :=
  fun _ => Nat.zero_le _
theorem PayloadFits.linkDown (port : Fin 3) : PayloadFits.Statement (.linkDown port) := fun _ => Nat.zero_le _
theorem PayloadFits.retrain (o : Origin) (port : Fin 2) : PayloadFits.Statement (.retrain o port) :=
  fun _ => Nat.zero_le _
theorem PayloadFits.packetReceive (port : Fin 3) (pkt : Packet) : PayloadFits.Statement (.packetReceive port pkt) :=
  fun h => of_decide_eq_true h
theorem PayloadFits.ack (port : Fin 3) (seq : BitVec 12) : PayloadFits.Statement (.ack port seq) :=
  fun _ => Nat.zero_le _
theorem PayloadFits.nak (port : Fin 3) (seq : BitVec 12) : PayloadFits.Statement (.nak port seq) :=
  fun _ => Nat.zero_le _
theorem PayloadFits.credit (port : Fin 3) (cmd rsp : Nat) : PayloadFits.Statement (.credit port cmd rsp) :=
  fun _ => Nat.zero_le _
theorem PayloadFits.ackSendTimer (port : Fin 3) : PayloadFits.Statement (.ackSendTimer port) :=
  fun _ => Nat.zero_le _
theorem PayloadFits.replayTimeout (port : Fin 3) : PayloadFits.Statement (.replayTimeout port) :=
  fun _ => Nat.zero_le _
theorem PayloadFits.egressSend (port : Fin 3) : PayloadFits.Statement (.egressSend port) := fun _ => Nat.zero_le _
theorem PayloadFits.commandStart (session : BitVec 2) (tag : BitVec 14) : PayloadFits.Statement (.commandStart session tag) :=
  fun _ => Nat.zero_le _
theorem PayloadFits.regRead (h : CmdHdr) (pl : List Word) : PayloadFits.Statement (.regRead h pl) :=
  payloadOk_length pl
theorem PayloadFits.regWrite (h : CmdHdr) (pl : List Word) : PayloadFits.Statement (.regWrite h pl) :=
  payloadOk_length pl
theorem PayloadFits.regModify (h : CmdHdr) (pl : List Word) : PayloadFits.Statement (.regModify h pl) :=
  payloadOk_length pl
theorem PayloadFits.regPoll (h : CmdHdr) (pl : List Word) : PayloadFits.Statement (.regPoll h pl) :=
  payloadOk_length pl
theorem PayloadFits.regPollRead (session : BitVec 2) (tag : BitVec 14) : PayloadFits.Statement (.regPollRead session tag) :=
  fun _ => Nat.zero_le _
theorem PayloadFits.memRead (h : CmdHdr) (pl : List Word) : PayloadFits.Statement (.memRead h pl) :=
  payloadOk_length pl
theorem PayloadFits.memWrite (h : CmdHdr) (pl : List Word) : PayloadFits.Statement (.memWrite h pl) :=
  payloadOk_length pl
theorem PayloadFits.memFill (h : CmdHdr) (pl : List Word) : PayloadFits.Statement (.memFill h pl) :=
  payloadOk_length pl
theorem PayloadFits.dmaRead (h : CmdHdr) (pl : List Word) : PayloadFits.Statement (.dmaRead h pl) :=
  payloadOk_length pl
theorem PayloadFits.sessionReset (h : CmdHdr) (pl : List Word) : PayloadFits.Statement (.sessionReset h pl) :=
  payloadOk_length pl
theorem PayloadFits.emergencySafe (port : Fin 2) (h : CmdHdr) (device : BitVec 5) (crcOk : SafeObs) : PayloadFits.Statement (.emergencySafe port h device crcOk) :=
  fun _ => Nat.zero_le _
theorem PayloadFits.nop (h : CmdHdr) (pl : List Word) : PayloadFits.Statement (.nop h pl) := payloadOk_length pl
theorem PayloadFits.barrier (h : CmdHdr) (pl : List Word) : PayloadFits.Statement (.barrier h pl) :=
  payloadOk_length pl
theorem PayloadFits.echo (h : CmdHdr) (pl : List Word) : PayloadFits.Statement (.echo h pl) := payloadOk_length pl
theorem PayloadFits.microNano (ue : Bool) : PayloadFits.Statement (.microNano ue) := fun _ => Nat.zero_le _
theorem PayloadFits.microBranch (ue : Bool) : PayloadFits.Statement (.microBranch ue) := fun _ => Nat.zero_le _
theorem PayloadFits.microCommit (ue : Bool) : PayloadFits.Statement (.microCommit ue) := fun _ => Nat.zero_le _
theorem PayloadFits.microEnd (ue : Bool) : PayloadFits.Statement (.microEnd ue) := fun _ => Nat.zero_le _
theorem PayloadFits.routineRestart : PayloadFits.Statement (.routineRestart) := fun _ => Nat.zero_le _
theorem PayloadFits.routineOverrun : PayloadFits.Statement (.routineOverrun) := fun _ => Nat.zero_le _
theorem PayloadFits.flowLoad (h : CmdHdr) (pl : List Word) : PayloadFits.Statement (.flowLoad h pl) :=
  payloadOk_length pl
theorem PayloadFits.flowUnload (h : CmdHdr) (pl : List Word) : PayloadFits.Statement (.flowUnload h pl) :=
  payloadOk_length pl
theorem PayloadFits.flowStart (h : CmdHdr) (pl : List Word) : PayloadFits.Statement (.flowStart h pl) :=
  payloadOk_length pl
theorem PayloadFits.flowAbort (h : CmdHdr) (pl : List Word) : PayloadFits.Statement (.flowAbort h pl) :=
  payloadOk_length pl
theorem PayloadFits.siteRead (h : CmdHdr) (pl : List Word) : PayloadFits.Statement (.siteRead h pl) :=
  payloadOk_length pl
theorem PayloadFits.siteClear (h : CmdHdr) (pl : List Word) : PayloadFits.Statement (.siteClear h pl) :=
  payloadOk_length pl
theorem PayloadFits.siteMuzzle (h : CmdHdr) (pl : List Word) : PayloadFits.Statement (.siteMuzzle h pl) :=
  payloadOk_length pl
theorem PayloadFits.endStep (run : Fin 16) : PayloadFits.Statement (.endStep run) := fun _ => Nat.zero_le _
theorem PayloadFits.patternStep (run : Fin 16) : PayloadFits.Statement (.patternStep run) := fun _ => Nat.zero_le _
theorem PayloadFits.pmuStep (run : Fin 16) : PayloadFits.Statement (.pmuStep run) := fun _ => Nat.zero_le _
theorem PayloadFits.psmForceStep (run : Fin 16) : PayloadFits.Statement (.psmForceStep run) :=
  fun _ => Nat.zero_le _
theorem PayloadFits.tmuStep (run : Fin 16) : PayloadFits.Statement (.tmuStep run) := fun _ => Nat.zero_le _
theorem PayloadFits.aeStep (run : Fin 16) : PayloadFits.Statement (.aeStep run) := fun _ => Nat.zero_le _
theorem PayloadFits.limitStep (run : Fin 16) : PayloadFits.Statement (.limitStep run) := fun _ => Nat.zero_le _
theorem PayloadFits.contactStep (run : Fin 16) : PayloadFits.Statement (.contactStep run) := fun _ => Nat.zero_le _
theorem PayloadFits.muxStep (run : Fin 16) : PayloadFits.Statement (.muxStep run) := fun _ => Nat.zero_le _
theorem PayloadFits.waitStep (run : Fin 16) : PayloadFits.Statement (.waitStep run) := fun _ => Nat.zero_le _
theorem PayloadFits.repairStep (run : Fin 16) : PayloadFits.Statement (.repairStep run) := fun _ => Nat.zero_le _
theorem PayloadFits.flowStepEnd (run : Fin 16) : PayloadFits.Statement (.flowStepEnd run) := fun _ => Nat.zero_le _
theorem PayloadFits.lockAcquire (h : CmdHdr) (pl : List Word) : PayloadFits.Statement (.lockAcquire h pl) :=
  payloadOk_length pl
theorem PayloadFits.lockRenew (h : CmdHdr) (pl : List Word) : PayloadFits.Statement (.lockRenew h pl) :=
  payloadOk_length pl
theorem PayloadFits.lockRelease (h : CmdHdr) (pl : List Word) : PayloadFits.Statement (.lockRelease h pl) :=
  payloadOk_length pl
theorem PayloadFits.lockStatus (h : CmdHdr) (pl : List Word) : PayloadFits.Statement (.lockStatus h pl) :=
  payloadOk_length pl
theorem PayloadFits.leashTick : PayloadFits.Statement (.leashTick) := fun _ => Nat.zero_le _
theorem PayloadFits.leashExpiry (r : Fin 64) : PayloadFits.Statement (.leashExpiry r) := fun _ => Nat.zero_le _
theorem PayloadFits.mpaArbitration (q : Fin 32) (reqs : MpaObs) : PayloadFits.Statement (.mpaArbitration q reqs) :=
  fun _ => Nat.zero_le _
theorem PayloadFits.grantHeld (q : Fin 32) : PayloadFits.Statement (.grantHeld q) := fun _ => Nat.zero_le _
theorem PayloadFits.mpaFreeze (o : Origin) (value : Word) : PayloadFits.Statement (.mpaFreeze o value) :=
  fun _ => Nat.zero_le _
theorem PayloadFits.mpaClassSwap (o : Origin) : PayloadFits.Statement (.mpaClassSwap o) := fun _ => Nat.zero_le _
theorem PayloadFits.egressSlotSwap (o : Origin) (port : Fin 2) : PayloadFits.Statement (.egressSlotSwap o port) :=
  fun _ => Nat.zero_le _
theorem PayloadFits.mramCopyGo (o : Origin) (value : Word) : PayloadFits.Statement (.mramCopyGo o value) :=
  fun _ => Nat.zero_le _
theorem PayloadFits.mramCopyDone (bad : List Nat) : PayloadFits.Statement (.mramCopyDone bad) :=
  fun _ => Nat.zero_le _
theorem PayloadFits.patrolScrub (mram : Bool) (addr : Nat) (uncorrectable : Bool) : PayloadFits.Statement (.patrolScrub mram addr uncorrectable) :=
  fun _ => Nat.zero_le _
theorem PayloadFits.refLost : PayloadFits.Statement (.refLost) := fun _ => Nat.zero_le _
theorem PayloadFits.rootUnlock : PayloadFits.Statement (.rootUnlock) := fun _ => Nat.zero_le _
theorem PayloadFits.drmUnlock (s : Fin 2) : PayloadFits.Statement (.drmUnlock s) := fun _ => Nat.zero_le _
theorem PayloadFits.hkoRange (khz : Nat) : PayloadFits.Statement (.hkoRange khz) := fun _ => Nat.zero_le _
theorem PayloadFits.groupFreeze (o : Origin) (value : BitVec 6) : PayloadFits.Statement (.groupFreeze o value) :=
  fun _ => Nat.zero_le _
theorem PayloadFits.groupMuzzle (o : Origin) (value : BitVec 6) : PayloadFits.Statement (.groupMuzzle o value) :=
  fun _ => Nat.zero_le _
theorem PayloadFits.groupReset (o : Origin) (value : BitVec 6) : PayloadFits.Statement (.groupReset o value) :=
  fun _ => Nat.zero_le _
theorem PayloadFits.groupResetEnd (g : Fin 6) : PayloadFits.Statement (.groupResetEnd g) := fun _ => Nat.zero_le _
theorem PayloadFits.faultRecord : PayloadFits.Statement (.faultRecord) := fun _ => Nat.zero_le _
theorem PayloadFits.safeCoreStop : PayloadFits.Statement (.safeCoreStop) := fun _ => Nat.zero_le _
theorem PayloadFits.historyLost : PayloadFits.Statement (.historyLost) := fun _ => Nat.zero_le _
theorem PayloadFits.fltPendingAck (o : Origin) (value : Word) : PayloadFits.Statement (.fltPendingAck o value) :=
  fun _ => Nat.zero_le _
theorem PayloadFits.clearStop (o : Origin) : PayloadFits.Statement (.clearStop o) := fun _ => Nat.zero_le _
theorem PayloadFits.clearSafe (obs : StartObs) : PayloadFits.Statement (.clearSafe obs) := fun _ => Nat.zero_le _
theorem PayloadFits.clearFirst (o : Origin) : PayloadFits.Statement (.clearFirst o) := fun _ => Nat.zero_le _
theorem PayloadFits.fltUnmuzzle (o : Origin) (value : Word) : PayloadFits.Statement (.fltUnmuzzle o value) :=
  fun _ => Nat.zero_le _
theorem PayloadFits.fltMuzzle (o : Origin) (value : Word) : PayloadFits.Statement (.fltMuzzle o value) :=
  fun _ => Nat.zero_le _
theorem PayloadFits.diodeReading (i : Fin 5) (t : BitVec 16) : PayloadFits.Statement (.diodeReading i t) :=
  fun _ => Nat.zero_le _
theorem PayloadFits.hkRoundReading (v : BitVec 16) : PayloadFits.Statement (.hkRoundReading v) :=
  fun _ => Nat.zero_le _
theorem PayloadFits.dramTempReading (s : Fin 2) (t : BitVec 8) : PayloadFits.Statement (.dramTempReading s t) :=
  fun _ => Nat.zero_le _
theorem PayloadFits.pfeInterfaceStop (k : Fin 4) : PayloadFits.Statement (.pfeInterfaceStop k) :=
  fun _ => Nat.zero_le _
theorem PayloadFits.pfeLost (k : Fin 4) : PayloadFits.Statement (.pfeLost k) := fun _ => Nat.zero_le _
theorem PayloadFits.railUv (rail : Fin 9) : PayloadFits.Statement (.railUv rail) := fun _ => Nat.zero_le _
theorem PayloadFits.calGap (h : CmdHdr) (pl : List Word) : PayloadFits.Statement (.calGap h pl) :=
  payloadOk_length pl
theorem PayloadFits.calEnd (h : CmdHdr) (pl : List Word) : PayloadFits.Statement (.calEnd h pl) :=
  payloadOk_length pl
theorem PayloadFits.calRun (h : CmdHdr) (pl : List Word) : PayloadFits.Statement (.calRun h pl) :=
  payloadOk_length pl
theorem PayloadFits.calStore (h : CmdHdr) (pl : List Word) : PayloadFits.Statement (.calStore h pl) :=
  payloadOk_length pl
theorem PayloadFits.calStoreDone (ok : Bool) : PayloadFits.Statement (.calStoreDone ok) := fun _ => Nat.zero_le _
theorem PayloadFits.calForget (h : CmdHdr) (pl : List Word) : PayloadFits.Statement (.calForget h pl) :=
  payloadOk_length pl
theorem PayloadFits.calAbort (h : CmdHdr) (pl : List Word) : PayloadFits.Statement (.calAbort h pl) :=
  payloadOk_length pl
theorem PayloadFits.calTaskEnd (task : Fin 9) (results : List CalResult) : PayloadFits.Statement (.calTaskEnd task results) :=
  fun _ => Nat.zero_le _
theorem PayloadFits.trimMove (task : Fin 9) (unit : Nat) (param : Nat) : PayloadFits.Statement (.trimMove task unit param) :=
  fun _ => Nat.zero_le _
theorem PayloadFits.vauxRise : PayloadFits.Statement (.vauxRise) := fun _ => Nat.zero_le _
theorem PayloadFits.vauxFall : PayloadFits.Statement (.vauxFall) := fun _ => Nat.zero_le _
theorem PayloadFits.coldStart (obs : StartObs) : PayloadFits.Statement (.coldStart obs) := fun _ => Nat.zero_le _
theorem PayloadFits.pwrgoodFall : PayloadFits.Statement (.pwrgoodFall) := fun _ => Nat.zero_le _
theorem PayloadFits.resetN (obs : StartObs) : PayloadFits.Statement (.resetN obs) := fun _ => Nat.zero_le _
theorem PayloadFits.start (h : CmdHdr) (pl : List Word) : PayloadFits.Statement (.start h pl) := payloadOk_length pl
theorem PayloadFits.startBegin (obs : StartObs) : PayloadFits.Statement (.startBegin obs) := fun _ => Nat.zero_le _
theorem PayloadFits.checkpointTimer (ok : Bool) : PayloadFits.Statement (.checkpointTimer ok) :=
  fun _ => Nat.zero_le _
theorem PayloadFits.ckptWrite (h : CmdHdr) (pl : List Word) (ok : Bool) : PayloadFits.Statement (.ckptWrite h pl ok) :=
  payloadOk_length pl
theorem PayloadFits.dlogRdHi (o : Origin) (value : Word) : PayloadFits.Statement (.dlogRdHi o value) :=
  fun _ => Nat.zero_le _
theorem PayloadFits.restEnter (h : CmdHdr) (pl : List Word) : PayloadFits.Statement (.restEnter h pl) :=
  payloadOk_length pl
theorem PayloadFits.restEntered : PayloadFits.Statement (.restEntered) := fun _ => Nat.zero_le _
theorem PayloadFits.restExit (h : CmdHdr) (pl : List Word) : PayloadFits.Statement (.restExit h pl) :=
  payloadOk_length pl
theorem PayloadFits.wake (o : Origin) : PayloadFits.Statement (.wake o) := fun _ => Nat.zero_le _
theorem PayloadFits.restAwake (failed : List (Fin 32)) : PayloadFits.Statement (.restAwake failed) :=
  fun _ => Nat.zero_le _
theorem PayloadFits.mirrorRead (h : CmdHdr) (pl : List Word) : PayloadFits.Statement (.mirrorRead h pl) :=
  payloadOk_length pl
theorem PayloadFits.twinResync (h : CmdHdr) (pl : List Word) : PayloadFits.Statement (.twinResync h pl) :=
  payloadOk_length pl
theorem PayloadFits.twinKeepaliveSend : PayloadFits.Statement (.twinKeepaliveSend) := fun _ => Nat.zero_le _
theorem PayloadFits.heartbeat : PayloadFits.Statement (.heartbeat) := fun _ => Nat.zero_le _
theorem PayloadFits.keepalive (k : KeepInfo) : PayloadFits.Statement (.keepalive k) := fun _ => Nat.zero_le _
theorem PayloadFits.twinSilenceTimeout : PayloadFits.Statement (.twinSilenceTimeout) := fun _ => Nat.zero_le _
theorem PayloadFits.mspRead (frame : MspFrame) : PayloadFits.Statement (.mspRead frame) := fun _ => Nat.zero_le _
theorem PayloadFits.mspWrite (frame : MspFrame) : PayloadFits.Statement (.mspWrite frame) := fun _ => Nat.zero_le _
theorem PayloadFits.mspSafe (frame : MspFrame) : PayloadFits.Statement (.mspSafe frame) := fun _ => Nat.zero_le _
theorem PayloadFits.indAddr (frame : MspFrame) : PayloadFits.Statement (.indAddr frame) := fun _ => Nat.zero_le _
theorem PayloadFits.indRead (frame : MspFrame) : PayloadFits.Statement (.indRead frame) := fun _ => Nat.zero_le _
theorem PayloadFits.indWrite (frame : MspFrame) : PayloadFits.Statement (.indWrite frame) := fun _ => Nat.zero_le _
theorem PayloadFits.mspIndDone : PayloadFits.Statement (.mspIndDone) := fun _ => Nat.zero_le _
theorem PayloadFits.isoGo (o : Origin) (value : Word) : PayloadFits.Statement (.isoGo o value) :=
  fun _ => Nat.zero_le _
theorem PayloadFits.isoShiftDone : PayloadFits.Statement (.isoShiftDone) := fun _ => Nat.zero_le _
theorem PayloadFits.tapUpdateIr (ir : BitVec 8) : PayloadFits.Statement (.tapUpdateIr ir) := fun _ => Nat.zero_le _
theorem PayloadFits.whistleFrameStart (timeSlotSeen : Bool) : PayloadFits.Statement (.whistleFrameStart timeSlotSeen) :=
  fun _ => Nat.zero_le _
theorem PayloadFits.echoLaunch (rt : Option Nat) : PayloadFits.Statement (.echoLaunch rt) := fun _ => Nat.zero_le _
theorem PayloadFits.echoAnswer : PayloadFits.Statement (.echoAnswer) := fun _ => Nat.zero_le _
theorem PayloadFits.framePulseReceive (phaseErr : Int) (timeBit : Bool) : PayloadFits.Statement (.framePulseReceive phaseErr timeBit) :=
  fun _ => Nat.zero_le _
theorem PayloadFits.syncLost : PayloadFits.Statement (.syncLost) := fun _ => Nat.zero_le _
theorem PayloadFits.whsLost : PayloadFits.Statement (.whsLost) := fun _ => Nat.zero_le _
theorem PayloadFits.whClkReturn : PayloadFits.Statement (.whClkReturn) := fun _ => Nat.zero_le _
theorem PayloadFits.whMasterWrite (o : Origin) (value : Word) : PayloadFits.Statement (.whMasterWrite o value) :=
  fun _ => Nat.zero_le _
theorem PayloadFits.whTimeSetHi (o : Origin) (value : Word) : PayloadFits.Statement (.whTimeSetHi o value) :=
  fun _ => Nat.zero_le _
theorem PayloadFits.whSwapHi (o : Origin) (value : Word) : PayloadFits.Statement (.whSwapHi o value) :=
  fun _ => Nat.zero_le _
theorem PayloadFits.whEmit (o : Origin) (value : Word) : PayloadFits.Statement (.whEmit o value) :=
  fun _ => Nat.zero_le _
theorem PayloadFits.whistleEventSend (line : Fin 7) : PayloadFits.Statement (.whistleEventSend line) :=
  fun _ => Nat.zero_le _
theorem PayloadFits.whistleEventAct (line : Fin 7) : PayloadFits.Statement (.whistleEventAct line) :=
  fun _ => Nat.zero_le _
theorem PayloadFits.whAllstop (o : Origin) (value : Word) : PayloadFits.Statement (.whAllstop o value) :=
  fun _ => Nat.zero_le _
theorem PayloadFits.allstop : PayloadFits.Statement (.allstop) := fun _ => Nat.zero_le _
theorem PayloadFits.allstopRelease : PayloadFits.Statement (.allstopRelease) := fun _ => Nat.zero_le _
theorem PayloadFits.allstopRearm : PayloadFits.Statement (.allstopRearm) := fun _ => Nat.zero_le _
theorem PayloadFits.refclkReturn : PayloadFits.Statement (.refclkReturn) := fun _ => Nat.zero_le _
theorem PayloadFits.drmPllRelock (s : Fin 2) : PayloadFits.Statement (.drmPllRelock s) := fun _ => Nat.zero_le _
theorem PayloadFits.psmTimedStart (n : PsmId) : PayloadFits.Statement (.psmTimedStart n) := fun _ => Nat.zero_le _
theorem PayloadFits.trstN : PayloadFits.Statement (.trstN) := fun _ => Nat.zero_le _

end Sys2Proof.Laws
end

