-- ==== Sys2Proof/Tests/Slice0.lean ====
section
/-! SUPPORT. Tests. The theorems witness_<obligation> (with a suffix where an obligation has several) show for each
statement states and operands that meet its hypotheses, clause by clause, at boundary values of their ranges; the
theorems test_<what> are the smoke test of well-formedness and the spec's worked examples, one step or one helper
each. They are elaborated one after another: each is small, and hundreds at once would take a thread each. -/

set_option Elab.async false

open Sys2Proof

namespace Sys2Proof.Machine

/-- A header, a busy header and the tests' helpers. -/
def hd : CmdHdr := { session := 1, tag := 3 }

theorem admits_iff (s : State) (op : Nat) (h : CmdHdr) (pl : List Word) :
    s.Admits op h pl ↔ (s.coreUp && (s.entryOf h).isNone && !s.calHeld op pl && (s.gate op pl).isNone
      && (formOf op pl).isNone) = true := by
  simp only [Bool.and_eq_true, Bool.not_eq_true', Option.isNone_iff_eq_none]
  exact ⟨fun a => ⟨⟨⟨⟨a.core, a.fresh⟩, a.free⟩, a.gate⟩, a.form⟩,
    fun ⟨⟨⟨⟨a, b⟩, c⟩, d⟩, e⟩ => ⟨a, b, c, d, e⟩⟩

/-- The state with this command in flight and running. -/
def flying (s : State) (op : Nat) (pl : List Word) : State := s.admitted op hd pl

/-- The state with this unit muzzled. -/
def muzzling (s : State) (u : MUnit) : State := { s with muzzles := [⟨u, false, []⟩] }

/-- Another header. -/
def hd2 : CmdHdr := { session := 2, tag := 0x3FFF }

/-- The device is STOPPED. -/
def halted : State := State.reset.set F.FLT_STATUS_STATE 1

theorem witness_RegisterStores_plain :
    State.reset.coreUp = true
    ∧ (blockOf 0x20000 = some (.device 2) ∧ (rowAt 0x20000).isSome = true)
    ∧ (blockOf 0x2FFFC = some (.device 2) ∧ rowAt 0x2FFFC = none)
    ∧ (regionOf 0x1BFFFFC = some (.aeDmem 7) ∧ regionOf 0x1800000 = some (.aeDmem 0))
    ∧ (writable 0xA0000 = false ∧ writable 0x20001 = false ∧ writable 0x1C3FFFC = false)
    ∧ (blockOf 0x1F8000 = some (.packUnit 15 4) ∧ hasW1C 0x1F8000 = false
      ∧ ({ State.reset with muzzles := [⟨.pack 15, false, []⟩] } : State).packMuzzled 15 = true)
    ∧ (State.reset.packMuzzled 15 = false ∧ ∀ a ∈ [R.SEQ_HOLD_CFG 15, R.CAP_TRIG_HOLDOFF 15, R.CH_LVLCHK 15, R.CH_CTL 511,
        R.CH_PMU_MEAS 511, R.MPA_MAP, R.WH_TIME_SET_LO, R.WH_SWAP_LO, R.CAL_REST, R.PSM_SLEW 95],
      (rowAt a).isSome = true ∧ a < 2 ^ 32) := by
  decide +kernel

theorem witness_StepRunsTheFront :
    ({ State.reset with pending := [.faultRecord] } : State).pending = [.faultRecord] ∧ State.reset.pending = [] := by
  decide +kernel

theorem witness_CommandsKeepTheStoresCanonical : State.reset.Canon := ⟨by decide, by decide, by decide⟩

theorem witness_StepKeepsTheInvariant : State.reset.Canon ∧ State.reset.pending = [] := ⟨witness_CommandsKeepTheStoresCanonical, rfl⟩

theorem witness_RegisterStores_codes :
    ∃ r f, rowAt 0x10000 = some r ∧ f ∈ r.flds ∧ f.acc = .w1c :=
  ⟨_, ⟨"HIST_DROP", 3, 1, .w1c, 0, none⟩, rfl, by decide, rfl⟩

theorem witness_MemoryCommands :
    State.reset.frozen = false ∧ (State.reset.Admits 0x11 hd [0, 0, 5, 6] ∧ State.reset.memRefused hd (memAddr [0, 0, 5, 6]) 8 = false)
    ∧ (State.reset.Admits 0x11 hd [0xFFFFFFFC, 7, 5] ∧ State.reset.memRefused hd (memAddr [0xFFFFFFFC, 7, 5]) 4 = false)
    ∧ ((muzzling State.reset (.pc 0)).Admits 0x11 hd [0, 0, 5]
      ∧ (muzzling State.reset (.pc 0)).memRefused hd (memAddr [0, 0, 5]) 4 = true)
    ∧ (State.reset.Admits 0x12 hd [0, 0, 1, 7] ∧ State.reset.memRefused hd 0 64 = false)
    ∧ ((muzzling State.reset (.pc 0)).Admits 0x12 hd [0, 0, 1, 7] ∧ (muzzling State.reset (.pc 0)).memRefused hd 0 64 = true)
    ∧ (State.reset.Admits 0x10 hd [0, 0, 1] ∧ State.reset.memRefused hd 0 4 = false)
    ∧ ((muzzling State.reset (.pc 0)).Admits 0x10 hd [0, 0, 1] ∧ (muzzling State.reset (.pc 0)).memRefused hd 0 4 = true)
    ∧ (State.reset.Admits 0x13 hd [0, 0, 0] ∧ State.reset.Admits 0x13 hd [0, 0, 1] ∧ State.reset.memRefused hd 0 64 = false)
    ∧ ((muzzling State.reset (.pc 0)).Admits 0x13 hd [0, 0, 1]
      ∧ (muzzling State.reset (.pc 0)).memRefused hd 0 64 = true) := by
  simp only [admits_iff]
  decide +kernel

theorem witness_RegisterCommands :
    (State.reset.Admits 0x00 hd [1, 1] ∧ addressBad 1 = true)
    ∧ (State.reset.Admits 0x00 hd [0x20000, 1] ∧ addressBad 0x20000 = false ∧ 0x20000 ≤ lastValidOf 0x20000)
    ∧ (State.reset.Admits 0x01 hd [2, 7] ∧ State.reset.writeRefused 2 [7] = some .badAddress ∧ State.reset.chainOf hd = none)
    ∧ (State.reset.Admits 0x01 hd [0x1800000, 7] ∧ regionOf 0x1800000 = some (.aeDmem 0))
    ∧ (State.reset.Admits 0x02 hd [0x1BFFFFC, 1, 1] ∧ regionOf 0x1BFFFFC = some (.aeDmem 7))
    ∧ (State.reset.Admits 0x03 hd [0x1800000, 1, 0, 0] ∧ State.reset.rd 0x1800000 &&& 1 = 0)
    ∧ (State.reset.Admits 0x03 hd [0x1800000, 1, 1, 0] ∧ State.reset.Admits 0x03 hd [0x1800000, 1, 1, 1])
    ∧ (let s : State := { flying State.reset 3 [0x1800000, 1, 1, 2] with polls := [(hd, 1)] }
      s.coreUp = true ∧ s.polls.find? (fun p => p.1.session == hd.session && p.1.tag == hd.tag) = some (hd, 1)
        ∧ s.entryOf hd = some ⟨hd, 3, [0x1800000, 1, 1, 2], domainsOf 3 [0x1800000, 1, 1, 2], .running, false, false⟩
        ∧ s.rd 0x1800000 &&& 1 ≠ 1) := by
  simp only [admits_iff]
  decide +kernel

/-- Pack 0 runs a pattern of one segment and one word w, whose beats take their bytes from the APG (bit 56). -/
def seqAt (w : Nat) : State :=
  { State.reset.set (F.PK_STATUS_SEQ_RUN 0) 1 with
    seqs := [(0, { words := [(0, BitVec.ofNat 64 w)], segs := [⟨0, 200, 0, 0, none, false⟩] })] }

/-- The conditions of the statements about words, for word w of opcode op. -/
def seqGoes (w op : Nat) : Bool :=
  (seqAt w).wordFor 0 op == some w && !(seqAt w).holds 0 w
    && ((seqAt w).patternBeat 0 w).any (fun u => decide ((u.seq 0).segBeat < ((u.seq 0).ent (u.seq 0).seg).beats))

theorem witness_SequenceWordsMoveOn :
    seqGoes (2 ^ 56) 0x00 = true ∧ seqGoes (0x0C * 2 ^ 59 + 2 ^ 56) 0x0C = true
    ∧ (seqGoes (0x06 * 2 ^ 59 + 2 ^ 56) 0x06 = true ∧ (seqAt (0x06 * 2 ^ 59 + 2 ^ 56)).seqCond 0 (0x06 * 2 ^ 59 + 2 ^ 56) = true)
    ∧ (seqGoes (0x06 * 2 ^ 59 + 2 ^ 56 + 5) 0x06 = true ∧ (seqAt 5).seqCond 0 5 = false)
    ∧ seqGoes (0x09 * 2 ^ 59 + 2 ^ 56 + 7) 0x09 = true
    ∧ (seqGoes (0x0B * 2 ^ 59 + 2 ^ 56 + 5) 0x0B = true ∧ (seqAt 5).psmMuzzled (6 * 0 + bits 5 0 3) = false)
    ∧ ((seqAt 0).seq 0).boundary < Tab.get 0 ({ seqAt 0 with cueAt := [(5, 34)] } : State).cueAt (6 * 0 + bits 5 0 3)
    ∧ Tab.get 0 (seqAt 0).cueAt (6 * 0 + bits 5 0 3) ≤ ((seqAt 0).seq 0).boundary
    ∧ seqGoes (0x08 * 2 ^ 59 + 2 ^ 56) 0x08 = true ∧ seqGoes (0x08 * 2 ^ 59 + 2 ^ 56 + 5) 0x08 = true := by
  decide +kernel

theorem witness_SequenceLoopsAndCalls :
    seqGoes (0x04 * 2 ^ 59 + 2 ^ 56 + 0xFFFF) 0x04 = true ∧ seqGoes (0x05 * 2 ^ 59 + 2 ^ 56) 0x05 = true
    ∧ seqGoes (0x03 * 2 ^ 59 + 2 ^ 56 + 3) 0x03 = true ∧ seqGoes (0x02 * 2 ^ 59 + 2 ^ 56 + 1) 0x02 = true
    ∧ seqGoes (0x01 * 2 ^ 59 + 2 ^ 56 + 1) 0x01 = true := by
  decide +kernel

theorem witness_SequenceWaitsAndHolds :
    seqGoes (0x07 * 2 ^ 59 + 2 ^ 56 + 5) 0x07 = true ∧ seqGoes (0x0A * 2 ^ 59 + 2 ^ 56 + 8) 0x0A = true
    ∧ ((seqAt (2 ^ 56 + 2 ^ 55)).set (F.SEQ_CTL_PAUSE 0) 1).holds 0 (2 ^ 56 + 2 ^ 55) = true
    ∧ (seqAt 0).seqRun 0 = true ∧ State.reset.seqRun 0 = false := by
  decide +kernel

/-- A wait at word w with so many beats inserted. -/
def waitOf (w inserted : Nat) : WaitState := ⟨w, 0, inserted, 0, [], [], []⟩

/-- Pack 0 waits there, its next boundary at 400 cycles, with these events acted. -/
def waitAt (w inserted : Nat) (events : List (Nat × Nat)) : State :=
  { State.reset.set (F.PK_STATUS_SEQ_RUN 0) 1 with
    seqs := [(0, { words := [(0, BitVec.ofNat 64 w)], segs := [⟨0, 200, 0, 0, none, false⟩], events := events, boundary := 400, wait := some (waitOf w inserted) })] }

/-- A WWAIT word: line 5, a timeout of 2 beats, STOP. -/
def wwaitWord (stop : Nat) : Nat := 0x0A * 2 ^ 59 + 2 ^ 56 + 5 + 2 * 2 ^ 3 + stop * 2 ^ 23

theorem witness_SequenceWaitsAndHolds_beats :
    ((waitAt (wwaitWord 0) 0 [(5, 99)]).seq 0).wait = some (waitOf (wwaitWord 0) 0)
    ∧ ((waitAt (wwaitWord 0) 2 [(5, 100), (4, 0)]).seq 0).wait = some (waitOf (wwaitWord 0) 2)
    ∧ ((waitAt (wwaitWord 1) 2 []).seq 0).wait = some (waitOf (wwaitWord 1) 2)
    ∧ ((waitAt (wwaitWord 0) 1 []).seq 0).wait = some (waitOf (wwaitWord 0) 1)
    ∧ (waitAt (wwaitWord 0) 0 []).seqRun 0 = true ∧ wOp (wwaitWord 0) = 0x0A ∧ wOp (wwaitWord 1) = 0x0A
    ∧ ((waitAt (wwaitWord 0) 0 [(5, 99)]).seq 0).lineAt (bits (wwaitWord 0) 0 3) = true
    ∧ ((waitAt (wwaitWord 0) 2 [(5, 100), (4, 0)]).seq 0).lineAt (bits (wwaitWord 0) 0 3) = false
    ∧ bits (wwaitWord 0) 3 20 = 2 ∧ bits (wwaitWord 1) 3 20 = 2
    ∧ bit (wwaitWord 0) 23 = false ∧ bit (wwaitWord 1) 23 = true := by
  decide +kernel

/-- Pack 15 paused at a hold point, holding. -/
def holdAt (w : Nat) : State :=
  { (State.reset.set (F.PK_STATUS_SEQ_RUN 15) 1).set (F.SEQ_CTL_PAUSE 15) 1 with
    seqs := [(15, { words := [(0, BitVec.ofNat 64 w)], segs := [⟨0, 200, 0, 0, none, false⟩], holding := true })] }

theorem witness_SequenceWaitsAndHolds_holds :
    ((holdAt (2 ^ 56 + 2 ^ 55)).seqRun 15 = true ∧ ((holdAt (2 ^ 56 + 2 ^ 55)).seq 15).wait = none
      ∧ (holdAt (2 ^ 56 + 2 ^ 55)).holds 15 ((holdAt (2 ^ 56 + 2 ^ 55)).seqWord 15) = true
      ∧ ((holdAt (2 ^ 56 + 2 ^ 55)).seq 15).holding = true)
    ∧ (let g : StartGroup := { owner := .cmd hd, packs := [0, 1], seg := 0, startTime := 0, left := [1], ended := some (.timeout, 4) }
      ({ State.reset with groups := [g] } : State).groupOf 1 = some g ∧ g.ended = some (.timeout, 4)) := by
  decide +kernel

/-- Pack 0 with an executed beat of 100 cycles from boundary 0 whose channel 31 has drive edges 0 to 3 at t. -/
def edgeAt (t : Nat) (next : List BeatRec) : State :=
  { State.reset.set (F.PK_CHMAP_ROLE 0 31) 1 with
    seqs := [(0, { beats := [⟨0, 0, 100, .pattern, none, 0, List.replicate 31 {} ++ [{ fmt := 3, data := 1, times := [t, t, t, t], acting := 0xFF }], false⟩] ++ next })] }

/-- The beat that the acting edge finds, once the comparators have followed the pad. -/
def noted (s : State) (pad : PadObs) : SeqState :=
  ((s.comparePad 31 pad).2.seq 0).noteAll ((s.comparePad 31 pad).2.cmpGroup 0 31) (s.comparePad 31 pad).1

theorem witness_ChannelEdgesAndDetections_edges :
    (let s := edgeAt 0 []
      ∃ b b1 d, (s.seq 0).beats.find? (fun x => x.num == 0) = some b ∧ bit (b.chans.getD 31 {}).acting 3 = true
        ∧ bit (b.chans.getD 31 {}).acted 3 = false ∧ s.edgesAct 31 = true
        ∧ (noted s ⟨⟨0, 0⟩, [], none⟩).beats.find? (fun x => x.num == 0) = some b1
        ∧ (noted s ⟨⟨0, 0⟩, [], none⟩).beats.find? (fun x => x.num == 1) = none ∧ s.driveAllowed 31 0 = true
        ∧ driveAction (b1.chans.getD 31 {}).fmt (b1.chans.getD 31 {}).data 3 = some d)
    ∧ (let s := edgeAt 250000 [⟨1, 100, 100, .pattern, none, 0, [], false⟩]
      ∃ b b1 y, (s.seq 0).beats.find? (fun x => x.num == 0) = some b
        ∧ (noted s ⟨⟨0, 0⟩, [], none⟩).beats.find? (fun x => x.num == 0) = some b1
        ∧ (noted s ⟨⟨0, 0⟩, [], none⟩).beats.find? (fun x => x.num == 1) = some y ∧ s.edgesAct 31 = true
        ∧ bit (b.chans.getD 31 {}).acting 0 = true ∧ bit (b.chans.getD 31 {}).acted 0 = false
        ∧ (y.start + y.period) * 1250 ≤ b1.start * 1250 + (b1.chans.getD 31 {}).times.getD 0 0) :=
  ⟨⟨_, _, _, rfl, by decide +kernel, by decide +kernel, by decide +kernel, rfl, by decide +kernel, by decide +kernel, rfl⟩,
    ⟨_, _, _, rfl, rfl, rfl, by decide +kernel⟩⟩

theorem witness_Capture_writes :
    State.reset.packMuzzled 0 = false ∧ bit 1 0 = true
    ∧ 64 * State.reset.get (F.CAP_RING_BASE 0) + 32 * State.reset.ringCap 0 ≤ 2 ^ 35
    ∧ State.reset.flag (F.CAP_CTL_RING_EN 0) = false ∧ State.reset.flag (F.CAP_CTL_STREAM_EN 0) = false
    ∧ (State.reset.set (F.CAP_CTL_STREAM_EN 0) 1).flag (F.CAP_CTL_STREAM_EN 0) = true
    ∧ State.reset.rd64 (R.CAP_RD_LO 0) ≤ 0 ∧ 0 ≤ State.reset.rd64 (R.CAP_WR_LO 0) ∧ State.reset.rd64 (R.CAP_WR_LO 0) < 2 ^ 32
    ∧ 2 ^ 35 < 64 * ((State.reset.set (F.CAP_RING_BASE 0) 0x1FFFFFFF).set (F.CAP_RING_SIZE 0) 1).get (F.CAP_RING_BASE 0)
      + 32 * ((State.reset.set (F.CAP_RING_BASE 0) 0x1FFFFFFF).set (F.CAP_RING_SIZE 0) 1).ringCap 0
    ∧ ({ State.reset with muzzles := [⟨.pack 15, false, []⟩] } : State).packMuzzled 15 = true := by
  decide +kernel/-- Pack 15 with one executed beat whose edges have acted. -/
def beatDone : State := { State.reset with seqs := [(15, { beats := [⟨9, 0, 100, .pattern, none, 0, List.replicate 32 {}, false⟩] })] }

/-- Pack 15 with a ring of size 1, these staged records, and this hidden state. -/
def ringAt (c : CapState) : State :=
  { (State.reset.set (F.CAP_CTL_RING_EN 15) 1).set (F.CAP_RING_SIZE 15) 1 with caps := [(15, c)] }

/-- A trigger of the host at tick 7. -/
def trig7 : TrigIn := ⟨.host 0, 7, none⟩

theorem witness_Capture_events :
    (∃ b, (beatDone.seq 15).beats.find? (fun x => !x.captured) = some b ∧ beatDone.beatComplete 15 b = true)
    ∧ (let s := ringAt { staging := [⟨0, 0, 0, [1, 2, 3, 4, 5, 6, 7, 8], none⟩] }
      s.ringOn 15 = true ∧ s.frozen = false ∧ bit s.fences (16 + 15) = false ∧ s.touchesMuzzledPc (64 * s.get (F.CAP_RING_BASE 15)) (32 * s.ringCap 15) = false
        ∧ s.burst 15 = [⟨0, 0, 0, [1, 2, 3, 4, 5, 6, 7, 8], none⟩])
    ∧ (let s := ringAt { trigIn := [trig7] }
      (s.cap 15).trigIn = [trig7] ∧ (s.beatAt 15 trig7.tick).isSome = true ∧ s.trigEnabled 15 trig7.trig = false)
    ∧ (let s := (ringAt { trigIn := [trig7] }).set (F.CAP_TRIG_EN_HOST 15) 1
      (s.cap 15).trigIn = [trig7] ∧ (s.beatAt 15 trig7.tick).isSome = true ∧ s.trigEnabled 15 trig7.trig = true ∧ s.deadOpen 15 trig7.tick = false ∧ s.markFree 15 = true)
    ∧ (let s := (ringAt { trigIn := [trig7], iv := some ⟨1, some 7, 2, true⟩ }).set (F.CAP_TRIG_EN_HOST 15) 1
      s.trigEnabled 15 trig7.trig = true ∧ s.deadOpen 15 trig7.tick = false ∧ s.markFree 15 = true)
    ∧ (let s := ringAt { iv := some ⟨1, none, 2, false⟩ }
      s.markFree 15 = true ∧ (s.cap 15).iv = some ⟨1, none, 2, false⟩)
    ∧ (let s := (ringAt {}).set (F.CAP_KEEPALIVE 15) 1
      s.get (F.CAP_KEEPALIVE 15) ≠ 0 ∧ s.ringOn 15 = true ∧ (s.beatAt 15 s.time).isSome = true
        ∧ (s.set (F.PK_STATUS_SEQ_RUN 15) 1).beatAt 15 s.time = none) :=
  ⟨⟨_, rfl, by decide +kernel⟩, by decide +kernel⟩

/-- Pack 15's APG in this state. -/
def apgAt (a : ApgState) : State := { State.reset with apgs := [(15, a)] }

/-- The bitmap line 64 bytes below the end of DRAM, with its last bit. -/
def lastLine : BmLine := ⟨0, 0, 0x1FFFFFFF, [511]⟩

/-- A request to analyse and clear the bitmap of site 0. -/
def request : RaReq := ⟨0, 0, true, true, false, none, false⟩

theorem witness_ApgAndRepair :
    (State.reset.packMuzzled 15 = false ∧ State.reset.seqRun 15 = false)
    ∧ apgLegal (((apgAt {}).apg 15).staged + 0 * 2 ^ 32) = true
    ∧ apgLegal (((apgAt { staged := 12 }).apg 15).staged + 0 * 2 ^ 32) = false
    ∧ (State.reset.set (F.PK_STATUS_SEQ_RUN 15) 1).seqRun 15 = true
    ∧ (let s := State.reset.set (F.RA_SOL_STRIDE 15) 0xFFFF
      (s.apg 15).queue.length < 64 ∧ s.bmStart 15 0 0 + s.bmSize 15 ≤ 2 ^ 35
        ∧ recordSize (s.get (F.RA_CTL_SPARE_ROWS 15)) (s.get (F.RA_CTL_SPARE_COLS 15)) (2 ^ s.get (F.APG_BM_GEOM_REGION_BITS 15))
          ≤ 64 * s.get (F.RA_SOL_STRIDE 15)
        ∧ s.recordAddr 15 0 + recordSize (s.get (F.RA_CTL_SPARE_ROWS 15)) (s.get (F.RA_CTL_SPARE_COLS 15))
          (2 ^ s.get (F.APG_BM_GEOM_REGION_BITS 15)) ≤ 2 ^ 35)
    ∧ 64 ≤ ((apgAt { queue := List.replicate 64 request }).apg 15).queue.length
    ∧ (let s := apgAt { buf := [lastLine] }
      (s.apg 15).buf = [lastLine] ∧ s.pcClosed (s.dramPc (64 * lastLine.line)) = false
        ∧ 64 * lastLine.line + 511 / 8 = 2 ^ 35 - 1)
    ∧ (let s := apgAt { queue := [request] }
      (s.apg 15).job = none ∧ (s.apg 15).queue = [request]
        ∧ (List.range 16).any (fun q => (s.apg q).buf.any (fun l => l.site == request.site && l.set == request.set)) = false ∧ s.streamerSpare 15 = true)
    ∧ ((apgAt { job := some ⟨request, false, []⟩ }).apg 15).job = some ⟨request, false, []⟩
    ∧ State.reset.frozen = false ∧ bit State.reset.fences 15 = false
    ∧ bit 2047 11 = false ∧ bit 2047 12 = false := by
  decide +kernel

/-- Channel 511 has its overcurrent bit's neighbours clear; its PMU forces. -/
def forcing : State := State.reset.set (F.CH_PMU_CTL_MODE 511) 2

/-- Channel 511 of a running pack sinks load current. -/
def loading : State :=
  { ((State.reset.set (F.PK_STATUS_SEQ_RUN 15) 1).set (F.PK_CHMAP_ROLE 15 31) 1) with
    chans := [(511, { applied := true, loadOn := true })] }

theorem witness_ChannelLevelAndLaneWrites :
    State.reset.packMuzzled 15 = false
    ∧ ((State.reset.set ⟨R.CH_VIL 480, 0, 16⟩ 60000).namedChannels 15 1).all
        (fun n => (State.reset.set ⟨R.CH_VIL 480, 0, 16⟩ 60000).applyOk n) = false
    ∧ (State.reset.namedChannels 15 0x80000000 = [511] ∧ State.reset.applyOk 511 = true)
    ∧ State.reset.namedChannels 15 0 = []
    ∧ (State.reset.set (F.PK_STATUS_SEQ_RUN 15) 1).seqRun 15 = true
    ∧ (State.reset.seqRun 15 = false ∧ State.reset.tmuUses 15 31 = false)
    ∧ (muzzling State.reset (.channel 510)).chanMuzzled 510 = true
    ∧ (let s := muzzling (State.reset.set (F.CH_LANE_ENABLE 15 15) 1) (.lane 255);
      s.laneEnabled 255 = true ∧ s.laneMuzzled 255 = true ∧ s.packMuzzled 15 = false ∧ bit 0 0 = false)
    ∧ (State.reset.laneEnabled 255 = false ∧ bit 0xFFFFFFFE 0 = false)
    ∧ (State.reset.chanMuzzled 510 = false ∧ State.reset.chanMuzzled 511 = false
      ∧ levelsOk (State.reset.swingLimit 510) (State.reset.laneSwingLimit 510) true (State.reset.chan 510).levels = true) := by
  decide +kernel

theorem witness_ChannelEdgesAndDetections_detections :
    State.reset.flag ⟨R.CH_STATUS (State.reset.governor 511), 1, 1⟩ = false
    ∧ (State.reset.set ⟨R.CH_STATUS 511, 1, 1⟩ 1).flag ⟨R.CH_STATUS ((State.reset.set ⟨R.CH_STATUS 511, 1, 1⟩ 1).governor 511), 1, 1⟩ = true
    ∧ State.reset.flag ⟨R.CH_STATUS (State.reset.governor 511), 0, 1⟩ = false
    ∧ (forcing.pmuMode 511 = 2 ∧ forcing.pmuBusy 511 = false ∧ forcing.flag ⟨R.CH_STATUS (forcing.governor 511), 3, 1⟩ = false)
    ∧ (forcing.set (F.CH_PMU_CTL_BUSY 511) 1).pmuMode 511 = 2 ∧ (forcing.set (F.CH_PMU_CTL_BUSY 511) 1).pmuBusy 511 = true
    ∧ (loading.loadOn 511 = true ∧ loading.flag ⟨R.CH_STATUS (loading.governor 511), 4, 1⟩ = false)
    ∧ (let s := State.reset.set (F.CH_LVLCHK_LVLCHK_EN 15) 0
      s.chanMuzzled 511 = false ∧ (s.chan 511).changedAt.getD 0 none = none
      ∧ s.flag (F.CH_LVLCHK_LVLCHK_EN 15) = false)
    ∧ (State.reset.set (F.CH_STATUS_DRV_PROTECT 511) 1).flag (F.CH_STATUS_DRV_PROTECT 511) = true := by
  decide +kernel

/-- The PMU of channel 511 measures, converting. -/
def measuring : State :=
  { ((forcing.set (F.CH_PMU_CTL_BUSY 511) 1).set (F.CH_PMU_MEAS_SAMPLES 511) 2) with
    chans := [(511, { pmuConverting := true })] }

/-- A PMU_MEASURE of channel 511: mode, force, clamp, and SAMPLES. -/
def pmuWords (mode samples : Nat) : List Word := [511, BitVec.ofNat 32 mode, 20000, 0x4E200BB8, BitVec.ofNat 32 samples]

theorem witness_PmuMeasurements :
    (4 ≤ bits 4 0 3 ∧ 5 ≤ bits 0x50 4 3)
    ∧ (let s := muzzling (State.reset.set (F.PK_STATUS_SEQ_RUN 15) 1) (.channel 511);
      s.seqRun 15 = true ∧ s.chanMuzzled 511 = true ∧ bit 0x100 8 = true ∧ (State.reset.set (F.PK_STATUS_SEQ_RUN 15) 1).seqRun 15 = true
        ∧ (State.reset.set (F.PK_STATUS_SEQ_RUN 15) 1).chanMuzzled 511 = false)
    ∧ (let s := forcing.set (F.CH_PMU_MEAS_SAMPLES 511) 1
      s.seqRun 15 = false ∧ s.pmuBusy 511 = false ∧ s.get (F.CH_PMU_CTL_MODE 511) ≠ 0 ∧ s.chanMuzzled 511 = false
        ∧ s.stopped = false ∧ s.get (F.CH_PMU_MEAS_SAMPLES 511) ≠ 0 ∧ bits 0x102 0 3 < 4 ∧ bits 0x102 4 3 < 5 ∧ bit 0x102 8 = true)
    ∧ (measuring.pmuBusy 511 = true ∧ (measuring.chan 511).pmuConverting = true ∧ (measuring.chan 511).pmuOwner = none
      ∧ [({ code := 3 } : Conv), { code := -4 }].length = measuring.get (F.CH_PMU_MEAS_SAMPLES 511))
    ∧ (halted.Admits 0x50 hd (pmuWords 1 1) ∧ halted.stopped = true)
    ∧ (State.reset.Admits 0x50 hd (pmuWords 1 1) ∧ State.reset.stopped = false)
    ∧ State.reset.Admits 0x50 hd (pmuWords 7 1) ∧ State.reset.Admits 0x50 hd (pmuWords 1 0) := by
  simp only [admits_iff]
  decide +kernel

/-- Pack 15 has a site channel and three shots to take. -/
def aligned : State :=
  (State.reset.set (F.PK_CHMAP_ROLE 15 31) 1).set (F.TIM_TDR_CFG_SHOTS 15) 3

/-- A pass of channel 31 of pack 15, with these shots. -/
def passOf (contact settled : Bool) (todo : List (List Nat)) (x : Shots) : AlignPass :=
  ⟨contact, .cmd hd, [31], settled, todo, [], [], [(31, x)], 0⟩

/-- Pack 15 runs it for the ALIGN command in flight, which found an OPEN round trip of 100. -/
def passing (a : AlignPass) : State :=
  { (flying aligned 0x60 [0x8000, 1]).set (F.TIM_CHA_RT_OPEN_RT 15 31) 100 with
    passes := [(15, some a)]
    alignCmds := [⟨hd, [15], []⟩] }

theorem witness_AlignmentPasses :
    (halted.Admits 0x60 hd [0x8000, 1] ∧ packsOf 0x8000 = [15] ∧ halted.stopped = true)
    ∧ ((State.reset.set (F.PK_STATUS_SEQ_RUN 15) 1).Admits 0x60 hd [0x8001, 1]
      ∧ (packsOf 0x8001).any (fun p => (State.reset.set (F.PK_STATUS_SEQ_RUN 15) 1).passBlocked p) = true)
    ∧ (aligned.Admits 0x60 hd [0x8000, 1] ∧ aligned.stopped = false ∧ aligned.passBlocked 15 = false ∧ aligned.packMuzzled 15 = false
      ∧ aligned.passRounds 15 (aligned.passChans 15) = some [[], [], [], [31]] ∧ aligned.get (F.TIM_TDR_CFG_SHOTS 15) ≠ 0
      ∧ Tab.get false aligned.contactRan 15 = false)
    ∧ (let a := passOf true true [[], [], [], [31]] {}
      (passing a).pass 15 = some a ∧ (List.range 4).find? (fun j => a.current j == some 31) = some 3)
    ∧ (let a := passOf true true [[], [], [], []] { n := 3, sum := 300000 }
      (passing a).pass 15 = some a ∧ a.todo.all (fun l => l.isEmpty) = true ∧ a.owner = .cmd hd
        ∧ (Tab.get {} a.shots 31).roundTrip = 200)
    ∧ (let a := passOf false true [[], [], [], []] { n := 3, sum := 300000 }
      (passing a).pass 15 = some a ∧ (passing a).flag F.CAL_STATUS_FACT_BAD = false
        ∧ ((200 : Int) + 2 * (passing a).factChan 511 0 + 1) / 2 ≤ 25000 ∧ ((200 : Int) + 2 * (passing a).factChan 511 1 + 1) / 2 ≤ 25000
        ∧ (Tab.get {} (passing a).paths 511).first = true)
    ∧ (let s : State := { passing (passOf false true [[], [], [], []] { n := 3, sum := 300000 }) with paths := [(511, ⟨50, 150, false⟩)] }
      ((100 : Int) - (Tab.get ({} : PathVal) s.paths 511).td).natAbs ≤ 50 ∧ ((100 : Int) - (Tab.get ({} : PathVal) s.paths 511).tc).natAbs ≤ 50)
    ∧ (let a := passOf false true [[], [], [], []] { n := 3, sum := 0, noRef := true }
      (Tab.get {} a.shots 31).roundTrip = 0xFFFF ∧ (passing a).get (F.TIM_CHA_STAT_REJECT_RUN 15 31) < 2)
    ∧ (Tab.get {} (passOf false true [[], [], [], []] { n := 1, sum := 49500 }).shots 31).roundTrip = 99 := by
  simp only [admits_iff]
  decide +kernel

/-- A gap of this command that has not yet begun a task. -/
def gapOf (us : Nat) : CalGap := ⟨some hd, 2, false, us, 0, [], [1, 2, 3, 4, 5, 6, 7, 8], 0, 0, 0, false, false, 0⟩

/-- No task is automatic. -/
def noneDue : State := State.reset.set F.CAL_CTL_AUTO 0

/-- Task LEVEL is automatic. -/
def levelDue : State := State.reset.set F.CAL_CTL_AUTO 1

theorem witness_CalibrationCommands_gaps :
    (({ State.reset with calGap := some (gapOf 0) } : State).Admits 0x61 hd [2, 0]
      ∧ ({ State.reset with calGap := some (gapOf 0) } : State).calGap.isSome = true)
    ∧ (halted.Admits 0x61 hd [2, 0] ∧ halted.calGap = none ∧ halted.stopped = true)
    ∧ (noneDue.Admits 0x61 hd [2, 0] ∧ noneDue.calGap = none ∧ noneDue.stopped = false ∧ noneDue.calLate = []
      ∧ noneDue.calTasks = [] ∧ (gapOf 0).todo.all (fun k => (noneDue.gapUnits (gapOf 0) k).isEmpty) = true)
    ∧ (levelDue.Admits 0x61 hd [2, 2100] ∧ (levelDue.gapUnits (gapOf 2100) 1).isEmpty = false ∧ 20000 + 1000 ≤ 10 * 2100)
    ∧ (State.reset.Admits 0x62 hd [] ∧ State.reset.calGap = none ∧ State.reset.calTasks = [] ∧ State.reset.calEnds = [])
    ∧ (let s : State := { State.reset with
        calGap := some (gapOf 2100)
        calTasks := [⟨1, [0], none, false, 0, false⟩] }
      s.Admits 0x62 hd [] ∧ s.gapTaskRuns = true) := by
  simp only [admits_iff]
  decide +kernel

/-- A PMU_MEASURE of channel 511. -/
def pmuHeld : List Word := [511, 0, 0, 0, 0]

theorem witness_CalibrationCommands_runs :
    (State.reset.Admits 0x63 hd [1, 0]
      ∧ (calUnitsOf 1).filter (fun u => !State.reset.calUnitMuzzled 1 u && (match calPack 1 u with
        | some p => bit 0 p
        | none => false)) = [])
    ∧ (State.reset.Admits 0x63 hd [5, 0x8000] ∧ [60, 61, 62, 63].all (fun u => State.reset.calMeets 5 u) = true
      ∧ State.reset.calTasks.any (fun x => x.task == 5) = false
      ∧ (calUnitsOf 5).filter (fun u => !State.reset.calUnitMuzzled 5 u && (match calPack 5 u with
        | some p => bit 0x8000 p
        | none => true)) = [60, 61, 62, 63])
    ∧ ((State.reset.set (F.PK_STATUS_SEQ_RUN 15) 1).Admits 0x63 hd [6, 0x8001]
      ∧ (calUnitsOf 6).filter (fun u => !(State.reset.set (F.PK_STATUS_SEQ_RUN 15) 1).calUnitMuzzled 6 u && (match calPack 6 u with
        | some p => bit 0x8001 p
        | none => true)) = [0, 15] ∧ (State.reset.set (F.PK_STATUS_SEQ_RUN 15) 1).calMeets 6 15 = false)
    ∧ (({ State.reset with calStore := some none } : State).Admits 0x64 hd [] ∧ State.reset.Admits 0x64 hd []
      ∧ State.reset.calStore = none)
    ∧ (State.reset.Admits 0x65 hd [0x1FF, 0x8001] ∧ bit 0x1FF 8 = true ∧ bit 0x8001 (511 / 32) = true)
    ∧ (State.reset.Admits 0x66 hd [] ∧ State.reset.calGap = none)
    ∧ (let s : State := { State.reset with calGap := some { gapOf 0 with todo := [] } }
      s.Admits 0x66 hd [] ∧ s.calGap = some { gapOf 0 with todo := [] } ∧ ({ gapOf 0 with todo := [] } : CalGap).todo = [])
    ∧ (let s : State := { State.reset.set (F.PK_STATUS_CAL_ACTIVE 15) 1 with calTasks := [⟨1, [511], none, false, 0, false⟩, ⟨4, [95], none, false, 0, false⟩, ⟨5, [63], none, false, 0, false⟩] }
      (s.coreUp = true ∧ s.entryOf hd = none) ∧ s.calHeld 0x63 [2, 0x8000] = true ∧ s.calHeld 0x60 [0x8000, 0] = true
        ∧ s.calHeld 0x01 [BitVec.ofNat 32 (R.CH_PMU_CTL 511), 0] = true ∧ s.calHeld 0x02 [BitVec.ofNat 32 (R.PSM_CTL 95), 0, 0] = true
        ∧ s.calHeld 0x50 (pmuHeld) = true ∧ s.calHeld 0x51 [63] = true) := by
  simp only [admits_iff]
  decide +kernel

theorem witness_CalibrationEvents :
    (let s : State := { flying State.reset 0x63 [1, 0x8000] with calTasks := [⟨1, [511], some hd, false, 0, false⟩] };
      s.routine = none ∧ s.calGap = none ∧ s.calEnds = [] ∧ s.flag F.CAL_STATUS_FACT_BAD = false ∧ s.seqRun 15 = false
        ∧ (s.entryOf hd).map (fun e => (e.hdr, e.suppressed)) = some (hd, false)
        ∧ s.factWindow 1 511 0 = (0, 250, 25) ∧ ((-250 : Int) - 0).natAbs ≤ 250 ∧ 250 < ((251 : Int) - 0).natAbs
        ∧ (Tab.get {} (s.calUnit 1 511).params 0).first = true ∧ (s.calUnit 1 511).rejects < 2)
    ∧ (let s : State := { flying State.reset 0x64 [] with calStore := some (some hd) };
      s.calStore = some (some hd) ∧ (s.entryOf hd).map (fun e => (e.hdr, e.suppressed)) = some (hd, false))
    ∧ (State.reset.trimInUse 1 511 0 = false
      ∧ (State.reset.set (F.PK_STATUS_SEQ_RUN 15) 1).trimInUse 1 511 0 = true
      ∧ (State.reset.set (F.PK_STATUS_SEQ_RUN 15) 1).trimInUse 2 511 0 = true)
    ∧ (let s : State := (State.reset.set (F.PK_STATUS_SEQ_RUN 15) 1).setCalUnit 1 511 { State.reset.calUnit 1 511 with params := [(0, ⟨0, 5, 0, false⟩), (2, ⟨5, 0, 0, false⟩), (4, ⟨0, 1, 0, false⟩)] }
      let p (k : Nat) : CalParam := Tab.get {} (s.calUnit 1 511).params k
      s.trimInUse 1 511 0 = true ∧ trimBefore 1 1 = [0] ∧ (p 0).applied ≠ (p 0).target ∧ trimBefore 1 3 = [2] ∧ trimBefore 1 0 = []
        ∧ (p 0).target < (p 0).applied - s.trimStep 1 511 0 ∧ (p 2).applied + s.trimStep 1 511 2 < (p 2).target
        ∧ ((p 4).applied - (p 4).target).natAbs ≤ s.trimStep 1 511 4) := by
  decide +kernel

/-- An image of one word and one segment: 512 beats of the APG's bytes. -/
def imageWords (crc : Nat) : List Nat :=
  [0x49504451, 1, 1, 1, 0, 0, 64, 0, 128, 0, 192, 0, 192, 0, 3, crc, 512, 0x09000000] ++ List.replicate 14 0
    ++ [0, 512, 0, 0, 0, 0, 0x7FF, 0] ++ List.replicate 8 0

/-- It stands at address 0 of DRAM. -/
def imaged (crc : Nat) : State := State.reset.putDramList 0 (imageWords crc)

/-- Pack 15 is loaded with an image of one pinned segment. -/
def loaded : State :=
  { ((State.reset.set (F.SEQ_STATUS_LOADED 15) 1).set (F.SEQ_IMAGE_SEG_COUNT 15) 1) with
    seqs := [(15, { words := [(0, 0x0900000000000200#64)], segs := [⟨0, 512, 0, 0, none, true⟩] })] }

/-- A start of pack 15 waits for this tick. -/
def waiting (start : Nat) : State :=
  { (flying loaded 0x31 [0x8000, 0, 0, 0]) with
    groups := [{ owner := .cmd hd, packs := [15], seg := 0, startTime := start, left := [15] }] }


theorem witness_PatternLoadAndStart_load :
    packsOf 0x8000 = [15]
    ∧ ((muzzling State.reset (.pack 15)).Admits 0x30 hd [0x8000, 0, 0, 0] ∧ (muzzling State.reset (.pack 15)).packMuzzled 15 = true)
    ∧ ((waiting 0).Admits 0x30 hd2 [0x8000, 0, 0, 0] ∧ ((waiting 0).seqRun 15 || (waiting 0).startWaits 15) = true)
    ∧ (State.reset.Admits 0x30 hd [0x8000, 1, 0, 0] ∧ State.reset.packMuzzled 15 = false
      ∧ (State.reset.seqRun 15 || State.reset.startWaits 15) = false ∧ bit State.reset.fences 40 = false ∧ State.reset.frozen = false
      ∧ (match State.reset.checkImage 1 with
        | .error .badAddress => true
        | _ => false) = true)
    ∧ ((imaged 378526366).Admits 0x30 hd [0x8000, 0, 0, 0] ∧ (imaged 378526366).frozen = false
      ∧ (match (imaged 378526366).checkImage 0 with
        | .ok (_, words, segs) => words == [(0, 0x0900000000000200#64)] && segs == [⟨0, 512, 0, 0, none, false⟩]
        | _ => false) = true)
    ∧ (match (imaged 378526365).checkImage 0 with
      | .error .crcError => true
      | _ => false) = true := by
  simp only [admits_iff]
  decide +kernel

theorem witness_PatternLoadAndStart_start :
    (State.reset.Admits 0x31 hd [0x8000, 0, 0, 0] ∧ State.reset.startCheck [15] 0 = some .badState)
    ∧ (loaded.Admits 0x31 hd [0x8000, 0, 7, 0] ∧ loaded.startCheck [15] 0 = none ∧ loaded.flag F.HK_STATUS_DEFER = false)
    ∧ (let s := loaded.set F.HK_STATUS_DEFER 1; s.Admits 0x31 hd [0x8000, 0, 7, 0] ∧ s.startCheck [15] 0 = none ∧ s.flag F.HK_STATUS_DEFER = true)
    ∧ (loaded.Admits 0x31 hd [0x8000, 1, 7, 0] ∧ loaded.startCheck [15] 1 = some .badAddress)
    ∧ (let s : State := { waiting 7 with time := 8 };
      s.groups.map (·.packs) = [[15]] ∧ s.groups.map (·.running) = [false] ∧ s.groups.map (·.startTime) = [7] ∧ 7 < s.time ∧ s.routine = none
        ∧ ({ s with groups := s.groups.map (fun g => { g with deferred := true }) } : State).groups.map (·.deferred) = [true]
        ∧ (s.entryOf hd).map (fun e => (e.hdr, e.suppressed)) = some (hd, false))
    ∧ (let s := (waiting 7).set F.HK_STATUS_DEFER 1;
      ¬ (7 ≠ 0 ∧ 7 < s.time) ∧ s.flag F.HK_STATUS_DEFER = true)
    ∧ ((waiting 0).flag F.HK_STATUS_DEFER = false ∧ (waiting 0).primed 15 = true ∧ (waiting 7).primed 15 = true
      ∧ (waiting 0).headsReady 15 = true ∧ (waiting 7).headsReady 15 = true) := by
  simp only [admits_iff]
  decide +kernel

/-- Pack 15 runs, held for PAUSE or not. -/
def paused (hold : Bool) : State :=
  { (((loaded.set (F.PK_STATUS_SEQ_RUN 15) 1).set (F.SEQ_CTL_PAUSE 15) 1)) with
    seqs := [(15, { words := [(0, 0x0900000000000200#64)], segs := [⟨0, 512, 0, 0, none, true⟩], holding := hold })] }

theorem witness_PatternControlAndTimingSwaps_control :
    packsOf 0x8000 = [15]
    ∧ (State.reset.Admits 0x32 hd [0x8000] ∧ State.reset.seqRun 15 = false ∧ State.reset.startWaits 15 = false)
    ∧ ((waiting 7).Admits 0x32 hd2 [0x8000] ∧ (waiting 7).seqRun 15 = false ∧ (waiting 7).routine = none
      ∧ ((waiting 7).entryOf hd).map (fun e => (e.hdr, e.suppressed, e.opcode)) = some (hd, false, 0x31))
    ∧ (State.reset.Admits 0x33 hd [0x8000, 0] ∧ State.reset.jumpCmds = [] ∧ State.reset.jumpRefused 15 0 = some .badState)
    ∧ ((paused false).Admits 0x33 hd [0x8000, 0] ∧ (paused false).jumpCmds = [] ∧ (paused false).jumpRefused 15 0 = none)
    ∧ (State.reset.Admits 0x34 hd [0x8000] ∧ State.reset.seqRun 15 = false)
    ∧ ((paused true).Admits 0x34 hd [0x8000] ∧ (paused true).seqRun 15 = true
      ∧ ((paused true).flag (F.SEQ_CTL_PAUSE 15) && ((paused true).seq 15).holding) = true)
    ∧ ((paused false).Admits 0x34 hd [0x8000]
      ∧ ((paused false).flag (F.SEQ_CTL_PAUSE 15) && ((paused false).seq 15).holding) = false)
    ∧ (State.reset.Admits 0x35 hd [0x8000] ∧ (State.reset.flag (F.SEQ_CTL_PAUSE 15) && (State.reset.seq 15).holding) = false)
    ∧ (paused true).Admits 0x35 hd [0x8000] := by
  simp only [admits_iff]
  decide +kernel

theorem witness_PatternControlAndTimingSwaps_sites : ∀ i, i < 1024 → (waiting 7).siteActive i = false := by decide +kernel

/-- A swap pends in pack 15. -/
def swapping : State := { State.reset with tsetSwaps := [(15, some ⟨false, 0⟩)] }

theorem witness_PatternControlAndTimingSwaps_swap :
    (State.reset.Admits 0x36 hd [0, 0] ∧ packsOf 0 = [])
    ∧ ((muzzling State.reset (.pack 15)).Admits 0x36 hd [0x8000, 0] ∧ (muzzling State.reset (.pack 15)).packMuzzled 15 = true)
    ∧ (swapping.Admits 0x36 hd [0x8000, 0] ∧ swapping.packMuzzled 15 = false ∧ swapping.swapPending 15 = true
      ∧ swapping.seqRun 15 = false)
    ∧ (State.reset.Admits 0x36 hd [0x8000, 1] ∧ State.reset.swapPending 15 = false) := by
  simp only [admits_iff]
  decide +kernel

/-- The first edge of pack 15's shadow copy has a reserved bit set. -/
def reserved : State := State.reset.wr (shadowCopy 15 + 4) 0x12000

theorem witness_PatternControlAndTimingSwaps_check : reserved.swapCheck 15 = some .badOpcode := by decide +kernel

theorem witness_PatternControlAndTimingSwaps_passes : State.reset.swapCheck 15 = none := by decide +kernel

theorem witness_PatternControlAndTimingSwaps_canon : swapping.Canon := ⟨by decide, by decide, by decide⟩

/-- TMU 63 busy in this phase. -/
def tmuAt (u : TmuState) : State :=
  { ((flying State.reset 0x51 []).set (F.TMU_STATUS_BUSY 63) 1) with tmus := [(63, u)] }

/-- Two edges, the second k cycles after the first, at the same code. -/
def edgeA (k : Nat) : Edge := ⟨k, 2000, 5, 0⟩

/-- A rising edge of this source, as it comes. -/
def edgeOn (src : BitVec 8) (k : Nat) : TmuEdgeObs := ⟨src, false, k, 2000, 5⟩

theorem witness_TmuStartsAndAborts :
    State.reset.packMuzzled 15 = false
    ∧ (tmuAt {}).tmuGoRefused 63 = some .busy
    ∧ (State.reset.tmuGoRefused 63 = none ∧ State.reset.calTasks = []
      ∧ ¬ (State.reset.get (F.TMU_CTL_MODE 63) = 2 ∧ State.reset.get (F.TMU_NREP 63) = 0))
    ∧ State.reset.tmuBusy 63 = false
    ∧ ((tmuAt { phase := .armed }).tmuBusy 63 = true ∧ ((tmuAt { phase := .armed }).tmu 63).owner = none
      ∧ ((tmuAt { phase := .armed }).tmu 63).entries = [])
    ∧ (State.reset.Admits 0x52 hd [63] ∧ (tmuAt { phase := .armed }).Admits 0x52 hd2 [63])
    ∧ (halted.Admits 0x51 hd [63, 3, 0, 0, 0, 0, 0, 0, 0, 0, 0] ∧ halted.stopped = true ∧ State.reset.stopped = false)
    ∧ (State.reset.Admits 0x51 hd [63, 3, 0, 0, 0, 0, 0, 0, 0, 0, 0]
      ∧ ((State.reset.admitted 0x51 hd [63, 3, 0, 0, 0, 0, 0, 0, 0, 0, 0]).tmuRun 63
          [63, 3, 0, 0, 0, 0, 0, 0, 0, 0, 0] (.cmd hd)).2 = some .badOpcode)
    ∧ (State.reset.Admits 0x51 hd [63, 0, 0, 0, 0, 0, 0, 0, 0, 0, 0]
      ∧ ((State.reset.admitted 0x51 hd [63, 0, 0, 0, 0, 0, 0, 0, 0, 0, 0]).tmuRun 63
          [63, 0, 0, 0, 0, 0, 0, 0, 0, 0, 0] (.cmd hd)).2 = none)
    ∧ ((tmuAt { phase := .calibrating }).flag (F.TMU_STATUS_TDR_OWNED 63) = false
      ∧ ((tmuAt { phase := .calibrating }).tmu 63).phase = .calibrating)
    ∧ (1700 ≤ (2300#12).toNat ∧ 1700 ≤ (4000#12).toNat - (2300#12).toNat ∧ (4000#12).toNat - (2300#12).toNat ≤ 2300)
    ∧ ((1699#12).toNat < 1700 ∧ 2300 < (2301#12).toNat) := by
  simp only [admits_iff]
  decide +kernel

theorem witness_TmuMeasurement :
    (let s := tmuAt { phase := .waiting };
      s.flag (F.TMU_STATUS_TDR_OWNED 63) = false ∧ (s.tmu 63).phase = .waiting ∧ s.get (F.TMU_CTL_ARM_MODE 63) = 0)
    ∧ (let s := ((tmuAt { phase := .armed }).set (F.TMU_SRC_STOP_SRC 63) 1).set (F.TMU_SRC_START_SRC 63) 0;
      s.get (F.TMU_CTL_MODE 63) = 0 ∧ s.edgeOccurs 63 (edgeOn 0 9) = true ∧ s.isStart 63 (edgeOn 0 9) = true ∧ s.isStart 63 (edgeOn 1 9) = false
        ∧ (s.tmu 63).start = none
        ∧ s.get (F.TMU_SKIP_START_SKIP 63) ≤ (s.tmu 63).startSkipped
        ∧ ((tmuAt { phase := .armed }).set (F.TMU_CTL_NSTOPS 63) 1).get (F.TMU_CTL_NSTOPS 63) ≠ 0)
    ∧ (let s := (((tmuAt { phase := .armed, start := some (edgeA 9) }).set (F.TMU_SRC_STOP_SRC 63) 1).set (F.TMU_CAL_C1 63) 2000).set
        (F.TMU_CAL_C2 63) 4000;
      (s.tmu 63).start = some (edgeA 9) ∧ s.edgeOccurs 63 (edgeOn 1 9) = true ∧ s.isStop 63 (edgeOn 1 9) = true ∧ (s.tmu 63).stops = []
        ∧ s.tmuInterval 63 (edgeA 9) (edgeA 9) < 200000 ∧ 200000 ≤ s.tmuInterval 63 (edgeA 9) (edgeA 10)
        ∧ s.get (F.TMU_SKIP_STOP_SKIP 63) ≤ (s.tmu 63).stopSkipped)
    ∧ ((tmuAt {}).set (F.TMU_CTL_NSTOPS 63) 2).get (F.TMU_CTL_NSTOPS 63) = 2
    ∧ (let s := (tmuAt { phase := .armed, start := some (edgeA 9) }).set (F.TMU_CTL_MODE 63) 1;
      s.get (F.TMU_CTL_MODE 63) = 1 ∧ (s.tmu 63).start ≠ none ∧ (s.tmu 63).phase = .armed)
    ∧ (let s := tmuAt { phase := .converting 1, start := some (edgeA 9), stops := [edgeA 10], owner := some (.cmd hd) };
      (s.tmu 63).phase = .converting 1 ∧ s.get (F.TMU_CTL_MODE 63) = 0 ∧ (s.tmu 63).stops = [edgeA 10]
        ∧ (s.tmu 63).owner = some (.cmd hd) ∧ (s.tmu 63).entries = [] ∧ s.routine = none ∧ (s.entryOf hd).map (fun e => (e.hdr, e.suppressed)) = some (hd, false)) := by
  decide +kernel

/-- PSM 95 in a mode on RANGE 0, MON_SEL both, with this hidden state and a command in flight. -/
def psmAt (mode : Nat) (u : PsmState) : State :=
  { ((flying State.reset 0x40 [95, 0]).set (F.PSM_CTL_MODE 95) mode).set (F.PSM_CTL_MON_SEL 95) 2 with psms := [(95, u)] }

theorem witness_PsmOutput :
    (State.reset.packMuzzled 15 = false ∧ State.reset.psmMuzzled 95 = false)
    ∧ (4 ≤ (4#32).toNat % 8 ∧ 6 ≤ bits (0x60#32).toNat 4 3 ∧ bits (0x300#32).toNat 8 2 = 3)
    ∧ (halted.stopped = true ∧ halted.rd (R.PSM_CTL 95) % 8 = 0)
    ∧ (({ State.reset with coreUp := false } : State).dark = true ∧ ({ State.reset with vaux := false } : State).dark = true
      ∧ ({ State.reset with pwrgood := false } : State).dark = true ∧ State.reset.dark = false ∧ State.reset.taskOn 4 95 = false)
    ∧ (psmAt 2 {}).rd (R.PSM_CTL 95) % 8 = 2
    ∧ (State.reset.stopped = false ∧ State.reset.rd (R.PSM_CTL 95) % 8 = 0 ∧ bits (State.reset.rd (R.PSM_CTL 95)) 4 3 < 5
      ∧ bit (0x41#32).toNat 3 = bit (State.reset.rd (R.PSM_CTL 95)) 3 ∧ bits (0x41#32).toNat 4 3 < 5
      ∧ (State.reset.psm 95).stage = 0 ∧ (State.reset.psm 95).waiters = [])
    ∧ ((State.reset.set (F.PSM_STATUS_SOURCE 95) 1).get (F.PSM_STATUS_SOURCE 95) ≠ 0 ∧ ¬ (State.reset.psmRange 95 = 5 ∧ State.reset.psmMode 95 = 1 ∧ bit (5#32).toNat 17 = true)
      ∧ (let s := (psmAt 1 {}).set (F.PSM_CTL_RANGE 95) 5; ¬ (s.psmRange 95 = 5 ∧ s.psmMode 95 = 1 ∧ bit (0x1FFFF#32).toNat 17 = true)))
    ∧ State.reset.get (F.PSM_STATUS_SOURCE 95) = 0
    ∧ (State.reset.psm 95).ramp = .none
    ∧ (let s := ((psmAt 1 { stage := 1, ramp := .slew }).set (F.PSM_SLEW 95) 1).set (F.PSM_LEVEL 95) 5;
      (s.psm 95).ramp = .slew ∧ s.get (F.PSM_SLEW 95) ≠ 0 ∧ (s.psm 95).pos < s.psmTarget 95 * s.psmUnit 95)
    ∧ (let s := ((psmAt 1 { stage := 1, ramp := .slew, pos := 1 }).set (F.PSM_SLEW 95) 1);
      (s.psm 95).ramp = .slew ∧ s.psmTarget 95 * s.psmUnit 95 < (s.psm 95).pos)
    ∧ ((psmAt 1 { stage := 1, ramp := .safe }).psm 95).ramp = .safe
    ∧ (((psmAt 1 { stage := 1 }).psm 95).stage = 1 ∧ ((psmAt 1 { stage := 1 }).psm 95).waiters = []
      ∧ (psmAt 1 { stage := 1 }).flag (F.PSM_STATUS_CLAMP 95) = false ∧ (psmAt 1 { stage := 1 }).flag (F.PSM_STATUS_SHORT 95) = false)
    ∧ ((psmAt 2 { stage := 2 }).psm 95).stage = 2
    ∧ (let s := (psmAt 1 { stage := 1 }).set (F.PSM_CTL_RANGE 95) 5;
      s.psmRange 95 = 5 ∧ (s.psm 95).stage = 1 ∧ (s.psm 95).wave = none ∧ (s.psm 95).timed = [] ∧ (s.psm 95).snap = none
        ∧ (s.psm 95).meas = none ∧ (s.psm 95).waiters = [] ∧ s.flag (F.PSM_STATUS_SINE_RUN 95) = false)
    ∧ (bit (0x80000#32).toNat 17 = false ∧ bit (0x80000#32).toNat 19 = true
      ∧ (State.reset.set (F.PSM_STATUS_SENSE_OPEN 95) 1).flag (F.PSM_STATUS_SENSE_OPEN 95) = true) := by
  decide +kernel

/-- The snapshots of the command in flight, in the last slot of one, re-arming. -/
def snapping : Snap := { hdr := hd, rearm := true }

/-- A measurement that settles. -/
def psmMeasuring : PsmMeas := { owner := none, clamped := false }

theorem witness_PsmMeasureAndSnapshots :
    (State.reset.psmMode 95 = 0 ∧ State.reset.Admits 0x47 hd [95])
    ∧ (let s := (psmAt 1 {}).set (F.PSM_MEAS_CFG_SAMPLES 95) 1;
      s.psmMode 95 ≠ 0 ∧ s.psmConverts 95 (s.flag (F.PSM_MEAS_CFG_MEAS_QTY 95)) = true ∧ (s.psm 95).meas = none
        ∧ s.get (F.PSM_MEAS_CFG_SAMPLES 95) ≠ 0 ∧ s.Admits 0x47 hd2 [95])
    ∧ ((psmAt 1 { meas := some psmMeasuring }).psm 95).meas = some psmMeasuring
    ∧ (let s := ((psmAt 1 {}).set (F.PSM_THR_THR_EN 95) 0).set (F.PSM_CHK_CFG_CHK_EN 95) 0;
      s.psmTakes 95 true = true ∧ (psmAt 1 { monNext := true }).psmTakes 95 false = true ∧ (s.psm 95).meas = none ∧ (s.psm 95).snap = none
        ∧ (s.psm 95).waiters = [] ∧ s.flag (F.PSM_THR_THR_EN 95) = false ∧ s.flag (F.PSM_CHK_CFG_CHK_EN 95) = false)
    ∧ ((State.reset.psm 95).snap = none ∧ State.reset.get (F.PSM_SNAP_CFG_TRIG_SRC 95) = 0 ∧ State.reset.Admits 0x49 hd [95])
    ∧ (let s := ((psmAt 1 { snap := some { snapping with kept := 3 } }).set (F.PSM_SNAP_LEN_LEN 95) 3).set (F.PSM_SNAP_LEN_PRE 95) 2;
      (s.psm 95).snap = some { snapping with kept := 3 } ∧ { snapping with kept := 3 }.trig = none ∧ s.get (F.PSM_SNAP_CFG_TRIG_SRC 95) = 0
        ∧ s.get (F.PSM_SNAP_LEN_PRE 95) < s.get (F.PSM_SNAP_LEN_LEN 95) ∧ s.Admits 0x49 hd2 [95])
    ∧ (let s := ((psmAt 1 { snap := some { snapping with kept := 3 } }).set (F.PSM_SNAP_LEN_LEN 95) 2).set (F.PSM_SNAP_LEN_PRE 95) 2;
      (s.psm 95).snap = some { snapping with kept := 3 } ∧ s.get (F.PSM_SNAP_CFG_TRIG_SRC 95) = 0
        ∧ s.get (F.PSM_SNAP_LEN_LEN 95) ≤ s.get (F.PSM_SNAP_LEN_PRE 95) ∧ s.Admits 0x49 hd2 [95])
    ∧ (let s := psmAt 1 { snap := some { hdr := hd, trig := some (7, 0) } };
      (s.psm 95).snap = some { hdr := hd, trig := some (7, 0) } ∧ s.routine = none ∧ (s.entryOf hd).map (fun e => (e.hdr, e.suppressed)) = some (hd, false)
        ∧ s.touchesMuzzledPc (s.snapAddr 95 0) (s.snapSlot 95) = false)
    ∧ (let s := (psmAt 1 { snap := some snapping }).set (F.PSM_SNAP_CFG_SNAP_COUNT 95) 1;
      (s.psm 95).snap = some snapping ∧ s.routine = none ∧ (s.entryOf snapping.hdr).map (fun e => (e.hdr, e.suppressed)) = some (hd, false)
        ∧ s.get (F.PSM_SNAP_CFG_SNAP_COUNT 95) ≤ snapping.slot + 1 ∧ s.Admits 0x48 hd2 [95])
    ∧ (let s := ((psmAt 1 {}).set (F.PSM_SNAP_CFG_SNAP_COUNT 95) 1).set (F.PSM_SNAP_SIZE 95) 0x100000;
      s.Admits 0x48 hd2 [95] ∧ (s.psm 95).snap = none ∧ s.psmConverts 95 (!s.flag (F.PSM_SNAP_CFG_SNAP_QTY 95)) = true
        ∧ s.get (F.PSM_SNAP_CFG_TRIG_SRC 95) ≠ 3 ∧ s.get (F.PSM_SNAP_CFG_SNAP_COUNT 95) ≠ 0
        ∧ s.get (F.PSM_SNAP_CFG_SNAP_COUNT 95) * s.snapSlot 95 ≤ 64 * s.get (F.PSM_SNAP_SIZE 95)
        ∧ 64 * s.get (F.PSM_SNAP_BASE 95) + 64 * s.get (F.PSM_SNAP_SIZE 95) ≤ 2 ^ 35) := by
  simp only [admits_iff]
  decide +kernel

/-- A waveform of one segment, armed by this command. -/
def waveOf (arm : Option CmdHdr) (queue : List WaveEnt) : Wave :=
  { segs := [⟨0, 256, none⟩], arm := arm, seg := 0, cursor := none, queue := queue }

/-- One segment of 256 samples, in the table at address 0 of DRAM. -/
def tabled : State := ((psmAt 1 {}).set (F.PSM_WF_COUNT 95) 1).putDramList 0 [0, 256, 0x40, 0]

theorem witness_PsmWaveformsAndSine_levels :
    (State.reset.Admits 0x40 hd [95, 5] ∧ State.reset.psmMode 95 = 0 ∧ State.reset.get (F.PSM_STATUS_SOURCE 95) = 0
      ∧ (State.reset.psm 95).stage = 0 ∧ (State.reset.psm 95).waiters = [])
    ∧ (let s := psmAt 1 { stage := 1, waiters := [.cmd hd] };
      (s.psm 95).ramp = .none ∧ s.psmSettled 95 = false ∧ (s.psm 95).waiters = [.cmd hd]
        ∧ s.routine = none ∧ (s.entryOf hd).map (fun e => (e.hdr, e.suppressed)) = some (hd, false))
    ∧ (State.reset.Admits 0x41 hd [95, 0] ∧ (match State.reset.waveArmCheck 95 0 with
      | .error .badState => true
      | _ => false) = true)
    ∧ (tabled.Admits 0x41 hd2 [95, 0] ∧ (match tabled.waveArmCheck 95 0 with
      | .ok segs => segs == [⟨0, 256, none⟩]
      | _ => false) = true) := by
  simp only [admits_iff]
  decide +kernel

/-- A full queue. -/
def fullQueue : List WaveEnt := List.replicate 4096 ⟨0, 0, false, 0⟩

theorem witness_PsmWaveformsAndSine_prefilled :
    ((psmAt 1 { wave := some (waveOf (some hd) fullQueue) }).psm 95).wave = some (waveOf (some hd) fullQueue)
    ∧ (waveOf (some hd) fullQueue).arm = some hd ∧ 4096 ≤ (waveOf (some hd) fullQueue).queue.length
    ∧ (psmAt 1 {}).routine = none ∧ ((psmAt 1 {}).entryOf hd).map (fun e => (e.hdr, e.suppressed)) = some (hd, false) :=
  ⟨rfl, rfl, Nat.le_of_eq List.length_replicate.symm, rfl, by decide +kernel⟩

theorem witness_PsmWaveformsAndSine_starts :
    (halted.Admits 0x42 hd [95, 7, 0] ∧ halted.Admits 0x45 hd [95, 7, 0] ∧ halted.stopped = true)
    ∧ (State.reset.flag (F.PSM_STATUS_WAVE_ARMED 95) = false ∧ State.reset.Admits 0x42 hd [95, 7, 0])
    ∧ (let s := ({ psmAt 1 {} with time := 8 } : State).set (F.PSM_STATUS_WAVE_ARMED 95) 1;
      s.Admits 0x42 hd2 [95, 7, 0] ∧ s.stopped = false ∧ s.flag (F.PSM_STATUS_WAVE_ARMED 95) = true ∧ 7 < s.time ∧ s.time ≤ 8)
    ∧ (let s := (psmAt 1 {}).set (F.PSM_STATUS_SINE_RUN 95) 1;
      s.Admits 0x45 hd2 [95, 7, 0] ∧ (s.waveBusy 95 || s.flag (F.PSM_STATUS_SINE_RUN 95)) = true)
    ∧ (let s := psmAt 2 {};
      s.Admits 0x45 hd2 [95, 0, 0] ∧ s.stopped = false ∧ s.waveBusy 95 = false ∧ s.flag (F.PSM_STATUS_SINE_RUN 95) = false ∧ s.psmMode 95 = 2)
    ∧ (let s := (psmAt 1 { timed := [⟨false, hd, 7⟩], wave := some (waveOf none []) }).set (F.PSM_STATUS_WAVE_ARMED 95) 1;
      (s.psm 95).timed = [⟨false, hd, 7⟩] ∧ s.waveBusy 95 = true ∧ s.get (F.PSM_SNAP_CFG_TRIG_SRC 95) ≠ 4 ∧ s.time ≤ 7)
    ∧ (let s := psmAt 1 { timed := [⟨true, hd, 0⟩] };
      (s.psm 95).timed = [⟨true, hd, 0⟩] ∧ s.waveBusy 95 = false ∧ s.flag (F.PSM_STATUS_SINE_RUN 95) = false ∧ s.psmMode 95 = 1
        ∧ s.routine = none ∧ (s.entryOf hd).map (fun e => (e.hdr, e.suppressed)) = some (hd, false)) := by
  simp only [admits_iff]
  decide +kernel

theorem witness_PsmWaveformsAndSine_stops :
    (let s := (psmAt 1 {}).set (F.PSM_STATUS_SINE_RUN 95) 1;
      s.flag (F.PSM_STATUS_WAVE_RUN 95) = false ∧ s.flag (F.PSM_STATUS_SINE_RUN 95) = true ∧ (s.psm 95).sineStop = false
        ∧ (s.psm 95).waiters = [] ∧ s.Admits 0x43 hd2 [95, 0] ∧ s.Admits 0x46 hd2 [95])
    ∧ (let s := (psmAt 1 { wave := some (waveOf none []) }).set (F.PSM_STATUS_WAVE_RUN 95) 1;
      s.Admits 0x43 hd2 [95, 0] ∧ s.flag (F.PSM_STATUS_WAVE_RUN 95) = true ∧ bit (word [95, 0] 1) 0 = false
        ∧ (s.psm 95).wave = some (waveOf none []))
    ∧ (State.reset.Admits 0x46 hd [95] ∧ State.reset.flag (F.PSM_STATUS_SINE_RUN 95) = false)
    ∧ (State.reset.Admits 0x44 hd [95, 0] ∧ (State.reset.psm 95).wave = none)
    ∧ (let s := (psmAt 1 { wave := some (waveOf none []) }).set (F.PSM_WF_COUNT 95) 1;
      s.Admits 0x44 hd2 [95, 0] ∧ (s.psm 95).wave = some (waveOf none []) ∧ word [95, 0] 1 < s.get (F.PSM_WF_COUNT 95)
        ∧ (waveOf none []).arm = none ∧ (waveOf none []).jump = none)
    ∧ (let s := (State.reset.set (F.PSM_CUE_ACTION 95 31) 5).set (F.PSM_STATUS_SINE_RUN 95) 1;
      s.get (F.PSM_CUE_ACTION 95 31) = 5 ∧ s.flag (F.PSM_STATUS_SINE_RUN 95) = true)
    ∧ (let s := State.reset.set (F.PSM_CUE_ACTION 95 31) 5;
      s.get (F.PSM_CUE_ACTION 95 31) = 5 ∧ s.flag (F.PSM_STATUS_SINE_RUN 95) = false) := by
  simp only [admits_iff]
  decide +kernel

theorem aeReady_iff (s : State) (c w : Nat) :
    s.AeReady c w ↔ (s.flag (F.AE_STATUS_RUNNING c) && !s.aeMuzzled c && s.aeWord c (s.aePc c) == w && aeLegal w
      && (s.aec c).writes == [] && (s.aec c).branch == none && (s.aec c).rep == none && !(s.aec c).haltReq) = true := by
  simp only [Bool.and_eq_true, Bool.not_eq_true', beq_iff_eq]
  exact ⟨fun a => ⟨⟨⟨⟨⟨⟨⟨a.running, a.muzzled⟩, a.word⟩, a.legal⟩, a.writes⟩, a.branch⟩, a.rep⟩, a.haltReq⟩,
    fun ⟨⟨⟨⟨⟨⟨⟨a, b⟩, c⟩, d⟩, e⟩, f⟩, g⟩, h⟩ => ⟨a, b, c, d, e, f, g, h⟩⟩

/-- Core 7 runs at its last word, which is w. -/
def aeAt (w : Nat) (k : AeCore) : State :=
  { ((State.reset.set (F.AE_STATUS_RUNNING 7) 1).set (F.AE_PC 7) 8191).wr64 (aeImem 7 + 8 * 8191) w with aes := [(7, k)] }

theorem witness_AeArithmetic :
    (∀ op ∈ [0, 1, 2, 3, 4, 5, 6, 7, 8, 9, 10, 11, 12, 0x3F],
      (aeAt (op * 2 ^ 53) {}).AeReady 7 (op * 2 ^ 53) ∧ aeClass (op * 2 ^ 53) = 0 ∧ bits (op * 2 ^ 53) 53 6 = op)
    ∧ (∀ op ∈ [0, 1, 2, 3, 4, 5, 6, 7, 8, 9, 10, 11, 12],
      (aeAt (2 ^ 60 + op * 2 ^ 53 + 0xFFFFFFFF) {}).AeReady 7 (2 ^ 60 + op * 2 ^ 53 + 0xFFFFFFFF)
        ∧ aeClass (2 ^ 60 + op * 2 ^ 53 + 0xFFFFFFFF) = 1)
    ∧ (∀ op ∈ [0, 1, 2, 3, 4, 5, 6, 7, 8, 9, 10, 11, 12, 13, 14],
      (aeAt (2 * 2 ^ 60 + op * 2 ^ 53) {}).AeReady 7 (2 * 2 ^ 60 + op * 2 ^ 53) ∧ aeClass (2 * 2 ^ 60 + op * 2 ^ 53) = 2)
    ∧ (∀ op ∈ [0, 1, 2],
      (aeAt (3 * 2 ^ 60 + op * 2 ^ 57) {}).AeReady 7 (3 * 2 ^ 60 + op * 2 ^ 57) ∧ aeClass (3 * 2 ^ 60 + op * 2 ^ 57) = 3
        ∧ bit (3 * 2 ^ 60 + op * 2 ^ 57) 46 = false) := by
  simp only [aeReady_iff]
  decide +kernel

/-- A load or store with an absolute address. -/
def ldst (op a : Nat) : Nat := 4 * 2 ^ 60 + op * 2 ^ 55 + 2 ^ 32 + a

/-- A load or store at the address in P7, which is modified afterwards. -/
def stepped (op : Nat) : Nat := 4 * 2 ^ 60 + op * 2 ^ 55 + 7 * 2 ^ 44 + 2 ^ 43

/-- The files a MOV may name: destination and source. -/
def movPairs : List (Nat × Nat) :=
  [(0, 0), (0, 3), (0, 4), (0, 5), (1, 1), (1, 2), (2, 1), (2, 2), (3, 0), (3, 3), (4, 0), (4, 4), (5, 0), (5, 5)]

/-- A MOV between register 0 of them, with this half of an M register. -/
def movOf (x : Nat × Nat) (wsel : Nat) : Nat := 5 * 2 ^ 60 + x.1 * 2 ^ 53 + x.2 * 2 ^ 46 + wsel * 2 ^ 38

theorem witness_AeMemoryAndMoveInstructions :
    (∀ op ∈ [0, 1, 2, 3, 4, 5], (aeAt (ldst op 0x7FFC0) {}).AeReady 7 (ldst op 0x7FFC0) ∧ aeClass (ldst op 0x7FFC0) = 4
      ∧ bit (ldst op 0x7FFC0) 43 = false ∧ bit (ldst op 0x7FFC0) 32 = true ∧ 0x7FFC0 % 64 = 0 ∧ 0x7FFC0 + 64 ≤ 0x80000)
    ∧ ((aeAt (ldst 0 0x7FFC4) {}).AeReady 7 (ldst 0 0x7FFC4) ∧ (aeAt (ldst 0 0x7FFC4) {}).aec 7 = {} ∧ 0x7FFC4 % 64 ≠ 0)
    ∧ ((aeAt (ldst 6 0x7FFC0 + 2 ^ 39) {}).AeReady 7 (ldst 6 0x7FFC0 + 2 ^ 39) ∧ bits (ldst 6 0x7FFC0 + 2 ^ 39) 39 2 = 1
      ∧ bits (ldst 6 0x7FFC0 + 2 ^ 39) 55 4 = 6)
    ∧ (let w := ldst 6 0x7FF80; (aeAt w {}).AeReady 7 w ∧ bits w 39 2 = 0 ∧ bits w 55 4 = 6 ∧ 0x7FF80 % 64 = 0 ∧ 0x7FF80 + 128 ≤ 0x80000)
    ∧ (∀ x ∈ [(0, 0), (3, 0), (1, 1), (5, 0)],
      (aeAt (5 * 2 ^ 60 + x.1 * 2 ^ 53 + x.2 * 2 ^ 46) {}).AeReady 7 (5 * 2 ^ 60 + x.1 * 2 ^ 53 + x.2 * 2 ^ 46)
        ∧ bits (5 * 2 ^ 60 + x.1 * 2 ^ 53 + x.2 * 2 ^ 46) 53 3 = x.1 ∧ bits (5 * 2 ^ 60 + x.1 * 2 ^ 53 + x.2 * 2 ^ 46) 46 3 = x.2)
    ∧ (let w := 5 * 2 ^ 60 + 2 ^ 56 + 2 ^ 46; (aeAt w {}).AeReady 7 w ∧ bits w 56 3 = 1 ∧ aeClass w = 5)
    ∧ (let w := 5 * 2 ^ 60 + 2 * 2 ^ 56 + 2 ^ 53; (aeAt w {}).AeReady 7 w ∧ bits w 56 3 = 2 ∧ aeClass w = 5) := by
  simp only [aeReady_iff]
  decide +kernel

theorem witness_AeMemoryAndMoveInstructions_modify :
    (∀ op ∈ [0, 1, 2, 3, 4, 5, 6], let k := { p := [(7, 0x7FF80)], m := [(7, 2 ^ 19 - 1)] }
      (aeAt (stepped op) k).AeReady 7 (stepped op) ∧ (aeAt (stepped op) k).aec 7 = k ∧ bit (stepped op) 32 = false ∧ bit (stepped op) 43 = true
        ∧ k.getP (bits (stepped op) 44 3) = 0x7FF80 ∧ postModify 0x7FF80 (k.getM (bits (stepped op) 44 3)) = some 0x7FF7F)
    ∧ (let k := { p := [(7, 64)], m := [(7, 3 * 2 ^ 20)] }
      (aeAt (stepped 0) k).AeReady 7 (stepped 0) ∧ ((aeAt (stepped 0) k).aec 7).call = none
        ∧ postModify (k.getP 7) (k.getM 7) = none)
    ∧ (bits (2 ^ 20 + 4 * 2 ^ 27) 20 2 = 1 ∧ 4 ≤ bits (2 ^ 20 + 4 * 2 ^ 27) 27 19 ∧ bits (2 ^ 20 + 4 * 2 ^ 27) 27 19 ≤ 2 ^ 2
      ∧ 2 ^ 2 < 2 * bits (2 ^ 20 + 4 * 2 ^ 27) 27 19 ∧ 0x7FFFF / 2 ^ 2 * 2 ^ 2 + bits (2 ^ 20 + 4 * 2 ^ 27) 27 19 ≤ 0x80000)
    ∧ (bits (2 * 2 ^ 20 + 2 * 2 ^ 22) 20 2 = 2 ∧ bits (2 * 2 ^ 20 + 2 * 2 ^ 22) 22 5 = 2
      ∧ bits (2 * 2 ^ 20 + 19 * 2 ^ 22) 20 2 = 2 ∧ bits (2 * 2 ^ 20 + 19 * 2 ^ 22) 22 5 = 19) := by
  simp only [aeReady_iff]
  decide +kernel

theorem witness_AeMemoryAndMoveInstructions_pairs :
    ∀ x ∈ movPairs, ∀ wsel ∈ [0, 1], (wsel = 0 ∨ x = (4, 0)) →
      (aeAt (movOf x wsel) {}).AeReady 7 (movOf x wsel) ∧ aeClass (movOf x wsel) = 5
        ∧ bits (movOf x wsel) 53 3 = x.1 ∧ bits (movOf x wsel) 46 3 = x.2 ∧ bits (movOf x wsel) 56 3 = 0 ∧ bits (movOf x wsel) 38 4 = wsel := by
  simp only [aeReady_iff]
  decide +kernel

theorem witness_AeFlowInstructions :
    (∀ op ∈ [0, 1, 2, 3, 4, 5, 6, 7, 8], (aeAt (6 * 2 ^ 60 + op * 2 ^ 55) {}).AeReady 7 (6 * 2 ^ 60 + op * 2 ^ 55)
      ∧ aeClass (6 * 2 ^ 60 + op * 2 ^ 55) = 6 ∧ bits (6 * 2 ^ 60 + op * 2 ^ 55) 55 4 = op)
    ∧ (aeCond (bits (6 * 2 ^ 60 + 2 ^ 55) 48 3) 0 = true ∧ aeCond (bits (6 * 2 ^ 60 + 2 ^ 55 + 2 ^ 48) 48 3) 0 = false
      ∧ (aeAt (6 * 2 ^ 60 + 2 ^ 55 + 2 ^ 48) {}).AeReady 7 (6 * 2 ^ 60 + 2 ^ 55 + 2 ^ 48))
    ∧ (∀ n ∈ [0, 1, 2], (aeAt (6 * 2 ^ 60 + 5 * 2 ^ 55) { x := [(0, n)] }).AeReady 7 (6 * 2 ^ 60 + 5 * 2 ^ 55)
      ∧ ({ x := [(0, n)] } : AeCore).getX 0 = n)
    ∧ (let s := aeAt (6 * 2 ^ 60 + 7 * 2 ^ 55) { dma0 := some ⟨0, 0, 1, false⟩ };
      s.AeReady 7 (6 * 2 ^ 60 + 7 * 2 ^ 55) ∧ ((s.aec 7).dma 0).isSome = true)
    ∧ (∀ n ∈ [0, 0xFFFF], (aeAt (7 * 2 ^ 60 + n) {}).AeReady 7 (7 * 2 ^ 60 + n) ∧ aeClass (7 * 2 ^ 60 + n) = 7
      ∧ repeatable ((aeAt (7 * 2 ^ 60 + n) {}).aeWord 7 ((aeAt (7 * 2 ^ 60 + n) {}).aePc 7 + 1)) = true ∧ bits (7 * 2 ^ 60 + n) 0 16 = n)
    ∧ (∀ n ∈ [0, 1], (aeAt (8 * 2 ^ 60 + n * 2 ^ 43) {}).AeReady 7 (8 * 2 ^ 60 + n * 2 ^ 43) ∧ aeClass (8 * 2 ^ 60 + n * 2 ^ 43) = 8
      ∧ ((aeAt (8 * 2 ^ 60 + n * 2 ^ 43) {}).aec 7).dma 0 = none ∧ ({} : AeCore).dmaArgs (8 * 2 ^ 60 + n * 2 ^ 43) = (0, 0, n))
    ∧ (let s := aeAt (0x3F * 2 ^ 53) { branch := some (1, some 5) };
      s.aeWord 7 (s.aePc 7) = 0x3F * 2 ^ 53 ∧ aeLegal (0x3F * 2 ^ 53) = true ∧ (s.aec 7).branch = some (1, some 5)) := by
  simp only [aeReady_iff]
  decide +kernel

/-- Core 7 with this hidden state, its flags as given. -/
def coreAt (running callBusy user : Nat) (k : AeCore) : State :=
  { (((flying State.reset 0x5C []).set (F.AE_STATUS_RUNNING 7) running).set (F.AE_STATUS_CALL_BUSY 7) callBusy).set (F.AE_CTL_USER 7) user with
    aes := [(7, k)] }

/-- A transfer of the last 64 bytes of both memories. -/
def lastBurst (out : Bool) : AeDma := ⟨2 ^ 35 - 64, 0x80000 - 64, 1, out⟩

theorem witness_AeCoreControl :
    (∀ out, ((coreAt 1 0 1 { dma1 := some (lastBurst out) }).aec 7).dma 1 = some (lastBurst out)
      ∧ (coreAt 1 0 1 { dma1 := some (lastBurst out) }).touchesMuzzledPc (2 ^ 35 - 64 + 64 * 0) 64 = false
      ∧ (coreAt 1 0 1 { dma1 := some (lastBurst out) }).frozen = false)
    ∧ (let s := ((coreAt 1 0 1 { x := [(3, 1)] }).set (F.AE_INT_PEND 7) 8).wr (R.AE_INT_EN 7) 15;
      s.flag (F.AE_STATUS_RUNNING 7) = true ∧ s.aeMuzzled 7 = false ∧ (s.aec 7).boundary = true ∧ (s.aec 7).writes = []
        ∧ lowestBit (s.rd (R.AE_INT_PEND 7) &&& s.rd (R.AE_INT_EN 7)) 4 = some 3 ∧ bit ((s.aec 7).getX 3) 0 = true)
    ∧ (let s := ((coreAt 1 0 1 {}).set (F.AE_INT_PEND 7) 8).wr (R.AE_INT_EN 7) 15;
      lowestBit (s.rd (R.AE_INT_PEND 7) &&& s.rd (R.AE_INT_EN 7)) 4 = some 3 ∧ bit ((s.aec 7).getX 3) 0 = false)
    ∧ State.reset.aeMuzzled 7 = false
    ∧ (((coreAt 0 1 0 {}).flag (F.AE_STATUS_RUNNING 7) || (coreAt 0 1 0 {}).flag (F.AE_STATUS_CALL_BUSY 7)) = true
      ∧ bit 2 1 ≠ (coreAt 0 1 0 {}).flag (F.AE_CTL_USER 7))
    ∧ ((coreAt 0 0 0 {}).flag (F.AE_STATUS_RUNNING 7) = false ∧ (coreAt 0 0 0 {}).flag (F.AE_STATUS_CALL_BUSY 7) = false
      ∧ (coreAt 0 0 0 {}).stopped = false ∧ (coreAt 0 0 0 {}).aeQueue = [] ∧ (coreAt 0 0 1 {}).flag (F.AE_CTL_USER 7) = true ∧ halted.stopped = true ∧ halted.flag (F.AE_STATUS_RUNNING 7) = false
      ∧ halted.flag (F.AE_STATUS_CALL_BUSY 7) = false)
    ∧ ((coreAt 1 0 1 {}).flag (F.AE_STATUS_RUNNING 7) = true ∧ ((coreAt 1 0 1 {}).aec 7).boundary = true
      ∧ ((coreAt 1 0 1 { branch := some (1, none) }).aec 7).boundary = false)
    ∧ (((coreAt 0 1 0 { call := some ⟨.cmd hd, [], none⟩ }).aec 7).call = some ⟨.cmd hd, [], none⟩
      ∧ (coreAt 0 1 0 {}).routine = none
      ∧ ((coreAt 0 1 0 {}).entryOf hd).map (fun e => (e.hdr, e.suppressed)) = some (hd, false)) := by
  decide +kernel

/-- The words of a call of STATS on two samples, for a core. -/
def callWords (core : Word) : List Word := [1, 0, 2] ++ List.replicate 13 0 ++ [core]

/-- A call of STATS on two samples. -/
def statsCall (f : Nat) : AeCall := ⟨.cmd hd, [f, 0, 2] ++ List.replicate 13 0, none⟩

theorem witness_AeLibraryCalls :
    (halted.Admits 0x5C hd (callWords 15) ∧ halted.stopped = true)
    ∧ ((muzzling State.reset (.ae 7)).Admits 0x5C hd (callWords 7) ∧ (muzzling State.reset (.ae 7)).aeMuzzled 7 = true
      ∧ word (callWords 7) 16 = 7 ∧ (muzzling State.reset (.ae 7)).stopped = false
      ∧ (muzzling State.reset (.ae 7)).aeAble 0 = true ∧ (muzzling State.reset (.ae 7)).routine = none)
    ∧ ((coreAt 0 0 1 {}).Admits 0x5C hd2 (callWords 7) ∧ (coreAt 0 0 1 {}).aeMuzzled 7 = false ∧ (coreAt 0 0 1 {}).aeAble 7 = false)
    ∧ (let s : State := { State.reset with aeQueue := List.replicate 64 (statsCall 1) };
      s.Admits 0x5C hd (callWords 7) ∧ s.aeAble 7 = true ∧ 64 ≤ s.aeQueue.length)
    ∧ (State.reset.Admits 0x5C hd (callWords 7) ∧ State.reset.aeAble 7 = true ∧ State.reset.aeQueue.length < 64
      ∧ State.reset.Admits 0x5C hd (callWords 15) ∧ word (callWords 15) 16 = 15)
    ∧ (let s : State := { State.reset with aeQueue := [statsCall 1] };
      s.aeQueue = [statsCall 1] ∧ s.aeCoreFor (statsCall 1) = some 0 ∧ s.stopped = false)
    ∧ (let s := coreAt 1 1 0 { call := some (statsCall 6) };
      (s.aec 7).call = some (statsCall 6) ∧ (statsCall 6).check = some .badOpcode ∧ s.routine = none
        ∧ (s.entryOf hd).map (fun e => (e.hdr, e.suppressed)) = some (hd, false))
    ∧ ((statsCall 1).check = none ∧ statusOf (0#8).toNat = .ok ∧ (statsCall 1).w 0 % 256 = 1 ∧ bit ((statsCall 1).w 0) 8 = false
      ∧ ((coreAt 1 1 0 { call := some (statsCall 1) }).aec 7).call = some (statsCall 1))
    ∧ (State.reset.aec 7).call = none
    ∧ ({ State.reset with routine := some ⟨hd, 0, 0, false, 0, false⟩ } : State).routine ≠ none := by
  simp only [admits_iff]
  decide +kernel

/-- Port B in this state, all its lanes up. -/
def portAt (mode : Nat) (p : PortState) : State :=
  { (State.reset.set (F.LNK_STATUS_STATE 1) mode).set (F.LNK_STATUS_LANES_UP 1) 15 with ports := [(1, p)] }

theorem witness_LinkTraining :
    (let s := (State.reset.set (F.LNK_STATUS_STATE 1) 0).set (F.LNK_CTL_LANE_EN 1) 15;
      s.mayTrain 1 = true)
    ∧ (portAt 2 {}).mayTrain 1 = false
    ∧ (let s := (portAt 1 { fresh := false }).set (F.LNK_CTL_LANE_EN 1) 15;
      s.portMode 1 = 1 ∧ widthChoice (s.portLanes 1 &&& (15#4).toNat &&& 15) = 15 ∧ s.coreUp = true ∧ s.get F.GLB_REST_STATE ≠ 2
        ∧ (s.port 1).fresh = false ∧ (s.port 1).width ≤ laneCount 15 ∧ s.leashFrozen = false ∧ s.lanesSilent = false
        ∧ ({ s with pwrgood := false } : State).lanesSilent = true
        ∧ (∃ j, j < 4 ∧ bit (({ s with ports := [(1, { ran := 8 })] } : State).port 1).ran j = true)
        ∧ bit (s.get F.CLK_GRP_CTL_MUZZLE) 1 = false)
    ∧ (portAt 2 {}).laneUsed 0 3 = false
    ∧ (let s := (portAt 2 {}).set F.CLK_GRP_CTL_MUZZLE 2;
      s.laneUsed 1 3 = true ∧ bit (s.get F.CLK_GRP_CTL_MUZZLE) 1 = true ∧ s.flag (F.LNK_STATUS_LANE_LOST 1) = false)
    ∧ ((portAt 2 {}).portMode 1 ≠ 0 ∧ (portAt 2 {}).events.length < 256 ∧ (portAt 2 {}).portOpen 1 = true) := by
  decide +kernel

/-- A NOP of this session and tag, with this SEQ and no trailer yet. -/
def nopPacket (seq : BitVec 12) (tag : Nat) : Packet :=
  ⟨seq, false, BitVec.ofNat 64 (packHeader 0xF0 0 1 tag 0 0 0), [], 0, false⟩

/-- The same with its CRC. -/
def nopSound (seq : BitVec 12) (tag : Nat) : Packet :=
  { nopPacket seq tag with trailer := BitVec.ofNat 32 (crcWords (pktWords (nopPacket seq tag))) }

/-- The completion of an EMERGENCY_SAFE that came to port B. -/
def safeDone : Reply := ⟨0x8F, 1, 3, true, false, false, .ok, 0, []⟩

theorem witness_LinkPackets :
    ((portAt 2 {}).portOpen 1 = true ∧ (portAt 2 {}).coreUp = true ∧ (portAt 2 {}).grpShut 1 = false
      ∧ ((portAt 2 {}).set F.CLK_GRP_CTL_MUZZLE 2).grpHeld 1 = true ∧ ((portAt 2 {}).set F.CLK_GRP_CTL_MUZZLE 2).grpShut 1 = true
      ∧ (portAt 2 {}).grpHeld 1 = false ∧ ((portAt 2 {}).set F.CLK_GRP_CTL_FREEZE 2).grpFrozen 1 = true
      ∧ ((portAt 2 {}).set F.CLK_GRP_CTL_FREEZE 2).grpHeld 1 = false ∧ (portAt 2 {}).lanesSilent = false)
    ∧ pktSound (nopPacket 0 0x3FFF) = false
    ∧ (pktSound (nopSound 5 0x3FFF) = true ∧ (5#12).toNat ≠ ((portAt 2 {}).port 1).rxSeq)
    ∧ (let p := nopSound 0xFFF 0x3FFF
      let s := portAt 2 { rxSeq := 0xFFF };
      pktSound p = true ∧ p.seq.toNat = (s.port 1).rxSeq ∧ bits p.header.toNat 20 3 = 0 ∧ bits p.header.toNat 56 8 = 0xF0
        ∧ s.devId ≠ 31 ∧ bits p.header.toNat 51 5 = s.devId ∧ s.inflightCount < 16384 ∧ bits p.header.toNat 0 18 = 0
        ∧ bits p.header.toNat 18 2 ≠ 3 ∧ s.tagUsed (bits p.header.toNat 49 2) (bits p.header.toNat 35 14) = false
        ∧ formOf 0xF0 p.payload = none)
    ∧ (let r : PortState := { replay := [⟨(9#12).toNat, true, [1], .plain⟩] }
      (portAt 2 r).port 1 = r ∧ r.replay ≠ [] ∧ r.resends < 7)
    ∧ ((portAt 2 {}).port 1).replay = []
    ∧ (let s : State := { portAt 2 { rspUnits := 2 } with replies := [safeDone] };
      s.orOther (portOf safeDone.port) = 1 ∧ (s.port 1).emergency = none ∧ s.mirrorQ = [] ∧ s.dmaJobs = []
        ∧ s.portRoom 1 true (s.replyWords safeDone).length = true) := by
  decide +kernel

/-- A command of PAT_START in flight, which has not begun. -/
def entry (urgent : Bool) : InFlight := ⟨{ hd with urgent := urgent }, 0x31, [0x8000, 0, 0, 0], domainsOf 0x31 [0x8000, 0, 0, 0], .admitted, false, false⟩

theorem witness_SessionCommands :
    (State.reset.Admits 0xF0 hd [] ∧ State.reset.Admits 0xF2 hd [7] ∧ State.reset.Admits 0xF1 hd [] ∧ State.reset.inflight = [])
    ∧ (let s : State := { State.reset with inflight := [⟨{ hd with tag := 9 }, 0xF2, [], 0, .running, false, false⟩] };
      s.Admits 0xF1 hd [])
    ∧ (State.reset.Admits 0x80 hd2 [1] ∧ State.reset.inflight = [] ∧ State.reset.replies = [] ∧ State.reset.events.length < 256
      ∧ ∀ r, r < 64 → State.reset.holdsLock r (word [1] 0) = false)
    ∧ (let s : State := { State.reset with
        inflight := [entry true]
        routine := some ⟨hd2, 0, 0, false, 0, false⟩ };
      s.inflight = entry true :: [] ∧ s.calHeld (entry true).opcode (entry true).payload = false
        ∧ s.commandWaits (entry true).hdr.urgent = false ∧ (entry true).hdr.urgent = true)
    ∧ (let s : State := { State.reset with inflight := [entry false] };
      s.coreUp = true ∧ s.inflight = entry false :: [] ∧ s.calHeld (entry false).opcode (entry false).payload = false ∧ s.urgentWaits = false
        ∧ s.commandWaits (entry false).hdr.urgent = false)
    ∧ (let s : State := { State.reset.set (F.PK_STATUS_CAL_ACTIVE 15) 1 with inflight := [entry true] };
      s.calHeld (entry true).opcode (entry true).payload = true ∧ s.inflight = entry true :: [])
    ∧ ((portAt 2 {}).portOpen 1 = true ∧ (portAt 2 {}).devState ≠ 3 ∧ (portAt 2 {}).grpHeld 1 = false ∧ (portAt 2 {}).grpFrozen 1 = false
      ∧ (0#12).toNat = ((portAt 2 {}).port 1).rxSeq ∧ (0xFFF#12).toNat ≠ ((portAt 2 {}).port 1).rxSeq ∧ (30#5).toNat ≠ (portAt 2 {}).devId ∧ (30#5).toNat ≠ 31
      ∧ (hd.ordered && hd.urgent) = false) := by
  simp only [admits_iff]
  decide +kernel

/-- A routine at microword 65535, committed or not. -/
def routineOf (committed : Bool) : Routine := ⟨hd, 9, 65535, committed, 6, false⟩

/-- It runs for a command in flight, its microword is w, and nanoword 5 is ORDINARY. -/
def microAt (w : Nat) (committed : Bool) : State :=
  { ((flying State.reset 0xF0 []).wr (Region.control.base + 4 * 65535) w).wr (Region.nano.base + 32 * 5 + 16) 0x80000000 with
    routine := some (routineOf committed) }

theorem witness_Microcode :
    State.reset.routine = none
    ∧ (let s := microAt 6 false;
      s.routine = some (routineOf false) ∧ s.coreUp = true ∧ bits (s.microWord 65535) 30 2 = 0 ∧ s.wclass (s.microWord 65535 % 2 ^ 12) ≠ 2)
    ∧ (let s := microAt 5 true;
      bits (s.microWord 65535) 30 2 = 0 ∧ s.wclass (s.microWord 65535 % 2 ^ 12) = 2 ∧ (routineOf true).committed = true)
    ∧ (let s := microAt 5 false;
      s.wclass (s.microWord 65535 % 2 ^ 12) = 2 ∧ (routineOf false).committed = false
        ∧ (s.entryOf hd).map (fun e => (e.hdr, e.suppressed)) = some (hd, false) ∧ s.ends = []
        ∧ hd.session = (routineOf false).hdr.session ∧ hd.tag = (routineOf false).hdr.tag)
    ∧ bits ((microAt (2 ^ 30 + 7) false).microWord 65535) 30 2 = 1
    ∧ bits ((microAt (2 ^ 31) false).microWord 65535) 30 2 = 2
    ∧ bits ((microAt (3 * 2 ^ 30) false).microWord 65535) 30 2 = 3
    ∧ (routineOf false).shielded = false
    ∧ ((microAt 6 false).parked = [] ∧ (microAt 6 false).siteWork = []
      ∧ (let s : State := { microAt (3 * 2 ^ 30) true with ends := [⟨hd, .ok, 0, []⟩] }
        s.ends = [⟨hd, .ok, 0, []⟩] ∧ s.parked = [] ∧ s.siteWork = [] ∧ (s.entryOf hd).map (fun e => (e.hdr, e.suppressed)) = some (hd, false))
      ∧ ({ microAt (3 * 2 ^ 30) false with parked := [routineOf true] } : State).parked = routineOf true :: []) := by
  decide +kernel

/-- A lock with these fields; one with no time left has been found run out. -/
def lockAt (r held owner byRun remain : Nat) : State :=
  { ((((State.reset.set (F.SHP_LOCK_HELD r) held).set (F.SHP_LOCK_OWNER r) owner).set (F.SHP_LOCK_BY_RUN r) byRun).set
    (F.SHP_LOCK_REMAIN_MS r) remain) with leashLen := if remain = 0 then [(r, 65541)] else [(r, 5)] }

theorem witness_LocksAndLeashes :
    (State.reset.leashOut 63 = false ∧ State.reset.Admits 0x70 hd [63, 0] ∧ State.reset.flag (F.SHP_LOCK_HELD 63) = false)
    ∧ (let s := lockAt 63 1 1 0 5;
      s.leashOut 63 = false ∧ s.Admits 0x70 hd [63, 60000] ∧ s.flag (F.SHP_LOCK_HELD 63) = true ∧ s.get (F.SHP_LOCK_OWNER 63) = hd.session.toNat)
    ∧ (let s := lockAt 63 1 2 0 5;
      s.Admits 0x70 hd [63, 0] ∧ s.flag (F.SHP_LOCK_HELD 63) = true ∧ s.get (F.SHP_LOCK_OWNER 63) ≠ hd.session.toNat)
    ∧ ((lockAt 63 1 1 0 5).Admits 0x71 hd [63] ∧ State.reset.Admits 0x71 hd [63])
    ∧ ((lockAt 63 1 1 0 5).Admits 0x72 hd [63] ∧ State.reset.Admits 0x72 hd [63] ∧ (lockAt 63 1 2 0 5).Admits 0x72 hd [63])
    ∧ State.reset.Admits 0x73 hd [63]
    ∧ (let s := lockAt 63 1 1 1 5;
      s.coreUp = true ∧ s.get F.GLB_REST_STATE < 2 ∧ s.leashFrozen = false ∧ s.flag (F.SHP_LOCK_HELD 63) = true
        ∧ s.flag (F.SHP_LOCK_BY_RUN 63) = true ∧ s.flag (F.SHP_LOCK_HELD 0) = false)
    ∧ ((lockAt 63 1 1 0 5).flag (F.SHP_LOCK_BY_RUN 63) = false
      ∧ ({ State.reset with leashFrozen := true } : State).leashFrozen = true
      ∧ 2 ≤ (State.reset.set F.GLB_REST_STATE 2).get F.GLB_REST_STATE)
    ∧ ((lockAt 34 1 1 0 0).leashOut 34 = true ∧ (lockAt 34 1 1 0 0).coreUp = true
      ∧ (lockAt 34 1 1 0 0).routineHolds = false ∧ (lockAt 0 1 1 0 0).routineHolds = false ∧ (microAt 6 true).routineHolds = true)
    ∧ ((lockAt 1 1 1 0 0).leashOut 1 = true ∧ (lockAt 32 1 1 0 0).leashOut 32 = true ∧ (lockAt 1 1 1 0 0).routine = none
      ∧ (lockAt 32 1 1 0 0).psmRange (3 * (32 - 1)) ≠ 5
      ∧ (let s : State := { (lockAt 32 1 1 0 0).set (F.PSM_CTL_RANGE 93) 5 with psms := [(93, { stage := 1 })] }
        s.leashOut 32 = true ∧ s.psmRange (3 * (32 - 1)) = 5 ∧ (s.psm 93).stage = 1 ∧ (s.psm 93).wave = none ∧ (s.psm 93).timed = []
          ∧ (s.psm 93).snap = none ∧ (s.psm 93).meas = none ∧ (s.psm 93).waiters = [] ∧ s.flag (F.PSM_STATUS_SINE_RUN 93) = false))
    ∧ ((lockAt 33 1 1 0 0).leashOut 33 = true ∧ (lockAt 33 1 1 0 0).coreUp = true ∧ (lockAt 33 1 1 0 0).routine = none)
    ∧ (let s : State := { lockAt 63 1 1 0 0 with routine := some (routineOf false) }
      s.leashOut 63 = true ∧ s.routine = some (routineOf false) ∧ (routineOf false).committed = false ∧ (routineOf false).shielded = false)
    ∧ ((lockAt 0 1 1 0 0).leashOut 0 = true ∧ ∀ k, k < 16 → (lockAt 0 1 1 0 0).run k = none) := by
  simp only [admits_iff]
  decide +kernel

/-- A NOTE, a WARN, a STOP and a SAFE message. -/
def noteMsg : FaultMsg := ⟨0, 6, 2, 5, 9⟩
def warnMsg : FaultMsg := ⟨0x180, 7, 4, 5, 9⟩
def stopMsg : FaultMsg := ⟨0x001, 3, 3, 0, 9⟩
def safeMsg : FaultMsg := ⟨0x162, 6, 4, 0, 9⟩
/-- A message whose condition is that of WH7. -/
def wh7Msg : FaultMsg := ⟨0x170, 6, 6, 0, 9⟩

/-- The message waits to be recorded. -/
def faulting (m : FaultMsg) : State := { State.reset with faultIn := [m] }

theorem witness_FaultRecordingAndReactions :
    (State.reset.judgeMsg noteMsg).taken = 0 ∧ (faulting noteMsg).faultIn = [noteMsg] ∧ ¬ (noteMsg.src = 8 ∧ noteMsg.kind = 2)
    ∧ ((faulting warnMsg).judgeMsg warnMsg).taken = 1 ∧ warnMsg.cls < 8 ∧ (faulting warnMsg).devState ≠ 2
    ∧ (faulting warnMsg).histCount < 100 ∧ (faulting warnMsg).events.length < 256
    ∧ (faulting warnMsg).flag F.FLT_STATUS_FIRST_VALID = false
    ∧ ((faulting warnMsg).set F.FLT_STATUS_FIRST_VALID 1).flag F.FLT_STATUS_FIRST_VALID = true
    ∧ (stopMsg ∈ (sentNow (faulting stopMsg).faultIn).1 ∧ ((faulting stopMsg).judgeMsg stopMsg).taken = 3)
    ∧ (safeMsg ∈ (sentNow (faulting safeMsg).faultIn).1 ∧ ((faulting safeMsg).judgeMsg safeMsg).taken = 4)
    ∧ (let s := (State.reset.set F.FLT_STATUS_STATE 2).set (F.LNK_STATUS_STATE 1) 2;
      s.devState = 2 ∧ 2 ≤ s.get (F.LNK_STATUS_STATE 1) ∧ s.get (F.LNK_STATUS_STATE 0) < 2
      ∧ s.flag F.HK_STATUS_TRIP = false ∧ (s.set F.HK_STATUS_TRIP 1).flag F.HK_STATUS_TRIP = true ∧ (s.set F.HK_STATUS_TRIP 1).devState = 2
      ∧ s.vaux = true ∧ s.pwrgood = true ∧ s.flag F.CLK_STATUS_REF_OK = true)
    ∧ State.reset.devState ≠ 2 ∧ State.reset.histDrops = 0 ∧ ({ State.reset with histDrops := 1 } : State).histDrops ≠ 0
    ∧ ((portAt 3 {}).portOpen 1 = true ∧ (portAt 3 {}).grpHeld 1 = false ∧ (portAt 3 {}).grpFrozen 1 = false ∧ (0#12).toNat = ((portAt 3 {}).port 1).rxSeq
      ∧ ((portAt 3 {}).set F.CLK_GRP_CTL_MUZZLE 2).grpHeld 1 = true ∧ (portAt 3 {}).devState ≠ 3 ∧ ((portAt 3 {}).set F.FLT_STATUS_STATE 3).devState = 3 ∧ (0#5).toNat = (portAt 3 {}).devId ∧ (portAt 3 {}).devId ≠ 31 ∧ (portAt 0 {}).portOpen 1 = false
      ∧ (hd.ordered && hd.urgent) = false ∧ ({ hd with ordered := true, urgent := true }.ordered && { hd with ordered := true, urgent := true }.urgent) = true) := by
  decide +kernel

/-- STOPPED by this message. -/
def stoppedBy (m : FaultMsg) : State := { halted with condCauses := [m] }

/-- Unit u is muzzled by this message. -/
def muzzledBy (u : MUnit) (self : Bool) (m : FaultMsg) : State := { State.reset with muzzles := [⟨u, self, [m]⟩] }

theorem witness_ClearStopMakesNormal :
    (let s := stoppedBy warnMsg;
      s.devState = 1 ∧ s.condCauses.any (fun m => Tab.get 0 s.fltPend m.cls != 0) = false
        ∧ (oncePerUnit s.condCauses).any (fun m => (faultBits m).any (fun b => s.flag b)) = false
        ∧ (s.lasting (oncePerUnit s.condCauses)).1 = [])
    ∧ State.reset.devState = 0
    ∧ (let s := { stoppedBy warnMsg with fltPend := [(7, 1)] };
      s.devState = 1 ∧ s.condCauses.any (fun m => Tab.get 0 s.fltPend m.cls != 0) = true)
    ∧ (let s := (stoppedBy stopMsg).set F.HK_STATUS_STOP_ACTIVE 1;
      s.condCauses.any (fun m => Tab.get 0 s.fltPend m.cls != 0) = false
        ∧ (oncePerUnit s.condCauses).any (fun m => (faultBits m).any (fun b => s.flag b)) = true)
    ∧ (let s := { stoppedBy wh7Msg with wh7In := true };
      s.condCauses.any (fun m => Tab.get 0 s.fltPend m.cls != 0) = false
        ∧ (oncePerUnit s.condCauses).any (fun m => (faultBits m).any (fun b => s.flag b)) = false
        ∧ (s.lasting (oncePerUnit s.condCauses)).1 = [wh7Msg]) := by
  decide +kernel

theorem witness_FaultClearsAndMuzzles_muzzles :
    (match unitOf (bits 0x200000 0 4) (bits 0x20000 8 12) with
      | .error .badAddress => true
      | _ => false) = true
    ∧ 8 < bits 9 0 4
    ∧ (match unitOf (bits 0x1FF00 0 4) (bits 0x1FF00 8 12) with
      | .ok (.channel 511) => true
      | _ => false) = true
    ∧ ((muzzledBy (.pack 15) false warnMsg).muzzledSelf (.pack 15) = true ∧ (muzzledBy (.pack 15) false warnMsg).routine = none)
    ∧ (match unitOf (bits 0x907 0 4) (bits 0x907 8 12) with
      | .ok (.linkLane 9) => true
      | _ => false) = true
    ∧ (State.reset.calTasks = [] ∧ ∀ p, p < 16 → State.reset.pass p = none)
    ∧ (∃ m ∈ (muzzledBy (.pack 15) false warnMsg).muzzles, m.unit ≠ .channel 511 ∧ unitWithin (.channel 511) m.unit = true)
    ∧ (∀ m ∈ State.reset.muzzles, unitWithin (.channel 511) m.unit = false)
    ∧ (∀ self, (muzzledBy (.tmu 63) self warnMsg).muzzles.find? (fun m => m.unit == .tmu 63) = some ⟨.tmu 63, self, [warnMsg]⟩
      ∧ ∀ m ∈ (muzzledBy (.tmu 63) self warnMsg).muzzles, m.unit = .tmu 63 ∨ unitWithin (.tmu 63) m.unit = false)
    ∧ (let s := { muzzledBy (.tmu 63) false warnMsg with fltPend := [(7, 1)] };
      [warnMsg].any (fun c => Tab.get 0 s.fltPend c.cls != 0) = true)
    ∧ (let s := muzzledBy (.tmu 63) false warnMsg;
      [warnMsg].any (fun c => Tab.get 0 s.fltPend c.cls != 0) = false ∧ (oncePerUnit [warnMsg]).any (fun c => (faultBits c).any (fun b => s.flag b)) = false
        ∧ (s.lasting (oncePerUnit [warnMsg])).1 = [] ∧ (s.psm 95).goHeld = 0) := by
  decide +kernel

theorem witness_ClocksAndResetGroups_monitors :
    (∃ f : Fin 2 → Nat, f 0 = 45000 ∧ f 1 = 55000 ∧ ∀ i, 45000 ≤ f i ∧ f i ≤ 55000)
    ∧ ((44999 < 45000 ∨ 55000 < 44999) ∧ (55001 < 45000 ∨ 55000 < 55001))
    ∧ State.reset.flag F.CLK_STATUS_UNLOCK_SEEN = false := by
  refine ⟨⟨fun i => if i = 0 then 45000 else 55000, ?_⟩, ?_, ?_⟩ <;> decide +kernel

/-- Groups 0 and 5 with their clocks, drained and muzzled, and group 1 muzzled alone. -/
def drained : State := ((State.reset.set F.CLK_GRP_CTL_MUZZLE 0x23).set F.CLK_GRP_STATUS_DRAINED 0x21).set
  F.CLK_GRP_STATUS_CLOCK_PRESENT 0x21

theorem witness_ClocksAndResetGroups_groups :
    (1 < 6 ∧ bit (0x22#6).toNat 1 = true
      ∧ (bit (drained.get F.CLK_GRP_CTL_MUZZLE) 1 = false ∨ bit (drained.get F.CLK_GRP_STATUS_DRAINED) 1 = false))
    ∧ (∀ g, g < 6 → bit (0x21#6).toNat g = true →
        bit (drained.get F.CLK_GRP_CTL_MUZZLE) g = true ∧ bit (drained.get F.CLK_GRP_STATUS_DRAINED) g = true)
    ∧ bit (0x21#6).toNat 5 = true ∧ bit (0x01#6).toNat 5 = false
    ∧ (∀ g, g < 6 → bit (0x21#6).toNat g = true → bit (drained.get F.CLK_GRP_STATUS_CLOCK_PRESENT) g = true) := by
  decide +kernel

/-- Requests on pseudo-channel 0: of requester 43 at the edges of a granule, and of requester 0 past the end. -/
def requests : List MpaReq := [⟨43, 64, 3, 0⟩, ⟨16, 0, 4, 0⟩, ⟨0, 2 ^ 35, 1, 0⟩]

/-- Requester r holds pseudo-channel 0 for two bursts, some of them moved. -/
def holding (r : Fin 44) (moved : Nat) : State := { State.reset with mpaHold := [(0, some ⟨⟨r, 0, 2, 2⟩, moved⟩)] }

theorem witness_ArbitrationAndTables_arbitration :
    (let s := State.reset;
      s.coreUp = true ∧ s.classSwap = none ∧ s.flag F.MPA_CTL = false ∧ s.pcClosed 0 = false ∧ s.waiterOf 0 = none
        ∧ (requests.map (fun x => x.requester)).Nodup ∧ s.holderOf 0 = none ∧ ∃ x ∈ requests, s.mpaValid 0 x = true)
    ∧ (let s := holding 40 0;
      s.coreUp = true ∧ s.classSwap = none ∧ s.flag F.MPA_CTL = false ∧ s.pcClosed 0 = false ∧ s.waiterOf 0 = none ∧ s.holderOf 0 ≠ none
        ∧ ∃ x ∈ requests, s.mpaValid 0 x = true)
    ∧ (∀ n, n < 2 → (holding 16 n).holderOf 0 = some ⟨⟨16, 0, 2, 2⟩, n⟩ ∧ 16 ≤ (16 : Fin 44).val ∧ (holding 16 n).classSwap = none)
    ∧ (bit 2 0 = false ∧ 0 + 1 < 2 ∧ bit 0 1 = false ∧ 2 ≤ 1 + 1)
    ∧ (let s := State.reset.set F.MPA_CTL 1;
      s.coreUp = true ∧ s.flag F.MPA_CTL = true ∧ s.pcClosed 31 = false ∧ s.classSwap = none)
    ∧ (let s : State := { holding 16 0 with mpaWait := [(0, some ⟨40, 64, 1, 0⟩)] };
      s.waiterOf 0 ≠ none ∧ s.classSwap = none ∧ s.pcClosed 0 = false ∧ s.coreUp = true)
    ∧ State.reset.holderOf 31 = none
    ∧ ((holding 39 0).holderOf 0 = some ⟨⟨39, 0, 2, 2⟩, 0⟩ ∧ (holding 40 0).holderOf 0 = some ⟨⟨40, 0, 2, 2⟩, 0⟩ ∧ 40 ≤ (40 : Fin 44).val
      ∧ 40 ≤ (43 : Fin 44).val ∧ (holding 40 0).flag F.MPA_STATUS_WDOG_BITE = false) := by
  decide +kernel

theorem witness_ArbitrationAndTables_swaps :
    (let s : State := { State.reset with classSwap := some 0 };
      s.classSwap = some s.time ∧ s.coreUp = true ∧ s.holderOf 0 = none ∧ s.waiterOf 0 = none ∧ State.reset.classSwap = none)
    ∧ (State.reset.set (slotPend 1) 1).flag (slotPend 1) = true
    ∧ (let s := State.reset.wr (slotSh 1 + 60) 0x14000000;
      s.flag (slotPend 1) = false ∧ s.egressBad 1 = true)
    ∧ ((portAt 2 {}).flag (slotPend 1) = false ∧ (portAt 2 {}).egressBad 1 = false ∧ (portAt 2 {}).get (F.LNK_STATUS_STATE 1) = 2
      ∧ (portAt 3 {}).get (F.LNK_STATUS_STATE 1) = 3)
    ∧ ((portAt 1 {}).flag (slotPend 1) = false ∧ (portAt 1 {}).egressBad 1 = false ∧ (portAt 1 {}).get (F.LNK_STATUS_STATE 1) ≠ 2
      ∧ (portAt 1 {}).get (F.LNK_STATUS_STATE 1) ≠ 3) := by
  decide +kernel

/-- A copy's registers: DRAM, MRAM and length in units of 64 bytes. -/
def copying (d m n : Nat) : State := ((State.reset.wr R.MRM_DRAM d).wr R.MRM_OFFSET m).wr R.MRM_LEN n

theorem witness_MramCopies :
    ((copying 0 0 1).set F.MRM_STATUS_BUSY 1).flag F.MRM_STATUS_BUSY = true
    ∧ (bit (2#32).toNat 0 = false ∧ bit (1#32).toNat 0 = true ∧ bit (3#32).toNat 1 = true ∧ (copying 0 0 0).mrmRange.2.2 = 0)
    ∧ ((copying (2 ^ 29 - 1) 0 2).mrmRange = (2 ^ 35 - 64, 0, 128) ∧ (copying 0 (2 ^ 20 - 1) 2).mrmRange = (0, 2 ^ 26 - 64, 128)
      ∧ (copying 0 (0x500000 / 64 - 1) 1).mrmRange = (0, 0x4FFFC0, 64) ∧ mramWritable 0x4FFFC0 64 = false)
    ∧ ((copying (2 ^ 29 - 1) (2 ^ 20 - 1) 1).mrmRange = (2 ^ 35 - 64, 2 ^ 26 - 64, 64) ∧ mramWritable (2 ^ 26 - 64) 64 = true)
    ∧ (let s := muzzling (copying 0 (2 ^ 20 - 1) 1) (.pc 0);
      s.flag F.MRM_STATUS_BUSY = false ∧ s.touchesMuzzledPc 0 64 = true)
    ∧ (let s : State := { copying 0 (2 ^ 20 - 1) 1 with fences := 2 ^ 40 };
      s.flag F.MRM_STATUS_BUSY = false ∧ s.touchesMuzzledPc 0 64 = false ∧ bit s.fences 40 = true)
    ∧ (let s := copying (2 ^ 29 - 1) (2 ^ 20 - 1) 1;
      s.flag F.MRM_STATUS_BUSY = false ∧ s.touchesMuzzledPc (2 ^ 35 - 64) 64 = false ∧ bit s.fences 40 = false)
    ∧ (∀ d, d < 2 → (let s := ((copying (2 ^ 29 - 1) (2 ^ 20 - 1) 1).set F.MRM_STATUS_BUSY 1).set F.MRM_CTL_DIR d;
      (2 ^ 35 - 64, 2 ^ 26 - 64, 64) = s.mrmRange ∧ s.flag F.MRM_STATUS_BUSY = true ∧ s.coreUp = true
        ∧ s.touchesMuzzledPc (2 ^ 35 - 64) 64 = false ∧ bit s.fences 40 = false ∧ s.frozen = false ∧ 2 ^ 35 - 64 + 64 ≤ 2 ^ 35 ∧ s.flag F.MRM_CTL_DIR = (d != 0)))
    ∧ (let s : State := { (copying 0 (2 ^ 20 - 1) 1).set F.MRM_STATUS_BUSY 1 with fences := 2 ^ 40 };
      s.flag F.MRM_STATUS_BUSY = true ∧ s.coreUp = true ∧ bit s.fences 40 = true)
    ∧ (let s := muzzling ((copying 0 (2 ^ 20 - 1) 1).set F.MRM_STATUS_BUSY 1) (.pc 0);
      s.flag F.MRM_STATUS_BUSY = true ∧ s.coreUp = true ∧ s.touchesMuzzledPc 0 64 = true)
    ∧ (let s := ((copying (2 ^ 29 - 1) (2 ^ 20 - 1) 1).set F.MRM_STATUS_BUSY 1).set F.MPA_CTL 1;
      (2 ^ 35 - 64, 2 ^ 26 - 64, 64) = s.mrmRange ∧ s.touchesMuzzledPc (2 ^ 35 - 64) 64 = false ∧ bit s.fences 40 = false ∧ s.frozen = true)
    ∧ (State.reset.flag F.MRM_STATUS_BUSY = false ∧ State.reset.coreUp = true) := by
  decide +kernel

theorem stepDue_iff (s : State) (r kind : Nat) (x : Run) (i : Nat) (sites : List Nat) :
    s.StepDue r kind x i sites ↔ (s.run r = some x ∧ x.nextStep = some (i, sites) ∧ s.coreUp = true
      ∧ s.stepKind x.image i = kind ∧ i < s.stepCount x.image ∧ sites ≠ []
      ∧ (kind = 0 ∨ bit (s.stepWord x.image i 0) 8 = false ∨ ∀ j ∈ sites, s.get (F.SHP_SITE_CTL_BIN j) = 0)) :=
  ⟨fun h => ⟨h.run, h.next, h.core, h.due, h.within, h.any, h.plain⟩, fun ⟨a, b, c, d, e, f, g⟩ => ⟨a, b, c, d, e, f, g⟩⟩

/-- Words put into the flow-table store at these offsets; the image at 0 has one step, its table at 64. -/
def flowed (ws : List (Nat × Nat)) : State :=
  ws.foldl (fun s w => s.wr (Region.flow.base + w.1) w.2) ((State.reset.wr (Region.flow.base + 12) 64).wr (Region.flow.base + 8) 1)

/-- A run of flow 15 whose members stand at these steps. -/
def runOn (members : List (Nat × Nat)) : Run :=
  { id := 7, flow := 15, image := 0, hdr := hd, first := 0, count := 1024, members := members, anyActive := true }

/-- Run 15 is of the flow at offset 0. -/
def running (ws : List (Nat × Nat)) (x : Run) : State := { flowed ws with runs := [(15, some x)] }

theorem noMaps_one (s : State) (r : Nat) (x : Run) (h : s.runs = [(r, some x)]) (hx : x.saved = []) : s.NoMapsSaved := by
  intro k y hk
  simp only [State.run, h, Tab.get] at hk
  split at hk
  · exact Option.some.inj hk ▸ hx
  · simp at hk

theorem noRun_reset (k : Nat) : State.reset.run k = none := rfl

/-- A flow image of one END step in the last bytes of the store, but for its CRC. -/
def imageEnd : State :=
  [(0, 0x464C5731), (4, 1), (8, 1), (12, 64), (16, 96), (24, 96), (28, 128), (60, 0x5EA1ED03), (76, 0xFFF)].foldl
    (fun s w => s.wr (Region.flow.base + (0x80000 - 128) + w.1) w.2) State.reset

/-- The whole image. -/
def imageFlow : State := imageEnd.wr (Region.flow.base + (0x80000 - 128) + 56) (imageEnd.flowCrc (0x80000 - 128))

/-- Flow 15 is loaded. -/
def flowLoaded : State := State.reset.set (F.SHP_FLOW_LOADED 15) 1

theorem witness_FlowCommands :
    (flowLoaded.Admits 0x20 hd [15, 0x1FFE] ∧ flowLoaded.flag (F.SHP_FLOW_LOADED 15) = true)
    ∧ (State.reset.Admits 0x20 hd [15, 0x1FFF] ∧ State.reset.flag (F.SHP_FLOW_LOADED 15) = false
      ∧ State.reset.flowRefused (64 * 0x1FFF) = some .badLength)
    ∧ (imageFlow.Admits 0x20 hd [15, 0x1FFE] ∧ imageFlow.flag (F.SHP_FLOW_LOADED 15) = false ∧ imageFlow.flowRefused (64 * 0x1FFE) = none)
    ∧ ((running [] (runOn [])).Admits 0x21 hd [15] ∧ (running [] (runOn [])).flowInUse 15 = true
      ∧ flowLoaded.Admits 0x21 hd [15] ∧ flowLoaded.flowInUse 15 = false)
    ∧ (State.reset.Admits 0x22 hd [15, 1023, 0] ∧ State.reset.Admits 0x22 hd [15, 1023, 1] ∧ halted.Admits 0x22 hd [15, 1023, 1]
      ∧ halted.stopped = true ∧ State.reset.flag (F.SHP_FLOW_LOADED 15) = false)
    ∧ (let s := flowLoaded.set (F.SHP_SITE_CTL_STATE 1023) 1;
      s.Admits 0x22 hd [15, 1023, 1] ∧ s.stopped = false ∧ s.flag (F.SHP_FLOW_LOADED 15) = true ∧ s.siteActive 1023 = true)
    ∧ (let s : State := { flowLoaded with runs := (List.range 16).map (fun r => (r, some (runOn []))) };
      s.Admits 0x22 hd [15, 1023, 1] ∧ ∀ r, r < 16 → s.run r ≠ none)
    ∧ (let s : State := { flowLoaded.set (F.SHP_SITE_CTL_STATE 1022) 4 with runs := (List.range 15).map (fun r => (r, some (runOn []))) };
      s.Admits 0x22 hd [15, 1022, 2] ∧ s.stopped = false ∧ s.flag (F.SHP_FLOW_LOADED 15) = true ∧ (∀ k, k < 15 → s.run k ≠ none)
        ∧ s.run 15 = none ∧ (∀ i ∈ siteRange 1022 2, s.siteActive i = false) ∧ ∃ i ∈ siteRange 1022 2, s.siteState i ≠ 4 ∧ s.markOf i = 0) := by
  simp only [admits_iff]
  decide +kernel

theorem witness_SiteCommands :
    (State.reset.Admits 0x24 hd [1023, 1] ∧ State.reset.Admits 0x25 hd [1023, 1] ∧ State.reset.Admits 0x26 hd [1023]
      ∧ State.reset.Admits 0x23 hd [1023, 1])
    ∧ (State.reset.siteActive 1023 = false ∧ Tab.get none State.reset.lastFlow 1023 = none)
    ∧ (let s := State.reset.set (F.SHP_SITE_CTL_STATE 1023) 1;
      s.Admits 0x25 hd [1022, 2] ∧ s.siteActive 1023 = true)
    ∧ ((running [] (runOn [(1023, 0)])).Admits 0x23 hd [1023, 1] ∧ (runOn [(1023, 0)]).step = none) := by
  simp only [admits_iff]
  decide +kernel

theorem witness_SiteCommands_runs :
    State.reset.NoMapsSaved ∧ (running [] (runOn [(1023, 0)])).NoMapsSaved ∧ (∀ k, State.reset.run k = none)
    ∧ (∀ k x, State.reset.run k = some x → x.step = none) :=
  ⟨fun k y h => by simp [noRun_reset] at h, noMaps_one _ 15 _ rfl rfl, noRun_reset, fun k y h => by simp [noRun_reset] at h⟩

/-- One site at step 0, which is of this kind, with words 3 and 4 of the step. -/
def stepAt (kind w3 w4 : Nat) : State := running [(64, kind), (76, w3), (80, w4)] (runOn [(1023, 0)])

/-- Channel 511 is the ROLE SITE channel of site 1023 at byte 31. -/
def channelled (s : State) : State :=
  ((s.set (F.PK_CHMAP_ROLE 15 31) 1).set (F.PK_CHMAP_SITE 15 31) 1023).set (F.PK_CHMAP_SRC 15 31) 31

/-- PSM 95 serves site 1023. -/
def supplied (s : State) : State := s.wr (R.PK_PSMMAP 15 5) (1023 + 1023 * 2 ^ 10 + 2 ^ 31)

theorem witness_FlowStepsBegin :
    (∀ k ∈ [6, 7, 9, 4, 10], (stepAt k 0xFFF 0).StepDue 15 k (runOn [(1023, 0)]) 0 [1023])
    ∧ ((stepAt 6 0xFFF 0).stepLimit 0 0 = none ∧ (stepAt 6 0xFFE 0).StepDue 15 6 (runOn [(1023, 0)]) 0 [1023]
      ∧ (stepAt 6 0xFFE 0).stepLimit 0 0 = some 0xFFE) := by
  simp only [stepDue_iff]
  decide +kernel

theorem witness_FlowStepsBegin_pattern :
    (let s := { (stepAt 1 0 0x8000).set (F.SEQ_STATUS_LOADED 15) 1 with seqs := loaded.seqs };
      s.StepDue 15 1 (runOn [(1023, 0)]) 0 [1023] ∧ s.startCheck [15] 0 = some .badAddress ∧ s.runById 7 = some 15
        ∧ packsOf (s.stepWord 0 0 4 % 2 ^ 16) = [15]
        ∧ (s.set (F.SEQ_IMAGE_SEG_COUNT 15) 1).StepDue 15 1 (runOn [(1023, 0)]) 0 [1023]
        ∧ (s.set (F.SEQ_IMAGE_SEG_COUNT 15) 1).startCheck [15] 0 = none
        ∧ ((s.set (F.SEQ_IMAGE_SEG_COUNT 15) 1).set (F.PK_STATUS_SEQ_RUN 15) 1).StepDue 15 1 (runOn [(1023, 0)]) 0 [1023]
        ∧ ((s.set (F.SEQ_IMAGE_SEG_COUNT 15) 1).set (F.PK_STATUS_SEQ_RUN 15) 1).startCheck [15] 0 = some .busy) := by
  simp only [stepDue_iff]
  decide +kernel

theorem witness_FlowStepsBegin_pmu :
    (let s := channelled (stepAt 2 0x1F0000 0);
      s.StepDue 15 2 (runOn [(1023, 0)]) 0 [1023] ∧ s.siteChannel 1023 31 = some 511 ∧ s.seqRun (511 / 32) = false ∧ s.pmuBusy 511 = false
        ∧ (s.set (F.CH_PMU_CTL_BUSY 511) 1).StepDue 15 2 (runOn [(1023, 0)]) 0 [1023]
        ∧ (s.set (F.CH_PMU_CTL_BUSY 511) 1).siteChannel 1023 31 = some 511 ∧ (s.set (F.CH_PMU_CTL_BUSY 511) 1).pmuBusy 511 = true) := by
  simp only [stepDue_iff]
  decide +kernel

theorem witness_FlowStepsBegin_psm :
    (let s := supplied (stepAt 3 0x50000 0)
      let b : State := { s with psms := [(95, { waiters := [.run 3 0] })] };
      s.StepDue 15 3 (runOn [(1023, 0)]) 0 [1023] ∧ s.stepPsms (bits (s.stepWord 0 0 3) 16 3) [1023] = [95]
        ∧ (s.psm 95).waiters = [] ∧ (s.psm 95).meas = none ∧ s.psmMuzzled 95 = false
        ∧ b.StepDue 15 3 (runOn [(1023, 0)]) 0 [1023] ∧ b.stepPsms (bits (b.stepWord 0 0 3) 16 3) [1023] = [95] ∧ (b.psm 95).waiters ≠ []) := by
  simp only [stepDue_iff]
  decide +kernel

theorem witness_FlowStepsBegin_ae :
    (let s : State := { stepAt 5 0 0 with muzzles := (List.range 8).map (fun c => ⟨.ae c, false, []⟩) };
      s.StepDue 15 5 (runOn [(1023, 0)]) 0 [1023] ∧ ∀ c, c < 8 → s.aeAble c = false)
    ∧ ((stepAt 5 0 0).StepDue 15 5 (runOn [(1023, 0)]) 0 [1023] ∧ (stepAt 5 0 0).aeAble 7 = true ∧ bit ((stepAt 5 0 0).stepWord 0 0 4) 0 = false
      ∧ (stepAt 5 0 1).StepDue 15 5 (runOn [(1023, 0)]) 0 [1023] ∧ (stepAt 5 0 1).aeAble 7 = true ∧ bit ((stepAt 5 0 1).stepWord 0 0 4) 0 = true) := by
  simp only [stepDue_iff]
  decide +kernel

theorem witness_FlowStepsBegin_end :
    ((stepAt 0 0 0).StepDue 15 0 (runOn [(1023, 0)]) 0 [1023]
      ∧ (stepAt 0 0 0).get (F.SHP_SITE_CTL_BIN 1023) = 0
      ∧ ((stepAt 0 0 0).set (F.SHP_SITE_CTL_BIN 1023) 9).StepDue 15 0 (runOn [(1023, 0)]) 0 [1023]) := by
  simp only [stepDue_iff]
  decide +kernel

theorem witness_FlowStepsBegin_maps : (stepAt 0 0 0).NoMapsSaved := noMaps_one _ 15 _ rfl rfl

/-- Run 15 in step 0 of this state, for site 1023. -/
def inStep (s : State) : State :=
  { s with runs := [(15, some ((runOn [(1023, 0)]).begun 0 [1023]))] }

/-- The run. -/
def begunRun : Run := (runOn [(1023, 0)]).begun 0 [1023]

/-- What the writes of a PMU step leave. -/
def pmuDone (s : State) (c : Nat) : State × Option Status :=
  runWrites [fun t => t.guarded (R.CH_PMU_CTL 511) (writePmuCtl 511 c),
    fun t => t.guarded (R.CH_PMU_FORCE 511) (writePmuForce 511 (s.stepWord 0 0 5)),
    fun t => t.guarded (R.CH_PMU_CLAMP 511) (writePmuClamp 511 (s.stepWord 0 0 6)),
    fun t => t.guarded (R.CH_PMU_MEAS 511) (fun v => .ok (v.store (R.CH_PMU_MEAS 511) (s.stepWord 0 0 7))),
    fun t => t.guarded (R.CH_PMU_CTL 511) (writePmuCtl 511 (setBits c 8 1 1))] s

/-- A PMU step whose words the channel takes. -/
def pmuStepState : State :=
  inStep (channelled (running [(64, 2), (76, 0x1F0000), (80, 2), (84, 0x4E20), (88, 0x4E200BB8), (92, 1)] (runOn [(1023, 0)])))

/-- A TMU step over channels 511 and n. -/
def tmuStepState (n : Nat) : State :=
  let s := channelled (inStep (stepAt 4 (0x1F0000 + 30 * 2 ^ 21) 0))
  ((s.set (F.PK_CHMAP_ROLE (n / 32) (n % 32)) 1).set (F.PK_CHMAP_SITE (n / 32) (n % 32)) 1023).set (F.PK_CHMAP_SRC (n / 32) (n % 32)) 30

/-- What a request of a repair step is answered, and what run 15 then is. -/
def raAnswer (s : State) (v : Nat) : Option (Option Status) :=
  match s.guarded (R.RA_REQ 15) (writeRaReq 15 v) with
  | .ok _ => some none
  | .error st => some (some st)
def raRun (s : State) (v : Nat) : Option Run :=
  match s.guarded (R.RA_REQ 15) (writeRaReq 15 v) with
  | .ok t => t.run 15
  | .error _ => none

theorem witness_FlowStepsServe :
    ((inStep (stepAt 2 0x1F0000 0)).run 15 = some begunRun ∧ (inStep (stepAt 2 0x1F0000 0)).siteChannel 1023 31 = none)
    ∧ (let s := pmuStepState
      let c := setBits (s.stepWord 0 0 4) 8 1 0;
      s.run 15 = some begunRun ∧ s.siteChannel 1023 (bits (s.stepWord 0 0 3) 16 5) = some 511
        ∧ (pmuDone s c).2 = none ∧ (pmuDone s c).1.run 15 = some begunRun ∧ (pmuDone s c).1.pmuBusy 511 = true)
    ∧ (let s := tmuStepState 0;
      s.run 15 = some begunRun ∧ s.siteChannel 1023 (bits (s.stepWord 0 0 3) 16 5) = some 511
        ∧ s.siteChannel 1023 (bits (s.stepWord 0 0 3) 21 5) = some 0)
    ∧ (let s : State := { tmuStepState 510 with muzzles := (List.range 4).map (fun k => ⟨.tmu (60 + k), false, []⟩) };
      s.siteChannel 1023 (bits (s.stepWord 0 0 3) 16 5) = some 511 ∧ s.siteChannel 1023 (bits (s.stepWord 0 0 3) 21 5) = some 510
        ∧ ∀ k, k < 4 → s.tmuMuzzled (4 * (511 / 32) + k) = true)
    ∧ (let s := (List.range 4).foldl (fun (s : State) k => s.set (F.TMU_STATUS_BUSY (60 + k)) 1) (tmuStepState 510);
      s.tmuMuzzled 63 = false ∧ s.idleTmu 15 = none)
    ∧ (let s := tmuStepState 510
      let w := runWrites ((tmuImages 60 (s.tmuStepImages begunRun 0 60 511 510)).take 5
          ++ [fun v => v.guarded (R.TMU_GO 60) (writeTmuGo 60 1 (some (.run begunRun.id 60)))]) s;
      s.idleTmu 15 = some 60 ∧ w.2 = none ∧ w.1.run 15 = some begunRun)
    ∧ (let s := (inStep (stepAt 10 0 15)).set (F.RA_SOL_STRIDE 15) 0x1000
      let v := 1023 + 2 ^ 11;
      raAnswer s v = some none ∧ raRun s v = some begunRun
        ∧ raAnswer { s with apgs := [(15, { queue := List.replicate 64 request })] } v = some (some .busy)
        ∧ raAnswer (muzzling s (.pack 15)) v = some (some .muzzled)) := by
  decide +kernel

/-- The step has done its work with this verdict, its words 1 and 2 being these; step i of kind 9. -/
def stepDone (w1 w2 : Nat) (v : Verdict) : State :=
  { flowed [(64, 9 + 5 * 2 ^ 16), (68, w1), (72, w2)] with
    runs := [(15, some { begunRun with
      todo := []
      verdicts := [(1023, v)] })] }

/-- Its run. -/
def doneRun (v : Verdict) : Run := { begunRun with
  todo := []
  verdicts := [(1023, v)] }

theorem witness_FlowStepsEnd :
    (∀ v ∈ [Verdict.pass, .fail, .marginal, .noData],
      (stepDone 0 0 v).run 15 = some (doneRun v) ∧ (doneRun v).step = some 0 ∧ (doneRun v).todo = [] ∧ (doneRun v).results = []
        ∧ (stepDone 0 0 v).coreUp = true ∧ (stepDone 0 0 v).routine = none ∧ (doneRun v).busy = [] ∧ (doneRun v).standing = [1023])
    ∧ (let s : State := { stepDone 0 0 .pass with runs := [(15, some { doneRun .pass with busy := [(1023, 0)] })] };
      s.run 15 = some { doneRun .pass with busy := [(1023, 0)] })
    ∧ (∀ a, a < 6 → (stepDone (a + 16 * 3) 0 .pass).stepAction 0 0 (worstVerdict (((doneRun .pass).verdicts.filter (fun v => v.1 == 1023)).map (·.2))) = (a, 3)
      ∧ (stepDone ((a + 16 * 3) * 2 ^ 16) 0 .fail).stepAction 0 0 (worstVerdict (((doneRun .fail).verdicts.filter (fun v => v.1 == 1023)).map (·.2))) = (a, 3))
    ∧ (let s := (stepDone 2 0 .pass).wr (Region.flow.base + 4) 0x10000;
      s.get (F.SHP_SITE_FLOW_RETEST_COUNT 1023) < s.retestMax 0)
    ∧ ((stepDone 2 0 .pass).retestMax 0 ≤ (stepDone 2 0 .pass).get (F.SHP_SITE_FLOW_RETEST_COUNT 1023))
    ∧ State.reset.run 15 = none
    ∧ ((running [] (runOn [])).run 15 = some (runOn []) ∧ (runOn []).step = none) := by
  decide +kernel

theorem witness_FlowStepsEnd_maps : (stepDone 0 0 .pass).NoMapsSaved := noMaps_one _ 15 _ rfl rfl

/-- A run in a MUX step of one position, before position k. -/
def muxRun (k : Nat) (todo : List Nat) : Run := { runOn [(1023, 0)] with
  mux := some (0, k)
  muxTodo := todo }

/-- The position connects site 1023 on pack 15 with these of its PSMs, and drives ball 15. -/
def muxStateWith (psms k : Nat) (todo : List Nat) : State :=
  running [(64, 8), (76, 0x10FFF), (24, 128), (128, 0x80008000), (132, 1023 + 15 * 2 ^ 10), (140, psms)] (muxRun k todo)

/-- The same with no PSM. -/
def muxState (k : Nat) (todo : List Nat) : State := muxStateWith 0 k todo

theorem witness_MuxSteps :
    (let s := running [(64, 8), (76, 0x10FFF), (24, 128)] (runOn [(1023, 0)]);
      s.StepDue 15 8 (runOn [(1023, 0)]) 0 [1023] ∧ (runOn [(1023, 0)]).mux = none ∧ s.leashOut 0 = false ∧ s.flag (F.SHP_LOCK_HELD 0) = false)
    ∧ (let s := ((running [(64, 8), (76, 0x10FFF), (24, 128)] (runOn [(1023, 0)])).set (F.SHP_LOCK_HELD 0) 1).set (F.SHP_LOCK_REMAIN_MS 0) 5;
      s.StepDue 15 8 (runOn [(1023, 0)]) 0 [1023] ∧ s.leashOut 0 = false ∧ s.flag (F.SHP_LOCK_HELD 0) = true
        ∧ s.get (F.SHP_LOCK_OWNER 0) ≠ (runOn [(1023, 0)]).hdr.session.toNat)
    ∧ (let s := muxState 1 [];
      s.run 15 = some (muxRun 1 []) ∧ s.muxCount 0 0 ≤ 1 ∧ (muxRun 1 []).muxTodo = [] ∧ (muxRun 1 []).saved = []
        ∧ Tab.get none { s with lockRun := [(0, some 15)] }.lockRun 0 = some 15) := by
  simp only [stepDue_iff]
  decide +kernel

theorem witness_MuxSteps_positions :
    (let s := ((running [(64, 8), (76, 0x10FFF), (24, 128)] (runOn [(1023, 0)])).set (F.SHP_LOCK_HELD 0) 1).set (F.SHP_LOCK_OWNER 0) 1;
      s.StepDue 15 8 (runOn [(1023, 0)]) 0 [1023] ∧ s.leashOut 0 = false ∧ s.flag (F.SHP_LOCK_HELD 0) = true
        ∧ s.get (F.SHP_LOCK_OWNER 0) = (runOn [(1023, 0)]).hdr.session.toNat ∧ Tab.get none s.lockRun 0 = none)
    ∧ (let s := muzzling ((muxStateWith 0x3F 0 [1023]).set (F.SHP_SITE_CTL_STATE 1023) 1) (.psm 95);
      s.run 15 = some (muxRun 0 [1023]) ∧ s.muxReady 0 0 0 = true ∧ (s.muxUnits 0 0 0).2.any (fun n => s.psmMuzzled n) = true
        ∧ s.muxWord 0 0 0 1 % 2 ^ 10 = 1023 ∧ (1023, 0) ∈ (muxRun 0 [1023]).members ∧ s.siteActive 1023 = true)
    ∧ (muxState 0 [1023]).leashOut 0 = false
    ∧ ((muxState 0 [1023]).muxUnits 0 0 0).2.any (fun n => (muxState 0 [1023]).psmMuzzled n) = false
    ∧ (let s := muxState 0 [1023];
      s.run 15 = some (muxRun 0 [1023]) ∧ (muxRun 0 [1023]).mux = some (0, 0) ∧ (muxRun 0 [1023]).muxSite = none ∧ (muxRun 0 [1023]).step = none
        ∧ s.coreUp = true ∧ 0 < s.muxCount 0 0 ∧ s.muxReady 0 0 0 = true
        ∧ (muxRun 0 [1023]).muxTodo.contains (s.muxWord 0 0 0 1 % 2 ^ 10) = true
        ∧ (s.set (F.PK_STATUS_SEQ_RUN 15) 1).run 15 = some (muxRun 0 [1023]) ∧ (s.set (F.PK_STATUS_SEQ_RUN 15) 1).muxReady 0 0 0 = false) := by
  simp only [stepDue_iff]
  decide +kernel

theorem witness_MuxSteps_maps : (muzzling ((muxStateWith 0x3F 0 [1023]).set (F.SHP_SITE_CTL_STATE 1023) 1) (.psm 95)).NoMapsSaved :=
  noMaps_one _ 15 _ rfl rfl

theorem witness_DiodeReadings :
    (State.reset.hkCompat = false ∧ State.reset.devState ≠ 3 ∧ (State.reset.set F.FLT_STATUS_STATE 3).devState = 3
      ∧ (State.reset.set F.HK_CTL_XCHECK_EN 0).devState ≠ 3 ∧ (State.reset.set F.HK_CTL_XCHECK_EN 1).devState ≠ 3
      ∧ (State.reset.set F.HK_CTL_COMPAT 1).devState ≠ 3 ∧ (State.reset.set F.HK_CTL_XCHECK_EN 0).flag F.HK_CTL_XCHECK_EN = false
      ∧ (State.reset.set F.HK_CTL_XCHECK_EN 0).get F.HK_STATUS_BROKEN = 0 ∧ (State.reset.set F.HK_CTL_XCHECK_EN 0).hkCompat = false
      ∧ 1600 ≤ (1600#16).toInt ∧ 2000 ≤ (2000#16).toInt ∧ (∀ i, i < 5 → bit (Tab.get 0 State.reset.hkFired i) 0 = false)
      ∧ (∀ p, p < 16 → (State.reset.set (F.TIM_CTL_DRIFT_EN p) 0).flag (F.TIM_CTL_DRIFT_EN p) = false))
    ∧ ((State.reset.set F.HK_CTL_XCHECK_EN 1).flag F.HK_CTL_XCHECK_EN = true ∧ (State.reset.set F.HK_CTL_XCHECK_EN 1).diodeOk 4 = true
      ∧ (BitVec.ofInt 16 (-881)).toInt < -880 ∧ 2400 < (2401#16).toInt)
    ∧ (95 ≤ (95#8).toInt ∧ (94#8).toInt < 95 ∧ (∀ d, d < 2 → bit (Tab.get 0 State.reset.hkFired (8 + d)) 6 = false))
    ∧ ({ State.reset with hkCompat := true } : State).hkCompat = true
    ∧ (State.reset.flag F.HK_CTL_COMPAT = false)
    ∧ ((State.reset.set F.HK_CTL_COMPAT 1).flag F.HK_CTL_COMPAT = true ∧ State.reset.hkRound < 5 ∧ State.reset.hkRound ≠ 63
      ∧ (∀ r ∈ [4, 5, 13, 16, 63], ({ State.reset with
          hkCompat := true
          hkRound := r } : State).hkRound = r)) := by
  decide +kernel

/-- Drift monitoring is off in every pack. -/
def noDrift : State := (List.range 16).foldl (fun s p => s.set (F.TIM_CTL_DRIFT_EN p) 0) (State.reset.set F.HK_CTL_XCHECK_EN 0)

theorem witness_DiodeReadings_drift :
    noDrift.hkCompat = false ∧ noDrift.devState ≠ 3 ∧ noDrift.flag F.HK_CTL_XCHECK_EN = false ∧ noDrift.get F.HK_STATUS_BROKEN = 0
      ∧ ∀ p, p < 16 → noDrift.flag (F.TIM_CTL_DRIFT_EN p) = false := by
  decide +kernel

theorem witness_PowerAndSupplies_losses :
    (∀ n, n < 96 → (State.reset.psm n).stage = 0)
    ∧ bit (State.reset.get F.GLB_AVAIL_PFE_AVAIL) 3 = true
    ∧ bit ((State.reset.set F.GLB_AVAIL_PFE_AVAIL 7).get F.GLB_AVAIL_PFE_AVAIL) 3 = false
    ∧ (8 : Fin 9).val ≠ 0 := by
  decide +kernel

theorem witness_PowerAndSupplies_off (k : Nat) : ∀ n, n / 24 = k → (State.reset.psm n).stage = 0 := fun _ _ => rfl

/-- What a start finds when every unit is good. -/
def allGood : StartObs := ⟨5, false, [], none, [], [], [], false⟩

/-- A SAFE device with this cause. -/
def safeBy (l : List FaultMsg) : State := { State.reset.set F.FLT_STATUS_STATE 2 with condCauses := l }

theorem witness_Starts :
    (State.reset.Admits 0x81 hd [1] ∧ State.reset.Admits 0x81 hd [0])
    ∧ (State.reset.startDue = none ∧ State.reset.startHeld = none)
    ∧ (let s : State := { State.reset with
        startHeld := some 0
        coreUp := false
        replies := [⟨0x81, 1, 3, false, false, true, .ok, 0, []⟩] };
      s.startHeld = some 0 ∧ s.coreUp = false ∧ s.vaux = true ∧ s.pwrgood = true ∧ s.devState ≠ 3 ∧ s.devState ≠ 2
        ∧ (∃ r ∈ s.replies, r.opcode = 0x81) ∧ ({ s with coreUp := true } : State).coreUp = true)
    ∧ (let s : State := { safeBy [safeMsg] with startHeld := some 3 };
      s.devState = 2 ∧ s.condCauses ≠ [])
    ∧ (∀ k, let s : State := { State.reset with startDue := some k };
      s.startDue = some k ∧ s.vaux = true ∧ s.pwrgood = true ∧ s.devState ≠ 3 ∧ s.devState ≠ 2 ∧ s.replies = [] ∧ s.startHeld = none)
    ∧ (let s : State := { safeBy [] with startDue := some false };
      s.devState = 2 ∧ s.condCauses = [] ∧ s.devState ≠ 3 ∧ s.replies = [])
    ∧ (({ State.reset with pwrgood := false } : State).pwrgood = false ∧ (State.reset.set F.FLT_STATUS_STATE 3).devState = 3)
    ∧ (State.reset.vaux = true ∧ State.reset.pwrgood = true ∧ State.reset.devState < 2 ∧ halted.devState < 2 ∧ halted.devState ≠ 2)
    ∧ (let s := { safeBy [safeMsg] with fltPend := [(6, 1)] };
      s.devState = 2 ∧ s.condCauses.any (fun m => Tab.get 0 s.fltPend m.cls != 0) = true)
    ∧ ((safeBy []).devState = 2 ∧ (safeBy []).condCauses = [] ∧ (safeBy []).vaux = true ∧ (safeBy []).pwrgood = true
      ∧ ({ safeBy [] with pwrgood := false } : State).pwrgood = false ∧ ({ safeBy [] with pwrgood := false } : State).vaux = true
      ∧ ({ safeBy [] with vaux := false } : State).vaux = false)
    ∧ (State.reset.set F.GLB_START_START_OK 0).flag F.GLB_START_START_OK = false
    ∧ (State.reset.flag F.GLB_START_START_OK = true ∧ State.reset.flag F.SHP_STATUS_IMAGE_OK = true
      ∧ 2 ≤ State.reset.get F.GLB_START_WARM_FAILS + (([2, 4, 5] : List Nat).takeWhile fatalAt).length
      ∧ State.reset.get F.GLB_START_WARM_FAILS + (([2] : List Nat).takeWhile fatalAt).length < 2) := by
  simp only [admits_iff]
  decide +kernel

theorem witness_PowerAndSupplies_start :
    (let s : State := { State.reset with
      vaux := false
      pwrgood := false };
      s.vaux = false ∧ s.pwrgood = false)
    ∧ (State.reset.vaux = true ∧ State.reset.pwrgood = true)
    ∧ (let s : State := { State.reset with pwrgood := false };
      s.vaux = true ∧ s.pwrgood = false ∧ s.devState ≠ 3 ∧ allGood.fatalStep = none ∧ allGood.railsOut = false
        ∧ ({ allGood with railsOut := true } : StartObs).railsOut = true)
    ∧ (({ State.reset with coreUp := false } : State).coreUp = false ∧ 2 ≤ (State.reset.set F.GLB_REST_STATE 2).get F.GLB_REST_STATE)
    ∧ (let s : State := { State.reset.set F.FLT_STATUS_STATE 3 with pwrgood := false };
      s.vaux = true ∧ s.pwrgood = false ∧ s.devState = 3)
    ∧ (∀ n ∈ [2, 4], ({ allGood with fatalStep := some n } : StartObs).fatalStep = some n ∧ 2 ≤ n ∧ n ≤ 4) := by
  decide +kernel

/-- A run has ended. -/
def runEnded : State := { State.reset with ckptDue := true }

theorem witness_CheckpointsAndDatalog :
    (runEnded.coreUp = true ∧ runEnded.ckptDue = true ∧ runEnded.frozen = false ∧ bit runEnded.fences 40 = false
      ∧ bit ({ runEnded with fences := 2 ^ 40 } : State).fences 40 = true ∧ ({ runEnded with fences := 2 ^ 40 } : State).frozen = false
      ∧ (runEnded.set F.TWN_CTL_MIRROR_EN 1).flag F.TWN_CTL_MIRROR_EN = true ∧ runEnded.flag F.TWN_CTL_MIRROR_EN = false
      ∧ (runEnded.set F.MPA_CTL 1).frozen = true)
    ∧ (let s : State := { State.reset.set F.GLB_CKPT 1 with ctxChanged := true };
      s.coreUp = true ∧ s.ckptDue = false ∧ s.ctxChanged = true ∧ s.get F.GLB_CKPT ≠ 0)
    ∧ (State.reset.ckptDue = false ∧ State.reset.ctxChanged = false)
    ∧ State.reset.Admits 0x84 hd []
    ∧ ((0xFFFFFFFF#32).toNat * 2 ^ 32 + ({ State.reset with dlogStage := 7 } : State).dlogStage = 7 + 0xFFFFFFFF * 2 ^ 32
      ∧ State.reset.rd64 R.DLOG_WR_LO < 7 + 0xFFFFFFFF * 2 ^ 32)
    ∧ (State.reset.rd64 R.DLOG_RD_LO ≤ 0 ∧ 0 ≤ State.reset.rd64 R.DLOG_WR_LO ∧ 0 = State.reset.dlogStage + (0#32).toNat * 2 ^ 32)
    ∧ (let s := State.reset.wr R.DLOG_WR_HI 1;
      s.rd64 R.DLOG_RD_LO ≤ 2 ^ 32 ∧ 2 ^ 32 ≤ s.rd64 R.DLOG_WR_LO) := by
  simp only [admits_iff]
  decide +kernel

theorem witness_CheckpointsAndDatalog_timer : ∃ t, exec (.checkpointTimer true) runEnded = .next t
    ∧ runEnded.coreUp = true ∧ runEnded.frozen = false ∧ (runEnded.ckptDue = true ∨ (runEnded.ctxChanged = true ∧ runEnded.get F.GLB_CKPT ≠ 0)) :=
  ⟨runEnded.checkpoint, congrArg Host.Outcome.next (if_pos (by decide +kernel)), rfl, by decide +kernel, Or.inl rfl⟩

/-- The Rest state of the device. -/
def resting (n : Nat) : State := State.reset.set F.GLB_REST_STATE n

theorem witness_RestAndWake :
    (halted.Admits 0x82 hd [] ∧ halted.stopped = true ∧ State.reset.Admits 0x82 hd [] ∧ State.reset.stopped = false
      ∧ State.reset.get F.GLB_REST_STATE = 0 ∧ (State.reset.admitted 0x82 hd []).restIdle = true)
    ∧ (let s := running [] (runOn []);
      s.Admits 0x82 hd [] ∧ s.stopped = false ∧ s.get F.GLB_REST_STATE = 0 ∧ (s.admitted 0x82 hd []).restIdle = false)
    ∧ ((resting 2).get F.GLB_REST_STATE ≠ 1 ∧ (resting 1).get F.GLB_REST_STATE = 1 ∧ (resting 1).calGap = none)
    ∧ (State.reset.Admits 0x83 hd [] ∧ (resting 1).Admits 0x83 hd [] ∧ (resting 2).Admits 0x83 hd [] ∧ (resting 2).get F.GLB_REST_STATE = 2)
    ∧ Origin.shepherd 1 ≠ .msp
    ∧ ((resting 3).get F.GLB_REST_STATE = 3 ∧ (resting 3).portMode 0 ≠ 1 ∧ (resting 3).portMode 1 ≠ 1
      ∧ ((resting 3).set (F.LNK_STATUS_STATE 1) 1).portMode 1 = 1
      ∧ ((resting 3).set (F.SHP_LOCK_HELD 63) 1).flag (F.SHP_LOCK_HELD 63) = true) := by
  simp only [admits_iff]
  decide +kernel

theorem witness_TestPorts_isolation :
    (1024 < bits (1025#32).toNat 0 11 ∧ bits (1024#32).toNat 0 11 ≤ 1024)
    ∧ (let s := State.reset.set F.GPIO_ISO_BUSY 1;
      bits (0x20400#32).toNat 0 11 ≤ 1024 ∧ bit (0x20400#32).toNat 17 = true ∧ s.flag F.GPIO_ISO_BUSY = true)
    ∧ (bit (1024#32).toNat 17 = false ∧ State.reset.flag F.GPIO_ISO_BUSY = false) := by
  decide +kernel

/-- A Whistle node of this state and role. -/
def nodeAt (st master : Nat) : State := (State.reset.set F.WH_STATUS_STATE st).set F.WH_CTL_MASTER master

/-- Its next frame begins at this tick. -/
def frameAt (n : Nat) (swap : Option Nat) : State := { nodeAt 3 1 with
  whNext := n
  whSwap := swap }

theorem witness_WhistleTimeAndSync :
    (({ State.reset with coreUp := false } : State).coreUp = false)
    ∧ (∀ x ∈ [some 256, some 257, none], (frameAt 256 x).coreUp = true ∧ max (frameAt 256 x).whNext ((frameAt 256 x).time / 256 * 256) = 256
      ∧ 256 % 16384 ≠ 0 ∧ (frameAt 256 x).whMaster = true ∧ bit (max (frameAt 256 x).time 256 / 16384 * 16384) (256 / 256 % 64) = false)
    ∧ (let s : State := { frameAt 16384 none with whSet := some 77 };
      s.coreUp = true ∧ max s.whNext (s.time / 256 * 256) % 16384 = 0 ∧ s.whMaster = true ∧ s.whSet = some 77)
    ∧ (∀ n ∈ [2, 3], (nodeAt n 0).coreUp = true ∧ (nodeAt n 0).whMaster = false ∧ ((nodeAt n 0).whState = 2 ∨ (nodeAt n 0).whState = 3))
    ∧ ((({ nodeAt 2 0 with sync := { misses := 3 } } : State).sync.misses + 1) % 4 = 0 ∧ (7999 < 8000 ∨ 20000 < 7999) ∧ (20001 < 8000 ∨ 20000 < 20001))
    ∧ ((nodeAt 1 0).whState < 2 ∧ (nodeAt 0 0).whState = 0)
    ∧ (∀ n ∈ [1, 4], (nodeAt n 0).whState = n ∧ (nodeAt n 0).whMaster = false ∧ (nodeAt n 0).grpShut 3 = false)
    ∧ (let s : State := { nodeAt 2 0 with sync := { accepted := 16, timeSet := true } };
      s.whState = 2 ∧ 16 ≤ s.sync.accepted ∧ s.sync.timeSet = true ∧ (-100 : Int).natAbs ≤ 100)
    ∧ ((nodeAt 3 0).whState = 3 ∧ 2000 < (-2001 : Int).natAbs ∧ (2000 : Int).natAbs ≤ 2000 ∧ (nodeAt 3 0).time / 256 % 64 ≠ 63)
    ∧ (nodeAt 2 0).sync.wasLocked = false := by
  decide +kernel

theorem witness_WhistleClockAndRegisters_clock :
    ((nodeAt 3 0).coreUp = true ∧ bit ((nodeAt 3 0).get F.CLK_GRP_CTL_MUZZLE) 3 = false ∧ (nodeAt 3 0).flag F.WH_STATUS_WHS_LOST = false
      ∧ (nodeAt 3 0).whState ≠ 0 ∧ (nodeAt 0 1).whState = 0)
    ∧ bit ((State.reset.set F.CLK_GRP_CTL_MUZZLE 8).get F.CLK_GRP_CTL_MUZZLE) 3 = true := by
  decide +kernel

/-- The shadow slot table holds a reserved kind in its last place. -/
def slotReserved : State := State.reset.wr (R.WH_SLOT_SH 111) 0xC0000000

theorem witness_WhistleClockAndRegisters_registers :
    (bit (1#32).toNat 0 = true ∧ (nodeAt 1 0).whMaster = false ∧ (nodeAt 1 0).holdsLock 33 (originSession .msp) = false
      ∧ (lockAt 33 1 1 0 5).whMaster = false ∧ (lockAt 33 1 1 0 5).holdsLock 33 (originSession (.link 1)) = true)
    ∧ (bit (0#32).toNat 0 = false ∧ (nodeAt 3 1).whMaster = true)
    ∧ (State.reset.set F.WH_STATUS_SWAP_PENDING 1).flag F.WH_STATUS_SWAP_PENDING = true
    ∧ (slotReserved.flag F.WH_STATUS_SWAP_PENDING = false ∧ slotReserved.slotBad = true)
    ∧ (State.reset.flag F.WH_STATUS_SWAP_PENDING = false ∧ State.reset.slotBad = false) := by
  decide +kernel

/-- Line 6 has a request. -/
def requested : State := { State.reset with whReq := 64 }

/-- Every slot of line 6 is another node's. -/
def slotsTaken : State := (List.range 16).foldl (fun s k => s.wr (R.WH_SLOT_ACT (96 + k)) 0x7F7F7F7F) requested

theorem witness_WhistleEventsAndAllstop :
    (requested.coreUp = true ∧ bit requested.whReq 6 = true
      ∧ requested.whSlot 6 = some 4)
    ∧ (slotsTaken.coreUp = true ∧ bit slotsTaken.whReq 6 = true
      ∧ slotsTaken.whSlot 6 = none)
    ∧ bit State.reset.whReq 6 = false
    ∧ ({ State.reset with whSent := [(6, 44)] } : State).whSent.find? (fun e => e.1 == 6) = some (6, 44)
    ∧ ({ State.reset with wh7Armed := false } : State).wh7Armed = false
    ∧ (State.reset.wh7Armed = true ∧ State.reset.devState ≠ 3 ∧ (State.reset.set F.FLT_STATUS_STATE 3).devState = 3
      ∧ (State.reset.set F.WH_CTL_ALLSTOP_IN 0).devState ≠ 3 ∧ (State.reset.set F.WH_CTL_ALLSTOP_IN 1).devState ≠ 3
      ∧ (State.reset.set F.WH_CTL_ALLSTOP_IN 0).flag F.WH_CTL_ALLSTOP_IN = false
      ∧ (State.reset.set F.WH_CTL_ALLSTOP_IN 1).flag F.WH_CTL_ALLSTOP_IN = true)
    ∧ (({ State.reset with wh7 := true } : State).wh7 = true ∧ State.reset.wh7 = false) := by
  decide +kernel

/-- The twin in this state, mirroring or not. -/
def twinAt (st mirror : Nat) : State := (State.reset.set F.TWN_STATUS_STATE st).set F.TWN_CTL_MIRROR_EN mirror

theorem witness_TwinAndMirror :
    ((⟨true, true, false, 0⟩ : KeepInfo).safe = true ∧ (⟨false, false, false, 0⟩ : KeepInfo).coreUp = false
      ∧ (⟨true, false, false, 0⟩ : KeepInfo).coreUp = true)
    ∧ (∀ n, n < 4 → (twinAt n 1).devState ≠ 3 ∧ (twinAt n 0).devState ≠ 3)
    ∧ ((twinAt 1 1).set F.FLT_STATUS_STATE 3).devState = 3
    ∧ ((twinAt 1 1).grpShut 2 = false ∧ ((twinAt 1 1).set F.CLK_GRP_CTL_FREEZE 4).grpShut 2 = true ∧ ((twinAt 1 1).set F.CLK_GRP_CTL_MUZZLE 4).grpShut 2 = true)
    ∧ (let s : State := { twinAt 3 1 with twinPeer := some ⟨0, !(twinAt 3 1).flag F.GLB_ID_TWIN_MEMBER, 0⟩ };
      s.twinKnown = true ∧ 2 ≤ s.get F.TWN_STATUS_STATE ∧ (twinAt 3 1).twinKnown = false)
    ∧ ((twinAt 1 1).vaux = true ∧ (twinAt 1 1).pwrgood = true ∧ ({ State.reset with vaux := false } : State).vaux = false
      ∧ ({ State.reset with pwrgood := false } : State).pwrgood = false)
    ∧ ((twinAt 1 1).coreUp = true ∧ ({ State.reset with coreUp := false } : State).coreUp = false
      ∧ (({ State.reset with coreUp := false } : State).set F.CLK_STATUS_REF_OK 1).flag F.CLK_STATUS_REF_OK = true
      ∧ (({ State.reset with coreUp := false } : State).set F.CLK_STATUS_REF_OK 0).flag F.CLK_STATUS_REF_OK = false)
    ∧ (∀ n, n < 4 → (twinAt n 1).get F.TWN_STATUS_STATE = n ∧ (twinAt n 1).flag F.TWN_CTL_MIRROR_EN = true ∧ (twinAt n 0).flag F.TWN_CTL_MIRROR_EN = false)
    ∧ (let s := (twinAt 1 1).set F.TWN_MIR_BASE (2 ^ 29 - 512);
      s.flag F.TWN_CTL_MIRROR_EN = true ∧ s.mirrorBase + 32768 = 2 ^ 35)
    ∧ (let s : State := { twinAt 0 1 with mirrorQ := [⟨4, 0, 0, true, false⟩, ⟨1, 5, 0, false, false⟩] };
      s.coreUp = true ∧ s.get F.GLB_REST_STATE ≠ 2 ∧ s.flag F.TWN_CTL_MIRROR_EN = true ∧ s.flag F.TWN_STATUS_LINK_UP = false
        ∧ ∀ m ∈ s.mirrorQ, m.item = 4 → m.sent = true)
    ∧ (let s : State := { twinAt 0 1 with mirrorQ := [⟨4, 0, 0, false, false⟩] };
      ∃ m ∈ s.mirrorQ, m.item = 4 ∧ m.sent = false)
    ∧ ((twinAt 0 0).Admits 0x85 hd [1023, 1] ∧ (twinAt 0 1).Admits 0x85 hd [1023, 1])
    ∧ (let s := muzzling (twinAt 0 1) (.pc 0);
      s.Admits 0x85 hd [0, 1] ∧ s.touchesMuzzledPc (s.mirrorBase + 32 * word [0, 1] 0) (32 * word [0, 1] 1) = true)
    ∧ ((twinAt 0 1).touchesMuzzledPc ((twinAt 0 1).mirrorBase + 32 * 1023) 32 = false ∧ bit (twinAt 0 1).fences 40 = false ∧ (twinAt 0 1).frozen = false
      ∧ bit ({ twinAt 0 1 with fences := 2 ^ 40 } : State).fences 40 = true)
    ∧ ((twinAt 0 0).Admits 0x86 hd [] ∧ (twinAt 1 1).Admits 0x86 hd [] ∧ (twinAt 1 0).Admits 0x86 hd [] ∧ (twinAt 1 0).mirrorQ = []) := by
  simp only [admits_iff]
  decide +kernel

theorem mspGood_iff (s : State) (c f : Nat) : s.MspGood c f ↔
    (crc16 f = f % 2 ^ 16 ∧ mspCmd f = c ∧ s.grpShut 4 = false ∧ s.mspAliveErr f = false ∧ s.mspCmdErr f = false) :=
  ⟨fun h => ⟨h.crc, h.cmd, h.shut, h.alive, h.legal⟩, fun ⟨a, b, c, d, e⟩ => ⟨a, b, c, d, e⟩⟩

/-- A frame of this command, ALIVE, address and data, with its CRC. -/
def frame (c alive a d : Nat) : BitVec 80 :=
  let n := c * 2 ^ 72 + alive * 2 ^ 64 + a * 2 ^ 48 + d * 2 ^ 16
  BitVec.ofNat 80 (n + crc16 n)

/-- The management port remembers an ALIVE of 255. -/
def mspState : State := (State.reset.set F.MSP_ALIVE_HAS_REF 1).set F.MSP_ALIVE_REFERENCE 255

/-- The core does not run. -/
def coreless : State := { mspState with coreUp := false }

theorem witness_ManagementPort :
    (mspState.MspGood 0 (frame 0 0 0x4000 0).toNat ∧ mspWindow (mspAddr (frame 0 0 0x4000 0).toNat) = some 0x10000)
    ∧ (mspState.MspGood 1 (frame 1 1 0x6000 0xFFFFFFFF).toNat ∧ mspWindow (mspAddr (frame 1 1 0x6000 0xFFFFFFFF).toNat) = some 0x20000
      ∧ blockOf 0x20000 = some (.device 2) ∧ (rowAt 0x20000).isSome = true ∧ mspState.coreUp = true)
    ∧ (mspState.MspGood 2 (frame 2 1 0 0x5AFE).toNat ∧ mspState.MspGood 3 (frame 3 1 0 0xFFFFFFFF).toNat)
    ∧ (mspState.flag F.SHP_STATUS_IMAGE_OK = true ∧ mspState.MspGood 4 (frame 4 1 0 0).toNat ∧ mspState.MspGood 5 (frame 5 1 0 0xFFFFFFFF).toNat)
    ∧ (coreless.coreUp = false ∧ coreless.MspGood 4 (frame 4 1 0 0).toNat ∧ coreless.MspGood 5 (frame 5 1 0 9).toNat) := by
  simp only [mspGood_iff]
  decide +kernel

theorem witness_ManagementPort_access :
    State.reset.mspInd = none
    ∧ (∀ w ∈ [false, true], let s : State := { mspState with mspInd := some (w, 0xFFFFC, 9) };
      s.mspInd = some (w, 0xFFFFC, 9) ∧ s.coreUp = true ∧ s.gate (if w then 1 else 0) [BitVec.ofNat 32 0xFFFFC] = none ∧ addressBad 0xFFFFC = true)
    ∧ (let s : State := { mspState with mspInd := some (false, 0x20000, 0) };
      s.coreUp = true ∧ s.gate 0 [BitVec.ofNat 32 0x20000] = none ∧ blockOf 0x20000 = some (.device 2) ∧ (rowAt 0x20000).isSome = true
        ∧ addressBad 0x20000 = false ∧ Tab.get none s.latches 0 = none)
    ∧ crc16 (frame 0 0 0x4000 0 + 1).toNat ≠ (frame 0 0 0x4000 0 + 1).toNat % 2 ^ 16
    ∧ ((State.reset.set F.CLK_GRP_CTL_FREEZE 16).grpShut 4 = true ∧ (State.reset.set F.CLK_GRP_CTL_MUZZLE 16).grpShut 4 = true
      ∧ (⟨frame 0 0 0x4000 0, 80, true⟩ : MspFrame).overtaken = true ∧ ({ State.reset with vaux := false } : State).vaux = false
      ∧ mspState.vaux = true ∧ coreless.vaux = true ∧ mspTaken ⟨frame 3 1 0 0xFFFFFFFF, 81, false⟩ = (frame 3 1 0 0xFFFFFFFF).toNat
      ∧ mspTaken ⟨0, 79, false⟩ = (0 : BitVec 80).toNat ∧ 5 < mspCmd (frame 6 1 0 0).toNat) := by
  decide +kernel

theorem witness_TestPorts_tap :
    (0xFF#8).toNat = tapBypass ∧ ((1#8).toNat ≠ tapBypass ∧ State.reset.devState ≠ 2 ∧ State.reset.pwrgood = true)
    ∧ ((safeBy []).devState = 2 ∧ ({ State.reset with pwrgood := false } : State).pwrgood = false) := by
  decide +kernel

theorem witness_PsmMapWrites :
    State.reset.coreUp = true ∧ State.reset.packMuzzled 15 = false
    ∧ (bit (0x80000001#32).toNat 31 = true ∧ bits (0x80000001#32).toNat 10 10 < bits (0x80000001#32).toNat 0 10)
    ∧ bit (0x00000001#32).toNat 31 = false
    ∧ (bit (0x80000401#32).toNat 31 = true ∧ bits (0x80000401#32).toNat 0 10 ≤ bits (0x80000401#32).toNat 10 10) := by
  decide +kernel

theorem witness_MessageClasses : (⟨2, cANALOG, 0x01, 0, 0⟩ : FaultMsg).cls = cANALOG ∧ (⟨2, cANALOG, 0x01, 0, 0⟩ : FaultMsg).kind = 0x01 := by
  decide +kernel

/-! ## Commands that are not well formed are refused -/

theorem test_wf_payload : ∀ c ∈ [Instr.align, .patLoad, .patStart, .patStop, .patJump, .patPause, .patResume, .tsetSwap, .tmuMeasure, .tmuAbort,
      .pmuMeasure, .psmSetLevel, .psmWaveArm, .psmWaveStart, .psmWaveStop, .psmWaveJump, .psmSineStart, .psmSineStop, .psmMeasure,
      .psmSnapArm, .psmSnapTrig, .aeCall, .regRead, .regWrite, .regModify, .regPoll, .memRead, .memWrite, .memFill, .dmaRead,
      .sessionReset, .nop, .barrier, .echo, .flowLoad, .flowUnload, .flowStart, .flowAbort, .siteRead, .siteClear, .siteMuzzle,
      .lockAcquire, .lockRenew, .lockRelease, .lockStatus, .calGap, .calEnd, .calRun, .calStore, .calForget, .calAbort, .start,
      (fun h pl => .ckptWrite h pl true), .restEnter, .restExit, .mirrorRead, .twinResync],
    (c hd (List.replicate 4096 0)).wf = false ∧ (c hd [1]).wf = true := by
  decide +kernel

theorem test_wf_units : (∀ u ∈ [MUnit.channel 512, .lane 256, .psm 96, .tmu 64, .pack 16, .ae 8, .pc 32, .linkLane 10, .pfe 4], u.wf = false)
    ∧ ∀ u ∈ [MUnit.channel 511, .lane 255, .psm 95, .tmu 63, .pack 15, .ae 7, .pc 31, .linkLane 9, .pfe 3], u.wf = true := by
  decide +kernel

theorem test_wf_requests : ∀ r ∈ [(⟨0, 0, 0, 0⟩ : MpaReq), ⟨0, 64, 4, 0⟩, ⟨0, 32, 1, 0⟩, ⟨0, 2 ^ 35, 1, 0⟩],
    (Instr.mpaArbitration 0 ⟨0, [r]⟩).wf = false := by
  decide +kernel

theorem test_wf_starts : (∀ o ∈ [{ allGood with failed := [.psm 96] }, { allGood with fatalStep := some 1 }, { allGood with fatalStep := some 5 },
      { allGood with warmFails := [1] }, { allGood with cal := [(0, [])] }, { allGood with cal := [(7, [])] },
      { allGood with cal := [(1, [⟨512, 0, 0⟩])] }, { allGood with cal := [(1, [⟨0, 16, 0⟩])] }],
      (Instr.coldStart o).wf = false ∧ (Instr.resetN o).wf = false ∧ (Instr.startBegin o).wf = false ∧ (Instr.clearSafe o).wf = false)
    ∧ (Instr.coldStart allGood).wf = true := by
  decide +kernel

theorem test_wf_others : ∀ c ∈ [Instr.rpt 0 0 .good, .rpt 0 (2 ^ 24) .good,
      .credit 0 (2 ^ 16) 0, .credit 0 0 (2 ^ 16), .patrolScrub true (2 ^ 20) false,
      .patrolScrub false (2 ^ 29) false, .hkoRange (2 ^ 32), .restAwake [3, 3], .calTaskEnd 1 [⟨512, 0, 0⟩], .trimMove 1 0 16],
    c.wf = false := by
  decide +kernel

theorem test_wf_lists (x : Conv) : (Instr.raRequestStart 0 (List.replicate (2 ^ 20 + 1) 0)).wf = false
    ∧ (Instr.pmuMeasDone 0 (List.replicate (2 ^ 16) x)).wf = false := by
  simp only [Instr.wf, List.length_replicate]
  decide

theorem test_wf_links : (Instr.linkTrained 0 ⟨15, 0, 1, true, 1025, 0, true, false, 0⟩).wf = false := by
  decide +kernel

theorem test_wf_packet : (Instr.packetReceive 0 { nopPacket 0 0 with payload := List.replicate 4096 0 }).wf = false := by
  decide +kernel

theorem test_words_spell_nothing (s : State) (nbits w : Nat) : s.withFetchWord nbits w = s := rfl

/-! ## The spec's worked examples -/

/-- The message of the cycle example of chapter 15: CAL_RANGE of TMU 36 at low time 0x0A00. -/
def calRange : FaultMsg := ⟨0x0B5, cANALOG, 0x01, 36, 0x0A00⟩

theorem test_fault_word : calRange.word = 0x14000000004882B5 := by decide +kernel

/-- The example's cycle: ANALOG is pending, and CAL_RANGE, SHORT of PSM 54 and TEMP_WARN of diode 2 (100.5 °C) arrive. -/
def faultCycle : State := { State.reset with
  fltPend := [(cANALOG, 1)]
  faultIn := [calRange, ⟨0x0B9, cANALOG, 0x06, 54, 0x0A00⟩, ⟨0x001, cTHERMAL, 0x01, 2 + 1608 * 2 ^ 16, 0x0A00⟩] }

theorem test_fault_cycle : (match exec .faultRecord faultCycle with
    | .next t => some (t.rd R.FLT_FIRST_LO, t.rd R.FLT_FIRST_HI, t.flag F.FLT_FIRST_INFO_ESCALATED)
    | _ => none) = some (0x004882B5, 0x14000000, true) := by
  decide +kernel

theorem test_dram_maps : dramPlace false 0x40000105 = (1, 0x105) ∧ dramPlace true 0x2005 = (1, 0x105) := by decide +kernel

theorem test_bitrev : [0, 16, 8, 24, 4, 20, 12].map (fun o => postModify (0x1000 + o) (16 + 2 * 2 ^ 20 + 5 * 2 ^ 22))
    = [16, 8, 24, 4, 20, 12, 28].map (fun o => some (0x1000 + o)) := by
  decide +kernel

theorem test_sta : satI 48 (staShift (2 ^ 54) 0) = 2 ^ 47 - 1 ∧ staShift (2 ^ 54) 8 = 2 ^ 46 ∧ staShift (2 ^ 54) 31 = 2 ^ 23
    ∧ satI 24 (staShift (2 ^ 54) 31) = 8388607 := by
  decide +kernel

theorem test_headers : packHeader 0 5 1 0x123 2 0 0 = 0x002A091801000000 ∧ packHeader 0 5 1 0x123 8 1 0x304 = 0x002A091804100304 := by
  decide +kernel

theorem test_reg_read_partial : (match exec (.regRead { session := 1, tag := 0x123 } [0x00190030, 8]) State.reset with
    | .next t => t.replies.map (fun r => (r.status, r.detail, r.payload.length))
    | _ => []) = [(.partialDone, 3, 8)] := by
  decide +kernel

/-- Pack 9 of the worked assignment of chapter 2: site i on channels 2 + 2i and 3 + 2i, the clock on channel 0, and the
booster and the leakage PSM, the latter connected to site 133. -/
def packNine : State :=
  let s := (List.range 14).foldl (fun s i => (s.wr (R.PK_CHMAP 9 (2 + 2 * i)) (126 + i + 2 ^ 10 + 2 * 2 ^ 16)).wr
    (R.PK_CHMAP 9 (3 + 2 * i)) (126 + i + 2 ^ 10 + 3 * 2 ^ 16)) State.reset
  let s := s.set (F.PK_CHMAP_ROLE 9 0) 2
  (s.wr (R.PK_PSMMAP 9 0) (126 + 139 * 2 ^ 10 + 2 ^ 31)).wr (R.PK_PSMMAP 9 4) (133 + 133 * 2 ^ 10 + 2 ^ 31)

theorem test_muzzle_sites : packNine.sitesOfUnit (.channel 300) = ([131], 1) ∧ (packNine.sitesOfUnit (.lane 150)).1.eraseDups = [131]
    ∧ packNine.sitesOfUnit (.psm 58) = ([133], 2) ∧ packNine.sitesOfUnit (.psm 54) = ((List.range 14).map (126 + ·), 2)
    ∧ ((packNine.sitesOfUnit (.channel 288)).1.eraseDups, (packNine.sitesOfUnit (.channel 288)).2) = ((List.range 14).map (126 + ·), 1) := by
  decide +kernel

theorem test_addresses : R.PK_STATUS 9 = 0x19E000 ∧ (Region.format 9).base = 0x1120000 ∧ (Region.tsetActive 9).base = 0x1320000
    ∧ (Region.tsetShadow 9).base = 0x1330000 ∧ (Region.sine 54).base = 0x14D8000 ∧ R.CAP_CTL 5 = 0x154000 := by
  decide +kernel

theorem test_trigger_merged : (match exec (.triggerArrival 9 (.psm 2)) ((State.reset.set (F.CAP_TRIG_EN_PSM 9) 63).setCap 9
      { trigIn := [⟨.psm 2, 1000012, none⟩], iv := some ⟨1000000, some 1000040, 0, false⟩ }) with
    | .next t => (t.cap 9).iv
    | _ => none) = some ⟨1000000, some 1000040, 1, false⟩ := by
  decide +kernel

theorem test_echo_delay : (match exec (.echoLaunch (some 14200)) (nodeAt 3 0) with
    | .next t => t.get F.WH_DELAY_DELAY
    | _ => 0) = 3100 := by
  decide +kernel

theorem test_whistle_event : (match exec (.whistleEventSend 2) { State.reset with
      time := 4000004
      whReq := 4
      whReqAt := [(2, 4000004)] } with
    | .next t => (t.time, t.whSent)
    | _ => (0, [])) = (4000008, [(2, 4000048)]) := by
  decide +kernel

end Sys2Proof.Machine
end

/-! # O5: register writes

What a write leaves in the fields of a register, and what a plain write does at each kind of address. -/

namespace Sys2Proof.Machine

/-! ## The access codes (R1, R3) -/

/-- Two fields share no bit. -/
abbrev Fld.Apart (f g : Fld) : Prop := f.lo + f.w ≤ g.lo ∨ g.lo + g.w ≤ f.lo

/-- No two fields of a register of the map overlap. -/
theorem Block.rows_apart (b : Block) : ∀ r ∈ b.rows, r.flds.Pairwise Fld.Apart := by
  unfold Block.rows
  split <;> decide +kernel

theorem rowAt_apart {a : Nat} {r : RegRow} (h : rowAt a = some r) : r.flds.Pairwise Fld.Apart := by
  unfold rowAt at h
  split at h
  · cases h
  · next b _ => exact b.rows_apart r (List.mem_of_find?_eq_some h)

theorem Fld.store_kept {f : Fld} (h : f.acc = .ro ∨ f.acc = .wo) (v old : Nat) : f.store v old = old := by
  rcases h with h | h <;> simp [Fld.store, h]

theorem Fld.bits_store_written {f : Fld} (h : f.acc = .rw ∨ f.acc = .rws) (v old : Nat) :
    bits (f.store v old) f.lo f.w = bits v f.lo f.w := by
  have e : f.store v old = setBits old f.lo f.w (bits v f.lo f.w) := by
    rcases h with h | h <;> simp [Fld.store, h]
  rw [e, bits_setBits_same]
  exact Nat.mod_mod _ _

theorem Fld.bits_store_cleared {f : Fld} (h : f.acc = .w1c) (v old : Nat) :
    bits (f.store v old) f.lo f.w = bits old f.lo f.w &&& (2 ^ f.w - 1 - bits v f.lo f.w) := by
  have e : f.store v old = setBits old f.lo f.w (bits old f.lo f.w &&& (2 ^ f.w - 1 - bits v f.lo f.w)) := by
    simp [Fld.store, h]
  have l : bits old f.lo f.w < 2 ^ f.w := Nat.mod_lt _ (Nat.two_pow_pos _)
  rw [e, bits_setBits_same, Nat.mod_eq_of_lt (Nat.lt_of_le_of_lt Nat.and_le_left l)]

/-- What a field holds after a write depends on what it held, not on its neighbours. -/
theorem Fld.bits_store_congr (f : Fld) (v : Nat) {x y : Nat} (h : bits x f.lo f.w = bits y f.lo f.w) :
    bits (f.store v x) f.lo f.w = bits (f.store v y) f.lo f.w := by
  cases e : f.acc with
  | ro => rwa [f.store_kept (.inl e), f.store_kept (.inl e)]
  | wo => rwa [f.store_kept (.inr e), f.store_kept (.inr e)]
  | rw => rw [f.bits_store_written (.inl e), f.bits_store_written (.inl e)]
  | rws => rw [f.bits_store_written (.inr e), f.bits_store_written (.inr e)]
  | w1c => rw [f.bits_store_cleared e, f.bits_store_cleared e, h]

theorem Fld.bits_store_apart {f g : Fld} (h : f.Apart g) (v old : Nat) :
    bits (f.store v old) g.lo g.w = bits old g.lo g.w := by
  have other (x : Nat) : bits (setBits old f.lo f.w x) g.lo g.w = bits old g.lo g.w :=
    bits_setBits_other _ _ _ _ _ _ h.symm
  unfold Fld.store
  cases f.acc <;> simp only [other]

theorem bits_foldl_store_apart {l : List Fld} {g : Fld} (h : ∀ f ∈ l, f.Apart g) (v old : Nat) :
    bits (l.foldl (fun w f => f.store v w) old) g.lo g.w = bits old g.lo g.w := by
  induction l generalizing old with
  | nil => rfl
  | cons f l ih =>
    rw [List.foldl_cons, ih (fun x hx => h x (List.mem_cons_of_mem _ hx)), Fld.bits_store_apart (h f List.mem_cons_self)]

theorem bits_foldl_store {l : List Fld} (h : l.Pairwise Fld.Apart) {f : Fld} (hf : f ∈ l) (v old : Nat) :
    bits (l.foldl (fun w f => f.store v w) old) f.lo f.w = bits (f.store v old) f.lo f.w := by
  induction l generalizing old with
  | nil => cases hf
  | cons g l ih =>
    obtain ⟨hg, hl⟩ := List.pairwise_cons.1 h
    rw [List.foldl_cons]
    rcases List.mem_cons.1 hf with rfl | hf
    · exact bits_foldl_store_apart (fun x hx => (hg x hx).symm) v _
    · rw [ih hl hf]
      exact f.bits_store_congr v (Fld.bits_store_apart (hg f hf) v old)

/-- A field of a written register holds what the field alone would hold (R1). -/
theorem RegRow.bits_store {a : Nat} {r : RegRow} {f : Fld} (hr : rowAt a = some r) (hf : f ∈ r.flds) (v old : Nat) :
    bits (r.store v old) f.lo f.w = bits (f.store v old) f.lo f.w :=
  bits_foldl_store (rowAt_apart hr) hf v old

/-! ## Addresses (R24 to R27) -/

theorem blockOf_isSome_lt {a : Nat} {b : Block} (h : blockOf a = some b) : a < 0x280000 := by
  unfold blockOf at h
  split at h
  · omega
  · split at h
    · omega
    · split at h
      · omega
      · cases h

theorem regionOf_eq_none {a : Nat} (h : a < 0x1000000) : regionOf a = none := by simp [regionOf, h]

theorem regionOf_of_blockOf {a : Nat} {b : Block} (h : blockOf a = some b) : regionOf a = none :=
  regionOf_eq_none (Nat.lt_trans (blockOf_isSome_lt h) (by decide))

theorem blockOf_of_regionOf {a : Nat} {r : Region} (h : regionOf a = some r) : blockOf a = none :=
  Option.eq_none_iff_forall_not_mem.2 fun _ hb => by simp [regionOf_of_blockOf hb] at h

theorem blockOf_packUnit {p u o : Nat} (hp : p < 16) (hu : u < 8) (ho : o < 0x2000) :
    blockOf ((Block.packUnit p u).base + o) = some (.packUnit p u) := by
  have hb : (Block.packUnit p u).base + o = 0x100000 + 0x10000 * p + 0x2000 * u + o := rfl
  rw [hb, blockOf, if_neg (by omega), if_pos (by omega),
    show (0x100000 + 0x10000 * p + 0x2000 * u + o - 0x100000) / 0x10000 = p by omega,
    show (0x100000 + 0x10000 * p + 0x2000 * u + o) % 0x10000 / 0x2000 = u by omega]

theorem writable_of_blockOf {a : Nat} {b : Block} (h : blockOf a = some b) (h4 : a % 4 = 0) : writable a = true := by
  simp [writable, assigned, windowRo, h, regionOf_of_blockOf h, h4]

theorem writable_of_regionOf {a : Nat} {r : Region} (h : regionOf a = some r) (hr : r.readOnly = false) (h4 : a % 4 = 0) :
    writable a = true := by
  simp [writable, assigned, windowRo, h, hr, h4]

/-! ## What a plain register write does (R3, R29) -/

theorem exec_plainRegisterWrite {s : State} {o : Origin} (h : s.coreUp = true ∨ o = .msp) (addr value : Word) :
    exec (.plainRegisterWrite o addr value) s = .next (s.writeReg o addr.toNat value.toNat) := by
  have c : (s.coreUp || o == .msp) = true := by simpa using h
  exact congrArg Host.Outcome.next (if_pos c)

/-- Neither FLT_CLEAR nor FLT_UNMUZZLE: every write but theirs goes through the muzzle check of R29. -/
theorem State.writeReg_of_writable {s : State} {a : Nat} (hw : writable a = true) (hf : blockOf a ≠ some (.device 1))
    (o : Origin) (v : Nat) : s.writeReg o a v = s.respond (s.guarded a (writeWord o a v)) := by
  have hc : a ≠ R.FLT_CLEAR := fun e => hf (e ▸ rfl)
  have hu : a ≠ R.FLT_UNMUZZLE := fun e => hf (e ▸ rfl)
  simp [State.writeReg, hw, hc, hu]

theorem State.writeReg_of_not_writable {s : State} {a : Nat} (hw : writable a = false) (o : Origin) (v : Nat) :
    s.writeReg o a v = { s with resp := .badAddress } := by
  simp [State.writeReg, hw]

theorem writeWord_reserved {a : Nat} {b : Block} (hb : blockOf a = some b) (hr : rowAt a = none) (o : Origin) (v : Nat)
    (s : State) : writeWord o a v s = .ok s := by
  simp [writeWord, regionOf_of_blockOf hb, hr]

theorem writeWord_device {a k : Nat} {r : RegRow} (hb : blockOf a = some (.device k)) (hr : rowAt a = some r) (o : Origin)
    (v : Nat) (s : State) : writeWord o a v s = writeDevice k o a v s := by
  simp [writeWord, regionOf_of_blockOf hb, hr, hb]

theorem writeWord_packUnit {a p u : Nat} {r : RegRow} (hb : blockOf a = some (.packUnit p u)) (hr : rowAt a = some r)
    (o : Origin) (v : Nat) (s : State) :
    writeWord o a v s = writePackUnit p u (originSession o) (a - (Block.packUnit p u).base) v s := by
  simp [writeWord, regionOf_of_blockOf hb, hr, hb]

theorem State.store_of_rowAt {a : Nat} {b : Block} {r : RegRow} (hb : blockOf a = some b) (hr : rowAt a = some r) (v : Nat)
    (s : State) : s.store a v = s.wr a (r.store v (s.rd a)) := by
  simp [State.store, regionOf_of_blockOf hb, hr]

/-- A write answered OK that puts w in the word at a and changes nothing else of the stores. -/
structure State.Takes (s t : State) (a w : Nat) : Prop where
  resp : t.resp = .ok
  word : t.rd a = w
  others : s.RegsBut t [a]
  memory : s.SameMemory t

theorem State.takes_wr (s : State) (a v : Nat) : s.Takes { s.wr a v with resp := .ok } a (v % 2 ^ 32) where
  resp := rfl
  word := s.rd_wr_same a v
  others x hx := s.rd_wr_other a x v (by simpa using hx)
  memory := ⟨rfl, rfl⟩

/-- The write of a plain register: its word is stored under its access codes, and nothing else happens. -/
structure State.Plain (s : State) (a : Nat) : Prop where
  block : ∃ b, blockOf a = some b ∧ b ≠ .device 1
  aligned : a % 4 = 0
  unmuzzled : s.addrMuzzled a = false
  stores : (rowAt a).isSome → ∀ o v, writeWord o a v s = .ok (s.store a v)

theorem State.Plain.takes {s : State} {a : Nat} (h : s.Plain a) {r : RegRow} (hr : rowAt a = some r)
    (o : Origin) (v : Nat) : s.Takes (s.writeReg o a v) a (r.store v (s.rd a) % 2 ^ 32) := by
  obtain ⟨b, hb, h1⟩ := h.block
  rw [State.writeReg_of_writable (writable_of_blockOf hb h.aligned) (by simpa [hb] using h1),
    State.guarded_open _ _ _ h.unmuzzled, h.stores (by simp [hr]), State.respond_ok, State.store_of_rowAt hb hr]
  exact s.takes_wr a _

theorem State.addrMuzzled_device {a k : Nat} (hb : blockOf a = some (.device k)) (s : State) : s.addrMuzzled a = false := by
  simp [State.addrMuzzled, hb]

theorem State.addrMuzzled_packUnit {a p u : Nat} (hb : blockOf a = some (.packUnit p u)) (s : State) :
    s.addrMuzzled a = s.packMuzzled p := by
  simp [State.addrMuzzled, hb]

theorem State.plain_device {a k : Nat} (hb : blockOf a = some (.device k)) (h1 : k ≠ 1) (h4 : a % 4 = 0) {s : State}
    (hw : ∀ o v, writeDevice k o a v s = .ok (s.store a v)) : s.Plain a where
  block := ⟨_, hb, by simpa using h1⟩
  aligned := h4
  unmuzzled := s.addrMuzzled_device hb
  stores hr o v := by
    obtain ⟨r, hr⟩ := Option.isSome_iff_exists.1 hr
    rw [writeWord_device hb hr, hw]

theorem State.plain_packUnit {p u o : Nat} (hp : p < 16) (hu : u < 8) (ho : o < 0x2000) (h4 : o % 4 = 0) {s : State}
    (hm : s.packMuzzled p = false)
    (hw : ∀ ses v, writePackUnit p u ses o v s = .ok (s.store ((Block.packUnit p u).base + o) v)) :
    s.Plain ((Block.packUnit p u).base + o) where
  block := ⟨_, blockOf_packUnit hp hu ho, by simp⟩
  aligned := by simp only [Block.base]; omega
  unmuzzled := by rw [s.addrMuzzled_packUnit (blockOf_packUnit hp hu ho), hm]
  stores hr _ v := by
    obtain ⟨r, hr⟩ := Option.isSome_iff_exists.1 hr
    rw [writeWord_packUnit (blockOf_packUnit hp hu ho) hr, Nat.add_sub_cancel_left, hw]

/-! ## The plain registers of the packs and of the device blocks -/

theorem State.plain_housekeeping {a : Nat} (hb : blockOf a = some (.device 2)) (h4 : a % 4 = 0) (s : State) : s.Plain a :=
  State.plain_device hb (by decide) h4 fun _ _ => rfl

theorem State.plain_SEQ_HOLD_CFG {s : State} {p : Nat} (hp : p < 16) (hm : s.packMuzzled p = false) :
    s.Plain (R.SEQ_HOLD_CFG p) := by
  have e : R.SEQ_HOLD_CFG p = (Block.packUnit p 0).base + 0x8 := by simp only [R.SEQ_HOLD_CFG, Block.base]; omega
  rw [e]
  exact State.plain_packUnit hp (by decide) (by decide) (by decide) hm fun _ _ => by simp [writePackUnit, writeSeqPlain]

theorem State.plain_CAP_TRIG_HOLDOFF {s : State} {p : Nat} (hp : p < 16) (hm : s.packMuzzled p = false) :
    s.Plain (R.CAP_TRIG_HOLDOFF p) := by
  have e : R.CAP_TRIG_HOLDOFF p = (Block.packUnit p 2).base + 0x28 := by simp only [R.CAP_TRIG_HOLDOFF, Block.base]; omega
  rw [e]
  exact State.plain_packUnit hp (by decide) (by decide) (by decide) hm fun _ _ => by
    simp [writePackUnit, writeCap, writeCapPlain]

theorem State.plain_CH_LVLCHK {s : State} {p : Nat} (hp : p < 16) (hm : s.packMuzzled p = false) :
    s.Plain (R.CH_LVLCHK p) := by
  have e : R.CH_LVLCHK p = (Block.packUnit p 5).base + 0x804 := by simp only [R.CH_LVLCHK, Block.base]; omega
  rw [e]
  exact State.plain_packUnit hp (by decide) (by decide) (by decide) hm fun _ _ => by simp [writePackUnit, writeCh]

theorem State.plain_CH_CTL {s : State} {n : Nat} (hn : n < 512) (hm : s.packMuzzled (n / 32) = false) :
    s.Plain (R.CH_CTL n) := by
  have e : R.CH_CTL n = (Block.packUnit (n / 32) 5).base + (0x40 * (n % 32) + 0x1C) := by
    simp only [R.CH_CTL, Block.base]; omega
  have lo : 0x40 * (n % 32) + 0x1C < 0x800 := by omega
  have md : (0x40 * (n % 32) + 0x1C) % 0x40 = 0x1C := by omega
  rw [e]
  exact State.plain_packUnit (by omega) (by decide) (by omega) (by omega) hm fun _ _ => by
    simp [writePackUnit, writeCh, lo, md]

theorem State.plain_CH_PMU_MEAS {s : State} {n : Nat} (hn : n < 512) (hm : s.packMuzzled (n / 32) = false) :
    s.Plain (R.CH_PMU_MEAS n) := by
  have e : R.CH_PMU_MEAS n = (Block.packUnit (n / 32) 5).base + (0x40 * (n % 32) + 0x2C) := by
    simp only [R.CH_PMU_MEAS, Block.base]; omega
  have lo : 0x40 * (n % 32) + 0x2C < 0x800 := by omega
  have md : (0x40 * (n % 32) + 0x2C) % 0x40 = 0x2C := by omega
  rw [e]
  exact State.plain_packUnit (by omega) (by decide) (by omega) (by omega) hm fun _ _ => by
    simp [writePackUnit, writeCh, lo, md]

theorem State.plain_MPA_MAP (s : State) : s.Plain R.MPA_MAP :=
  State.plain_device (k := 5) rfl (by decide) rfl fun _ _ => rfl

theorem State.plain_WH_TIME_SET_LO (s : State) : s.Plain R.WH_TIME_SET_LO :=
  State.plain_device (k := 7) rfl (by decide) rfl fun _ _ => rfl

theorem State.plain_WH_SWAP_LO (s : State) : s.Plain R.WH_SWAP_LO :=
  State.plain_device (k := 7) rfl (by decide) rfl fun _ _ => rfl

theorem State.plain_CAL_REST (s : State) : s.Plain R.CAL_REST :=
  State.plain_device (k := 8) rfl (by decide) rfl fun _ _ => rfl

theorem State.plain_of_mem {s : State} {a p n : Nat} (hp : p < 16) (hn : n < 512) (mp : s.packMuzzled p = false)
    (mn : s.packMuzzled (n / 32) = false)
    (ha : a ∈ [R.SEQ_HOLD_CFG p, R.CAP_TRIG_HOLDOFF p, R.CH_LVLCHK p, R.CH_CTL n, R.CH_PMU_MEAS n, R.MPA_MAP,
      R.WH_TIME_SET_LO, R.WH_SWAP_LO, R.CAL_REST]) : s.Plain a := by
  simp only [List.mem_cons, List.not_mem_nil, or_false] at ha
  rcases ha with rfl | rfl | rfl | rfl | rfl | rfl | rfl | rfl | rfl
  · exact State.plain_SEQ_HOLD_CFG hp mp
  · exact State.plain_CAP_TRIG_HOLDOFF hp mp
  · exact State.plain_CH_LVLCHK hp mp
  · exact State.plain_CH_CTL hn mn
  · exact State.plain_CH_PMU_MEAS hn mn
  · exact s.plain_MPA_MAP
  · exact s.plain_WH_TIME_SET_LO
  · exact s.plain_WH_SWAP_LO
  · exact s.plain_CAL_REST

/-! ## PSM_SLEW, whose write shows SETTLED again (R221, R251) -/

/-- The register map and the two memories: all of the state that an address reaches. -/
def State.stores (s : State) : Tab Word × Memory × Memory := (s.regs, s.dram, s.mram)

theorem State.stores_eq_iff (s t : State) : t.stores = s.stores ↔ t.regs = s.regs ∧ s.SameMemory t := by
  simp [State.stores, State.SameMemory]

theorem State.answer_stores (s : State) (o : Owner) (st : Status) (d : Nat) (pl : List Word) :
    (s.answer o st d pl).stores = s.stores := by
  unfold State.answer
  cases o with
  | cmd h =>
    dsimp only
    split
    · obtain ⟨_, _, e⟩ := s.complete_eq h st d pl
      rw [e]; rfl
    · rfl
  | run id key =>
    dsimp only
    split
    · rfl
    · split <;> rfl

theorem State.forEach_stores {α : Type} (l : List α) (f : α → State → State) (h : ∀ x s, (f x s).stores = s.stores)
    (s : State) : (s.forEach l f).stores = s.stores := by
  induction l generalizing s with
  | nil => rfl
  | cons x l ih => exact (ih (f x s)).trans (h x s)

theorem State.psmRefresh_stores (s : State) (n : Nat) :
    (s.psmRefresh n).stores = (s.setB (F.PSM_STATUS_SETTLED n) (s.psmSettled n)).stores := by
  unfold State.psmRefresh
  dsimp only
  split
  · rw [State.forEach_stores _ _ (fun o x => x.answer_stores o .ok 0 [])]; rfl
  · rfl

theorem State.psmRefresh_rd (s : State) (n : Nat) {a : Nat} (h : a ≠ R.PSM_STATUS n) : (s.psmRefresh n).rd a = s.rd a := by
  have e := ((State.stores_eq_iff _ _).1 (s.psmRefresh_stores n)).1
  calc (s.psmRefresh n).rd a = (s.setB (F.PSM_STATUS_SETTLED n) (s.psmSettled n)).rd a := by unfold State.rd; rw [e]
    _ = s.rd a := State.rd_set_other _ _ _ _ h

theorem State.psmRefresh_sameMemory (s : State) (n : Nat) : s.SameMemory (s.psmRefresh n) :=
  ((State.stores_eq_iff _ _).1 (s.psmRefresh_stores n)).2

theorem PSM_SLEW_eq (n : Nat) : R.PSM_SLEW n = (Block.packUnit (n / 6) 6).base + (0x400 * (n % 6) + 0x8) := by
  simp only [R.PSM_SLEW, Block.base]; omega

theorem blockOf_PSM_SLEW {n : Nat} (hn : n < 96) : blockOf (R.PSM_SLEW n) = some (.packUnit (n / 6) 6) := by
  rw [PSM_SLEW_eq]; exact blockOf_packUnit (by omega) (by decide) (by omega)

/-- The stored word and SETTLED: neither the limits nor the locks of a PSM's registers speak of PSM_SLEW. -/
theorem writeWord_PSM_SLEW {n : Nat} {r : RegRow} (hn : n < 96) (hr : rowAt (R.PSM_SLEW n) = some r) (o : Origin) (v : Nat)
    (s : State) : writeWord o (R.PSM_SLEW n) v s = .ok ((s.store (R.PSM_SLEW n) v).psmRefresh n) := by
  have hp : 6 * (n / 6) + (0x400 * (n % 6) + 0x8) / 0x400 = n := by omega
  have ho : (0x400 * (n % 6) + 0x8) % 0x400 = 0x8 := by omega
  have ha : R.PSM_CTL n + 0x8 = R.PSM_SLEW n := by simp only [R.PSM_CTL, R.PSM_SLEW]; omega
  rw [writeWord_packUnit (blockOf_PSM_SLEW hn) hr, Nat.sub_eq_of_eq_add' (PSM_SLEW_eq n)]
  simp [writePackUnit, hp, ho, writePsm, writePsmPlain, State.psmBad, snapBad, State.psmLocked, ha]

theorem State.writeReg_PSM_SLEW {s : State} {n : Nat} {r : RegRow} (hn : n < 96) (hm : s.packMuzzled (n / 6) = false)
    (hr : rowAt (R.PSM_SLEW n) = some r) (o : Origin) (v : Nat) :
    s.writeReg o (R.PSM_SLEW n) v
      = { (s.wr (R.PSM_SLEW n) (r.store v (s.rd (R.PSM_SLEW n)))).psmRefresh n with resp := .ok } := by
  have hb := blockOf_PSM_SLEW hn
  have h4 : R.PSM_SLEW n % 4 = 0 := by simp only [R.PSM_SLEW]; omega
  rw [State.writeReg_of_writable (writable_of_blockOf hb h4) (by simp [hb]),
    State.guarded_open _ _ _ ((s.addrMuzzled_packUnit hb).trans hm), writeWord_PSM_SLEW hn hr, State.respond_ok,
    State.store_of_rowAt hb hr]

theorem State.takes_PSM_SLEW {s : State} {n : Nat} {r : RegRow} (hn : n < 96) (hm : s.packMuzzled (n / 6) = false)
    (hr : rowAt (R.PSM_SLEW n) = some r) (o : Origin) (v : Nat) :
    (s.writeReg o (R.PSM_SLEW n) v).resp = .ok
      ∧ (s.writeReg o (R.PSM_SLEW n) v).rd (R.PSM_SLEW n) = r.store v (s.rd (R.PSM_SLEW n)) % 2 ^ 32
      ∧ s.SameMemory (s.writeReg o (R.PSM_SLEW n) v) := by
  have hne : R.PSM_SLEW n ≠ R.PSM_STATUS n := by simp only [R.PSM_SLEW, R.PSM_STATUS]; omega
  rw [State.writeReg_PSM_SLEW hn hm hr]
  exact ⟨rfl, (State.psmRefresh_rd _ n hne).trans (s.rd_wr_same _ _), State.psmRefresh_sameMemory (s.wr _ _) n⟩

/-! ## The words without a register and the muzzled units (R3, R26, R29) -/

theorem State.writeReg_reserved {s : State} {a k : Nat} (hb : blockOf a = some (.device k)) (h1 : k ≠ 1) (h4 : a % 4 = 0)
    (hr : rowAt a = none) (o : Origin) (v : Nat) : s.writeReg o a v = { s with resp := .ok } := by
  rw [State.writeReg_of_writable (writable_of_blockOf hb h4) (by simpa [hb] using h1),
    State.guarded_open _ _ _ (s.addrMuzzled_device hb), writeWord_reserved hb hr, State.respond_ok]

theorem State.takes_aeDmem {a c : Nat} (h : regionOf a = some (.aeDmem c)) (h4 : a % 4 = 0) (s : State) (o : Origin)
    (v : Nat) : s.Takes (s.writeReg o a v) a (v % 2 ^ 32) := by
  have hb := blockOf_of_regionOf h
  have hw : writeWord o a v s = .ok (s.wr a v) := by simp only [writeWord, h, writeWindow]
  rw [State.writeReg_of_writable (writable_of_regionOf h rfl h4) (by simp [hb]),
    State.guarded_open _ _ _ (by simp [State.addrMuzzled, hb]), hw]
  exact s.takes_wr a v

theorem State.writeReg_muzzled_pack {s : State} {a p u : Nat} (hb : blockOf a = some (.packUnit p u)) (h4 : a % 4 = 0)
    (hm : s.packMuzzled p = true) (hw : hasW1C a = false) (o : Origin) (v : Nat) :
    s.writeReg o a v = { s with resp := .muzzled } := by
  rw [State.writeReg_of_writable (writable_of_blockOf hb h4) (by simp [hb]),
    State.guarded_muzzled _ _ _ ((s.addrMuzzled_packUnit hb).trans hm) hw, State.respond_error]

/-! ## The statement -/

/-- Settles O5: the fields of a row share no bit, so each is stored by its own access code; and each plain write is
followed from the address check over the muzzle check to the store. -/
theorem registerStores : Obligations.RegisterStores := by
  unfold Obligations.RegisterStores
  refine ⟨fun a r f v old hr hf => ?_, fun o addr value s up => ?_⟩
  · rw [RegRow.bits_store hr hf]
    cases e : f.acc with
    | rw => exact f.bits_store_written (.inl e) v old
    | rws => exact f.bits_store_written (.inr e) v old
    | ro => exact congrArg (bits · f.lo f.w) (f.store_kept (.inl e) v old)
    | wo => exact congrArg (bits · f.lo f.w) (f.store_kept (.inr e) v old)
    | w1c => exact f.bits_store_cleared e v old
  rw [exec_plainRegisterWrite up addr value]
  refine ⟨fun r hb h4 hr => ?_, fun hb h4 hr => ?_, fun c h h4 => ?_, fun hw => ?_, fun p hb h4 hm hw => ?_,
    fun p n r hp hn mp mn hr ha => ?_, fun n r hn hm ha hr => ?_⟩
  · obtain ⟨ok, word, others, memory⟩ := (State.plain_housekeeping hb h4 s).takes hr o value.toNat
    exact ⟨_, rfl, ok, word, others, memory⟩
  · rw [State.writeReg_reserved hb (by decide) h4 hr]
  · obtain ⟨ok, word, others, memory⟩ := State.takes_aeDmem h h4 s o value.toNat
    exact ⟨_, rfl, ok, word.trans (Nat.mod_eq_of_lt value.isLt), others, memory⟩
  · rw [State.writeReg_of_not_writable hw]
  · rw [State.writeReg_muzzled_pack hb h4 hm hw]
  · obtain ⟨ok, word, others, memory⟩ := (State.plain_of_mem hp hn mp mn ha).takes hr o value.toNat
    exact ⟨_, rfl, ok, word, others, memory⟩
  · rw [ha] at hr ⊢
    exact ⟨_, rfl, State.takes_PSM_SLEW hn hm hr o value.toNat⟩

end Sys2Proof.Machine

/-! # O7: the register commands

REG_READ, REG_WRITE, REG_MODIFY and REG_POLL of one word: an equation for each way a command goes, and what the
completion that ends it leaves. -/

namespace Sys2Proof.Machine

@[simp] theorem word_cons_zero (w : Word) (l : List Word) : word (w :: l) 0 = w.toNat := rfl

@[simp] theorem word_cons_succ (w : Word) (l : List Word) (i : Nat) : word (w :: l) (i + 1) = word l i := rfl

/-! ## The command in flight (R296, R300) -/

/-- The commands in flight and the two memories: what a register access leaves alone. -/
structure State.SameFlight (s t : State) : Prop where
  inflight : t.inflight = s.inflight
  memory : s.SameMemory t

theorem State.entryOf_congr {s t : State} (i : t.inflight = s.inflight) (h : CmdHdr) : t.entryOf h = s.entryOf h := by
  unfold State.entryOf; rw [i]

theorem State.SameMemory.complete {s t : State} (m : s.SameMemory t) (h : CmdHdr) (st : Status) (d : Nat) (pl : List Word) :
    s.SameMemory (t.complete h st d pl) :=
  ⟨(t.complete_dram h st d pl).trans m.1, (t.complete_mram h st d pl).trans m.2⟩

/-- Admission notes the home port and nothing else in the register map (R300). -/
theorem State.rd_admitted {a : Nat} (ha : a ≠ R.LNK_SESSION) (s : State) (op : Nat) (h : CmdHdr) (pl : List Word) :
    (s.admitted op h pl).rd a = s.rd a :=
  State.rd_set_other s _ _ a ha

theorem State.get_admitted {r : Ref} (hr : r.addr ≠ R.LNK_SESSION) (s : State) (op : Nat) (h : CmdHdr) (pl : List Word) :
    (s.admitted op h pl).get r = s.get r := by
  unfold State.get; rw [State.rd_admitted hr]

/-- A command just admitted still stands in the table after a register access, so its completion is queued. -/
theorem State.SameFlight.answers {s t : State} {op : Nat} {h : CmdHdr} {pl : List Word}
    (k : (s.admitted op h pl).SameFlight t) (f : s.entryOf h = none) (st : Status) (d : Nat) (w : List Word) :
    (t.complete h st d w).Answers h st d w :=
  t.complete_answers h st d w _ ((State.entryOf_congr k.inflight h).trans (s.entryOf_admitted op h pl f)) rfl rfl

/-- A command that is refused answers its status; only its home port is noted. -/
theorem State.admitted_done {s : State} {h : CmdHdr} (f : s.entryOf h = none) (op : Nat) (pl : List Word) (st : Status) :
    ((s.admitted op h pl).done h st).Answers h st 0 [] ∧ ((s.admitted op h pl).done h st).regs = (s.homed h).regs
      ∧ s.SameMemory ((s.admitted op h pl).done h st) :=
  ⟨s.admitted_answers op h pl st 0 [] f, State.done_regs .., State.SameMemory.complete ⟨rfl, rfl⟩ h st 0 []⟩

/-! ## Words of the SRAM window (R26) -/

theorem addressBad_of_regionOf {a : Nat} {r : Region} (hr : regionOf a = some r) (h4 : a % 4 = 0) :
    addressBad a = false := by
  simp [addressBad, assigned, hr, h4]

theorem ne_LNK_SESSION_of_regionOf {a : Nat} {r : Region} (hr : regionOf a = some r) : a ≠ R.LNK_SESSION := by
  rintro rfl
  cases hr

/-- A word of the window reads as it is stored: it has no latch and no view of other state. -/
theorem State.readReg_window {a : Nat} {r : Region} (hr : regionOf a = some r) (s : State) (ses : Option Nat) :
    s.readReg ses a = (s.rd a, s) := by
  simp [State.readReg, blockOf_of_regionOf hr]

theorem State.writeReg_aeDmem {a c : Nat} (h : regionOf a = some (.aeDmem c)) (h4 : a % 4 = 0) (s : State) (o : Origin)
    (v : Nat) : s.writeReg o a v = { s.wr a v with resp := .ok } := by
  have hb := blockOf_of_regionOf h
  rw [State.writeReg_of_writable (writable_of_regionOf h rfl h4) (by simp [hb]),
    State.guarded_open _ _ _ (by simp [State.addrMuzzled, hb])]
  simp [writeWord, writeWindow, h]

/-- A command that has written w to the word at a completes: its answer waits, and nothing else has changed. -/
theorem State.Takes.completed {s t : State} {op : Nat} {h : CmdHdr} {pl : List Word} {a w : Nat}
    (k : (s.admitted op h pl).Takes t a w) (i : t.inflight = (s.admitted op h pl).inflight) (f : s.entryOf h = none)
    (st : Status) (d : List Word) :
    (t.complete h st 0 d).Answers h st 0 d ∧ (t.complete h st 0 d).rd a = w
      ∧ (s.homed h).RegsBut (t.complete h st 0 d) [a] ∧ s.SameMemory (t.complete h st 0 d) :=
  ⟨State.SameFlight.answers ⟨i, k.memory⟩ f st 0 d, (State.complete_rd ..).trans k.word,
    fun x hx => (State.complete_rd ..).trans (k.others x hx), State.SameMemory.complete k.memory h st 0 d⟩

/-! ## REG_READ (R304, R307) -/

theorem readImemLo_sameFlight (p : Nat) (s : State) : s.SameFlight (readImemLo p s).2 := by
  unfold readImemLo
  exact ⟨rfl, rfl, rfl⟩

theorem readImemHi_sameFlight (p : Nat) (s : State) : s.SameFlight (readImemHi p s).2 := by
  unfold readImemHi
  exact ⟨State.set_inflight .., State.set_dram .., State.set_mram ..⟩

/-- Whatever else a read of a word brings about (R146, R306), no command in flight and no memory is touched. -/
theorem State.readReg_sameFlight (s : State) (ses : Option Nat) (a : Nat) : s.SameFlight (s.readReg ses a).2 := by
  unfold State.readReg
  split
  · exact ⟨rfl, rfl, rfl⟩
  split
  · exact ⟨rfl, rfl, rfl⟩
  split
  · exact ⟨rfl, rfl, rfl⟩
  extract_lets other
  have plain : s.SameFlight other.2 := by
    unfold other
    split
    · exact ⟨rfl, rfl, rfl⟩
    split
    · exact ⟨rfl, rfl, rfl⟩
    split
    · split <;> exact ⟨rfl, rfl, rfl⟩
    · exact ⟨rfl, rfl, rfl⟩
  clear_value other
  split
  · split
    · exact readImemLo_sameFlight _ s
    split
    · exact readImemHi_sameFlight _ s
    · exact plain
  · exact plain

theorem State.readWords_one (s : State) {ses last a : Nat} (ha : a ≤ last) :
    s.readWords ses last a 1 = ([BitVec.ofNat 32 (s.readReg (some ses) a).1], (s.readReg (some ses) a).2) := by
  simp [State.readWords, ha]

theorem exec_regRead_bad {s : State} {h : CmdHdr} {a n : Word} (adm : s.Admits 0x00 h [a, n])
    (ha : addressBad a.toNat = true) :
    exec (.regRead h [a, n]) s = .next ((s.admitted 0x00 h [a, n]).done h .badAddress) :=
  congrArg Host.Outcome.next ((s.cmd_admits _ h _ _ adm).trans (if_pos ha))

theorem exec_regRead_one {s : State} {h : CmdHdr} {a : Word} (adm : s.Admits 0x00 h [a, 1])
    (ha : addressBad a.toNat = false) (last : a.toNat ≤ lastValidOf a.toNat) :
    exec (.regRead h [a, 1]) s = .next
      (((s.admitted 0x00 h [a, 1]).readReg (some h.session.toNat) a.toNat).2.complete h .ok 0
        [BitVec.ofNat 32 ((s.admitted 0x00 h [a, 1]).readReg (some h.session.toNat) a.toNat).1]) := by
  refine congrArg Host.Outcome.next ((s.cmd_admits _ h _ _ adm).trans ?_)
  simp [ha, last, State.readWords_one]

/-! ## REG_WRITE (R304, R305) -/

theorem State.flowByte_admitted (s : State) (op : Nat) (h : CmdHdr) (pl : List Word) (o : Nat) :
    (s.admitted op h pl).flowByte o = s.flowByte o := by
  unfold State.flowByte
  rw [State.rd_admitted (by simp only [Region.base, R.LNK_SESSION]; omega)]

theorem State.flowNat_admitted (s : State) (op : Nat) (h : CmdHdr) (pl : List Word) (o n : Nat) :
    (s.admitted op h pl).flowNat o n = s.flowNat o n := by
  induction n generalizing o with
  | zero => rfl
  | succ n ih => simp only [State.flowNat, State.flowByte_admitted, ih]

/-- The image of a loaded flow is told from the flow registers and its header, which admission leaves (R341). -/
theorem State.imageTouched_admitted (s : State) (op : Nat) (h : CmdHdr) (pl : List Word) (a n : Nat) :
    (s.admitted op h pl).imageTouched a n = s.imageTouched a n := by
  have flow (f : Nat) : R.SHP_FLOW f ≠ R.LNK_SESSION := by simp only [R.SHP_FLOW, R.LNK_SESSION]; omega
  have loaded (f : Nat) := State.get_admitted (r := F.SHP_FLOW_LOADED f) (flow f) s op h pl
  have offset (f : Nat) := State.get_admitted (r := F.SHP_FLOW_OFFSET f) (flow f) s op h pl
  simp only [State.imageTouched, State.flag, State.flowHead, State.flowWord, State.flowNat_admitted, loaded, offset]

theorem State.writeRefused_admitted (s : State) (op : Nat) (h : CmdHdr) (pl : List Word) (a : Nat) (data : List Word) :
    (s.admitted op h pl).writeRefused a data = s.writeRefused a data := by
  unfold State.writeRefused; rw [State.imageTouched_admitted]

theorem State.writeRefused_aeDmem {a c : Nat} (h : regionOf a = some (.aeDmem c)) (h4 : a % 4 = 0) (s : State) (v : Word) :
    s.writeRefused a [v] = none := by
  simp [State.writeRefused, addressBad_of_regionOf h h4, windowRo, Region.readOnly, sameUnit, State.imageTouched, h]

/-- A first routine of one word, which is taken, is the last one. -/
theorem State.regWriteFrom_one {s t : State} {h : CmdHdr} {a : Nat} {v : Word}
    (e : s.writeReg (.link h.session) a v.toNat = t) (ok : t.resp = .ok) : s.regWriteFrom h a 0 [v] = t.done h .ok := by
  subst e
  simp [State.regWriteFrom, State.writeWords, regChunk, ok]

theorem exec_regWrite_refused {s : State} {h : CmdHdr} {a v : Word} {st : Status} (adm : s.Admits 0x01 h [a, v])
    (first : s.chainOf h = none) (refused : s.writeRefused a.toNat [v] = some st) :
    exec (.regWrite h [a, v]) s = .next ((s.admitted 0x01 h [a, v]).done h st) := by
  have first' : (s.admitted 0x01 h [a, v]).chainOf h = none := first
  refine congrArg Host.Outcome.next ((s.cmd_admits _ h _ _ adm).trans ?_)
  simp [first', State.writeRefused_admitted, refused]

theorem exec_regWrite_checked {s : State} {h : CmdHdr} {a v : Word} (adm : s.Admits 0x01 h [a, v])
    (first : s.chainOf h = none) (checked : s.writeRefused a.toNat [v] = none) :
    exec (.regWrite h [a, v]) s = .next ((s.admitted 0x01 h [a, v]).regWriteFrom h a.toNat 0 [v]) := by
  have first' : (s.admitted 0x01 h [a, v]).chainOf h = none := first
  refine congrArg Host.Outcome.next ((s.cmd_admits _ h _ _ adm).trans ?_)
  simp [first', State.writeRefused_admitted, checked]

/-! ## REG_MODIFY (R304) -/

/-- A word of the window has no W1C bit. -/
theorem modified_window {a : Nat} {r : Region} (hr : regionOf a = some r) (old m v : Nat) :
    modified a old m v = (old &&& (m ^^^ 0xFFFFFFFF)) ||| (v &&& m) := by
  simp [modified, w1cMask, rowAt, blockOf_of_regionOf hr]

theorem and_or_and_lt {old : Nat} (h : old < 2 ^ 32) (k m : Nat) (v : Word) :
    ((old &&& k) ||| (v.toNat &&& m)) < 2 ^ 32 :=
  Nat.or_lt_two_pow (Nat.lt_of_le_of_lt Nat.and_le_left h) (Nat.lt_of_le_of_lt Nat.and_le_left v.isLt)

theorem exec_regModify_aeDmem {s : State} {h : CmdHdr} {a m v : Word} {c : Nat} (adm : s.Admits 0x02 h [a, m, v])
    (hr : regionOf a.toNat = some (.aeDmem c)) (h4 : a.toNat % 4 = 0) :
    exec (.regModify h [a, m, v]) s = .next (({ (s.admitted 0x02 h [a, m, v]).wr a.toNat
      ((s.rd a.toNat &&& (m.toNat ^^^ 0xFFFFFFFF)) ||| (v.toNat &&& m.toNat)) with resp := .ok } : State).complete h .ok 0
        [BitVec.ofNat 32 (s.rd a.toNat)]) := by
  refine congrArg Host.Outcome.next ((s.cmd_admits _ h _ _ adm).trans ?_)
  simp [writable_of_regionOf hr rfl h4, State.readReg_window hr, State.writeReg_aeDmem hr h4, modified_window hr,
    State.rd_admitted (ne_LNK_SESSION_of_regionOf hr)]

/-! ## REG_POLL and REG_POLL_READ (R304) -/

/-- The outcomes of one read of the word at a by a poll, with n reads before it, from s on: a match, the limit, one read
more. -/
structure State.Polled (s t : State) (h : CmdHdr) (v m x l n : Nat) : Prop where
  regs : t.regs = s.regs
  memory : s.SameMemory t
  hit : v &&& m = x → t.Answers h .ok 0 [BitVec.ofNat 32 v]
  late : v &&& m ≠ x → l ≤ n → t.Answers h .timeout 0 [BitVec.ofNat 32 v]
  more : v &&& m ≠ x → ¬ l ≤ n → (h, n + 1) ∈ t.polls

theorem State.pollRead_polled {s : State} {h : CmdHdr} {e : InFlight} {a m x l : Word} {r : Region}
    (he : s.entryOf h = some e) (hh : e.hdr = h) (hs : e.suppressed = false) (hr : regionOf a.toNat = some r) (n : Nat) :
    s.Polled (s.pollRead h [a, m, x, l] n) h (s.rd a.toNat) m.toNat x.toNat l.toNat n := by
  simp only [State.pollRead, State.readReg_window hr, word_cons_zero, word_cons_succ]
  split
  · next hit =>
    exact ⟨State.complete_regs .., State.SameMemory.complete ⟨rfl, rfl⟩ ..,
      fun _ => State.complete_answers _ _ _ _ _ e he hs hh, fun miss => absurd hit miss, fun miss => absurd hit miss⟩
  · next miss =>
    split
    · next late =>
      exact ⟨State.complete_regs .., State.SameMemory.complete ⟨rfl, rfl⟩ .., fun hit => absurd hit miss,
        fun _ _ => State.complete_answers _ _ _ _ _ e he hs hh, fun _ more => absurd late more⟩
    · next more =>
      exact ⟨rfl, ⟨rfl, rfl⟩, fun hit => absurd hit miss, fun _ late => absurd late more, fun _ _ => by simp⟩

theorem exec_regPoll_start {s : State} {h : CmdHdr} {a m x l : Word} (adm : s.Admits 0x03 h [a, m, x, l])
    (ha : addressBad a.toNat = false) :
    exec (.regPoll h [a, m, x, l]) s = .next ((s.admitted 0x03 h [a, m, x, l]).pollRead h [a, m, x, l] 0) := by
  refine congrArg Host.Outcome.next ((s.cmd_admits _ h _ _ adm).trans ?_)
  simp [ha]

theorem exec_regPollRead_next {s : State} {h : CmdHdr} {n : Nat} {e : InFlight} (up : s.coreUp = true)
    (poll : s.polls.find? (fun p => p.1.session == h.session && p.1.tag == h.tag) = some (h, n))
    (he : s.entryOf h = some e) :
    exec (.regPollRead h.session h.tag) s = .next (s.pollRead e.hdr e.payload n) := by
  refine congrArg Host.Outcome.next ?_
  simp [up, poll, he]

/-! ## The statement -/

/-- Settles O7: each command that starts at once is its body on the state that has it in flight; a read and a write of a
register leave it there, so the completion they end with is its answer. -/
theorem registerCommands : Obligations.RegisterCommands := by
  unfold Obligations.RegisterCommands
  refine fun h s => ⟨fun a n adm => ⟨fun bad => ?_, fun good last one => ?_⟩,
    fun a v adm first => ⟨fun st refused => ?_, fun c hr h4 => ?_⟩, fun a m v adm c hr h4 => ?_,
    fun a m v l adm c hr h4 => ?_, fun n a m v l e c up poll he hh pl hs hr => ?_⟩
  · exact ⟨_, exec_regRead_bad adm bad, State.admitted_done adm.fresh _ _ _⟩
  · subst one
    have k := (s.admitted 0x00 h [a, 1]).readReg_sameFlight (some h.session.toNat) a.toNat
    exact ⟨_, exec_regRead_one adm good last, k.answers adm.fresh _ _ _, State.complete_regs .., k.memory.complete ..⟩
  · exact ⟨_, exec_regWrite_refused adm first refused, State.admitted_done adm.fresh _ _ _⟩
  · have written := (State.takes_wr (s.admitted 0x01 h [a, v]) a.toNat v.toNat).completed rfl adm.fresh .ok []
    rw [Nat.mod_eq_of_lt v.isLt] at written
    refine ⟨_, ?_, written⟩
    rw [exec_regWrite_checked adm first (s.writeRefused_aeDmem hr h4 v),
      State.regWriteFrom_one (State.writeReg_aeDmem hr h4 _ _ _) rfl]
    rfl
  · have written := (State.takes_wr (s.admitted 0x02 h [a, m, v]) a.toNat
      ((s.rd a.toNat &&& (m.toNat ^^^ 0xFFFFFFFF)) ||| (v.toNat &&& m.toNat))).completed rfl adm.fresh .ok
        [BitVec.ofNat 32 (s.rd a.toNat)]
    rw [Nat.mod_eq_of_lt (and_or_and_lt (s.rd_lt _) _ _ v)] at written
    exact ⟨_, exec_regModify_aeDmem adm hr h4, written⟩
  · have entry := s.entryOf_admitted 0x03 h [a, m, v, l] adm.fresh
    have p := State.pollRead_polled (m := m) (x := v) (l := l) entry rfl rfl hr 0
    rw [State.rd_admitted (ne_LNK_SESSION_of_regionOf hr)] at p
    exact ⟨_, exec_regPoll_start adm (addressBad_of_regionOf hr h4), p.regs, p.memory, p.hit,
      fun miss zero => p.late miss (Nat.le_of_eq zero), fun miss pos => p.more miss (by omega)⟩
  · have p := State.pollRead_polled (m := m) (x := v) (l := l) he hh hs hr n
    refine ⟨_, exec_regPollRead_next up poll he, ?_⟩
    rw [hh, pl]
    exact ⟨p.regs, p.memory, p.hit, p.late, p.more⟩

end Sys2Proof.Machine

/-! # The channel unit: the rules of its state

What the operations shared by the channel registers leave: a channel's hidden state after an update, a flag after a
field is set, and the muzzle check at an address of the unit. -/

namespace Sys2Proof.Machine

/-! ## The hidden state of a channel -/

@[simp] theorem State.chan_setChan_same (s : State) (n : Nat) (c : ChanState) : (s.setChan n c).chan n = c :=
  Tab.get_put_same ..

theorem State.chan_setChan_other (s : State) {n m : Nat} (h : m ≠ n) (c : ChanState) : (s.setChan n c).chan m = s.chan m :=
  Tab.get_put_other _ _ _ _ _ h

@[simp] theorem State.chan_set (s : State) (r : Ref) (v n : Nat) : (s.set r v).chan n = s.chan n := rfl

@[simp] theorem State.setChan_get (s : State) (n : Nat) (c : ChanState) (r : Ref) : (s.setChan n c).get r = s.get r := rfl

@[simp] theorem State.setChan_flag (s : State) (n : Nat) (c : ChanState) (r : Ref) : (s.setChan n c).flag r = s.flag r := rfl

@[simp] theorem State.setChan_pmuBusy (s : State) (n : Nat) (c : ChanState) (m : Nat) :
    (s.setChan n c).pmuBusy m = s.pmuBusy m := rfl

/-! ## Words and flags -/

theorem State.rd_of_stores {s t : State} (h : t.stores = s.stores) (a : Nat) : t.rd a = s.rd a := by
  unfold State.rd; rw [((State.stores_eq_iff s t).1 h).1]

theorem State.get_of_stores {s t : State} (h : t.stores = s.stores) (r : Ref) : t.get r = s.get r := by
  unfold State.get; rw [State.rd_of_stores h]

theorem State.sameMemory_of_stores {s t : State} (h : t.stores = s.stores) : s.SameMemory t :=
  ((State.stores_eq_iff s t).1 h).2

theorem State.RegsBut.trans {s t u : State} {l k : List Nat} (h : s.RegsBut t l) (g : t.RegsBut u k) (hl : l ⊆ k) :
    s.RegsBut u k :=
  fun a ha => (g a ha).trans (h a fun m => ha (hl m))

theorem State.flag_eq (s : State) (r : Ref) : s.flag r = (s.get r != 0) := rfl

/-- A flag just set reads as the low bits written. -/
theorem State.flag_set_same (s : State) (r : Ref) (v : Nat) (h : r.lo + r.w ≤ 32) :
    (s.set r v).flag r = (v % 2 ^ r.w != 0) := by
  rw [State.flag_eq, State.get_set_same _ _ _ h]

theorem State.flag_set_beside (s : State) (r x : Ref) (v : Nat) (h : r.lo + r.w ≤ 32)
    (hx : x.lo + x.w ≤ r.lo ∨ r.lo + r.w ≤ x.lo) : (s.set r v).flag x = s.flag x := by
  rw [State.flag_eq, State.get_set_beside _ _ _ _ h hx, State.flag_eq]

theorem State.RegsBut.refl (s : State) (l : List Nat) : s.RegsBut s l := fun _ _ => rfl

/-- A field set in one of the words that may differ changes no other word. -/
theorem State.RegsBut.set {s t : State} {l : List Nat} (h : s.RegsBut t l) {r : Ref} (hr : r.addr ∈ l) (v : Nat) :
    s.RegsBut (t.set r v) l :=
  fun a ha => (State.rd_set_other t r v a fun e => ha (e ▸ hr)).trans (h a ha)

theorem State.SameMemory.refl (s : State) : s.SameMemory s := ⟨rfl, rfl⟩

theorem State.SameMemory.trans {s t u : State} (h : s.SameMemory t) (g : t.SameMemory u) : s.SameMemory u :=
  ⟨g.1.trans h.1, g.2.trans h.2⟩

theorem State.SameMemory.set {s t : State} (h : s.SameMemory t) (r : Ref) (v : Nat) : s.SameMemory (t.set r v) :=
  ⟨(State.set_dram ..).trans h.1, (State.set_mram ..).trans h.2⟩

theorem State.RegsBut.setChan {s t : State} {l : List Nat} (h : s.RegsBut t l) (n : Nat) (c : ChanState) :
    s.RegsBut (t.setChan n c) l :=
  h

theorem State.SameMemory.setChan {s t : State} (h : s.SameMemory t) (n : Nat) (c : ChanState) :
    s.SameMemory (t.setChan n c) :=
  h

/-! ## A store under the access codes (R3) -/

theorem State.regsBut_store (s : State) (a v : Nat) : s.RegsBut (s.store a v) [a] := by
  intro b hb
  have ne : b ≠ a := by simpa using hb
  unfold State.store
  split
  · exact State.rd_wr_other _ _ _ _ ne
  · split
    · rfl
    · exact State.rd_wr_other _ _ _ _ ne

theorem State.sameMemory_store (s : State) (a v : Nat) : s.SameMemory (s.store a v) := by
  unfold State.store
  split
  · exact ⟨rfl, rfl⟩
  · split <;> exact ⟨rfl, rfl⟩

/-! ## The muzzle check of R29 in the channel unit -/

/-- A write to a register of the channel unit of a pack that is not muzzled reaches it. -/
theorem State.guarded_channelUnit {s : State} {p a o : Nat} (hp : p < 16) (hm : s.packMuzzled p = false) (ho : o < 0x2000)
    (ha : a = (Block.packUnit p 5).base + o) (f : State → Res) : s.guarded a f = f s := by
  subst ha
  exact State.guarded_open _ _ _ ((s.addrMuzzled_packUnit (blockOf_packUnit hp (by decide) ho)).trans hm)

theorem exec_chApply {p : Pack} {s : State} (hm : s.packMuzzled p = false) (o : Origin) (value : Word) :
    exec (.chApply o p value) s = .next (s.respond (writeChApply p value.toNat s)) := by
  refine congrArg (Host.Outcome.next ∘ s.respond) (State.guarded_channelUnit p.isLt hm (o := 0x800) (by decide) ?_ _)
  simp only [R.CH_APPLY, Block.base]; omega

theorem exec_laneEnable {p : Pack} {s : State} (hm : s.packMuzzled p = false) (o : Origin) (l : Fin 16) (value : Word) :
    exec (.laneEnable o p l value) s = .next (s.respond (writeLane p l value.toNat s)) := by
  refine congrArg (Host.Outcome.next ∘ s.respond)
    (State.guarded_channelUnit p.isLt hm (o := 0x900 + 0x4 * l) (by omega) ?_ _)
  simp only [R.CH_LANE, Block.base]; omega

theorem CH_PMU_CTL_eq (n : Nat) : R.CH_PMU_CTL n = (Block.packUnit (n / 32) 5).base + (0x40 * (n % 32) + 0x20) := by
  simp only [R.CH_PMU_CTL, Block.base]; omega

theorem exec_chPmuGo {ch : Chan} {s : State} (hm : s.packMuzzled (ch / 32) = false) (o : Origin) (value : Word) :
    exec (.chPmuGo o ch value) s = .next (s.respond (writePmuCtl ch value.toNat s)) := by
  exact congrArg (Host.Outcome.next ∘ s.respond)
    (State.guarded_channelUnit (p := ch / 32) (by omega) hm (by omega) (CH_PMU_CTL_eq ch) _)

end Sys2Proof.Machine

/-! # O11: the level monitor after a trim step

The statement asks the level monitor for a reading whenever no apply lately changed the level. R79 has it skip a level
that a trim step changed within 100 µs as well, and so does the model. -/

namespace Sys2Proof.Machine

/-- A level that a trim step changed within 100 µs is skipped, whatever the monitor reads (R79). -/
theorem exec_levelMonitorRead_trimmed {s : State} {ch : Chan} {which : Fin 6} {a : Nat}
    (trimmed : (s.chan ch).trimmedAt.getD which none = some a) (lately : s.time < a + 40000) (code : BitVec 16) :
    exec (.levelMonitorRead ch which code) s = .next s := by
  refine congrArg Host.Outcome.next (if_pos ?_)
  simp only [trimmed, lately, decide_true, Bool.or_true]

/-- Channel 511 with the level check off, as a trim step of its VIH leaves it. -/
def trimmedVih : State := (State.reset.set (F.CH_LVLCHK_LVLCHK_EN 15) 0).trimNote 1 511 0 true

/-- The clause of the level monitor applies to it: it is not muzzled, no apply has changed its levels, and the check is
off; but a trim step has changed VIH just now, and CH_LVL_READ shows no reading of 1. -/
theorem trimmedVih_skipped :
    trimmedVih.chanMuzzled 511 = false
    ∧ (trimmedVih.chan (trimmedVih.governor 511)).changedAt.getD 0 none = none
    ∧ trimmedVih.flag (F.CH_LVLCHK_LVLCHK_EN 15) = false
    ∧ (trimmedVih.chan 511).trimmedAt.getD 0 none = some trimmedVih.time
    ∧ trimmedVih.get (F.CH_LVL_READ_READ_CODE 511) ≠ 1 := by
  decide +kernel

/-- Refutes O11: in its clause of the level monitor nothing is said of trim steps, and a reading of 1 of a VIH trimmed just
now is not shown in CH_LVL_READ. -/
theorem not_channelEdgesAndDetections : ¬ Obligations.ChannelEdgesAndDetections := by
  unfold Obligations.ChannelEdgesAndDetections
  rintro ⟨-, detections⟩
  obtain ⟨-, -, -, -, -, -, monitor, -⟩ := detections 511 trimmedVih
  obtain ⟨open_, applied, check, trimmed, reading⟩ := trimmedVih_skipped
  obtain ⟨t, run, shown, -⟩ := monitor 0 1 open_ applied check
  have skipped := exec_levelMonitorRead_trimmed (s := trimmedVih) (ch := 511) (which := 0) trimmed
    (Nat.lt_add_of_pos_right (by decide)) 1
  obtain rfl : t = trimmedVih := by
    rw [skipped] at run
    exact (Host.Outcome.next.inj run).symm
  exact reading shown

end Sys2Proof.Machine

/-! # O14: levels applied together, lanes enabled after their checks -/

namespace Sys2Proof.Machine

/-! ## An apply of one channel (R54, R55) -/

/-- What an apply that moves channel n leaves: its levels and load currents are those of its shadow registers, and no
other channel, register or byte of memory is touched. -/
structure State.Applied (s t : State) (n : Nat) : Prop where
  levels : (t.chan n).levels = s.shadowLevels n
  iol : (t.chan n).iol = s.get (F.CH_LOAD_IOL n)
  ioh : (t.chan n).ioh = s.get (F.CH_LOAD_IOH n)
  applied : (t.chan n).applied = true
  pending : t.flag (F.CH_CTL_PENDING n) = false
  chans : ∀ m, m ≠ n → t.chan m = s.chan m
  regs : s.RegsBut t [R.CH_CTL n]
  memory : s.SameMemory t

/-- The trims that an apply takes with it stand in no register (R438). -/
theorem State.trimTake_stores (s : State) (n : Nat) : (s.trimTake n).stores = s.stores := by
  unfold State.trimTake
  extract_lets x due
  split <;> rfl

theorem State.trimTake_chan_other (s : State) {n m : Nat} (h : m ≠ n) : (s.trimTake n).chan m = s.chan m := by
  unfold State.trimTake
  extract_lets x due
  split
  · exact State.chan_setChan_other _ h _
  · rfl

theorem State.shadowLevels_of_stores {s t : State} (h : t.stores = s.stores) (n : Nat) :
    t.shadowLevels n = s.shadowLevels n := by
  unfold State.shadowLevels; simp only [State.rd_of_stores h]

theorem State.applied_applyChan (s : State) (n : Nat) : s.Applied (s.applyChan n) n := by
  have kept := s.trimTake_stores n
  unfold State.applyChan
  constructor
  case levels => simp [State.shadowLevels_of_stores kept]
  case iol => simp [State.get_of_stores kept]
  case ioh => simp [State.get_of_stores kept]
  case applied => simp
  case pending => simp [State.flag_set_same, F.CH_CTL_PENDING]
  case chans => exact fun m hm => (State.chan_setChan_other _ hm _).trans (s.trimTake_chan_other hm)
  case regs =>
    have same : s.RegsBut (s.trimTake n) [R.CH_CTL n] := fun a _ => State.rd_of_stores kept a
    exact (same.setChan n _).set (List.mem_singleton.2 rfl) 0
  case memory => exact ((State.sameMemory_of_stores kept).setChan n _).set _ 0

theorem writeChApply_refused {s : State} {p v : Nat} (h : (s.namedChannels p v).all (fun n => s.applyOk n) = false) :
    writeChApply p v s = .error .badState := by
  simp [writeChApply, h]

theorem writeChApply_taken {s : State} {p v : Nat} (h : (s.namedChannels p v).all (fun n => s.applyOk n) = true) :
    writeChApply p v s = .ok (s.forEach (s.namedChannels p v) (fun n t => t.applyChan n)) := by
  simp [writeChApply, h]

/-! ## A write of CH_LANE (R75, R86) -/

theorem writeLane_running {s : State} {p v : Nat} (on : bit v 0 = true) (run : s.seqRun p = true) (l : Nat) :
    writeLane p l v s = .error .busy := by
  simp [writeLane, on, run]

section
variable {s : State} {p l v : Nat} (on : bit v 0 = true) (idle : s.seqRun p = false)
  (free : s.tmuUses p (2 * l + 1) = false)
include on idle free

theorem writeLane_muzzled (hm : s.chanMuzzled (2 * (16 * p + l)) = true) : writeLane p l v s = .error .muzzled := by
  simp [writeLane, on, idle, free, hm]

theorem writeLane_enabled (even : s.chanMuzzled (2 * (16 * p + l)) = false)
    (odd : s.chanMuzzled (2 * (16 * p + l) + 1) = false)
    (legal : levelsOk (s.swingLimit (2 * (16 * p + l))) (s.laneSwingLimit (2 * (16 * p + l))) true
      (s.chan (2 * (16 * p + l))).levels = true) :
    writeLane p l v s = .ok ((s.store (R.CH_LANE p l) v).laneMembers (16 * p + l) true) := by
  simp [writeLane, on, idle, free, even, odd, legal]

end

/-- The end of a muzzled lane waits for its unmuzzle (R86). -/
theorem writeLane_kept {s : State} {p l v : Nat} (off : bit v 0 = false) (lane : s.laneEnabled (16 * p + l) = true)
    (hm : s.laneMuzzled (16 * p + l) = true) :
    writeLane p l v s =
      .ok { s.store (R.CH_LANE p l) v with laneKept := Tab.put false s.laneKept (16 * p + l) true } := by
  simp [writeLane, off, lane, hm]

theorem writeLane_disabled {s : State} {p l v : Nat} (off : bit v 0 = false)
    (ends : s.laneEnabled (16 * p + l) = false ∨ s.laneMuzzled (16 * p + l) = false) :
    writeLane p l v s = .ok ((s.store (R.CH_LANE p l) v).laneMembers (16 * p + l) false) := by
  rcases ends with ends | ends <;> simp [writeLane, off, ends]

/-! ## The statement -/

/-- Settles O14: the muzzle check is passed, so each write is one of the cases of CH_APPLY and of CH_LANE. -/
theorem channelLevelAndLaneWrites : Obligations.ChannelLevelAndLaneWrites := by
  unfold Obligations.ChannelLevelAndLaneWrites
  intro o p value s hm
  simp only [exec_chApply hm, exec_laneEnable hm]
  refine ⟨fun bad => ?_, fun n one ok => ?_, fun none => ?_, fun l on run => ?_, ?_, fun l off lane muzzled => ?_, ?_⟩
  · rw [writeChApply_refused bad, State.respond_error]
  · rw [writeChApply_taken (by simp [one, ok]), one, State.respond_ok]
    have a := s.applied_applyChan n
    exact ⟨_, rfl, rfl, a.levels, a.iol, a.ioh, a.applied, a.pending, a.chans, a.regs, a.memory⟩
  · rw [writeChApply_taken (by simp [none]), none, State.respond_ok]; rfl
  · rw [writeLane_running on run, State.respond_error]
  · rintro l n rfl on idle free
    refine ⟨fun muzzled => ?_, fun even odd legal => ?_⟩
    · rw [writeLane_muzzled on idle free muzzled, State.respond_error]
    · rw [writeLane_enabled on idle free even odd legal, State.respond_ok]; rfl
  · rw [writeLane_kept off lane muzzled, State.respond_ok]
  · rintro l n rfl off ends
    rw [writeLane_disabled off ends, State.respond_ok]; rfl

end Sys2Proof.Machine

/-! # O15: measurements of the PMU -/

namespace Sys2Proof.Machine

/-! ## The row of CH_PMU_CTL (R83) -/

/-- The row of CH_PMU_CTL, of which MODE is written as given (R68). -/
theorem rowAt_CH_PMU_CTL {n : Nat} (hn : n < 512) :
    ∃ b r, blockOf (R.CH_PMU_CTL n) = some b ∧ rowAt (R.CH_PMU_CTL n) = some r
      ∧ (⟨"MODE", 0, 3, .rw, 0, some 0⟩ : Fld) ∈ r.flds := by
  have found : ∀ c : Fin 32, ∃ r ∈ rows_ch.find? (fun r => r.covers (0x40 * c + 0x20)),
      (⟨"MODE", 0, 3, .rw, 0, some 0⟩ : Fld) ∈ r.flds := by decide +kernel
  obtain ⟨r, hr, mode⟩ := found ⟨n % 32, Nat.mod_lt _ (by decide)⟩
  have hb := blockOf_packUnit (p := n / 32) (u := 5) (o := 0x40 * (n % 32) + 0x20) (by omega) (by decide) (by omega)
  rw [CH_PMU_CTL_eq]
  refine ⟨_, r, hb, ?_, mode⟩
  simp only [rowAt, hb, Nat.add_sub_cancel_left]; exact hr

theorem CH_PMU_RESULT_ne_CTL (n : Nat) : R.CH_PMU_RESULT n ≠ R.CH_PMU_CTL n := by
  simp only [R.CH_PMU_RESULT, R.CH_PMU_CTL]; omega

theorem CH_PMU_MEAS_ne_CTL (n : Nat) : R.CH_PMU_MEAS n ≠ R.CH_PMU_CTL n := by
  simp only [R.CH_PMU_MEAS, R.CH_PMU_CTL]; omega

theorem State.get_MODE_store {n : Nat} (hn : n < 512) (s : State) (v : Nat) :
    (s.store (R.CH_PMU_CTL n) v).get (F.CH_PMU_CTL_MODE n) = bits v 0 3 := by
  obtain ⟨b, r, hb, hr, mode⟩ := rowAt_CH_PMU_CTL hn
  have low (x : Nat) : bits (x % 2 ^ 32) 0 3 = bits x 0 3 := by unfold bits; omega
  calc (s.store (R.CH_PMU_CTL n) v).get (F.CH_PMU_CTL_MODE n)
      = bits (r.store v (s.rd (R.CH_PMU_CTL n)) % 2 ^ 32) 0 3 := by
        rw [State.store_of_rowAt hb hr, State.get, F.CH_PMU_CTL_MODE, State.rd_wr_same]
    _ = bits (r.store v (s.rd (R.CH_PMU_CTL n))) 0 3 := low _
    _ = bits v 0 3 := (RegRow.bits_store hr mode v _).trans (Fld.bits_store_written (.inl rfl) v _)

/-! ## The start of a measurement (R70) -/

/-- What the start of a measurement of SAMPLES conversions leaves: BUSY, no result, and MODE as it was. -/
structure State.Measuring (s t : State) (n : Nat) : Prop where
  busy : t.flag (F.CH_PMU_CTL_BUSY n) = true
  valid : t.flag (F.CH_PMU_RESULT_VALID n) = false
  clamped : t.flag (F.CH_PMU_RESULT_CLAMPED n) = false
  overrange : t.flag (F.CH_PMU_RESULT_OVERRANGE n) = false
  mode : t.get (F.CH_PMU_CTL_MODE n) = s.get (F.CH_PMU_CTL_MODE n)
  regs : s.RegsBut t [R.CH_PMU_CTL n, R.CH_PMU_RESULT n]
  memory : s.SameMemory t

/-- The start clears three fields of CH_PMU_RESULT and sets BUSY; what else it touches is hidden state. -/
theorem State.pmuStart_of_samples {s : State} {n : Nat} (h : s.get (F.CH_PMU_MEAS_SAMPLES n) ≠ 0) :
    ∃ c, s.pmuStart n = ((((s.set (F.CH_PMU_RESULT_VALID n) 0).set (F.CH_PMU_RESULT_CLAMPED n) 0).set
      (F.CH_PMU_RESULT_OVERRANGE n) 0).set (F.CH_PMU_CTL_BUSY n) 1).setChan n c :=
  ⟨_, if_neg h⟩

theorem State.measuring_pmuStart {s : State} {n : Nat} (h : s.get (F.CH_PMU_MEAS_SAMPLES n) ≠ 0) :
    s.Measuring (s.pmuStart n) n := by
  obtain ⟨c, e⟩ := State.pmuStart_of_samples h
  rw [e]
  constructor
  case busy =>
    rw [State.setChan_flag]
    exact State.flag_set_same _ (F.CH_PMU_CTL_BUSY n) 1 (Nat.le_of_ble_eq_true rfl)
  case valid | clamped | overrange =>
    rw [State.setChan_flag]
    simp [State.flag_set_same, State.flag_set_beside, F.CH_PMU_CTL_BUSY, F.CH_PMU_RESULT_VALID,
      F.CH_PMU_RESULT_CLAMPED, F.CH_PMU_RESULT_OVERRANGE]
  case mode =>
    rw [State.setChan_get]
    simp [State.get_set_beside, F.CH_PMU_CTL_BUSY, F.CH_PMU_CTL_MODE, F.CH_PMU_RESULT_VALID, F.CH_PMU_RESULT_CLAMPED,
      F.CH_PMU_RESULT_OVERRANGE]
  case regs =>
    have result : R.CH_PMU_RESULT n ∈ [R.CH_PMU_CTL n, R.CH_PMU_RESULT n] := by simp
    have ctl : R.CH_PMU_CTL n ∈ [R.CH_PMU_CTL n, R.CH_PMU_RESULT n] := by simp
    exact State.RegsBut.setChan (State.RegsBut.set (State.RegsBut.set (State.RegsBut.set (State.RegsBut.set
      (State.RegsBut.refl _ _) result 0) result 0) result 0) ctl 1) n c
  case memory => exact (((((State.SameMemory.refl s).set _ 0).set _ 0).set _ 0).set _ 1).setChan n c

/-! ## A write of CH_PMU_CTL (R68, R70, R86) -/

section
variable {s : State} {n v : Nat}

theorem writePmuCtl_reserved (h : 4 ≤ bits v 0 3 ∨ 5 ≤ bits v 4 3) : writePmuCtl n v s = .error .badOpcode := if_pos h

variable (mode : bits v 0 3 < 4) (range : bits v 4 3 < 5)
include mode range

theorem writePmuCtl_muzzled (hm : s.chanMuzzled n = true) (go : bit v 8 = true) :
    writePmuCtl n v s = .error .muzzled := by
  simp [writePmuCtl, Nat.not_le.2 mode, Nat.not_le.2 range, hm, go]

theorem writePmuCtl_running (run : s.seqRun (n / 32) = true) (clear : s.chanMuzzled n = false ∨ bit v 8 = false) :
    writePmuCtl n v s = .error .busy := by
  rcases clear with clear | clear <;>
    simp [writePmuCtl, Nat.not_le.2 mode, Nat.not_le.2 range, run, clear]

/-- A legal GO stores the word, and the measurement starts; a return of MODE to OFF touches no register (R506). -/
theorem writePmuCtl_go (idle : s.seqRun (n / 32) = false) (free : s.pmuBusy n = false)
    (on : s.get (F.CH_PMU_CTL_MODE n) ≠ 0) (go : bit v 8 = true) (clear : s.chanMuzzled n = false)
    (runs : s.stopped = false) :
    ∃ u : State, u.stores = (s.store (R.CH_PMU_CTL n) v).stores ∧ writePmuCtl n v s = .ok (u.pmuStart n) := by
  by_cases off : bits v 0 3 = 0
  · refine ⟨(s.store (R.CH_PMU_CTL n) v).cmpStart (s.governor n), rfl, ?_⟩
    simp [writePmuCtl, Nat.not_le.2 range, idle, free, on, go, clear, runs, off]
  · refine ⟨s.store (R.CH_PMU_CTL n) v, rfl, ?_⟩
    simp [writePmuCtl, Nat.not_le.2 mode, Nat.not_le.2 range, idle, free, on, go, clear, runs, off]

end

/-! ## The end of a measurement (R70) -/

/-- The result of a measurement in its registers. -/
def State.pmuEnded (s : State) (n : Nat) (mean : Int) (full : Bool) : State :=
  (((s.setI (F.CH_PMU_RESULT_RESULT n) mean).set (F.CH_PMU_RESULT_VALID n) 1).setB (F.CH_PMU_RESULT_OVERRANGE n) full).set
    (F.CH_PMU_CTL_BUSY n) 0

/-- The last conversion of a measurement that no command waits for puts the result into the registers. -/
theorem exec_pmuMeasDone {ch : Chan} {convs : List Conv} {s : State} (busy : s.pmuBusy ch = true)
    (converting : (s.chan ch).pmuConverting = true) (owner : (s.chan ch).pmuOwner = none)
    (count : convs.length = s.get (F.CH_PMU_MEAS_SAMPLES ch)) :
    exec (.pmuMeasDone ch convs) s = .next ((s.pmuEnded ch (meanHalfAway (convs.map (·.code))) (convs.any (·.full))).setChan
      ch { s.chan ch with pmuConverting := false, pmuOwner := none }) := by
  refine congrArg Host.Outcome.next ?_
  simp [busy, converting, owner, count, State.pmuEnded]

theorem State.pmuEnded_valid (s : State) (n : Nat) (mean : Int) (full : Bool) :
    (s.pmuEnded n mean full).flag (F.CH_PMU_RESULT_VALID n) = true := by
  simp [State.pmuEnded, State.setB, State.flag_set_same, State.flag_set_beside, F.CH_PMU_CTL_BUSY, F.CH_PMU_RESULT_VALID,
    F.CH_PMU_RESULT_OVERRANGE]

theorem State.pmuEnded_overrange (s : State) (n : Nat) (mean : Int) (full : Bool) :
    (s.pmuEnded n mean full).flag (F.CH_PMU_RESULT_OVERRANGE n) = full := by
  cases full <;>
    simp [State.pmuEnded, State.setB, State.flag_set_same, State.flag_set_beside, F.CH_PMU_CTL_BUSY,
      F.CH_PMU_RESULT_OVERRANGE]

theorem State.pmuEnded_result (s : State) (n : Nat) (mean : Int) (full : Bool) :
    (s.pmuEnded n mean full).get (F.CH_PMU_RESULT_RESULT n) = unsigned 16 mean % 2 ^ 16 := by
  unfold State.pmuEnded State.setB State.setI
  rw [State.get_set_other _ _ _ _ (CH_PMU_RESULT_ne_CTL n)]
  simp [State.get_set_same, State.get_set_beside, F.CH_PMU_RESULT_RESULT, F.CH_PMU_RESULT_VALID,
    F.CH_PMU_RESULT_OVERRANGE]

theorem State.pmuEnded_not_busy (s : State) (n : Nat) (mean : Int) (full : Bool) :
    (s.pmuEnded n mean full).pmuBusy n = false := by
  unfold State.pmuBusy State.pmuEnded
  rw [State.flag_set_same _ _ _ (Nat.le_of_ble_eq_true rfl)]
  rfl

theorem State.pmuEnded_regs (s : State) (n : Nat) (mean : Int) (full : Bool) :
    s.RegsBut (s.pmuEnded n mean full) [R.CH_PMU_CTL n, R.CH_PMU_RESULT n] := by
  have result : R.CH_PMU_RESULT n ∈ [R.CH_PMU_CTL n, R.CH_PMU_RESULT n] := by simp
  have ctl : R.CH_PMU_CTL n ∈ [R.CH_PMU_CTL n, R.CH_PMU_RESULT n] := by simp
  exact State.RegsBut.set (State.RegsBut.set (State.RegsBut.set (State.RegsBut.set (State.RegsBut.refl _ _) result _)
    result 1) result _) ctl 0

theorem State.pmuEnded_memory (s : State) (n : Nat) (mean : Int) (full : Bool) : s.SameMemory (s.pmuEnded n mean full) := by
  unfold State.pmuEnded State.setB State.setI
  exact ((((State.SameMemory.refl s).set _ _).set _ _).set _ _).set _ _

/-! ## PMU_MEASURE (R310) -/

/-- The register writes that a PMU_MEASURE makes in order, GO the last of them. -/
def pmuWrites (pl : List Word) : List (State → Res) :=
  [fun t => t.guarded (R.CH_PMU_CTL (word pl 0)) (writePmuCtl (word pl 0) (setBits (word pl 1) 8 1 0)),
    fun t => t.guarded (R.CH_PMU_FORCE (word pl 0)) (writePmuForce (word pl 0) (word pl 2)),
    fun t => t.guarded (R.CH_PMU_CLAMP (word pl 0)) (writePmuClamp (word pl 0) (word pl 3)),
    fun t => t.guarded (R.CH_PMU_MEAS (word pl 0)) (fun u => .ok (u.store (R.CH_PMU_MEAS (word pl 0)) (word pl 4))),
    fun t => t.guarded (R.CH_PMU_CTL (word pl 0))
      (writePmuCtl (word pl 0) (setBits (setBits (word pl 1) 8 1 0) 8 1 1))]

/-- What a PMU_MEASURE of channel n makes of the outcome of its writes: a rejection completes it, a measurement that runs
will answer it, and one that has ended completes it. -/
def State.pmuAnswer (h : CmdHdr) (n : Nat) : State × Option Status → State
  | (t, some st) => t.done h st
  | (t, none) =>
    if t.pmuBusy n then t.setChan n { t.chan n with pmuOwner := some (.cmd h) }
    else t.complete h .ok 0 [BitVec.ofNat 32 (t.rd (R.CH_PMU_RESULT n))]

theorem State.stopped_admitted (s : State) (op : Nat) (h : CmdHdr) (pl : List Word) :
    (s.admitted op h pl).stopped = s.stopped := by
  unfold State.stopped State.devState
  rw [State.get_admitted (by decide)]

theorem exec_pmuMeasure_stopped {s : State} {h : CmdHdr} {pl : List Word} (adm : s.Admits 0x50 h pl)
    (st : s.stopped = true) : exec (.pmuMeasure h pl) s = .next ((s.admitted 0x50 h pl).done h .badState) := by
  refine congrArg Host.Outcome.next ((s.cmd_admits _ h _ _ adm).trans ?_)
  simp [State.stopped_admitted, st]

theorem exec_pmuMeasure_writes {s : State} {h : CmdHdr} {pl : List Word} (adm : s.Admits 0x50 h pl)
    (st : s.stopped = false) :
    exec (.pmuMeasure h pl) s =
      .next (State.pmuAnswer h (word pl 0) (runWrites (pmuWrites pl) (s.admitted 0x50 h pl))) := by
  refine congrArg Host.Outcome.next ((s.cmd_admits _ h _ _ adm).trans ?_)
  dsimp only
  rw [State.stopped_admitted, st]
  rfl

/-! ## The statement -/

/-- Settles O15: a write of CH_PMU_CTL is one of its refusals or starts the measurement; the settle wait and the last
conversion follow; and a PMU_MEASURE is answered by what its writes end with. -/
theorem pmuMeasurements : Obligations.PmuMeasurements := by
  unfold Obligations.PmuMeasurements
  refine fun ch s => ⟨fun o value hm => ?_, fun busy => ?_, fun convs busy converting owner count => ?_,
    fun h pl adm => ⟨fun stopped => ?_, ?_⟩⟩
  · rw [exec_chPmuGo hm]
    refine ⟨fun reserved => ?_, fun mode range => ⟨fun muzzled go => ?_, fun run opened => ?_,
      fun idle free on go opened runs samples => ?_⟩⟩
    · rw [writePmuCtl_reserved reserved, State.respond_error]
    · rw [writePmuCtl_muzzled mode range muzzled go, State.respond_error]
    · rw [writePmuCtl_running mode range run opened, State.respond_error]
    · obtain ⟨u, stored, e⟩ := writePmuCtl_go mode range idle free on go opened runs
      have kept : s.RegsBut u [R.CH_PMU_CTL ch] :=
        fun a ha => (State.rd_of_stores stored a).trans (s.regsBut_store _ _ a ha)
      have memory : s.SameMemory u := (s.sameMemory_store _ _).trans (State.sameMemory_of_stores stored)
      have samples' : u.get (F.CH_PMU_MEAS_SAMPLES ch) ≠ 0 := by
        unfold State.get
        rw [kept _ (by simpa [F.CH_PMU_MEAS_SAMPLES] using CH_PMU_MEAS_ne_CTL ch)]
        exact samples
      have m := State.measuring_pmuStart samples'
      rw [e, State.respond_ok]
      exact ⟨_, rfl, rfl, m.busy, m.valid, m.clamped, m.overrange,
        m.mode.trans ((State.get_of_stores stored _).trans (State.get_MODE_store ch.isLt s _)),
        kept.trans m.regs (by simp), memory.trans m.memory⟩
  · exact congrArg Host.Outcome.next (if_pos busy)
  · rw [exec_pmuMeasDone busy converting owner count]
    refine ⟨_, rfl, ?_, ?_, ?_, ?_, State.RegsBut.setChan (State.pmuEnded_regs _ _ _ _) _ _,
      State.SameMemory.setChan (State.pmuEnded_memory _ _ _ _) _ _⟩
    · rw [State.setChan_flag, State.pmuEnded_valid]
    · rw [State.setChan_pmuBusy, State.pmuEnded_not_busy]
    · rw [State.setChan_get, State.pmuEnded_result]
    · rw [State.setChan_flag, State.pmuEnded_overrange]
  · exact ⟨_, exec_pmuMeasure_stopped adm stopped, State.admitted_done adm.fresh _ _ _⟩
  · rintro runs n c rfl rfl ⟨u, answer⟩ (ended : runWrites (pmuWrites pl) _ = _)
    rw [exec_pmuMeasure_writes adm runs, ended]
    refine ⟨?_, ?_, ?_⟩
    · rintro st rfl; rfl
    · rintro rfl busy; exact congrArg Host.Outcome.next (if_pos busy)
    · rintro rfl free; exact congrArg Host.Outcome.next (if_neg (by simp [free]))

end Sys2Proof.Machine

/-! # O13: the APG's instruction memory, the bitmap lines and the repair requests -/

namespace Sys2Proof.Machine

/-! ## The hidden state of an APG and its allocator -/

@[simp] theorem State.apg_setApg (s : State) (p : Nat) (a : ApgState) : (s.setApg p a).apg p = a := Tab.get_put_same ..

@[simp] theorem State.apg_set (s : State) (r : Ref) (v p : Nat) : (s.set r v).apg p = s.apg p := rfl

@[simp] theorem State.apg_resp (s : State) (st : Status) (p : Nat) : State.apg { s with resp := st } p = s.apg p := rfl

theorem State.RegsBut.setApg {s t : State} {l : List Nat} (h : s.RegsBut t l) (p : Nat) (a : ApgState) :
    s.RegsBut (t.setApg p a) l :=
  h

theorem State.SameMemory.setApg {s t : State} (h : s.SameMemory t) (p : Nat) (a : ApgState) :
    s.SameMemory (t.setApg p a) :=
  h

@[simp] theorem State.stores_answer (s : State) (st : Status) (d : Nat) :
    State.stores { s with resp := st, respData := d } = s.stores := rfl

/-- A write to a register of any unit of a pack that is not muzzled reaches it (R29). -/
theorem State.guarded_packUnit {s : State} {p u a o : Nat} (hp : p < 16) (hu : u < 8) (hm : s.packMuzzled p = false)
    (ho : o < 0x2000) (ha : a = (Block.packUnit p u).base + o) (f : State → Res) : s.guarded a f = f s := by
  subst ha
  exact State.guarded_open _ _ _ ((s.addrMuzzled_packUnit (blockOf_packUnit hp hu ho)).trans hm)

/-! ## The instruction memory's port (R146, R160) -/

theorem exec_apgImemHiWrite {p : Pack} {s : State} (hm : s.packMuzzled p = false) (o : Origin) (value : Word) :
    exec (.apgImemHiWrite o p value) s = .next (s.respond (writeImemHi p value.toNat s)) := by
  refine congrArg (Host.Outcome.next ∘ s.respond)
    (State.guarded_packUnit (u := 3) (o := 0x18) p.isLt (by decide) hm (by decide) ?_ _)
  simp only [R.APG_IMEM_HI, Block.base]; omega

theorem writeImemHi_running {s : State} {p : Nat} (run : s.seqRun p = true) (v : Nat) :
    writeImemHi p v s = .error .busy := by
  simp [writeImemHi, run]

theorem writeImemHi_illegal {s : State} {p v : Nat} (idle : s.seqRun p = false)
    (illegal : apgLegal ((s.apg p).staged + v * 2 ^ 32) = false) : writeImemHi p v s = .error .badOpcode := by
  simp only [writeImemHi, idle, illegal, Bool.false_eq_true, if_false]

/-- An access to the high word is over: APG_IMEM_ADDR has advanced modulo 4,096, and no other word has changed. -/
def State.ImemAdvanced (s t : State) (p : Nat) : Prop :=
  t.get (F.APG_IMEM_ADDR p) = (s.get (F.APG_IMEM_ADDR p) + 1) % 4096 ∧ s.RegsBut t [R.APG_IMEM_ADDR p] ∧ s.SameMemory t

theorem State.ImemAdvanced.of_stores {s t u : State} {p : Nat} (h : s.ImemAdvanced t p) (e : u.stores = t.stores) :
    s.ImemAdvanced u p := by
  obtain ⟨addr, regs, memory⟩ := h
  exact ⟨(State.get_of_stores e _).trans addr, fun a ha => (State.rd_of_stores e a).trans (regs a ha),
    memory.trans (State.sameMemory_of_stores e)⟩

theorem State.imemAdvanced_set (s : State) (p : Nat) :
    s.ImemAdvanced (s.set (F.APG_IMEM_ADDR p) ((s.get (F.APG_IMEM_ADDR p) + 1) % 4096)) p :=
  ⟨(State.get_set_same s _ _ (Nat.le_of_ble_eq_true rfl)).trans (Nat.mod_mod _ 4096),
    (State.RegsBut.refl s _).set (List.mem_singleton.2 rfl) _, (State.SameMemory.refl s).set _ _⟩

/-- Instruction i is stored at APG_IMEM_ADDR, and the address advances. -/
def State.imemPut (s : State) (p i : Nat) : State :=
  (s.setApg p { s.apg p with
    imem := Tab.put 0#64 (s.apg p).imem (s.get (F.APG_IMEM_ADDR p)) (BitVec.ofNat 64 i) }).set
      (F.APG_IMEM_ADDR p) ((s.get (F.APG_IMEM_ADDR p) + 1) % 4096)

theorem writeImemHi_legal {s : State} {p v : Nat} (idle : s.seqRun p = false)
    (legal : apgLegal ((s.apg p).staged + v * 2 ^ 32) = true) :
    writeImemHi p v s = .ok (s.imemPut p ((s.apg p).staged + v * 2 ^ 32)) := by
  simp only [writeImemHi, State.imemPut, idle, legal, Bool.false_eq_true, if_false, if_true]

theorem State.imem_imemPut (s : State) (p i : Nat) :
    Tab.get 0#64 ((s.imemPut p i).apg p).imem (s.get (F.APG_IMEM_ADDR p)) = BitVec.ofNat 64 i := by
  rw [State.imemPut, State.apg_set, State.apg_setApg, Tab.get_put_same]

theorem State.imemAdvanced_imemPut (s : State) (p i : Nat) : s.ImemAdvanced (s.imemPut p i) p :=
  (s.imemAdvanced_set p).of_stores rfl

/-! ## A repair request (R153) -/

/-- The request that a write of RA_REQ names. -/
def raReqOf (v : Nat) : RaReq := ⟨bits v 0 10, bits v 10 1, bit v 11, bit v 12, bit v 13, none, false⟩

/-- The bytes of a repair record under pack p's configuration. -/
def State.raRecordSize (s : State) (p : Nat) : Nat :=
  recordSize (s.get (F.RA_CTL_SPARE_ROWS p)) (s.get (F.RA_CTL_SPARE_COLS p)) (2 ^ s.get (F.APG_BM_GEOM_REGION_BITS p))

theorem exec_raReq {p : Pack} {s : State} (hm : s.packMuzzled p = false) (o : Origin) (value : Word) :
    exec (.raReq o p value) s = .next (s.respond (writeRaReq p value.toNat s)) := by
  refine congrArg (Host.Outcome.next ∘ s.respond)
    (State.guarded_packUnit (u := 3) (o := 0x1010) p.isLt (by decide) hm (by decide) ?_ _)
  simp only [R.RA_REQ, Block.base]; omega

theorem writeRaReq_full {s : State} {p : Nat} (full : 64 ≤ (s.apg p).queue.length) (v : Nat) :
    writeRaReq p v s = .error .busy := if_pos full

theorem writeRaReq_names_nothing {s : State} {p v : Nat} (room : (s.apg p).queue.length < 64)
    (analyse : bit v 11 = false) (clear : bit v 12 = false) : writeRaReq p v s = .error .badOpcode := by
  simp [writeRaReq, Nat.not_le.2 room, analyse, clear]

/-- Request r joins pack p's queue, and QUEUED counts it. -/
def State.raQueue (s : State) (p : Nat) (r : RaReq) : State :=
  (s.setApg p { s.apg p with queue := (s.apg p).queue ++ [r] }).set (F.RA_STATUS_QUEUED p) ((s.apg p).queue.length + 1)

/-- What a request that joins the queue leaves. -/
structure State.RaQueued (s t : State) (p : Nat) (r : RaReq) : Prop where
  queue : (t.apg p).queue = (s.apg p).queue ++ [r]
  queued : t.get (F.RA_STATUS_QUEUED p) = (s.apg p).queue.length + 1
  regs : s.RegsBut t [R.RA_STATUS p]
  memory : s.SameMemory t

theorem State.RaQueued.answered {s t : State} {p : Nat} {r : RaReq} (h : s.RaQueued t p r) (st : Status) :
    s.RaQueued { t with resp := st } p r :=
  ⟨h.queue, h.queued, h.regs, h.memory⟩

theorem State.raQueued_raQueue {s : State} {p : Nat} (room : (s.apg p).queue.length < 64) (r : RaReq) :
    s.RaQueued (s.raQueue p r) p r where
  queue := by rw [State.raQueue, State.apg_set, State.apg_setApg]
  queued := (State.get_set_same _ _ _ (Nat.le_of_ble_eq_true rfl)).trans
    (Nat.mod_eq_of_lt (Nat.lt_of_le_of_lt room (show 64 < 2 ^ 7 by decide)))
  regs := ((State.RegsBut.refl s _).setApg p _).set (List.mem_singleton.2 rfl) _
  memory := ((State.SameMemory.refl s).setApg p _).set _ _

theorem writeRaReq_queued {s : State} {p v : Nat} (room : (s.apg p).queue.length < 64)
    (names : (raReqOf v).analyse = true ∨ (raReqOf v).clear = true)
    (bitmap : s.bmStart p (raReqOf v).site (raReqOf v).set + s.bmSize p ≤ 2 ^ 35)
    (record : (raReqOf v).analyse = true → s.raRecordSize p ≤ 64 * s.get (F.RA_SOL_STRIDE p)
      ∧ s.recordAddr p (raReqOf v).site + s.raRecordSize p ≤ 2 ^ 35) :
    writeRaReq p v s = .ok (s.raQueue p (raReqOf v)) := by
  have named : ¬ (!(raReqOf v).analyse && !(raReqOf v).clear) = true := by
    rcases names with h | h <;> simp [h]
  have fits : ¬ ((raReqOf v).analyse = true
      ∧ (64 * s.get (F.RA_SOL_STRIDE p) < s.raRecordSize p ∨ 2 ^ 35 < s.recordAddr p (raReqOf v).site + s.raRecordSize p)) := by
    rintro ⟨analyse, exceeds⟩
    obtain ⟨stride, memory⟩ := record analyse
    omega
  exact (if_neg (Nat.not_le.2 room)).trans ((if_neg named).trans
    ((if_neg (Nat.not_lt.2 bitmap)).trans (if_neg fits)))

/-! ## A bitmap line written to DRAM (R151) -/

theorem bit_eq_testBit (x i : Nat) : bit x i = x.testBit i := by
  rw [Nat.testBit_eq_decide_div_mod_eq]; rfl

/-- Setting a bit of DRAM clears none. -/
theorem State.bit_orDramBit_of_bit {s : State} {x i : Nat} (h : bit (s.dramByte x).toNat i = true) (a b : Nat) :
    bit ((s.orDramBit a b).dramByte x).toNat i = true := by
  by_cases e : s.dramKey x = s.dramKey a
  · have same : (s.orDramBit a b).dramByte x = s.dramByte x ||| BitVec.ofNat 8 (2 ^ b) := by
      unfold State.dramByte
      rw [show (s.orDramBit a b).dramKey x = s.dramKey a from e, e]
      exact s.dramByte_put_same a _
    rw [bit_eq_testBit] at h ⊢
    rw [same, BitVec.toNat_or, Nat.testBit_or, h, Bool.true_or]
  · have other : (s.orDramBit a b).dramByte x = s.dramByte x := Memory.get_put_other _ _ _ _ e
    rwa [other]

theorem State.bit_orDramBit_same (s : State) (a : Nat) {b : Nat} (hb : b < 8) :
    bit ((s.orDramBit a b).dramByte a).toNat b = true := by
  rw [State.orDramBit, State.dramByte_put_same, bit_eq_testBit, BitVec.toNat_or, BitVec.toNat_ofNat, Nat.testBit_or,
    Nat.testBit_mod_two_pow, Nat.testBit_two_pow_self]
  simp [hb]

/-- Set bits of DRAM, given as offsets from byte address a. -/
def State.orDramBits (a : Nat) (l : List Nat) (s : State) : State :=
  s.forEach l (fun b u => u.orDramBit (a + b / 8) (b % 8))

theorem State.orDramBits_eq (a : Nat) (l : List Nat) (s : State) : ∃ m, s.orDramBits a l = { s with dram := m } := by
  induction l generalizing s with
  | nil => exact ⟨s.dram, rfl⟩
  | cons b l ih =>
    obtain ⟨m, e⟩ := ih (s.orDramBit (a + b / 8) (b % 8))
    exact ⟨m, e⟩

theorem State.bit_orDramBits_of_bit (a : Nat) (l : List Nat) {s : State} {x i : Nat}
    (h : bit (s.dramByte x).toNat i = true) : bit ((s.orDramBits a l).dramByte x).toNat i = true := by
  induction l generalizing s with
  | nil => exact h
  | cons b l ih => exact ih (State.bit_orDramBit_of_bit h _ _)

theorem State.bit_orDramBits_mem (a : Nat) {l : List Nat} {b : Nat} (hb : b ∈ l) (s : State) :
    bit ((s.orDramBits a l).dramByte (a + b / 8)).toNat (b % 8) = true := by
  induction l generalizing s with
  | nil => cases hb
  | cons c l ih =>
    rcases List.mem_cons.1 hb with rfl | hb
    · exact State.bit_orDramBits_of_bit a l (s.bit_orDramBit_same _ (Nat.mod_lt b (by decide)))
    · exact ih hb _

theorem exec_bitmapLineWrite_open {p : Pack} {s : State} {l : BmLine} {ls : List BmLine} (thawed : s.frozen = false)
    (oldest : (s.apg p).buf = l :: ls) (opened : s.pcClosed (s.dramPc (64 * l.line)) = false) :
    exec (.bitmapLineWrite p false) s =
      .next ((s.setApg p { s.apg p with buf := ls }).orDramBits (64 * l.line) l.bits) := by
  have opened' : (s.setApg p { s.apg p with buf := ls }).pcClosed
      ((s.setApg p { s.apg p with buf := ls }).dramPc (64 * l.line)) = false := opened
  refine congrArg Host.Outcome.next ?_
  simp only [oldest, thawed, opened', Bool.false_eq_true, if_false]
  rfl

theorem exec_bitmapLineWrite_uncorrectable {p : Pack} {s : State} {l : BmLine} {ls : List BmLine}
    (thawed : s.frozen = false) (oldest : (s.apg p).buf = l :: ls) :
    exec (.bitmapLineWrite p true) s =
      .next (((s.setApg p { s.apg p with buf := ls }).dramUe (64 * l.line)).bmLost p l.site) := by
  refine congrArg Host.Outcome.next ?_
  simp only [oldest, thawed, Bool.false_eq_true, if_false, if_true]

/-! ## The start of a repair request (R14, R153, R155) -/

theorem State.putOpen_eq (s : State) (a w : Nat) : ∃ m, s.putOpen a w = { s with dram := m } := by
  unfold State.putOpen
  split
  · exact ⟨s.dram, rfl⟩
  · exact s.putDram_eq a _

/-- Pack p's allocator runs job j, and `rest` waits in its queue. -/
def State.raStarted (s : State) (p : Nat) (rest : List RaReq) (j : RaJob) : State :=
  (((s.setApg p { s.apg p with queue := rest, job := some j }).set (F.RA_STATUS_QUEUED p) rest.length).set
    (F.RA_STATUS_BUSY p) 1).set (F.PK_STATUS_RA_BUSY p) 1

/-- What the start of the request at the head of pack p's queue leaves: its job, and the registers that show it. -/
structure State.RaRuns (s t : State) (p : Nat) (rest : List RaReq) (j : RaJob) : Prop where
  queue : (t.apg p).queue = rest
  job : (t.apg p).job = some j
  busy : t.flag (F.RA_STATUS_BUSY p) = true
  queued : t.get (F.RA_STATUS_QUEUED p) = rest.length % 2 ^ 7
  packBusy : t.flag (F.PK_STATUS_RA_BUSY p) = true
  regs : s.RegsBut t [R.RA_STATUS p, R.PK_STATUS p]
  mram : t.mram = s.mram

theorem RA_STATUS_ne_PK_STATUS (p : Nat) : R.RA_STATUS p ≠ R.PK_STATUS p := by
  unfold R.RA_STATUS R.PK_STATUS; omega

theorem State.raRuns_raStarted (s : State) (p : Nat) (rest : List RaReq) (j : RaJob) :
    s.RaRuns (s.raStarted p rest j) p rest j := by
  unfold State.raStarted
  constructor
  case queue => simp
  case job => simp
  case busy =>
    rw [State.flag_eq, State.get_set_other _ _ _ _ (RA_STATUS_ne_PK_STATUS p)]
    simp [State.get_set_same, F.RA_STATUS_BUSY]
  case queued =>
    rw [State.get_set_other _ _ _ _ (RA_STATUS_ne_PK_STATUS p)]
    simp [State.get_set_same, State.get_set_beside, F.RA_STATUS_BUSY, F.RA_STATUS_QUEUED]
  case packBusy => simp [State.flag_set_same, F.PK_STATUS_RA_BUSY]
  case regs =>
    have status : R.RA_STATUS p ∈ [R.RA_STATUS p, R.PK_STATUS p] := by simp
    have pack : R.PK_STATUS p ∈ [R.RA_STATUS p, R.PK_STATUS p] := by simp
    have hidden := (State.RegsBut.refl s [R.RA_STATUS p, R.PK_STATUS p]).setApg p { s.apg p with queue := rest, job := some j }
    exact ((hidden.set (r := F.RA_STATUS_QUEUED p) status _).set (r := F.RA_STATUS_BUSY p) status 1).set
      (r := F.PK_STATUS_RA_BUSY p) pack 1
  case mram => rfl

theorem State.RaRuns.dram {s t : State} {p : Nat} {rest : List RaReq} {j : RaJob} (h : s.RaRuns t p rest j) (m : Memory) :
    s.RaRuns { t with dram := m } p rest j :=
  ⟨h.queue, h.job, h.busy, h.queued, h.packBusy, h.regs, h.mram⟩

section
variable {p : Pack} {s : State} {r : RaReq} {rest : List RaReq} (thawed : s.frozen = false)
  (free : (s.apg p).job = none) (head : (s.apg p).queue = r :: rest)
  (flushed : (List.range 16).any (fun q => (s.apg q).buf.any (fun l => l.site == r.site && l.set == r.set)) = false)
  (spare : s.streamerSpare p = true)
include thawed free head flushed spare

theorem exec_raRequestStart :
    ∃ j, j.req = r ∧ exec (.raRequestStart p []) s = .next (if r.analyse then
      (s.raStarted p rest j).putOpen (s.recordAddr p r.site + 60) 0 else s.raStarted p rest j) := by
  refine ⟨?job, ?req, congrArg Host.Outcome.next ?run⟩
  case run =>
    dsimp only
    rw [free, head]
    dsimp only
    rw [if_neg (by simp only [flushed, spare, thawed]; decide)]
    dsimp only [List.filter_nil]
    rw [ite_self]
    rfl
  case req => rfl

theorem raRequestStart_runs :
    ∃ t j, exec (.raRequestStart p []) s = .next t ∧ j.req = r ∧ s.RaRuns t p rest j
      ∧ (r.analyse = false → t.dram = s.dram) := by
  obtain ⟨j, req, run⟩ := exec_raRequestStart thawed free head flushed spare
  have started := s.raRuns_raStarted p rest j
  refine ⟨_, j, run, req, ?_⟩
  cases analyse : r.analyse with
  | false => exact ⟨started, fun _ => rfl⟩
  | true =>
    obtain ⟨m, e⟩ := (s.raStarted p rest j).putOpen_eq (s.recordAddr p r.site + 60) 0
    rw [if_pos rfl, e]
    exact ⟨started.dram m, nofun⟩

end

/-! ## The statement -/

/-- Settles O13: the writes are the cases of APG_IMEM_HI and RA_REQ, a set bit of a line outlives the bits set after it,
and a request's start shows in two status registers, with COMMIT of its record as the one word of DRAM. -/
theorem apgAndRepair : Obligations.ApgAndRepair := by
  unfold Obligations.ApgAndRepair
  refine ⟨fun o p value s => ⟨fun hm idle => ⟨fun legal => ?_, fun illegal => ?_⟩, fun hm run => ?_, ?_, ?_,
      fun hm full => ?_, fun hm room analyse clear => ?_⟩,
    fun p s thawed => ⟨fun l ls oldest opened _ => ?_, fun l ls oldest => exec_bitmapLineWrite_uncorrectable thawed oldest,
      fun r rest free head flushed spare => ?_, ?_⟩⟩
  · rw [exec_apgImemHiWrite hm, writeImemHi_legal idle legal, State.respond_ok]
    refine ⟨_, rfl, rfl, ?_, (s.imemAdvanced_imemPut p _).of_stores (State.stores_answer ..)⟩
    rw [State.apg_resp, State.imem_imemPut]
  · rw [exec_apgImemHiWrite hm, writeImemHi_illegal idle illegal, State.respond_error]
  · rw [exec_apgImemHiWrite hm, writeImemHi_running run, State.respond_error]
  · exact ⟨_, rfl, rfl, rfl, (s.imemAdvanced_set p).of_stores (State.stores_answer ..)⟩
  · rintro hm room r rfl names bitmap record
    rw [exec_raReq hm, writeRaReq_queued room names bitmap (record _ rfl), State.respond_ok]
    have joined := (State.raQueued_raQueue room (raReqOf value.toNat)).answered .ok
    exact ⟨_, rfl, rfl, joined.queue, joined.queued, joined.regs, joined.memory⟩
  · rw [exec_raReq hm, writeRaReq_full full, State.respond_error]
  · rw [exec_raReq hm, writeRaReq_names_nothing room analyse clear, State.respond_error]
  · obtain ⟨m, e⟩ := (s.setApg p { s.apg p with buf := ls }).orDramBits_eq (64 * l.line) l.bits
    refine ⟨_, exec_bitmapLineWrite_open thawed oldest opened, ?_, ?_, ?_, fun b hb => State.bit_orDramBits_mem _ hb _⟩
    · rw [e]; exact congrArg ApgState.buf (s.apg_setApg p _)
    · rw [e]; rfl
    · rw [e]; rfl
  · obtain ⟨t, j, run, req, h, dram⟩ := raRequestStart_runs thawed free head flushed spare
    exact ⟨t, run, h.queue, by rw [h.job, Option.map_some, req], h.busy, h.queued, h.packBusy, h.regs, h.mram, dram⟩
  · rintro j running unfenced t rfl u rfl v rfl
    refine congrArg Host.Outcome.next ?_
    dsimp only
    rw [running]
    exact if_neg (by simp [unfenced, thawed])

end Sys2Proof.Machine
